-- ==== Sys2Proof/Word.lean ====
section
/-! DEFINITION. The machine words of the model: a 32-bit register word (R73), bytes, and the two lanes of a package (R15). -/

namespace Sys2Proof

/-- A register word of the 32-bit lane bus (R73). -/
abbrev W32 := BitVec 32

/-- A byte of an image, a frame or a buffer. -/
abbrev Byte := BitVec 8

/-- The two lanes of a package; `lane1` is the west lane (spec/01, "The four dies"). -/
inductive LaneId where
  | lane1 | lane2
  deriving DecidableEq, Repr

/-- The other lane of the package. -/
def LaneId.other : LaneId → LaneId
  | .lane1 => .lane2
  | .lane2 => .lane1

/-- The lane number read in SYS_LANE.LANE (R95). -/
def LaneId.num : LaneId → Nat
  | .lane1 => 1
  | .lane2 => 2

end Sys2Proof
end

