-- ==== Sys2Proof/Syntax.lean ====
section
/-! DEFINITION. The commands a VX8624 takes: one constructor for each row of spec/opcode_table.json, and the types of their
operands. -/

namespace Sys2Proof

/-- Who sends a register access (R71; the codes of SYS_REGERR.ORIGIN, R92). -/
inductive Origin where
  | firmware | spi | remote | window | debug
  deriving DecidableEq, Repr

/-- The ORIGIN code of a requester (R92). -/
def Origin.code : Origin → Nat
  | .firmware => 0
  | .spi => 1
  | .remote => 2
  | .window => 3
  | .debug => 4

/-- The width of an access (R73, R76). -/
inductive AccSize where
  | byte | half | word | double
  deriving DecidableEq, Repr

/-- A Lintel status message (R64); a digest has 32 bytes. -/
inductive StatusMsg where
  | loading
  | digest (d : List Byte)
  | refused
  deriving DecidableEq, Repr

/-- Why a feed switch turns off (R137): an enable, permission or charge-pump condition, under-voltage, reverse current, or a
feed below 0 V. -/
inductive FeedCause where
  | enable | underVoltage | reverse | negative
  deriving DecidableEq, Repr

/-- What the check bits of a memory word say (R250): intact, one bit corrected, or two bits wrong. -/
inductive Ecc where
  | good | corrected | bad
  deriving DecidableEq, Repr

/-- Why an instruction is not executed (R260): it is illegal (`fe` says that its word was corrected when fetched, R250), its fetch lies
outside the active bank, or its word cannot be corrected. -/
inductive Abandon where
  | illegal (fe : Bool) | access | ecc
  deriving DecidableEq, Repr

/-- A frame on a CAN bus (R331): identifier (a standard one in bits [28:18]), format bits, DLC and the data bytes it carries; `tail` is how
many LCLK before the command its arbitration field ended (R335). -/
structure CanFrame where
  id   : BitVec 29
  ide  : Bool
  fdf  : Bool
  brs  : Bool
  esi  : Bool
  rtr  : Bool
  dlc  : BitVec 4
  data : List Byte
  tail : Nat := 0
  deriving DecidableEq, Repr


/-- The commands of the block, one constructor for each row of spec/opcode_table.json. `l` is the lane, `t` the lane time in LCLK
at which the command is registered (log entry 1); a command that is a register write carries its requester and the word. -/
inductive Instr where
  /-- VAON_POWER_ON (R466): VAON rising through its power-on threshold resets the whole lane, including AON and the gate-drive die, and begins a cold start. -/
  | vaonPowerOn (l : LaneId) (t : Nat)
  /-- PORN_RESET (R466): PORN held low for 1 µs or more resets the lane as a VAON power-on does. -/
  | pornReset (l : LaneId) (t : Nat)
  /-- TRSTN_RESET (R466): TRSTN low resets only the IEEE 1149.1 test access port. -/
  | trstnReset (l : LaneId) (t : Nat)
  /-- WARM_START_REQUEST (R467): A write of SYS_RSTCMD with KEY 0x5354 and START 1 begins a warm start when the lane is safe or idle, and is rejected otherwise. -/
  | warmStartRequest (l : LaneId) (t : Nat) (org : Origin) (v : W32)
  /-- START_SEQUENCE (R469): Reset is released and the lane powers and clocks its domains, checks the start core and runs logic and memory self-test. -/
  | startSequence (l : LaneId) (t : Nat) (coreOk : Bool)
  /-- SELFTEST_RESULTS (R476): At the end of memory self-test the lane decides from the failed partitions, releases CORE, steps the start count, and either halts or goes on to the injection test and the Ashlar load. -/
  | selftestResults (l : LaneId) (t : Nat) (parts : BitVec 16) (mems : BitVec 7) (words : List (BitVec 16))
  /-- INJECTION_TEST_END (R267): The start-up comparator injection test ends; it either passes or raises LSC injection and halts the lane. -/
  | injectionTestEnd (l : LaneId) (t : Nat) (runs : BitVec 19) (item : BitVec 4) (core : Bool)
  /-- ASHLAR_LOAD_END (R58): The Ashlar load of the active slot ends: the image is accepted and its mirrors written, or it is refused and the other slot is tried; the structure lock then sets. -/
  | ashlarLoadEnd (l : LaneId) (t : Nat) (up : BitVec 6) (dn : BitVec 6)
  /-- STARTUP_IMAGE_COPY_END (R469): The active POLICY and TABLES slots have been checked and copied into the code bank and table bank 0, and RESTART becomes pending with cause 0. -/
  | startupImageCopyEnd (l : LaneId) (t : Nat)
  /-- STATUS_MESSAGE_RECEIVE (R65): A Lintel STATUS message (LOADING, DIGEST or REFUSED) is received and decides or answers the digest agreement. -/
  | statusMessageReceive (l : LaneId) (t : Nat) (crc : Bool) (m : StatusMsg)
  /-- STATUS_RESEND (R64): While SYS_ASHPEER.STATE reads WAIT, the lane sends its current status message every 100 µs. -/
  | statusResend (l : LaneId) (t : Nat)
  /-- PEER_WAIT_EXPIRY (R65): The PEERWAIT timer expires without a peer digest, giving SOLO or continued WAIT and raising SYS digest. -/
  | peerWaitExpiry (l : LaneId) (t : Nat)
  /-- LANE_RELEASE (R479): A write of SYS_ARMCMD with LANE 1 releases the lane to actuation when the Ashlar, peer, start, seal, SAFE-LANE and life-cycle conditions all hold. -/
  | laneRelease (l : LaneId) (t : Nat) (org : Origin) (v : W32)
  /-- GROUP_ARM (R480): A write of SYS_ARMCMD group bits moves each qualifying UNARMED group to IDLE, or to SAFE when an open SAFE-GROUP record holds it. -/
  | groupArm (l : LaneId) (t : Nat) (org : Origin) (v : W32)
  /-- LC_PROVISION (R483): The PROVISION life-cycle command moves a lane from BLANK to PROVISIONED when a key slot is set. -/
  | lcProvision (l : LaneId) (t : Nat) (org : Origin) (v : W32)
  /-- LC_FIELD (R483): The FIELD life-cycle command moves a lane from PROVISIONED to FIELD when an Ashlar image is loaded. -/
  | lcField (l : LaneId) (t : Nat) (org : Origin) (v : W32)
  /-- LC_TOKEN (R488): The TOKEN life-cycle command starts the check of the service token in SYS_TOKw. -/
  | lcToken (l : LaneId) (t : Nat) (org : Origin) (v : W32)
  /-- LC_RETURN (R489): The RETURN life-cycle command moves a BLANK lane to RETURNED under the conditions for entering RETURNED. -/
  | lcReturn (l : LaneId) (t : Nat) (org : Origin) (v : W32)
  /-- TOKEN_CHECK_COMPLETE (R488): The token check ends: revocations, RETURN or SERVICE are applied, RESULT is set and a new nonce is drawn. -/
  | tokenCheckComplete (l : LaneId) (t : Nat)
  /-- LIFECYCLE_WRITE_COMPLETE (R484): The second MRAM copy of a life-cycle transition is written, and STATE and BASE change. -/
  | lifecycleWriteComplete (l : LaneId) (t : Nat)
  /-- RETURNED_ERASE_COMPLETE (R489): The erasure on entry into RETURNED completes and the lane performs a warm start. -/
  | returnedEraseComplete (l : LaneId) (t : Nat)
  /-- COMMAND_SELF_TEST (R491): A write of YAR_CMD with START 1 begins logic and memory self-test of the named partitions and arrays. -/
  | commandSelfTest (l : LaneId) (t : Nat) (org : Origin) (v : W32)
  /-- COMMAND_SELF_TEST_COMPLETE (R491): A command self-test ends: results go to YAR_CMDRES, failed partitions are marked unusable, and domains are restored or a warm start follows. -/
  | commandSelfTestComplete (l : LaneId) (t : Nat) (parts : BitVec 16) (mems : BitVec 7) (words : List (BitVec 16))
  /-- REGISTER_WRITE (R81): A write to a register without a row of its own is judged against class, enable, lock and write-once state and takes effect or is rejected. -/
  | registerWrite (l : LaneId) (t : Nat) (org : Origin) (off : BitVec 24) (size : AccSize) (v : BitVec 64)
  /-- SEQUENCE_CLEAR (R86): A write to an SQ register whose bits [7:0] match SEQ clears its flags and descriptive fields. -/
  | sequenceClear (l : LaneId) (t : Nat) (org : Origin) (off : BitVec 24) (v : W32)
  /-- LINTEL_WINDOW_READ (R94): A read at 0x80_0000 + t is carried over Lintel as a read request for the other lane's offset t. -/
  | lintelWindowRead (l : LaneId) (t : Nat) (org : Origin) (off : BitVec 23)
  /-- LINTEL_WINDOW_WRITE (R20): A write addressed to the Lintel window is ignored and recorded with kind WINDOW. -/
  | lintelWindowWrite (l : LaneId) (t : Nat) (org : Origin) (off : BitVec 23) (v : W32)
  /-- WINDOW_REQUEST_RECEIVE (R94): A WREQ frame is received and the target lane serves the read without waking, answering with a WRSP. -/
  | windowRequestReceive (l : LaneId) (t : Nat) (crc : Bool) (off : BitVec 23)
  /-- WINDOW_RESPONSE_RECEIVE (R94): A WRSP frame completes the requesting lane's window read. -/
  | windowResponseReceive (l : LaneId) (t : Nat) (crc : Bool) (ok : Bool) (data : W32)
  /-- WINDOW_READ_TIMEOUT (R20): A window read unanswered within 2 µs ends in an error response returning zero and raises Lintel register access. -/
  | windowReadTimeout (l : LaneId) (t : Nat)
  /-- HEARTBEAT_SEND (R399): Every 4 µs while CORE is on, the LNT sends a HEARTBEAT frame. -/
  | heartbeatSend (l : LaneId) (t : Nat)
  /-- HEARTBEAT_RECEIVE (R399): A valid peer HEARTBEAT is received; LNT_PEERHB is updated and changes set the LINTEL event. -/
  | heartbeatReceive (l : LaneId) (t : Nat) (crc : Bool) (w : W32)
  /-- HEARTBEAT_MISSING (R399): No valid heartbeat for 50 µs sets LNT_HBSTAT.LOST and raises Lintel heartbeat. -/
  | heartbeatMissing (l : LaneId) (t : Nat)
  /-- KMSG_RECEIVE (R19): A Keystone message from the other lane is recorded with XL set and delivered to firmware, with no hardware reaction. -/
  | kmsgReceive (l : LaneId) (t : Nat) (crc : Bool) (msg : W32)
  /-- LINTEL_SYNC_LOSS (R398): The Lintel receiver loses clause 36 synchronisation and raises Lintel link. -/
  | lintelSyncLoss (l : LaneId) (t : Nat)
  /-- MIRROR_RECEIVE (R405): A MIRROR frame is written into the named Cairn slot of the receiving lane. -/
  | mirrorReceive (l : LaneId) (t : Nat) (crc : Bool) (slot : Fin 2) (off : BitVec 16) (data : List W32)
  /-- MIRROR_COMMIT_RECEIVE (R405): A COMMIT frame makes the mirrored slot current when its SEQ follows, or is refused and steps MFAIL. -/
  | mirrorCommitReceive (l : LaneId) (t : Nat) (crc : Bool) (slot : Fin 2) (seq : W32) (resync : Bool)
  /-- LINTEL_WAKE_RECEIVE (R458): A 2 µs K28.5 burst received with PWR_LWCFG.EN 1 registers a wake for the domains in DOMS plus CORE. -/
  | lintelWakeReceive (l : LaneId) (t : Nat)
  /-- PEERWAKE (R458): A write of PEERWAKE to PWR_CMD sends a Lintel wake to the other lane. -/
  | peerwake (l : LaneId) (t : Nat) (org : Origin) (v : W32)
  /-- CHAIN_TRIGGER (R28): A routed PWM event triggers a CLE chain: loops publish, the sample instant captures, and a chain still in progress is abandoned. -/
  | chainTrigger (l : LaneId) (t : Nat) (c : Fin 8)
  /-- LOOP_DISPATCH (R232): When the engine is free, the lowest-numbered ready loop is dispatched and takes its coefficients and snapshot. -/
  | loopDispatch (l : LaneId) (t : Nat)
  /-- LOOP_OUTPUT (R234): A loop execution completes and writes uo to CUR, to later loops of its chain and to its group's amplitude input. -/
  | loopOutput (l : LaneId) (t : Nat)
  /-- CFE_EXECUTION (R201): A CFE execution of a group forms amplitude, angle and compare values, writes the PWM shadows and arms the time base. -/
  | cfeExecution (l : LaneId) (t : Nat) (g : Fin 2)
  /-- PWM_START (R100): A write of PWM_START.START starts the named time bases from their phase, transferring every shadow. -/
  | pwmStart (l : LaneId) (t : Nat) (org : Origin) (v : W32)
  /-- PWM_STOP (R101): A write of PWM_START.STOP stops the named time bases from the next cycle. -/
  | pwmStop (l : LaneId) (t : Nat) (org : Origin) (v : W32)
  /-- LOAD_ALL_ARM (R110): A write of PWM_LOADALL.ARM arms the named time bases for their next reload. -/
  | loadAllArm (l : LaneId) (t : Nat) (org : Origin) (v : W32)
  /-- PWM_EVENT (R106): A time base's counter takes a value that registers ZERO, PERIOD, an event compare or a prescaler event. -/
  | pwmEvent (l : LaneId) (t : Nat) (b : Fin 3) (cnt : BitVec 16) (down : Bool)
  /-- COMPARE_MATCH (R102): The counter reaches a leg's compare value, REF changes, and the dead-time stage commands the switch turning off. -/
  | compareMatch (l : LaneId) (t : Nat) (leg : Fin 7) (cnt : BitVec 16) (down : Bool)
  /-- TURN_ON_DUE (R103): A leg's dead time expires and the pending turn-on command is issued, unless it was cancelled. -/
  | turnOnDue (l : LaneId) (t : Nat) (leg : Fin 7) (high : Bool)
  /-- OVERRIDE_APPLY (R115): An override reaches the dead-time stage 4 LCLK after it is registered and governs the leg's switches in place of REF. -/
  | overrideApply (l : LaneId) (t : Nat) (leg : Fin 7)
  /-- GROUP_RUN (R114): A RUN command moves an IDLE group with a running time base to PENDING. -/
  | groupRun (l : LaneId) (t : Nat) (org : Origin) (v : W32)
  /-- GROUP_IDLE (R114): An IDLE command moves a RUN or PENDING group to IDLE with its switches off 4 LCLK later. -/
  | groupIdle (l : LaneId) (t : Nat) (org : Origin) (v : W32)
  /-- TRIP_ASSERT (R118): A trip's filter output asserts: a LATCH trip sets its latch and trips its groups, a CYCLE trip holds them. -/
  | tripAssert (l : LaneId) (t : Nat) (trip : Fin 4)
  /-- TRIP_DEASSERT (R119): A trip's filter output deasserts, so that a CYCLE hold ends at the next reload. -/
  | tripDeassert (l : LaneId) (t : Nat) (trip : Fin 4)
  /-- TRIP_RELEASE (R120): A write of PWM_TRIPCLR.REL releases trip latches whose filter output was deasserted. -/
  | tripRelease (l : LaneId) (t : Nat) (org : Origin) (v : W32)
  /-- PWM_BLOCK_ENABLE (R123): A write of PWM_CTRL.EN sets or clears the PWM enable under its lock and running conditions. -/
  | pwmBlockEnable (l : LaneId) (t : Nat) (org : Origin) (v : W32)
  /-- EDGE_FRAME (R125): The gate-drive die receives an edge frame and applies its levels 12 cycles after their timestamps. -/
  | edgeFrame (l : LaneId) (t : Nat) (k : Nat)
  /-- EDGE_FRAME_DISCARD (R128): An edge frame that fails its CRC or is late is discarded, the levels are held, DNBAD steps and GDV frame is raised. -/
  | edgeFrameDiscard (l : LaneId) (t : Nat) (k : Nat)
  /-- RETURN_FRAME (R126): A return frame that passes its CRC is copied into the GDV status registers and forwards gate-die events to Keystone. -/
  | returnFrame (l : LaneId) (t : Nat) (ok : Bool)
  /-- GCL_CONTROL_WRITE_APPLY (R127): A GDV register write sent over the control lane takes effect at the gate-drive die. -/
  | gclControlWriteApply (l : LaneId) (t : Nat)
  /-- GCL_LOSS (R129): Four consecutive discarded edge frames or 40 ns without the reference make the gate-drive die declare the link lost and turn every switch off. -/
  | gclLoss (l : LaneId) (t : Nat) (refAbsent : Bool)
  /-- DIRECT_PIN_TAKEOVER (R130): After a loss, and with direct pins permitted, all direct pins low for 1 µs hand the switches to the DGHn and DGLn pins. -/
  | directPinTakeover (l : LaneId) (t : Nat)
  /-- DIRECT_PIN_CHANGE (R130): A filtered direct gate pin change starts its switch's edge under direct-pin drive. -/
  | directPinChange (l : LaneId) (t : Nat) (sw : Fin 14) (level : Bool)
  /-- GCL_UP (R131): After 64 consecutive valid edge frames the gate-drive die declares the link UP. -/
  | gclUp (l : LaneId) (t : Nat)
  /-- GCL_REARM (R131): A write of GDV_GCLCMD.REARM, with the link UP and no group pending or running, returns the gate die to edge frames. -/
  | gclRearm (l : LaneId) (t : Nat) (org : Origin) (v : W32)
  /-- CPOK_CHANGE (R133): VCP − VBS crosses a lock-out threshold; CPOK changes, and a fall while enabled raises GDV charge pump. -/
  | cpokChange (l : LaneId) (t : Nat) (ok : Bool)
  /-- UVLO_ASSERT (R136): A switch's filtered supply falls below its threshold; the switch turns off, LIVE and LATCH set and GDV UVLO is raised. -/
  | uvloAssert (l : LaneId) (t : Nat) (sw : Fin 14) (vbs : Bool)
  /-- UVLO_RECOVER (R136): A switch's filtered supply rises past the rising threshold and LIVE clears. -/
  | uvloRecover (l : LaneId) (t : Nat) (sw : Fin 14)
  /-- UVLO_LATCH_CLEAR (R136): A write of GDV_CLR.UVLO clears lock-out latches whose LIVE is 0 and whose group is idle. -/
  | uvloLatchClear (l : LaneId) (t : Nat) (org : Origin) (v : W32)
  /-- FEED_SWITCH_OFF (R137): A feed switch turns off when one of its conditions fails, latching REV on reverse current and raising GDV feed. -/
  | feedSwitchOff (l : LaneId) (t : Nat) (f : Fin 2) (c : FeedCause)
  /-- FEED_SWITCH_ON (R137): A feed switch turns on once all its conditions hold. -/
  | feedSwitchOn (l : LaneId) (t : Nat) (f : Fin 2)
  /-- REVERSE_LATCH_CLEAR (R137): VFf − VBS exceeding 200 mV clears the reverse-current latch of the feed. -/
  | reverseLatchClear (l : LaneId) (t : Nat) (f : Fin 2)
  /-- BLANKING_END (R141): A switch's blanking interval ends and the latched soft crossing is judged. -/
  | blankingEnd (l : LaneId) (t : Nat) (sw : Fin 14) (longest : Nat) (cur : Nat)
  /-- SHORT_DETECT (R141): A qualified hard or soft di/dt crossing is a short: the reflex latch sets and soft turn-off starts. -/
  | shortDetect (l : LaneId) (t : Nat) (sw : Fin 14) (hard : Bool)
  /-- SOFT_PERIOD_END (R143): 400 ns after the latch the soft period ends, and the switch is held off at step 7 while deferred complement turn-ons proceed. -/
  | softPeriodEnd (l : LaneId) (t : Nat) (sw : Fin 14)
  /-- COMPARATOR_SELF_TEST (R148): GDV_CHKCMD KIND 1 starts the comparator self-test of a leg. -/
  | comparatorSelfTest (l : LaneId) (t : Nat) (org : Origin) (v : W32)
  /-- GATE_LEAKAGE_CHECK (R149): GDV_CHKCMD KIND 2 starts the gate-leakage check of a switch. -/
  | gateLeakageCheck (l : LaneId) (t : Nat) (org : Origin) (v : W32)
  /-- CHECK_COMPLETE (R150): An off-state check completes and sets DONE with its result, setting STEST or LEAK on a pass. -/
  | checkComplete (l : LaneId) (t : Nat) (pass : Bool) (slow : Bool) (tch : BitVec 16) (vend : BitVec 12)
  /-- REFLEX_LATCH_CLEAR (R151): A write of GDV_CLR.REFLEX clears reflex latches whose checks have passed, within the limit of three clears per start. -/
  | reflexLatchClear (l : LaneId) (t : Nat) (org : Origin) (v : W32)
  /-- GDV_BLOCK_ENABLE (R152): A write of GDV_CTRL.EN sets or clears the gate-drive enable. -/
  | gdvBlockEnable (l : LaneId) (t : Nat) (org : Origin) (v : W32)
  /-- FEEDBACK_INPUT_CHANGE (R155): A feedback input's filter output changes state and is stamped. -/
  | feedbackInputChange (l : LaneId) (t : Nat) (ch : Fin 4) (inp : BitVec 3)
  /-- ABSOLUTE_TIMEOUT (R164): BADN bad values or TIMEOUT without a valid value records TIMEOUT and clears STAT.VALID. -/
  | absoluteTimeout (l : LaneId) (t : Nat) (ch : Fin 4)
  /-- SSI_TRANSFER_COMPLETE (R167): An SSI transfer ends and its value is extracted, or the transfer is discarded with FRAME. -/
  | ssiTransferComplete (l : LaneId) (t : Nat) (ch : Fin 4) (word : W32) (pre : Bool) (tail : Bool)
  /-- LATCH_SPEED_VALID (R172): 24 LCLK after the sample instant a latch set's speed and age become valid and are delivered to waiting loops. -/
  | latchSpeedValid (l : LaneId) (t : Nat) (ch : Fin 4) (k : Fin 2)
  /-- STANDSTILL_ENTRY (R176): No count edge for STILL × 4,000 LCLK enters standstill and clears the speed reference. -/
  | standstillEntry (l : LaneId) (t : Nat) (ch : Fin 4)
  /-- SPEED_REFRESH (R178): Every 64 LCLK FBI_CHn_SPEED is refreshed. -/
  | speedRefresh (l : LaneId) (t : Nat)
  /-- COMPARE_LIST_WRITE (R179): A write of FBI_CHn_PCCTL with EN going from 0 to 1 loads the pointer from START. -/
  | compareListWrite (l : LaneId) (t : Nat) (org : Origin) (ch : Fin 4) (v : W32)
  /-- COMPARE_PULSE_END (R180): A PULSE action's width expires and its pin returns low. -/
  | comparePulseEnd (l : LaneId) (t : Nat) (k : Fin 4)
  /-- PULSE_DIVIDER_STEP (R181): A queued divider step leaves on PDO_A and PDO_B, paced at most one per PDMIN cycles. -/
  | pulseDividerStep (l : LaneId) (t : Nat)
  /-- FBI_BLOCK_ENABLE (R183): A write of FBI_CTRL.EN starts every channel afresh, or holds all counts when cleared. -/
  | fbiBlockEnable (l : LaneId) (t : Nat) (org : Origin) (v : W32)
  /-- CONVERSION_COMPLETE (R190): A conversion completes, its result is written to the result register and CLE inputs, and the converter starts its next queued entry. -/
  | conversionComplete (l : LaneId) (t : Nat) (k : Fin 2) (code : BitVec 16)
  /-- OVERCURRENT_DETECT (R195): A current excursion beyond POS or NEG lasting FILT cycles qualifies and raises ADC overcurrent. -/
  | overcurrentDetect (l : LaneId) (t : Nat) (a : Fin 7) (neg : Bool)
  /-- OVERCURRENT_CLEAR (R195): The amplifier output returning within NEG … POS clears the qualified over-current bit. -/
  | overcurrentClear (l : LaneId) (t : Nat) (a : Fin 7)
  /-- ADC_CALIBRATION_COMPLETE (R198): Converter calibration after EN sets ends and sets READY, or fails, records CAL and raises ADC calibration. -/
  | adcCalibrationComplete (l : LaneId) (t : Nat) (ok : Bool)
  /-- ADC_BLOCK_ENABLE (R198): A write of ADC_CTRL.EN starts calibration when set, and stops conversions when cleared. -/
  | adcBlockEnable (l : LaneId) (t : Nat) (org : Origin) (v : W32)
  /-- COMMAND_PIN_EDGE (R211): A rising edge of the filtered CMD pin updates the duty or frequency measurement. -/
  | commandPinEdge (l : LaneId) (t : Nat) (high : W32)
  /-- COMMAND_TIMEOUT (R211): No command update for TIMEOUT × 100 µs makes the command invalid and raises CFE command. -/
  | commandTimeout (l : LaneId) (t : Nat)
  /-- CATCH (R212): A CATCH command begins a catch of an IDLE group with a running time base. -/
  | catchGroup (l : LaneId) (t : Nat) (org : Origin) (v : W32)
  /-- CATCH_ABORT (R213): An ABORT command ends a catch in progress with result ABORTED. -/
  | catchAbort (l : LaneId) (t : Nat) (org : Origin) (v : W32)
  /-- SWAP (R221): A SWAP command marks a table bank swap pending for the group. -/
  | swap (l : LaneId) (t : Nat) (org : Origin) (v : W32)
  /-- CATCH_WINDOW_EXPIRY (R213): WINDOW ms without a four-crossing run ends the catch as STILL or FAIL_SLOW. -/
  | catchWindowExpiry (l : LaneId) (t : Nat) (g : Fin 2)
  /-- CFE_BLOCK_ENABLE (R223): A write of CFE_CTRL.EN sets or clears the CFE enable. -/
  | cfeBlockEnable (l : LaneId) (t : Nat) (org : Origin) (v : W32)
  /-- CLE_BLOCK_ENABLE (R244): A write of CLE_CTRL.EN zeroes every loop's state and outputs when set. -/
  | cleBlockEnable (l : LaneId) (t : Nat) (org : Origin) (v : W32)
  /-- EVENT_DISPATCH (R258): The idle engine dispatches the highest-priority pending enabled event and starts its handler. -/
  | eventDispatch (l : LaneId) (t : Nat)
  /-- BUDGET_EXPIRY (R259): A handler's cycle count reaches its budget and the handler is abandoned. -/
  | budgetExpiry (l : LaneId) (t : Nat)
  /-- CSR_TIMER_EXPIRY (R262): A CSR timer reaches zero, raises TIMERk and reloads or stops. -/
  | csrTimerExpiry (l : LaneId) (t : Nat) (k : Fin 2)
  /-- WRITE_BUFFER_DRAIN (R263): A compared store leaves the write buffer and is registered at its lane target. -/
  | writeBufferDrain (l : LaneId) (t : Nat)
  /-- LANE_LOAD_COMPLETE (R263): A lane-space load granted after earlier stores returns its data. -/
  | laneLoadComplete (l : LaneId) (t : Nat)
  /-- ADD (R252): Register add. -/
  | add (l : LaneId) (t : Nat) (fe : Bool) (d : BitVec 5) (a : BitVec 5) (b : BitVec 5)
  /-- SUB (R252): Register subtract. -/
  | sub (l : LaneId) (t : Nat) (fe : Bool) (d : BitVec 5) (a : BitVec 5) (b : BitVec 5)
  /-- AND (R252): Bitwise and. -/
  | andR (l : LaneId) (t : Nat) (fe : Bool) (d : BitVec 5) (a : BitVec 5) (b : BitVec 5)
  /-- IOR (R252): Bitwise inclusive or. -/
  | iorR (l : LaneId) (t : Nat) (fe : Bool) (d : BitVec 5) (a : BitVec 5) (b : BitVec 5)
  /-- XOR (R252): Bitwise exclusive or. -/
  | xorR (l : LaneId) (t : Nat) (fe : Bool) (d : BitVec 5) (a : BitVec 5) (b : BitVec 5)
  /-- SHL (R252): Shift left by b[4:0]. -/
  | shl (l : LaneId) (t : Nat) (fe : Bool) (d : BitVec 5) (a : BitVec 5) (b : BitVec 5)
  /-- SHR (R252): Logical shift right by b[4:0]. -/
  | shr (l : LaneId) (t : Nat) (fe : Bool) (d : BitVec 5) (a : BitVec 5) (b : BitVec 5)
  /-- SHA (R252): Arithmetic shift right by b[4:0]. -/
  | sha (l : LaneId) (t : Nat) (fe : Bool) (d : BitVec 5) (a : BitVec 5) (b : BitVec 5)
  /-- CLT (R252): Signed compare less than. -/
  | clt (l : LaneId) (t : Nat) (fe : Bool) (d : BitVec 5) (a : BitVec 5) (b : BitVec 5)
  /-- CLTU (R252): Unsigned compare less than. -/
  | cltu (l : LaneId) (t : Nat) (fe : Bool) (d : BitVec 5) (a : BitVec 5) (b : BitVec 5)
  /-- MINS (R252): Signed minimum. -/
  | mins (l : LaneId) (t : Nat) (fe : Bool) (d : BitVec 5) (a : BitVec 5) (b : BitVec 5)
  /-- MAXS (R252): Signed maximum. -/
  | maxs (l : LaneId) (t : Nat) (fe : Bool) (d : BitVec 5) (a : BitVec 5) (b : BitVec 5)
  /-- MINU (R252): Unsigned minimum. -/
  | minu (l : LaneId) (t : Nat) (fe : Bool) (d : BitVec 5) (a : BitVec 5) (b : BitVec 5)
  /-- MAXU (R252): Unsigned maximum. -/
  | maxu (l : LaneId) (t : Nat) (fe : Bool) (d : BitVec 5) (a : BitVec 5) (b : BitVec 5)
  /-- LZC (R252): Count leading zeros. -/
  | lzc (l : LaneId) (t : Nat) (fe : Bool) (d : BitVec 5) (a : BitVec 5)
  /-- MULL (R252): Low 32 bits of the product. -/
  | mull (l : LaneId) (t : Nat) (fe : Bool) (d : BitVec 5) (a : BitVec 5) (b : BitVec 5)
  /-- MULHS (R252): High 32 bits of the signed product. -/
  | mulhs (l : LaneId) (t : Nat) (fe : Bool) (d : BitVec 5) (a : BitVec 5) (b : BitVec 5)
  /-- MULHU (R252): High 32 bits of the unsigned product. -/
  | mulhu (l : LaneId) (t : Nat) (fe : Bool) (d : BitVec 5) (a : BitVec 5) (b : BitVec 5)
  /-- QUOS (R254): Signed quotient, saturating on zero divisor and overflow. -/
  | quos (l : LaneId) (t : Nat) (fe : Bool) (d : BitVec 5) (a : BitVec 5) (b : BitVec 5)
  /-- QUOU (R254): Unsigned quotient, saturating on a zero divisor. -/
  | quou (l : LaneId) (t : Nat) (fe : Bool) (d : BitVec 5) (a : BitVec 5) (b : BitVec 5)
  /-- RMDS (R254): Signed remainder, zero on a zero divisor. -/
  | rmds (l : LaneId) (t : Nat) (fe : Bool) (d : BitVec 5) (a : BitVec 5) (b : BitVec 5)
  /-- RMDU (R254): Unsigned remainder, zero on a zero divisor. -/
  | rmdu (l : LaneId) (t : Nat) (fe : Bool) (d : BitVec 5) (a : BitVec 5) (b : BitVec 5)
  /-- ADDK (R252): Add a sign-extended constant. -/
  | addk (l : LaneId) (t : Nat) (fe : Bool) (d : BitVec 5) (a : BitVec 5) (k : BitVec 18)
  /-- ANDK (R252): And with a zero-extended constant. -/
  | andk (l : LaneId) (t : Nat) (fe : Bool) (d : BitVec 5) (a : BitVec 5) (k : BitVec 18)
  /-- IORK (R252): Inclusive or with a zero-extended constant. -/
  | iork (l : LaneId) (t : Nat) (fe : Bool) (d : BitVec 5) (a : BitVec 5) (k : BitVec 18)
  /-- XORK (R252): Exclusive or with a zero-extended constant. -/
  | xork (l : LaneId) (t : Nat) (fe : Bool) (d : BitVec 5) (a : BitVec 5) (k : BitVec 18)
  /-- CLTK (R252): Signed compare with a constant. -/
  | cltk (l : LaneId) (t : Nat) (fe : Bool) (d : BitVec 5) (a : BitVec 5) (k : BitVec 18)
  /-- CLTUK (R252): Unsigned compare with a constant. -/
  | cltuk (l : LaneId) (t : Nat) (fe : Bool) (d : BitVec 5) (a : BitVec 5) (k : BitVec 18)
  /-- HIK (R252): Set the upper 18 bits from a constant. -/
  | hik (l : LaneId) (t : Nat) (fe : Bool) (d : BitVec 5) (k : BitVec 18)
  /-- SHK (R252): Shift by a constant. -/
  | shk (l : LaneId) (t : Nat) (fe : Bool) (d : BitVec 5) (a : BitVec 5) (k : BitVec 18)
  /-- LDW (R253): Load a word. -/
  | ldw (l : LaneId) (t : Nat) (fe : Bool) (d : BitVec 5) (a : BitVec 5) (k : BitVec 15) (ecc : Ecc)
  /-- LDH (R253): Load a sign-extended half-word. -/
  | ldh (l : LaneId) (t : Nat) (fe : Bool) (d : BitVec 5) (a : BitVec 5) (k : BitVec 15) (ecc : Ecc)
  /-- LDHU (R253): Load a zero-extended half-word. -/
  | ldhu (l : LaneId) (t : Nat) (fe : Bool) (d : BitVec 5) (a : BitVec 5) (k : BitVec 15) (ecc : Ecc)
  /-- LDB (R253): Load a sign-extended byte. -/
  | ldb (l : LaneId) (t : Nat) (fe : Bool) (d : BitVec 5) (a : BitVec 5) (k : BitVec 15) (ecc : Ecc)
  /-- LDBU (R253): Load a zero-extended byte. -/
  | ldbu (l : LaneId) (t : Nat) (fe : Bool) (d : BitVec 5) (a : BitVec 5) (k : BitVec 15) (ecc : Ecc)
  /-- LDP (R253): 64-bit load into an even register pair. -/
  | ldp (l : LaneId) (t : Nat) (fe : Bool) (d : BitVec 5) (a : BitVec 5) (k : BitVec 15) (ecc : Ecc) (ecch : Ecc)
  /-- STW (R253): Store a word. -/
  | stw (l : LaneId) (t : Nat) (fe : Bool) (d : BitVec 5) (a : BitVec 5) (k : BitVec 15)
  /-- STH (R253): Store a half-word. -/
  | sth (l : LaneId) (t : Nat) (fe : Bool) (d : BitVec 5) (a : BitVec 5) (k : BitVec 15) (ecc : Ecc)
  /-- STB (R253): Store a byte. -/
  | stb (l : LaneId) (t : Nat) (fe : Bool) (d : BitVec 5) (a : BitVec 5) (k : BitVec 15) (ecc : Ecc)
  /-- STP (R253): 64-bit store from an even register pair. -/
  | stp (l : LaneId) (t : Nat) (fe : Bool) (d : BitVec 5) (a : BitVec 5) (k : BitVec 15)
  /-- BRE (R252): Branch if equal. -/
  | bre (l : LaneId) (t : Nat) (fe : Bool) (a : BitVec 5) (b : BitVec 5) (k : BitVec 13)
  /-- BRN (R252): Branch if not equal. -/
  | brn (l : LaneId) (t : Nat) (fe : Bool) (a : BitVec 5) (b : BitVec 5) (k : BitVec 13)
  /-- BRL (R252): Branch if signed less. -/
  | brl (l : LaneId) (t : Nat) (fe : Bool) (a : BitVec 5) (b : BitVec 5) (k : BitVec 13)
  /-- BRG (R252): Branch if signed greater or equal. -/
  | brg (l : LaneId) (t : Nat) (fe : Bool) (a : BitVec 5) (b : BitVec 5) (k : BitVec 13)
  /-- BRLU (R252): Branch if unsigned less. -/
  | brlu (l : LaneId) (t : Nat) (fe : Bool) (a : BitVec 5) (b : BitVec 5) (k : BitVec 13)
  /-- BRGU (R252): Branch if unsigned greater or equal. -/
  | brgu (l : LaneId) (t : Nat) (fe : Bool) (a : BitVec 5) (b : BitVec 5) (k : BitVec 13)
  /-- CALL (R252): PC-relative call writing the return address to D. -/
  | call (l : LaneId) (t : Nat) (fe : Bool) (d : BitVec 5) (k : BitVec 23)
  /-- CALLR (R252): Register-indirect call. -/
  | callr (l : LaneId) (t : Nat) (fe : Bool) (d : BitVec 5) (a : BitVec 5) (k : BitVec 18)
  /-- CSRRD (R264): Read a control register. -/
  | csrrd (l : LaneId) (t : Nat) (fe : Bool) (d : BitVec 5) (c : BitVec 12)
  /-- CSRWR (R264): Write a control register, including timers, lock and event table. -/
  | csrwr (l : LaneId) (t : Nat) (fe : Bool) (a : BitVec 5) (c : BitVec 12)
  /-- POST (R256): Post a software event, 48 to 63. -/
  | post (l : LaneId) (t : Nat) (fe : Bool) (e : BitVec 12)
  /-- FENCE (R252): Wait until every earlier lane-space store is registered. -/
  | fence (l : LaneId) (t : Nat) (fe : Bool)
  /-- DONE (R258): End the handler and return the engine to idle. -/
  | done (l : LaneId) (t : Nat) (fe : Bool)
  /-- ILLEGAL_INSTRUCTION (R255): An illegal instruction word does not execute and abandons the handler. -/
  | illegalInstruction (l : LaneId) (t : Nat) (why : Abandon)
  /-- LOCKSTEP_MISMATCH (R269): The comparator registers a mismatch: both cores stop, unreleased stores are discarded and LSC mismatch is raised. -/
  | lockstepMismatch (l : LaneId) (t : Nat) (item : Fin 9)
  /-- DIAGNOSTIC_VERDICT (R272): Yarrow's diagnostic self-test of both cores ends, deciding a lockstep restart, single-core continuation or SAFE-LANE. -/
  | diagnosticVerdict (l : LaneId) (t : Nat) (main : Bool) (chk : Bool)
  /-- CODE_SCRUB_COMPLETE (R271): The active code bank scrub and data clear end and RESTART is dispatched with the verdict's cause. -/
  | codeScrubComplete (l : LaneId) (t : Nat) (ok : Bool) (fixed : List (BitVec 16))
  /-- PORT_ENABLE (R277): A write of TPE_LNKCTL.PEN moves ports from DARK to TRAIN, or back to DARK when cleared. -/
  | portEnable (l : LaneId) (t : Nat) (org : Origin) (v : W32)
  /-- PORT_TRAINED (R277): Signal detected, equaliser settled and synchronisation acquired move a port to ALIGNED and RANGING. -/
  | portTrained (l : LaneId) (t : Nat) (p : Fin 4) (eq : BitVec 4)
  /-- PORT_SYNC_LOSS (R278): Loss of synchronisation or signal detect returns a port to TRAIN, records DOWN and cuts frames in progress. -/
  | portSyncLoss (l : LaneId) (t : Nat) (p : Fin 4) (sig : Bool)
  /-- RANGE (R281): TPE_LNKCMD.RANGE commands ranging of UP ports. -/
  | range (l : LaneId) (t : Nat) (org : Origin) (v : W32)
  /-- RETRAIN (R296): TPE_LNKCMD.RETRAIN sends ports to TRAIN. -/
  | retrain (l : LaneId) (t : Nat) (org : Origin) (v : W32)
  /-- RANGING_REQUEST_RECEIVE (R280): A /RQ/ is received and the port replies with /RA/ 64 symbols later. -/
  | rangingRequestReceive (l : LaneId) (t : Nat) (p : Fin 4) (token : Byte) (ta : Nat)
  /-- RANGING_REPLY_RECEIVE (R280): A /RA/ with the token is stamped, completing one exchange; after 16 exchanges LINKDLY and SPREAD are set or the ranging is invalid. -/
  | rangingReplyReceive (l : LaneId) (t : Nat) (p : Fin 4) (token : Byte) (node : BitVec 5) (port : BitVec 2) (rtt : Nat)
  /-- RANGING_EXCHANGE_TIMEOUT (R281): An exchange without a reply within 2 µs fails and is repeated up to 4 times. -/
  | rangingExchangeTimeout (l : LaneId) (t : Nat) (p : Fin 4)
  /-- BUFFER_FETCH (R305): 64 LCLK before a frame's start time the TPE fetches the buffer's newest copy, or decides on a NULL. -/
  | bufferFetch (l : LaneId) (t : Nat) (arb : Bool) (ix : Byte)
  /-- FRAME_SEND (R285): At its start time a node sends its own frame out of both ports of the channel. -/
  | frameSend (l : LaneId) (t : Nat) (arb : Bool) (ix : Byte) (late : Fin 17)
  /-- HEADER_RECEIVE (R287): At the end of its HCRC a copy is checked and, if it passes, forwarded with HOP and DLY updated. -/
  | headerReceive (l : LaneId) (t : Nat) (p : Fin 4) (head : BitVec 64) (hcrc : BitVec 16) (ta : Nat) (ph : Fin 13)
  /-- FORWARD_OVERRUN_CUT (R291): A forwarded copy that passes its declared length or carries /V/ is terminated and CUTS steps. -/
  | forwardOverrunCut (l : LaneId) (t : Nat) (p : Fin 4) (viol : Bool)
  /-- FRAME_END_RECEIVE (R292): A copy's /T/ arrives: a valid first copy is delivered into its buffer, later copies are counted as duplicates. -/
  | frameEndReceive (l : LaneId) (t : Nat) (p : Fin 4) (ws : List W32) (fcrc : W32)
  /-- BUFFER_COMMIT (R305): TPE_BUFb_CMD COMMIT makes the write copy of a TX buffer the newest copy. -/
  | bufferCommit (l : LaneId) (t : Nat) (org : Origin) (b : Byte) (v : W32)
  /-- ACQUIRE (R308): TPE_BUFb_CMD ACQUIRE pins the newest copy of an RX buffer. -/
  | acquire (l : LaneId) (t : Nat) (org : Origin) (b : Byte) (v : W32)
  /-- RELEASE (R308): TPE_BUFb_CMD RELEASE unpins an RX buffer. -/
  | release (l : LaneId) (t : Nat) (org : Origin) (b : Byte) (v : W32)
  /-- CLAIM_WRITE (R311): A write of TPE_CLAIMk setting VAL is accepted only for a TX buffer of this node with a matching LEN. -/
  | claimWrite (l : LaneId) (t : Nat) (org : Origin) (k : Fin 4) (v : W32)
  /-- COURSE_BOUNDARY (R299): A course boundary steps the course number and buffer ages and raises the Oapiec COURSE event. -/
  | courseBoundary (l : LaneId) (t : Nat)
  /-- MORTAR_GAP_START (R319): At the start of the mortar gap the node sorts claims, forms its offset correction, adjusts its rate and applies external steps. -/
  | mortarGapStart (l : LaneId) (t : Nat)
  /-- COLDSTART_LISTEN_EXPIRY (R315): A coldstart node's listen time passes without any valid copy and it enters COLDSTART. -/
  | coldstartListenExpiry (l : LaneId) (t : Nat)
  /-- SYNC_EDGE (R324): A filtered rising edge on SYNC is stamped, accepted or ignored, and sets the remaining external correction. -/
  | syncEdge (l : LaneId) (t : Nat)
  /-- SYNC_LOST (R324): No accepted SYNC edge for 2 × PERMS clears Q, sets LOST and raises TPE external. -/
  | syncLost (l : LaneId) (t : Nat)
  /-- TPE_BLOCK_ENABLE (R328): A write of TPE_CTRL.EN runs the schedule checks and enters LISTEN, or returns the node to OFF when cleared. -/
  | tpeBlockEnable (l : LaneId) (t : Nat) (org : Origin) (v : W32)
  /-- CAN_MODE_WRITE (R333): A write of CAN_Cc_MODE sets OFF, LISTEN or NORMAL, with NORMAL accepted only in the gateway-active lane. -/
  | canModeWrite (l : LaneId) (t : Nat) (org : Origin) (c : Fin 2) (v : W32)
  /-- CAN_FRAME_RECEIVE (R336): A received CAN frame is filtered and stored in its message object, updating NEW, OVWR and SEQ. -/
  | canFrameReceive (l : LaneId) (t : Nat) (c : Fin 2) (fr : CanFrame) (tec : Byte) (rec_ : Byte)
  /-- TX_REQUEST (R337): A write of CAN_Cc_TXREQn requests transmission of TX objects. -/
  | txRequest (l : LaneId) (t : Nat) (org : Origin) (c : Fin 2) (w : Fin 2) (v : W32)
  /-- TX_ABORT (R337): A write of CAN_Cc_TXABTn withdraws requests not yet started. -/
  | txAbort (l : LaneId) (t : Nat) (org : Origin) (c : Fin 2) (w : Fin 2) (v : W32) (busy : Option (BitVec 6))
  /-- TX_DONE (R337): A successful transmission clears TXPEND and records TXDONE. -/
  | txDone (l : LaneId) (t : Nat) (c : Fin 2) (o : BitVec 6) (tec : Byte) (rec_ : Byte)
  /-- GATEWAY_YIELD_LISTEN (R334): After losing the gateway role, a NORMAL controller finishes its frame and enters LISTEN at the following bus idle. -/
  | gatewayYieldListen (l : LaneId) (t : Nat) (c : Fin 2)
  /-- BUS_OFF (R347): A controller enters bus-off and raises CAN bus-off. -/
  | busOff (l : LaneId) (t : Nat) (c : Fin 2) (tec : Byte) (rec_ : Byte)
  /-- BUS_OFF_RECOVERY (R347): After 128 × 11 recessive bits with AUTOREC set, the controller rejoins the bus. -/
  | busOffRecovery (l : LaneId) (t : Nat) (c : Fin 2)
  /-- RESEND (R340): CAN_GWCMD RESEND makes each enabled TPE→CAN route request its last copy once more. -/
  | resend (l : LaneId) (t : Nat) (org : Origin) (v : W32)
  /-- CAN_GATEWAY_ENABLE (R338): A write of CAN_CTRL.EN enables the gateway routes after checking their buffers. -/
  | canGatewayEnable (l : LaneId) (t : Nat) (org : Origin) (v : W32)
  /-- SPI_NOP (R342): A NOP frame collects the oldest unreported response. -/
  | spiNop (l : LaneId) (t : Nat) (f : BitVec 72) (newp : Bool)
  /-- SPI_READ (R341): A READ frame queues a 32-bit read of the lane offset as the SPI host. -/
  | spiRead (l : LaneId) (t : Nat) (f : BitVec 72) (newp : Bool)
  /-- SPI_WRITE (R341): A WRITE frame queues a 32-bit write of the lane offset as the SPI host. -/
  | spiWrite (l : LaneId) (t : Nat) (f : BitVec 72) (newp : Bool)
  /-- SPI_PARTIAL_FRAME (R342): HS_CSN rising on a partial frame discards it and reports ABORT. -/
  | spiPartialFrame (l : LaneId) (t : Nat)
  /-- MAILBOX_IN (R344): An SPI host write to HST_MBOXIN raises the Oapiec HOST event. -/
  | mailboxIn (l : LaneId) (t : Nat) (org : Origin) (v : W32)
  /-- MAILBOX_OUT (R344): A firmware write to HST_MBOXOUT sets HST_IRQ.MBOX. -/
  | mailboxOut (l : LaneId) (t : Nat) (org : Origin) (v : W32)
  /-- REMOTE_ACCESS (R346): A remote request delivered into RQBUF is executed as Tlasyn remote accesses and its response committed. -/
  | remoteAccess (l : LaneId) (t : Nat) (k : Fin 4)
  /-- HOST_REMOTE_ENABLE (R349): A write of HST_CTRL.RAEN enables or disables remote register access. -/
  | hostRemoteEnable (l : LaneId) (t : Nat) (org : Origin) (v : W32)
  /-- KEYSTONE_MESSAGE_ACCEPT (R358): Messages registered at the collector are accepted in source order, opening or merging records and applying the reaction of the highest severity. -/
  | keystoneMessageAccept (l : LaneId) (t : Nat) (ext : List W32)
  /-- RECORD_RELEASE (R363): A write of KST_RELEASE closes a releasable, inactive record and releases groups and LIMIT it held. -/
  | recordRelease (l : LaneId) (t : Nat) (org : Origin) (v : W32)
  /-- FIRMWARE_RAISE (R365): A firmware write to KST_RAISE is accepted as a message from a firmware source. -/
  | firmwareRaise (l : LaneId) (t : Nat) (org : Origin) (v : W32)
  /-- SEVERITY_WRITE (R353): A write of KST_SEVn sets a source's severity between its floor and 4. -/
  | severityWrite (l : LaneId) (t : Nat) (org : Origin) (c : Byte) (v : W32)
  /-- INJECTION_ARM (R369): A write to KST_INJ arms one injection into a detector, subject to the life-cycle state and DRY. -/
  | injectionArm (l : LaneId) (t : Nat) (org : Origin) (v : W32)
  /-- INJECTION_MISSED (R371): WAIT ms without the injected message records MISSED and raises KST injection. -/
  | injectionMissed (l : LaneId) (t : Nat)
  /-- LOG_ENTRY_WRITE (R367): The head of the log queue is written into the MRAM fault-log ring. -/
  | logEntryWrite (l : LaneId) (t : Nat)
  /-- LOG_INDEX_WRITE (R368): A write of KST_LOGIDX loads that log entry into KST_LOGD0 to KST_LOGD7. -/
  | logIndexWrite (l : LaneId) (t : Nat) (org : Origin) (v : W32)
  /-- SAF_BLOCK_ENABLE (R375): A write of SAF_CTRL.EN starts test pulses and pair states, or stops them when cleared. -/
  | safBlockEnable (l : LaneId) (t : Nat) (org : Origin) (v : W32)
  /-- CONTACT_CHANGE (R377): A filtered safety contact changes level and moves its pair's state. -/
  | contactChange (l : LaneId) (t : Nat) (p : Fin 4) (a : Bool) (b : Bool)
  /-- DISCREPANCY_TIMEOUT (R377): The second contact failing to follow within DISC × 32 ticks puts the pair in DISCREPANT and raises SAF discrepancy. -/
  | discrepancyTimeout (l : LaneId) (t : Nat) (p : Fin 4)
  /-- TEST_PULSE_START (R380): An STP output begins its low test pulse. -/
  | testPulseStart (l : LaneId) (t : Nat) (k : Fin 2) (pre : BitVec 8)
  /-- TEST_PULSE_END (R380): At the last tick of a pulse each judged contact must read low, otherwise it fails and the pair enters TESTFAIL. -/
  | testPulseEnd (l : LaneId) (t : Nat) (k : Fin 2) (high : BitVec 8)
  /-- TORQUE_REMOVAL_COMMAND (R382): A write of SAF_STOCMD withholds or returns group torque permits. -/
  | torqueRemovalCommand (l : LaneId) (t : Nat) (org : Origin) (v : W32)
  /-- BRAKE_RELEASE_REQUEST (R386): A write of SAF_SBOCMD.REL requests release of a brake output, rejected while any condition fails. -/
  | brakeReleaseRequest (l : LaneId) (t : Nat) (org : Origin) (v : W32)
  /-- OFF_TEST_START (R387): An on brake output is switched off for its periodic off-test. -/
  | offTestStart (l : LaneId) (t : Nat) (k : Fin 2)
  /-- OFF_TEST_END (R387): At the end of an off-test the readback must be below its off threshold, or the output has stuck on. -/
  | offTestEnd (l : LaneId) (t : Nat) (k : Fin 2) (below : Bool)
  /-- BRAKE_OUTPUT_FAIL (R388): A failed brake output check sets SBOF, turns the output off and raises SAF brake output. -/
  | brakeOutputFail (l : LaneId) (t : Nat) (k : Fin 2) (cause : BitVec 2)
  /-- SEAL_SAMPLE (R389): Every 32 ticks the straps are sampled; disagreement after arming clears SEALOK and raises SAF seal. -/
  | sealSample (l : LaneId) (t : Nat) (up : BitVec 6) (dn : BitVec 6)
  /-- ALIVE_KICK (R391): A write of SAF_KICK.KEY toggles ALIVE when accepted, or records KICK. -/
  | aliveKick (l : LaneId) (t : Nat) (org : Origin) (v : W32) (ticks : Nat)
  /-- STATUS_READBACK_FAIL (R392): OKH or ALIVE differing at the ball for 2 ticks raises SAF status output. -/
  | statusReadbackFail (l : LaneId) (t : Nat) (alive : Bool)
  /-- LNT_BLOCK_ENABLE (R400): A write of LNT_CTRL.EN enables the role logic after checking its claim buffers and agreement. -/
  | lntBlockEnable (l : LaneId) (t : Nat) (org : Origin) (v : W32)
  /-- TAKEOVER_COMPLETE (R407): With AUX on, the checkpoint records are restored, the lane enters ACTIVE and its controllers go NORMAL with RESEND. -/
  | takeoverComplete (l : LaneId) (t : Nat)
  /-- HANDOVER (R409): LNT_ROLECMD HANDOVER moves an ACTIVE lane to YIELDING when the peer is an eligible standby. -/
  | handover (l : LaneId) (t : Nat) (org : Origin) (v : W32)
  /-- BLOCK_HANDLE (R425): A completed relay block that passes its CRC is stored and queued for sending, or discarded on a CRC failure. -/
  | blockHandle (l : LaneId) (t : Nat)
  /-- BLOCK_PUSH (R427): A write of UPD_SRCCMD.PUSH makes the source handle its staged block. -/
  | blockPush (l : LaneId) (t : Nat) (org : Origin) (v : W32)
  /-- IMAGE_VERIFY_COMPLETE (R423): Verification of a stored image ends and its slot reads STORED or REFUSED. -/
  | imageVerifyComplete (l : LaneId) (t : Nat)
  /-- TRANSFER_TIMEOUT (R428): TIMEOUT courses without a new stored block empty the slot, record XFAIL and raise UPD verify. -/
  | transferTimeout (l : LaneId) (t : Nat)
  /-- ACTIVATE (R429): UPD_ACTCMD ACTIVATE starts activation of the inactive slot of its type. -/
  | activate (l : LaneId) (t : Nat) (org : Origin) (v : W32)
  /-- CONFIRM (R429): UPD_ACTCMD CONFIRM makes a TRIAL slot ACTIVE and its partner ACCEPTED. -/
  | confirm (l : LaneId) (t : Nat) (org : Origin) (v : W32)
  /-- REVERT (R433): UPD_ACTCMD REVERT restores the ACCEPTED tables or Ashlar slot. -/
  | revert (l : LaneId) (t : Nat) (org : Origin) (v : W32)
  /-- POLICY_PREPARE_COMPLETE (R430): The policy body has been copied into the shadow bank and read back against its digest. -/
  | policyPrepareComplete (l : LaneId) (t : Nat)
  /-- DATA_CLEAR_COMPLETE (R430): Data memory clearing ends and the image restarts with cause 3. -/
  | dataClearComplete (l : LaneId) (t : Nat)
  /-- TABLE_COPY_COMPLETE (R433): A tables activation finishes copying into the inactive banks and writes SWAP. -/
  | tableCopyComplete (l : LaneId) (t : Nat)
  /-- SETTINGS_COMMIT (R437): UPD_SETCMD COMMIT makes the work settings area live when its header is valid. -/
  | settingsCommit (l : LaneId) (t : Nat) (org : Origin) (v : W32)
  /-- UPD_BLOCK_ENABLE (R442): A write of UPD_CTRL.EN sets or clears the update engine enable. -/
  | updBlockEnable (l : LaneId) (t : Nat) (org : Origin) (v : W32)
  /-- IDLE_COUNT_EXPIRY (R450): A domain's idle count expires and the power controller evaluates its target state. -/
  | idleCountExpiry (l : LaneId) (t : Nat) (d : Fin 9)
  /-- DOMAIN_ENTRY_COMPLETE (R451): An entry completes and the domain reads RET or OFF, with clocks stopping where allowed. -/
  | domainEntryComplete (l : LaneId) (t : Nat) (d : Fin 9)
  /-- DOMAIN_EXIT_COMPLETE (R448): A domain's exit completes and it reads ON, with mirrors and tuning restored after OFF. -/
  | domainExitComplete (l : LaneId) (t : Nat) (d : Fin 9)
  /-- DOMAIN_EXIT_TIMEOUT (R455): A domain not ON within twice its exit time raises PWR domain and the exit is repeated. -/
  | domainExitTimeout (l : LaneId) (t : Nat) (d : Fin 9)
  /-- VETCH_MATCH (R457): A matching Vetch address registers a wake for the domains in DOMS and acknowledges. -/
  | vetchMatch (l : LaneId) (t : Nat)
  /-- WAKE_TIMER_EXPIRY (R459): The PWR wake timer reaches zero and wakes its domains. -/
  | wakeTimerExpiry (l : LaneId) (t : Nat)
  /-- SUPPLY_OUT_OF_WINDOW (R460): A supply outside its window for 1 µs raises PWR supply. -/
  | supplyOutOfWindow (l : LaneId) (t : Nat) (k : Fin 3)
  /-- XO_STABLE (R444): The crystal oscillator becomes stable and the PLL begins its glide to it. -/
  | xoStable (l : LaneId) (t : Nat)
  /-- PLL_LOCK (R443): The PLL locks and LCLK becomes available to the domains. -/
  | pllLock (l : LaneId) (t : Nat)
  /-- GLIDE_COMPLETE (R444): The PLL reference change to the XO completes and XO-class exits may complete. -/
  | glideComplete (l : LaneId) (t : Nat)
  /-- CRYSTAL_FAIL (R446): A crystal failure returns the PLL to the wake RC and raises CLK crystal. -/
  | crystalFail (l : LaneId) (t : Nat)
  /-- PLL_UNLOCK (R446): Loss of PLL lock for 100 ns raises CLK PLL. -/
  | pllUnlock (l : LaneId) (t : Nat)
  /-- ACLK_CALIBRATION (R446): Every 32 ACLK ticks LPT is measured, raising CLK ACLK when it lies outside ±5 %. -/
  | aclkCalibration (l : LaneId) (t : Nat) (lpt : BitVec 20)
  /-- VAON_POWER_LOSS (R501): VAON falling below its power-on threshold, or VGD below 4 V, leaves the lane unpowered with its pins on passive clamps and all state but MRAM lost. -/
  | vaonPowerLoss (l : LaneId) (t : Nat)
  /-- SUPPLY_IN_WINDOW (R503): VCORE, VIO or VANA returns inside its monitor window; the PWR supply record's level ends, and after 50 µs in window the start sequence may pass step 2. -/
  | supplyInWindow (l : LaneId) (t : Nat) (k : Fin 3)
  /-- LINTEL_SYNC_ACQUIRED (R398): The Lintel receiver acquires clause 36 synchronisation; LINKUP sets and the Lintel link source's level ends. -/
  | lintelSyncAcquired (l : LaneId) (t : Nat)
  /-- ERROR_PASSIVE (R347): A CAN controller's error counts carry it into error passive; it records PASSIVE and raises CAN error passive. -/
  | errorPassive (l : LaneId) (t : Nat) (c : Fin 2) (tec : Byte) (rec_ : Byte)
  /-- VETCH_LINE_CHANGE (R456): A start, stop, address-bit rising edge or acknowledge-ending falling edge on VW_CLK and VW_DAT moves the Vetch port's shift state. -/
  | vetchLineChange (l : LaneId) (t : Nat) (clk : Bool) (dat : Bool)
  deriving DecidableEq, Repr

/-- The lane a command is sent to. -/
def Instr.lane : Instr → LaneId
  | .vaonPowerOn l _ => l
  | .pornReset l _ => l
  | .trstnReset l _ => l
  | .warmStartRequest l _ _ _ => l
  | .startSequence l _ _ => l
  | .selftestResults l _ _ _ _ => l
  | .injectionTestEnd l _ _ _ _ => l
  | .ashlarLoadEnd l _ _ _ => l
  | .startupImageCopyEnd l _ => l
  | .statusMessageReceive l _ _ _ => l
  | .statusResend l _ => l
  | .peerWaitExpiry l _ => l
  | .laneRelease l _ _ _ => l
  | .groupArm l _ _ _ => l
  | .lcProvision l _ _ _ => l
  | .lcField l _ _ _ => l
  | .lcToken l _ _ _ => l
  | .lcReturn l _ _ _ => l
  | .tokenCheckComplete l _ => l
  | .lifecycleWriteComplete l _ => l
  | .returnedEraseComplete l _ => l
  | .commandSelfTest l _ _ _ => l
  | .commandSelfTestComplete l _ _ _ _ => l
  | .registerWrite l _ _ _ _ _ => l
  | .sequenceClear l _ _ _ _ => l
  | .lintelWindowRead l _ _ _ => l
  | .lintelWindowWrite l _ _ _ _ => l
  | .windowRequestReceive l _ _ _ => l
  | .windowResponseReceive l _ _ _ _ => l
  | .windowReadTimeout l _ => l
  | .heartbeatSend l _ => l
  | .heartbeatReceive l _ _ _ => l
  | .heartbeatMissing l _ => l
  | .kmsgReceive l _ _ _ => l
  | .lintelSyncLoss l _ => l
  | .mirrorReceive l _ _ _ _ _ => l
  | .mirrorCommitReceive l _ _ _ _ _ => l
  | .lintelWakeReceive l _ => l
  | .peerwake l _ _ _ => l
  | .chainTrigger l _ _ => l
  | .loopDispatch l _ => l
  | .loopOutput l _ => l
  | .cfeExecution l _ _ => l
  | .pwmStart l _ _ _ => l
  | .pwmStop l _ _ _ => l
  | .loadAllArm l _ _ _ => l
  | .pwmEvent l _ _ _ _ => l
  | .compareMatch l _ _ _ _ => l
  | .turnOnDue l _ _ _ => l
  | .overrideApply l _ _ => l
  | .groupRun l _ _ _ => l
  | .groupIdle l _ _ _ => l
  | .tripAssert l _ _ => l
  | .tripDeassert l _ _ => l
  | .tripRelease l _ _ _ => l
  | .pwmBlockEnable l _ _ _ => l
  | .edgeFrame l _ _ => l
  | .edgeFrameDiscard l _ _ => l
  | .returnFrame l _ _ => l
  | .gclControlWriteApply l _ => l
  | .gclLoss l _ _ => l
  | .directPinTakeover l _ => l
  | .directPinChange l _ _ _ => l
  | .gclUp l _ => l
  | .gclRearm l _ _ _ => l
  | .cpokChange l _ _ => l
  | .uvloAssert l _ _ _ => l
  | .uvloRecover l _ _ => l
  | .uvloLatchClear l _ _ _ => l
  | .feedSwitchOff l _ _ _ => l
  | .feedSwitchOn l _ _ => l
  | .reverseLatchClear l _ _ => l
  | .blankingEnd l _ _ _ _ => l
  | .shortDetect l _ _ _ => l
  | .softPeriodEnd l _ _ => l
  | .comparatorSelfTest l _ _ _ => l
  | .gateLeakageCheck l _ _ _ => l
  | .checkComplete l _ _ _ _ _ => l
  | .reflexLatchClear l _ _ _ => l
  | .gdvBlockEnable l _ _ _ => l
  | .feedbackInputChange l _ _ _ => l
  | .absoluteTimeout l _ _ => l
  | .ssiTransferComplete l _ _ _ _ _ => l
  | .latchSpeedValid l _ _ _ => l
  | .standstillEntry l _ _ => l
  | .speedRefresh l _ => l
  | .compareListWrite l _ _ _ _ => l
  | .comparePulseEnd l _ _ => l
  | .pulseDividerStep l _ => l
  | .fbiBlockEnable l _ _ _ => l
  | .conversionComplete l _ _ _ => l
  | .overcurrentDetect l _ _ _ => l
  | .overcurrentClear l _ _ => l
  | .adcCalibrationComplete l _ _ => l
  | .adcBlockEnable l _ _ _ => l
  | .commandPinEdge l _ _ => l
  | .commandTimeout l _ => l
  | .catchGroup l _ _ _ => l
  | .catchAbort l _ _ _ => l
  | .swap l _ _ _ => l
  | .catchWindowExpiry l _ _ => l
  | .cfeBlockEnable l _ _ _ => l
  | .cleBlockEnable l _ _ _ => l
  | .eventDispatch l _ => l
  | .budgetExpiry l _ => l
  | .csrTimerExpiry l _ _ => l
  | .writeBufferDrain l _ => l
  | .laneLoadComplete l _ => l
  | .add l _ _ _ _ _ => l
  | .sub l _ _ _ _ _ => l
  | .andR l _ _ _ _ _ => l
  | .iorR l _ _ _ _ _ => l
  | .xorR l _ _ _ _ _ => l
  | .shl l _ _ _ _ _ => l
  | .shr l _ _ _ _ _ => l
  | .sha l _ _ _ _ _ => l
  | .clt l _ _ _ _ _ => l
  | .cltu l _ _ _ _ _ => l
  | .mins l _ _ _ _ _ => l
  | .maxs l _ _ _ _ _ => l
  | .minu l _ _ _ _ _ => l
  | .maxu l _ _ _ _ _ => l
  | .lzc l _ _ _ _ => l
  | .mull l _ _ _ _ _ => l
  | .mulhs l _ _ _ _ _ => l
  | .mulhu l _ _ _ _ _ => l
  | .quos l _ _ _ _ _ => l
  | .quou l _ _ _ _ _ => l
  | .rmds l _ _ _ _ _ => l
  | .rmdu l _ _ _ _ _ => l
  | .addk l _ _ _ _ _ => l
  | .andk l _ _ _ _ _ => l
  | .iork l _ _ _ _ _ => l
  | .xork l _ _ _ _ _ => l
  | .cltk l _ _ _ _ _ => l
  | .cltuk l _ _ _ _ _ => l
  | .hik l _ _ _ _ => l
  | .shk l _ _ _ _ _ => l
  | .ldw l _ _ _ _ _ _ => l
  | .ldh l _ _ _ _ _ _ => l
  | .ldhu l _ _ _ _ _ _ => l
  | .ldb l _ _ _ _ _ _ => l
  | .ldbu l _ _ _ _ _ _ => l
  | .ldp l _ _ _ _ _ _ _ => l
  | .stw l _ _ _ _ _ => l
  | .sth l _ _ _ _ _ _ => l
  | .stb l _ _ _ _ _ _ => l
  | .stp l _ _ _ _ _ => l
  | .bre l _ _ _ _ _ => l
  | .brn l _ _ _ _ _ => l
  | .brl l _ _ _ _ _ => l
  | .brg l _ _ _ _ _ => l
  | .brlu l _ _ _ _ _ => l
  | .brgu l _ _ _ _ _ => l
  | .call l _ _ _ _ => l
  | .callr l _ _ _ _ _ => l
  | .csrrd l _ _ _ _ => l
  | .csrwr l _ _ _ _ => l
  | .post l _ _ _ => l
  | .fence l _ _ => l
  | .done l _ _ => l
  | .illegalInstruction l _ _ => l
  | .lockstepMismatch l _ _ => l
  | .diagnosticVerdict l _ _ _ => l
  | .codeScrubComplete l _ _ _ => l
  | .portEnable l _ _ _ => l
  | .portTrained l _ _ _ => l
  | .portSyncLoss l _ _ _ => l
  | .range l _ _ _ => l
  | .retrain l _ _ _ => l
  | .rangingRequestReceive l _ _ _ _ => l
  | .rangingReplyReceive l _ _ _ _ _ _ => l
  | .rangingExchangeTimeout l _ _ => l
  | .bufferFetch l _ _ _ => l
  | .frameSend l _ _ _ _ => l
  | .headerReceive l _ _ _ _ _ _ => l
  | .forwardOverrunCut l _ _ _ => l
  | .frameEndReceive l _ _ _ _ => l
  | .bufferCommit l _ _ _ _ => l
  | .acquire l _ _ _ _ => l
  | .release l _ _ _ _ => l
  | .claimWrite l _ _ _ _ => l
  | .courseBoundary l _ => l
  | .mortarGapStart l _ => l
  | .coldstartListenExpiry l _ => l
  | .syncEdge l _ => l
  | .syncLost l _ => l
  | .tpeBlockEnable l _ _ _ => l
  | .canModeWrite l _ _ _ _ => l
  | .canFrameReceive l _ _ _ _ _ => l
  | .txRequest l _ _ _ _ _ => l
  | .txAbort l _ _ _ _ _ _ => l
  | .txDone l _ _ _ _ _ => l
  | .gatewayYieldListen l _ _ => l
  | .busOff l _ _ _ _ => l
  | .busOffRecovery l _ _ => l
  | .resend l _ _ _ => l
  | .canGatewayEnable l _ _ _ => l
  | .spiNop l _ _ _ => l
  | .spiRead l _ _ _ => l
  | .spiWrite l _ _ _ => l
  | .spiPartialFrame l _ => l
  | .mailboxIn l _ _ _ => l
  | .mailboxOut l _ _ _ => l
  | .remoteAccess l _ _ => l
  | .hostRemoteEnable l _ _ _ => l
  | .keystoneMessageAccept l _ _ => l
  | .recordRelease l _ _ _ => l
  | .firmwareRaise l _ _ _ => l
  | .severityWrite l _ _ _ _ => l
  | .injectionArm l _ _ _ => l
  | .injectionMissed l _ => l
  | .logEntryWrite l _ => l
  | .logIndexWrite l _ _ _ => l
  | .safBlockEnable l _ _ _ => l
  | .contactChange l _ _ _ _ => l
  | .discrepancyTimeout l _ _ => l
  | .testPulseStart l _ _ _ => l
  | .testPulseEnd l _ _ _ => l
  | .torqueRemovalCommand l _ _ _ => l
  | .brakeReleaseRequest l _ _ _ => l
  | .offTestStart l _ _ => l
  | .offTestEnd l _ _ _ => l
  | .brakeOutputFail l _ _ _ => l
  | .sealSample l _ _ _ => l
  | .aliveKick l _ _ _ _ => l
  | .statusReadbackFail l _ _ => l
  | .lntBlockEnable l _ _ _ => l
  | .takeoverComplete l _ => l
  | .handover l _ _ _ => l
  | .blockHandle l _ => l
  | .blockPush l _ _ _ => l
  | .imageVerifyComplete l _ => l
  | .transferTimeout l _ => l
  | .activate l _ _ _ => l
  | .confirm l _ _ _ => l
  | .revert l _ _ _ => l
  | .policyPrepareComplete l _ => l
  | .dataClearComplete l _ => l
  | .tableCopyComplete l _ => l
  | .settingsCommit l _ _ _ => l
  | .updBlockEnable l _ _ _ => l
  | .idleCountExpiry l _ _ => l
  | .domainEntryComplete l _ _ => l
  | .domainExitComplete l _ _ => l
  | .domainExitTimeout l _ _ => l
  | .vetchMatch l _ => l
  | .wakeTimerExpiry l _ => l
  | .supplyOutOfWindow l _ _ => l
  | .xoStable l _ => l
  | .pllLock l _ => l
  | .glideComplete l _ => l
  | .crystalFail l _ => l
  | .pllUnlock l _ => l
  | .aclkCalibration l _ _ => l
  | .vaonPowerLoss l _ => l
  | .supplyInWindow l _ _ => l
  | .lintelSyncAcquired l _ => l
  | .errorPassive l _ _ _ _ => l
  | .vetchLineChange l _ _ _ => l

end Sys2Proof
end

