-- ==== Sys2Proof/Decode.lean ====
section
/-! DEFINITION. The host's probe of a command by its bits. spec/opcode_table.json gives no row any bits (every row's "fields" is empty), so
no word spells a command. The encodings of the Oapiec pair's instruction words (R251) are in Machine/Oapiec.lean. -/

namespace Sys2Proof

/-- The command a word spells by the bits of the opcode table: none, since the table gives none. -/
def decodeTableWord (_nbits _w : Nat) : Option Instr := none

end Sys2Proof
end

