-- ==== Sys2Proof/Config.lean ====
section
/-! DEFINITION. Free values: what the spec leaves open or gives no number for. Each is an opaque constant with no body, so
that no proof can rest on a value of it; log entries 4 to 6 and 101 name each. -/

namespace Sys2Proof.Config

/-- A fresh free value: number 2 k for lane 1's draw k, 2 k + 1 for lane 2's (log entry 4). Used for random numbers, for signatures the
spec does not compute and for results the spec leaves open. -/
opaque freeWord : Nat → W32

/-- The frequency of ACLK in millihertz: 32.768 kHz ±3 % (R10, R443), so the spec gives no one value (log entry 5). -/
opaque aclkRate : Nat

/-- The number of ACLK ticks that pass in `k` LCLK cycles, at a frequency inside the ±3 % of R10 (log entry 5). -/
def aclkTicks (k : Nat) : Nat := k * max 31784960 (min 33751040 aclkRate) / 400000000000

/-- The frequency of a gate-drive die's local oscillator in kilohertz: 360 MHz to 440 MHz, fixed for a given part (R129; log entry
101). -/
opaque oscRate : Nat

/-- The number of GCLK cycles that pass on the local oscillator in `k` LCLK cycles (R129). -/
def oscTicks (k : Nat) : Nat := k * max 360000 (min 440000 oscRate) / 400000

/-- The word of control-lane read data that a return frame carries in a lane cycle (R126): the spec says what it is nowhere (log entry
101). -/
opaque ctlRead : Nat → W32

/-- The signature the ROM holds for a partition of a lane-die stepping (R473): stepping, partition (log entry 6). -/
opaque expSig : Nat → Nat → W32

end Sys2Proof.Config
end

