-- ==== Sys2Proof/Machine/RegMap.lean ====
section
/-! DEFINITION. The register map of a lane: the offset of every register (`R.<register>`), the place of every field
(`F.<register>.<field>`) and, for each register array, its class, reset value and writable bits, block by block, copied
from the register tables of spec/02, 03, 04 to 09 and 11 to 20. Names are the spec's own; an index letter in a name (the
`b` of `PWM_TBb_CFG`) is the argument. Registers whose reset the spec gives as "Per lane", "Per device", "Per start" or
"Per source" have 0 here: the value after reset is listed by `Lane.reset` (log entry 3). -/

namespace Sys2Proof.Machine

/-- A field of a register: the register's lane-space offset and the field's bits [hi:lo] (R8, R9). -/
structure FRef where
  off : Nat
  hi  : Nat
  lo  : Nat
  deriving DecidableEq, Repr

/-- The access classes of R13. -/
inductive Cls where
  | c | rt | sq | l | w1 | ro | wo
  deriving DecidableEq, Repr

/-- One row of a register table: base offset, array dimensions (stride, count), class, bits a write can change, reset. -/
structure RegRow where
  name  : String
  base  : Nat
  dims  : List (Nat × Nat)
  cls   : Cls
  wmask : Nat
  reset : Nat
  deriving DecidableEq, Repr


/-! ## SYS (spec/[02, 03, 19, 20], R492, R500, R69, R92, R95) -/

def R.SYS_ASHSTAT : Nat := 0x000100
def F.SYS_ASHSTAT.STATE : FRef := ⟨R.SYS_ASHSTAT, 31, 28⟩
def F.SYS_ASHSTAT.SLOT : FRef := ⟨R.SYS_ASHSTAT, 27, 27⟩
def F.SYS_ASHSTAT.FALLBACK : FRef := ⟨R.SYS_ASHSTAT, 26, 26⟩
def R.SYS_ASHERR : Nat := 0x000104
def F.SYS_ASHERR.STEP : FRef := ⟨R.SYS_ASHERR, 31, 28⟩
def F.SYS_ASHERR.SECTION : FRef := ⟨R.SYS_ASHERR, 27, 24⟩
def F.SYS_ASHERR.OFFSET : FRef := ⟨R.SYS_ASHERR, 23, 0⟩
def R.SYS_ASHVER : Nat := 0x000108
def F.SYS_ASHVER.VERSION : FRef := ⟨R.SYS_ASHVER, 31, 0⟩
def R.SYS_ASHLOCK : Nat := 0x00010C
def F.SYS_ASHLOCK.LOCK : FRef := ⟨R.SYS_ASHLOCK, 0, 0⟩
def R.SYS_ASHPEER : Nat := 0x000110
def F.SYS_ASHPEER.STATE : FRef := ⟨R.SYS_ASHPEER, 31, 28⟩
def R.SYS_ASHEVT : Nat := 0x000114
def F.SYS_ASHEVT.LATE_MATCH : FRef := ⟨R.SYS_ASHEVT, 15, 15⟩
def F.SYS_ASHEVT.LATE_DIFFER : FRef := ⟨R.SYS_ASHEVT, 14, 14⟩
def F.SYS_ASHEVT.DIFFER : FRef := ⟨R.SYS_ASHEVT, 13, 13⟩
def F.SYS_ASHEVT.TIMEOUT : FRef := ⟨R.SYS_ASHEVT, 12, 12⟩
def F.SYS_ASHEVT.SEQ : FRef := ⟨R.SYS_ASHEVT, 7, 0⟩
def R.SYS_ASHSHARE : Nat := 0x000118
def F.SYS_ASHSHARE.MASK : FRef := ⟨R.SYS_ASHSHARE, 15, 0⟩
def R.SYS_ASHDIGn (n : Nat) : Nat := 0x000120 + 0x4 * n
def F.SYS_ASHDIGn.DIGEST (n : Nat) : FRef := ⟨R.SYS_ASHDIGn n, 31, 0⟩
def R.SYS_ASHPDIGn (n : Nat) : Nat := 0x000140 + 0x4 * n
def F.SYS_ASHPDIGn.DIGEST (n : Nat) : FRef := ⟨R.SYS_ASHPDIGn n, 31, 0⟩
def R.SYS_REGERR : Nat := 0x000020
def F.SYS_REGERR.KIND : FRef := ⟨R.SYS_REGERR, 31, 28⟩
def F.SYS_REGERR.ORIGIN : FRef := ⟨R.SYS_REGERR, 27, 25⟩
def F.SYS_REGERR.WRITE : FRef := ⟨R.SYS_REGERR, 24, 24⟩
def F.SYS_REGERR.COUNT : FRef := ⟨R.SYS_REGERR, 23, 16⟩
def F.SYS_REGERR.FLAG : FRef := ⟨R.SYS_REGERR, 8, 8⟩
def F.SYS_REGERR.SEQ : FRef := ⟨R.SYS_REGERR, 7, 0⟩
def R.SYS_REGADR : Nat := 0x000024
def F.SYS_REGADR.STROBE : FRef := ⟨R.SYS_REGADR, 27, 24⟩
def F.SYS_REGADR.OFFSET : FRef := ⟨R.SYS_REGADR, 23, 0⟩
def R.SYS_PARTID : Nat := 0x000000
def F.SYS_PARTID.PART : FRef := ⟨R.SYS_PARTID, 15, 0⟩
def R.SYS_STEP : Nat := 0x000004
def F.SYS_STEP.GATESTEP : FRef := ⟨R.SYS_STEP, 23, 16⟩
def F.SYS_STEP.LANESTEP : FRef := ⟨R.SYS_STEP, 15, 8⟩
def F.SYS_STEP.CODE : FRef := ⟨R.SYS_STEP, 3, 0⟩
def R.SYS_LANE : Nat := 0x000008
def F.SYS_LANE.LANE : FRef := ⟨R.SYS_LANE, 1, 0⟩
def R.SYS_LCS : Nat := 0x00000C
def F.SYS_LCS.STATE : FRef := ⟨R.SYS_LCS, 31, 28⟩
def F.SYS_LCS.BASE : FRef := ⟨R.SYS_LCS, 27, 24⟩
def F.SYS_LCS.ENF : FRef := ⟨R.SYS_LCS, 23, 23⟩
def F.SYS_LCS.OUT_L7 : FRef := ⟨R.SYS_LCS, 18, 18⟩
def F.SYS_LCS.OUT_M1 : FRef := ⟨R.SYS_LCS, 17, 17⟩
def F.SYS_LCS.OUT_M0 : FRef := ⟨R.SYS_LCS, 16, 16⟩
def F.SYS_LCS.PARTS_OUT : FRef := ⟨R.SYS_LCS, 15, 8⟩
def R.SYS_UIDL : Nat := 0x000010
def F.SYS_UIDL.UID : FRef := ⟨R.SYS_UIDL, 31, 0⟩
def R.SYS_UIDH : Nat := 0x000014
def F.SYS_UIDH.UID : FRef := ⟨R.SYS_UIDH, 31, 0⟩
def R.SYS_RSTCMD : Nat := 0x000030
def F.SYS_RSTCMD.KEY : FRef := ⟨R.SYS_RSTCMD, 31, 16⟩
def F.SYS_RSTCMD.START : FRef := ⟨R.SYS_RSTCMD, 0, 0⟩
def R.SYS_RSTCAUSE : Nat := 0x000034
def F.SYS_RSTCAUSE.AON : FRef := ⟨R.SYS_RSTCAUSE, 8, 8⟩
def F.SYS_RSTCAUSE.CAUSE : FRef := ⟨R.SYS_RSTCAUSE, 3, 0⟩
def R.SYS_START : Nat := 0x000038
def F.SYS_START.STATE : FRef := ⟨R.SYS_START, 31, 28⟩
def F.SYS_START.HALT : FRef := ⟨R.SYS_START, 27, 24⟩
def F.SYS_START.POLICY : FRef := ⟨R.SYS_START, 23, 23⟩
def F.SYS_START.TABLES : FRef := ⟨R.SYS_START, 22, 22⟩
def F.SYS_START.TIME : FRef := ⟨R.SYS_START, 15, 0⟩
def R.SYS_ARMCMD : Nat := 0x00003C
def F.SYS_ARMCMD.LANE : FRef := ⟨R.SYS_ARMCMD, 3, 3⟩
def F.SYS_ARMCMD.GROUPS : FRef := ⟨R.SYS_ARMCMD, 2, 0⟩
def R.SYS_ARMSTAT : Nat := 0x000040
def F.SYS_ARMSTAT.RELEASED : FRef := ⟨R.SYS_ARMSTAT, 31, 31⟩
def F.SYS_ARMSTAT.WHY : FRef := ⟨R.SYS_ARMSTAT, 14, 8⟩
def F.SYS_ARMSTAT.ARMED : FRef := ⟨R.SYS_ARMSTAT, 2, 0⟩
def R.SYS_LCCMD : Nat := 0x000050
def F.SYS_LCCMD.KEY : FRef := ⟨R.SYS_LCCMD, 31, 16⟩
def F.SYS_LCCMD.CMD : FRef := ⟨R.SYS_LCCMD, 3, 0⟩
def R.SYS_LCSTAT : Nat := 0x000054
def F.SYS_LCSTAT.RESULT : FRef := ⟨R.SYS_LCSTAT, 31, 28⟩
def F.SYS_LCSTAT.CMD : FRef := ⟨R.SYS_LCSTAT, 27, 24⟩
def F.SYS_LCSTAT.BUSY : FRef := ⟨R.SYS_LCSTAT, 9, 9⟩
def F.SYS_LCSTAT.DONE : FRef := ⟨R.SYS_LCSTAT, 8, 8⟩
def F.SYS_LCSTAT.SEQ : FRef := ⟨R.SYS_LCSTAT, 7, 0⟩
def R.SYS_NONCEL : Nat := 0x000058
def F.SYS_NONCEL.NONCE : FRef := ⟨R.SYS_NONCEL, 31, 0⟩
def R.SYS_NONCEH : Nat := 0x00005C
def F.SYS_NONCEH.NONCE : FRef := ⟨R.SYS_NONCEH, 31, 0⟩
def R.SYS_KEYSTAT : Nat := 0x000060
def F.SYS_KEYSTAT.REVOKED : FRef := ⟨R.SYS_KEYSTAT, 7, 4⟩
def F.SYS_KEYSTAT.SET : FRef := ⟨R.SYS_KEYSTAT, 3, 0⟩
def R.SYS_KEYk_w (k w : Nat) : Nat := 0x000200 + 0x20 * k + 0x4 * w
def F.SYS_KEYk_w.HASH (k w : Nat) : FRef := ⟨R.SYS_KEYk_w k w, 31, 0⟩
def R.SYS_TOKw (w : Nat) : Nat := 0x000300 + 0x4 * w
def F.SYS_TOKw.DATA (w : Nat) : FRef := ⟨R.SYS_TOKw w, 31, 0⟩
def R.SYS_PINFn (n : Nat) : Nat := 0x000400 + 0x4 * n
def F.SYS_PINFn.BIAS (n : Nat) : FRef := ⟨R.SYS_PINFn n, 7, 6⟩
def F.SYS_PINFn.FUNC (n : Nat) : FRef := ⟨R.SYS_PINFn n, 2, 0⟩

/-- The rows of the SYS register tables. -/
def regRowsSys : List RegRow := [
  ⟨"SYS_ASHSTAT", 0x000100, [], .ro, 0x00000000, 0x00000000⟩,
  ⟨"SYS_ASHERR", 0x000104, [], .ro, 0x00000000, 0x00000000⟩,
  ⟨"SYS_ASHVER", 0x000108, [], .ro, 0x00000000, 0x00000000⟩,
  ⟨"SYS_ASHLOCK", 0x00010C, [], .ro, 0x00000000, 0x00000000⟩,
  ⟨"SYS_ASHPEER", 0x000110, [], .ro, 0x00000000, 0x00000000⟩,
  ⟨"SYS_ASHEVT", 0x000114, [], .sq, 0x00000000, 0x00000000⟩,
  ⟨"SYS_ASHSHARE", 0x000118, [], .ro, 0x00000000, 0x00000000⟩,
  ⟨"SYS_ASHDIGn", 0x000120, [(4, 8)], .ro, 0x00000000, 0x00000000⟩,
  ⟨"SYS_ASHPDIGn", 0x000140, [(4, 8)], .ro, 0x00000000, 0x00000000⟩,
  ⟨"SYS_REGERR", 0x000020, [], .sq, 0x00000000, 0x00000000⟩,
  ⟨"SYS_REGADR", 0x000024, [], .ro, 0x00000000, 0x00000000⟩,
  ⟨"SYS_PARTID", 0x000000, [], .ro, 0x00000000, 0x00008624⟩,
  ⟨"SYS_STEP", 0x000004, [], .ro, 0x00000000, 0x00000000⟩,
  ⟨"SYS_LANE", 0x000008, [], .ro, 0x00000000, 0x00000000⟩,
  ⟨"SYS_LCS", 0x00000C, [], .ro, 0x00000000, 0x00000000⟩,
  ⟨"SYS_UIDL", 0x000010, [], .ro, 0x00000000, 0x00000000⟩,
  ⟨"SYS_UIDH", 0x000014, [], .ro, 0x00000000, 0x00000000⟩,
  ⟨"SYS_RSTCMD", 0x000030, [], .wo, 0x00000000, 0x00000000⟩,
  ⟨"SYS_RSTCAUSE", 0x000034, [], .ro, 0x00000000, 0x00000000⟩,
  ⟨"SYS_START", 0x000038, [], .ro, 0x00000000, 0x00000000⟩,
  ⟨"SYS_ARMCMD", 0x00003C, [], .wo, 0x00000000, 0x00000000⟩,
  ⟨"SYS_ARMSTAT", 0x000040, [], .ro, 0x00000000, 0x00000000⟩,
  ⟨"SYS_LCCMD", 0x000050, [], .wo, 0x00000000, 0x00000000⟩,
  ⟨"SYS_LCSTAT", 0x000054, [], .sq, 0x00000000, 0x00000000⟩,
  ⟨"SYS_NONCEL", 0x000058, [], .ro, 0x00000000, 0x00000000⟩,
  ⟨"SYS_NONCEH", 0x00005C, [], .ro, 0x00000000, 0x00000000⟩,
  ⟨"SYS_KEYSTAT", 0x000060, [], .ro, 0x00000000, 0x00000000⟩,
  ⟨"SYS_KEYk_w", 0x000200, [(32, 4), (4, 8)], .l, 0xFFFFFFFF, 0x00000000⟩,
  ⟨"SYS_TOKw", 0x000300, [(4, 40)], .rt, 0xFFFFFFFF, 0x00000000⟩,
  ⟨"SYS_PINFn", 0x000400, [(4, 8)], .l, 0x000000C7, 0x00000000⟩]

/-- The rows of `regRowsSys` whose reset value is not zero. -/
def resetRowsSys : List RegRow := [
  ⟨"SYS_PARTID", 0x000000, [], .ro, 0x00000000, 0x00008624⟩]

/-! ## PWR (spec/[18], R464) -/

def R.PWR_STAT : Nat := 0x001000
def F.PWR_STAT.PLLON : FRef := ⟨R.PWR_STAT, 31, 31⟩
def F.PWR_STAT.XOREF : FRef := ⟨R.PWR_STAT, 30, 30⟩
def F.PWR_STAT.XOON : FRef := ⟨R.PWR_STAT, 29, 29⟩
def F.PWR_STAT.VANAOK : FRef := ⟨R.PWR_STAT, 2, 2⟩
def F.PWR_STAT.VIOOK : FRef := ⟨R.PWR_STAT, 1, 1⟩
def F.PWR_STAT.VCOREOK : FRef := ⟨R.PWR_STAT, 0, 0⟩
def R.PWR_EVT : Nat := 0x001004
def F.PWR_EVT.DOM : FRef := ⟨R.PWR_EVT, 19, 16⟩
def F.PWR_EVT.SUPPLY : FRef := ⟨R.PWR_EVT, 11, 11⟩
def F.PWR_EVT.DOMFAIL : FRef := ⟨R.PWR_EVT, 10, 10⟩
def F.PWR_EVT.SUPER : FRef := ⟨R.PWR_EVT, 9, 9⟩
def F.PWR_EVT.ABORT : FRef := ⟨R.PWR_EVT, 8, 8⟩
def F.PWR_EVT.SEQ : FRef := ⟨R.PWR_EVT, 7, 0⟩
def R.PWR_WCAUSE : Nat := 0x001008
def F.PWR_WCAUSE.LOG : FRef := ⟨R.PWR_WCAUSE, 13, 13⟩
def F.PWR_WCAUSE.EVENT : FRef := ⟨R.PWR_WCAUSE, 12, 12⟩
def F.PWR_WCAUSE.ACCESS : FRef := ⟨R.PWR_WCAUSE, 11, 11⟩
def F.PWR_WCAUSE.TIMER : FRef := ⟨R.PWR_WCAUSE, 10, 10⟩
def F.PWR_WCAUSE.LINTEL : FRef := ⟨R.PWR_WCAUSE, 9, 9⟩
def F.PWR_WCAUSE.VETCH : FRef := ⟨R.PWR_WCAUSE, 8, 8⟩
def F.PWR_WCAUSE.SEQ : FRef := ⟨R.PWR_WCAUSE, 7, 0⟩
def R.PWR_CMD : Nat := 0x00100C
def F.PWR_CMD.PEERWAKE : FRef := ⟨R.PWR_CMD, 0, 0⟩
def R.PWR_VWCFG : Nat := 0x001010
def F.PWR_VWCFG.EN : FRef := ⟨R.PWR_VWCFG, 31, 31⟩
def F.PWR_VWCFG.BCAST : FRef := ⟨R.PWR_VWCFG, 30, 30⟩
def F.PWR_VWCFG.DOMS : FRef := ⟨R.PWR_VWCFG, 16, 8⟩
def F.PWR_VWCFG.ADDR : FRef := ⟨R.PWR_VWCFG, 7, 0⟩
def R.PWR_LWCFG : Nat := 0x001014
def F.PWR_LWCFG.EN : FRef := ⟨R.PWR_LWCFG, 31, 31⟩
def F.PWR_LWCFG.PERIODIC : FRef := ⟨R.PWR_LWCFG, 30, 30⟩
def F.PWR_LWCFG.DOMS : FRef := ⟨R.PWR_LWCFG, 16, 8⟩
def R.PWR_WTMR : Nat := 0x001018
def F.PWR_WTMR.TICKS : FRef := ⟨R.PWR_WTMR, 31, 0⟩
def R.PWR_WTCTL : Nat := 0x00101C
def F.PWR_WTCTL.EN : FRef := ⟨R.PWR_WTCTL, 31, 31⟩
def F.PWR_WTCTL.PERIODIC : FRef := ⟨R.PWR_WTCTL, 30, 30⟩
def F.PWR_WTCTL.DOMS : FRef := ⟨R.PWR_WTCTL, 16, 8⟩
def R.PWR_Dd_LAT (d : Nat) : Nat := 0x001100 + 0x40 * d
def F.PWR_Dd_LAT.LAT (d : Nat) : FRef := ⟨R.PWR_Dd_LAT d, 31, 0⟩
def R.PWR_Dd_ALLOW (d : Nat) : Nat := 0x001104 + 0x40 * d
def F.PWR_Dd_ALLOW.OFF (d : Nat) : FRef := ⟨R.PWR_Dd_ALLOW d, 2, 2⟩
def F.PWR_Dd_ALLOW.RET (d : Nat) : FRef := ⟨R.PWR_Dd_ALLOW d, 1, 1⟩
def F.PWR_Dd_ALLOW.ON (d : Nat) : FRef := ⟨R.PWR_Dd_ALLOW d, 0, 0⟩
def R.PWR_Dd_CFG (d : Nat) : Nat := 0x001108 + 0x40 * d
def F.PWR_Dd_CFG.IDLE (d : Nat) : FRef := ⟨R.PWR_Dd_CFG d, 15, 0⟩
def R.PWR_Dd_STAT (d : Nat) : Nat := 0x00110C + 0x40 * d
def F.PWR_Dd_STAT.STATE (d : Nat) : FRef := ⟨R.PWR_Dd_STAT d, 31, 29⟩
def F.PWR_Dd_STAT.TARGET (d : Nat) : FRef := ⟨R.PWR_Dd_STAT d, 28, 27⟩
def F.PWR_Dd_STAT.PVAL (d : Nat) : FRef := ⟨R.PWR_Dd_STAT d, 26, 26⟩
def F.PWR_Dd_STAT.PEND (d : Nat) : FRef := ⟨R.PWR_Dd_STAT d, 25, 24⟩
def F.PWR_Dd_STAT.HELD (d : Nat) : FRef := ⟨R.PWR_Dd_STAT d, 8, 8⟩
def R.PWR_Dd_EXIT (d : Nat) : Nat := 0x001110 + 0x40 * d
def F.PWR_Dd_EXIT.XOFF (d : Nat) : FRef := ⟨R.PWR_Dd_EXIT d, 31, 16⟩
def F.PWR_Dd_EXIT.XRET (d : Nat) : FRef := ⟨R.PWR_Dd_EXIT d, 15, 0⟩
def R.PWR_Dd_CNT (d : Nat) : Nat := 0x001114 + 0x40 * d
def F.PWR_Dd_CNT.ABORTS (d : Nat) : FRef := ⟨R.PWR_Dd_CNT d, 31, 16⟩
def F.PWR_Dd_CNT.SUPER (d : Nat) : FRef := ⟨R.PWR_Dd_CNT d, 15, 8⟩
def F.PWR_Dd_CNT.FAILS (d : Nat) : FRef := ⟨R.PWR_Dd_CNT d, 7, 0⟩
def R.PWR_Dd_RESk_L (d k : Nat) : Nat := 0x001120 + 0x40 * d + 0x8 * k
def F.PWR_Dd_RESk_L.TICKS (d k : Nat) : FRef := ⟨R.PWR_Dd_RESk_L d k, 31, 0⟩
def R.PWR_Dd_RESk_H (d k : Nat) : Nat := 0x001124 + 0x40 * d + 0x8 * k
def F.PWR_Dd_RESk_H.TICKS (d k : Nat) : FRef := ⟨R.PWR_Dd_RESk_H d k, 31, 0⟩

/-- The rows of the PWR register table. -/
def regRowsPwr : List RegRow := [
  ⟨"PWR_STAT", 0x001000, [], .ro, 0x00000000, 0x00000000⟩,
  ⟨"PWR_EVT", 0x001004, [], .sq, 0x00000000, 0x00000000⟩,
  ⟨"PWR_WCAUSE", 0x001008, [], .sq, 0x00000000, 0x00000000⟩,
  ⟨"PWR_CMD", 0x00100C, [], .wo, 0x00000000, 0x00000000⟩,
  ⟨"PWR_VWCFG", 0x001010, [], .rt, 0xC001FEFF, 0x00000000⟩,
  ⟨"PWR_LWCFG", 0x001014, [], .rt, 0x8001FE00, 0x80000100⟩,
  ⟨"PWR_WTMR", 0x001018, [], .rt, 0xFFFFFFFF, 0x00000000⟩,
  ⟨"PWR_WTCTL", 0x00101C, [], .rt, 0xC001FE00, 0x00000100⟩,
  ⟨"PWR_Dd_LAT", 0x001100, [(64, 9)], .rt, 0xFFFFFFFF, 0x00000000⟩,
  ⟨"PWR_Dd_ALLOW", 0x001104, [(64, 9)], .l, 0x00000006, 0x00000001⟩,
  ⟨"PWR_Dd_CFG", 0x001108, [(64, 9)], .rt, 0x0000FFFF, 0x00000020⟩,
  ⟨"PWR_Dd_STAT", 0x00110C, [(64, 9)], .ro, 0x00000000, 0x00000000⟩,
  ⟨"PWR_Dd_EXIT", 0x001110, [(64, 9)], .ro, 0x00000000, 0x00000000⟩,
  ⟨"PWR_Dd_CNT", 0x001114, [(64, 9)], .ro, 0x00000000, 0x00000000⟩,
  ⟨"PWR_Dd_RESk_L", 0x001120, [(64, 9), (8, 3)], .ro, 0x00000000, 0x00000000⟩,
  ⟨"PWR_Dd_RESk_H", 0x001124, [(64, 9), (8, 3)], .ro, 0x00000000, 0x00000000⟩]

/-- The rows of `regRowsPwr` whose reset value is not zero. -/
def resetRowsPwr : List RegRow := [
  ⟨"PWR_LWCFG", 0x001014, [], .rt, 0x8001FE00, 0x80000100⟩,
  ⟨"PWR_WTCTL", 0x00101C, [], .rt, 0xC001FE00, 0x00000100⟩,
  ⟨"PWR_Dd_ALLOW", 0x001104, [(64, 9)], .l, 0x00000006, 0x00000001⟩,
  ⟨"PWR_Dd_CFG", 0x001108, [(64, 9)], .rt, 0x0000FFFF, 0x00000020⟩]

/-! ## CLK (spec/[18], R465) -/

def R.CLK_STAT : Nat := 0x002000
def F.CLK_STAT.XO : FRef := ⟨R.CLK_STAT, 31, 30⟩
def F.CLK_STAT.LOCK : FRef := ⟨R.CLK_STAT, 29, 29⟩
def F.CLK_STAT.REF : FRef := ⟨R.CLK_STAT, 28, 28⟩
def F.CLK_STAT.GLIDE : FRef := ⟨R.CLK_STAT, 27, 27⟩
def F.CLK_STAT.REFOUT : FRef := ⟨R.CLK_STAT, 26, 26⟩
def R.CLK_EVT : Nat := 0x002004
def F.CLK_EVT.ACLK : FRef := ⟨R.CLK_EVT, 10, 10⟩
def F.CLK_EVT.UNLOCK : FRef := ⟨R.CLK_EVT, 9, 9⟩
def F.CLK_EVT.XOFAIL : FRef := ⟨R.CLK_EVT, 8, 8⟩
def F.CLK_EVT.SEQ : FRef := ⟨R.CLK_EVT, 7, 0⟩
def R.CLK_XOCTL : Nat := 0x002008
def F.CLK_XOCTL.KEEP : FRef := ⟨R.CLK_XOCTL, 0, 0⟩
def R.CLK_ACLKCAL : Nat := 0x00200C
def F.CLK_ACLKCAL.VALID : FRef := ⟨R.CLK_ACLKCAL, 31, 31⟩
def F.CLK_ACLKCAL.LPT : FRef := ⟨R.CLK_ACLKCAL, 19, 0⟩

/-- The rows of the CLK register table. -/
def regRowsClk : List RegRow := [
  ⟨"CLK_STAT", 0x002000, [], .ro, 0x00000000, 0x00000000⟩,
  ⟨"CLK_EVT", 0x002004, [], .sq, 0x00000000, 0x00000000⟩,
  ⟨"CLK_XOCTL", 0x002008, [], .rt, 0x00000001, 0x00000000⟩,
  ⟨"CLK_ACLKCAL", 0x00200C, [], .ro, 0x00000000, 0x0005F5E1⟩]

/-- The rows of `regRowsClk` whose reset value is not zero. -/
def resetRowsClk : List RegRow := [
  ⟨"CLK_ACLKCAL", 0x00200C, [], .ro, 0x00000000, 0x0005F5E1⟩]

/-! ## KST (spec/[14], R373) -/

def R.KST_STAT : Nat := 0x003000
def F.KST_STAT.LANESAFE : FRef := ⟨R.KST_STAT, 31, 31⟩
def F.KST_STAT.LIMIT : FRef := ⟨R.KST_STAT, 30, 30⟩
def F.KST_STAT.GSAFE : FRef := ⟨R.KST_STAT, 18, 16⟩
def F.KST_STAT.OPEN : FRef := ⟨R.KST_STAT, 14, 8⟩
def R.KST_EVT : Nat := 0x003004
def F.KST_EVT.INJ : FRef := ⟨R.KST_EVT, 12, 12⟩
def F.KST_EVT.DROP : FRef := ⟨R.KST_EVT, 11, 11⟩
def F.KST_EVT.OVF : FRef := ⟨R.KST_EVT, 10, 10⟩
def F.KST_EVT.RAISE : FRef := ⟨R.KST_EVT, 9, 9⟩
def F.KST_EVT.OPENED : FRef := ⟨R.KST_EVT, 8, 8⟩
def F.KST_EVT.SEQ : FRef := ⟨R.KST_EVT, 7, 0⟩
def R.KST_RELEASE : Nat := 0x003008
def F.KST_RELEASE.REC : FRef := ⟨R.KST_RELEASE, 5, 0⟩
def R.KST_RAISE : Nat := 0x00300C
def F.KST_RAISE.SOURCE : FRef := ⟨R.KST_RAISE, 31, 24⟩
def F.KST_RAISE.KIND : FRef := ⟨R.KST_RAISE, 23, 20⟩
def F.KST_RAISE.WORD : FRef := ⟨R.KST_RAISE, 15, 0⟩
def R.KST_INJ : Nat := 0x003010
def F.KST_INJ.SOURCE : FRef := ⟨R.KST_INJ, 31, 24⟩
def F.KST_INJ.WAIT : FRef := ⟨R.KST_INJ, 23, 16⟩
def F.KST_INJ.DRY : FRef := ⟨R.KST_INJ, 8, 8⟩
def F.KST_INJ.TARGET : FRef := ⟨R.KST_INJ, 7, 0⟩
def R.KST_INJSTAT : Nat := 0x003014
def F.KST_INJSTAT.RESULT : FRef := ⟨R.KST_INJSTAT, 31, 28⟩
def F.KST_INJSTAT.SOURCE : FRef := ⟨R.KST_INJSTAT, 27, 20⟩
def F.KST_INJSTAT.DONE : FRef := ⟨R.KST_INJSTAT, 8, 8⟩
def F.KST_INJSTAT.SEQ : FRef := ⟨R.KST_INJSTAT, 7, 0⟩
def R.KST_OPENk (k : Nat) : Nat := 0x003018 + 0x4 * k
def F.KST_OPENk.OPEN (k : Nat) : FRef := ⟨R.KST_OPENk k, 31, 0⟩
def R.KST_LOGSTAT : Nat := 0x003020
def F.KST_LOGSTAT.DROP : FRef := ⟨R.KST_LOGSTAT, 31, 24⟩
def F.KST_LOGSTAT.QLEN : FRef := ⟨R.KST_LOGSTAT, 23, 18⟩
def F.KST_LOGSTAT.WRAP : FRef := ⟨R.KST_LOGSTAT, 17, 17⟩
def F.KST_LOGSTAT.HEAD : FRef := ⟨R.KST_LOGSTAT, 12, 0⟩
def R.KST_LOGIDX : Nat := 0x003024
def F.KST_LOGIDX.CRCOK : FRef := ⟨R.KST_LOGIDX, 31, 31⟩
def F.KST_LOGIDX.IDX : FRef := ⟨R.KST_LOGIDX, 12, 0⟩
def R.KST_LOGDw (w : Nat) : Nat := 0x003040 + 0x4 * w
def F.KST_LOGDw.WORD (w : Nat) : FRef := ⟨R.KST_LOGDw w, 31, 0⟩
def R.KST_RECr_MSG (r : Nat) : Nat := 0x003100 + 0x10 * r
def F.KST_RECr_MSG.MSG (r : Nat) : FRef := ⟨R.KST_RECr_MSG r, 31, 0⟩
def R.KST_RECr_LAST (r : Nat) : Nat := 0x003104 + 0x10 * r
def F.KST_RECr_LAST.MSG (r : Nat) : FRef := ⟨R.KST_RECr_LAST r, 31, 0⟩
def R.KST_RECr_INFO (r : Nat) : Nat := 0x003108 + 0x10 * r
def F.KST_RECr_INFO.OPEN (r : Nat) : FRef := ⟨R.KST_RECr_INFO r, 31, 31⟩
def F.KST_RECr_INFO.SEV (r : Nat) : FRef := ⟨R.KST_RECr_INFO r, 30, 28⟩
def F.KST_RECr_INFO.XL (r : Nat) : FRef := ⟨R.KST_RECr_INFO r, 27, 27⟩
def F.KST_RECr_INFO.INJ (r : Nat) : FRef := ⟨R.KST_RECr_INFO r, 26, 26⟩
def F.KST_RECr_INFO.ACTIVE (r : Nat) : FRef := ⟨R.KST_RECr_INFO r, 25, 25⟩
def F.KST_RECr_INFO.NOREL (r : Nat) : FRef := ⟨R.KST_RECr_INFO r, 24, 24⟩
def F.KST_RECr_INFO.GROUPS (r : Nat) : FRef := ⟨R.KST_RECr_INFO r, 18, 16⟩
def F.KST_RECr_INFO.COUNT (r : Nat) : FRef := ⟨R.KST_RECr_INFO r, 15, 8⟩
def R.KST_RECr_TIME (r : Nat) : Nat := 0x00310C + 0x10 * r
def F.KST_RECr_TIME.TIME (r : Nat) : FRef := ⟨R.KST_RECr_TIME r, 31, 0⟩
def R.KST_SEVn (n : Nat) : Nat := 0x003800 + 0x4 * n
def F.KST_SEVn.SEV (n : Nat) : FRef := ⟨R.KST_SEVn n, 2, 0⟩
def R.KST_FLRn (n : Nat) : Nat := 0x003C00 + 0x4 * n
def F.KST_FLRn.IMPL (n : Nat) : FRef := ⟨R.KST_FLRn n, 31, 31⟩
def F.KST_FLRn.GROUPS (n : Nat) : FRef := ⟨R.KST_FLRn n, 18, 16⟩
def F.KST_FLRn.FLOOR (n : Nat) : FRef := ⟨R.KST_FLRn n, 2, 0⟩

/-- The rows of the KST register table. -/
def regRowsKst : List RegRow := [
  ⟨"KST_STAT", 0x003000, [], .ro, 0x00000000, 0x00000000⟩,
  ⟨"KST_EVT", 0x003004, [], .sq, 0x00000000, 0x00000000⟩,
  ⟨"KST_RELEASE", 0x003008, [], .wo, 0x00000000, 0x00000000⟩,
  ⟨"KST_RAISE", 0x00300C, [], .wo, 0x00000000, 0x00000000⟩,
  ⟨"KST_INJ", 0x003010, [], .wo, 0x00000000, 0x00000000⟩,
  ⟨"KST_INJSTAT", 0x003014, [], .sq, 0x00000000, 0x00000000⟩,
  ⟨"KST_OPENk", 0x003018, [(4, 2)], .ro, 0x00000000, 0x00000000⟩,
  ⟨"KST_LOGSTAT", 0x003020, [], .ro, 0x00000000, 0x00000000⟩,
  ⟨"KST_LOGIDX", 0x003024, [], .rt, 0x00001FFF, 0x00000000⟩,
  ⟨"KST_LOGDw", 0x003040, [(4, 8)], .ro, 0x00000000, 0x00000000⟩,
  ⟨"KST_RECr_MSG", 0x003100, [(16, 64)], .ro, 0x00000000, 0x00000000⟩,
  ⟨"KST_RECr_LAST", 0x003104, [(16, 64)], .ro, 0x00000000, 0x00000000⟩,
  ⟨"KST_RECr_INFO", 0x003108, [(16, 64)], .ro, 0x00000000, 0x00000000⟩,
  ⟨"KST_RECr_TIME", 0x00310C, [(16, 64)], .ro, 0x00000000, 0x00000000⟩,
  ⟨"KST_SEVn", 0x003800, [(4, 256)], .rt, 0x00000007, 0x00000000⟩,
  ⟨"KST_FLRn", 0x003C00, [(4, 256)], .l, 0x00070007, 0x00000000⟩]

/-- The rows of `regRowsKst` whose reset value is not zero. -/
def resetRowsKst : List RegRow := [
  ]

/-! ## YAR (spec/[19], R493) -/

def R.YAR_STAT : Nat := 0x004000
def F.YAR_STAT.STATE : FRef := ⟨R.YAR_STAT, 31, 28⟩
def F.YAR_STAT.PHASE : FRef := ⟨R.YAR_STAT, 27, 24⟩
def F.YAR_STAT.BUSY : FRef := ⟨R.YAR_STAT, 0, 0⟩
def R.YAR_EVT : Nat := 0x004004
def F.YAR_EVT.DIAG : FRef := ⟨R.YAR_EVT, 10, 10⟩
def F.YAR_EVT.FAIL : FRef := ⟨R.YAR_EVT, 9, 9⟩
def F.YAR_EVT.DONE : FRef := ⟨R.YAR_EVT, 8, 8⟩
def F.YAR_EVT.SEQ : FRef := ⟨R.YAR_EVT, 7, 0⟩
def R.YAR_CMD : Nat := 0x004008
def F.YAR_CMD.START : FRef := ⟨R.YAR_CMD, 31, 31⟩
def F.YAR_CMD.MEMS : FRef := ⟨R.YAR_CMD, 22, 16⟩
def F.YAR_CMD.PARTS : FRef := ⟨R.YAR_CMD, 15, 0⟩
def R.YAR_UNUSABLE : Nat := 0x00400C
def F.YAR_UNUSABLE.VALID : FRef := ⟨R.YAR_UNUSABLE, 31, 31⟩
def F.YAR_UNUSABLE.MEMS : FRef := ⟨R.YAR_UNUSABLE, 22, 16⟩
def F.YAR_UNUSABLE.PARTS : FRef := ⟨R.YAR_UNUSABLE, 15, 0⟩
def R.YAR_STARTRES : Nat := 0x004010
def F.YAR_STARTRES.VALID : FRef := ⟨R.YAR_STARTRES, 31, 31⟩
def F.YAR_STARTRES.MEMS : FRef := ⟨R.YAR_STARTRES, 22, 16⟩
def F.YAR_STARTRES.PARTS : FRef := ⟨R.YAR_STARTRES, 15, 0⟩
def R.YAR_CMDRES : Nat := 0x004014
def F.YAR_CMDRES.VALID : FRef := ⟨R.YAR_CMDRES, 31, 31⟩
def F.YAR_CMDRES.MEMS : FRef := ⟨R.YAR_CMDRES, 22, 16⟩
def F.YAR_CMDRES.PARTS : FRef := ⟨R.YAR_CMDRES, 15, 0⟩
def R.YAR_Pp_SIG (p : Nat) : Nat := 0x004100 + 0x8 * p
def F.YAR_Pp_SIG.SIG (p : Nat) : FRef := ⟨R.YAR_Pp_SIG p, 31, 0⟩
def R.YAR_Pp_EXP (p : Nat) : Nat := 0x004104 + 0x8 * p
def F.YAR_Pp_EXP.SIG (p : Nat) : FRef := ⟨R.YAR_Pp_EXP p, 31, 0⟩
def R.YAR_Mm_FAIL (m : Nat) : Nat := 0x004200 + 0x4 * m
def F.YAR_Mm_FAIL.FAIL (m : Nat) : FRef := ⟨R.YAR_Mm_FAIL m, 31, 31⟩
def F.YAR_Mm_FAIL.WORD (m : Nat) : FRef := ⟨R.YAR_Mm_FAIL m, 15, 0⟩

/-- The rows of the YAR register table. -/
def regRowsYar : List RegRow := [
  ⟨"YAR_STAT", 0x004000, [], .ro, 0x00000000, 0x00000000⟩,
  ⟨"YAR_EVT", 0x004004, [], .sq, 0x00000000, 0x00000000⟩,
  ⟨"YAR_CMD", 0x004008, [], .wo, 0x00000000, 0x00000000⟩,
  ⟨"YAR_UNUSABLE", 0x00400C, [], .ro, 0x00000000, 0x00000000⟩,
  ⟨"YAR_STARTRES", 0x004010, [], .ro, 0x00000000, 0x00000000⟩,
  ⟨"YAR_CMDRES", 0x004014, [], .ro, 0x00000000, 0x00000000⟩,
  ⟨"YAR_Pp_SIG", 0x004100, [(8, 16)], .ro, 0x00000000, 0x00000000⟩,
  ⟨"YAR_Pp_EXP", 0x004104, [(8, 16)], .ro, 0x00000000, 0x00000000⟩,
  ⟨"YAR_Mm_FAIL", 0x004200, [(4, 7)], .ro, 0x00000000, 0x00000000⟩]

/-- The rows of `regRowsYar` whose reset value is not zero. -/
def resetRowsYar : List RegRow := [
  ]

/-! ## LSC (spec/[19], R494) -/

def R.LSC_STAT : Nat := 0x005000
def F.LSC_STAT.MODE : FRef := ⟨R.LSC_STAT, 31, 30⟩
def F.LSC_STAT.INJOK : FRef := ⟨R.LSC_STAT, 29, 29⟩
def F.LSC_STAT.INJSKIP : FRef := ⟨R.LSC_STAT, 28, 28⟩
def F.LSC_STAT.RESTARTS : FRef := ⟨R.LSC_STAT, 15, 8⟩
def R.LSC_EVT : Nat := 0x005004
def F.LSC_EVT.VERDICT : FRef := ⟨R.LSC_EVT, 10, 10⟩
def F.LSC_EVT.INJFAIL : FRef := ⟨R.LSC_EVT, 9, 9⟩
def F.LSC_EVT.MISMATCH : FRef := ⟨R.LSC_EVT, 8, 8⟩
def F.LSC_EVT.SEQ : FRef := ⟨R.LSC_EVT, 7, 0⟩
def R.LSC_MISMATCH : Nat := 0x005008
def F.LSC_MISMATCH.VALID : FRef := ⟨R.LSC_MISMATCH, 31, 31⟩
def F.LSC_MISMATCH.ITEM : FRef := ⟨R.LSC_MISMATCH, 27, 24⟩
def F.LSC_MISMATCH.PC : FRef := ⟨R.LSC_MISMATCH, 17, 0⟩
def R.LSC_VERDICT : Nat := 0x00500C
def F.LSC_VERDICT.VALID : FRef := ⟨R.LSC_VERDICT, 31, 31⟩
def F.LSC_VERDICT.PASSES : FRef := ⟨R.LSC_VERDICT, 9, 8⟩
def F.LSC_VERDICT.MAIN : FRef := ⟨R.LSC_VERDICT, 5, 4⟩
def F.LSC_VERDICT.CHECKER : FRef := ⟨R.LSC_VERDICT, 1, 0⟩
def R.LSC_INJSTAT : Nat := 0x005010
def F.LSC_INJSTAT.VALID : FRef := ⟨R.LSC_INJSTAT, 31, 31⟩
def F.LSC_INJSTAT.RUNS : FRef := ⟨R.LSC_INJSTAT, 30, 12⟩
def F.LSC_INJSTAT.FAILITEM : FRef := ⟨R.LSC_INJSTAT, 11, 8⟩
def F.LSC_INJSTAT.FAILCORE : FRef := ⟨R.LSC_INJSTAT, 7, 7⟩
def R.LSC_STARTCNT : Nat := 0x005014
def F.LSC_STARTCNT.COUNT : FRef := ⟨R.LSC_STARTCNT, 31, 0⟩

/-- The rows of the LSC register table. -/
def regRowsLsc : List RegRow := [
  ⟨"LSC_STAT", 0x005000, [], .ro, 0x00000000, 0x00000000⟩,
  ⟨"LSC_EVT", 0x005004, [], .sq, 0x00000000, 0x00000000⟩,
  ⟨"LSC_MISMATCH", 0x005008, [], .ro, 0x00000000, 0x00000000⟩,
  ⟨"LSC_VERDICT", 0x00500C, [], .ro, 0x00000000, 0x00000000⟩,
  ⟨"LSC_INJSTAT", 0x005010, [], .ro, 0x00000000, 0x00000000⟩,
  ⟨"LSC_STARTCNT", 0x005014, [], .ro, 0x00000000, 0x00000000⟩]

/-- The rows of `regRowsLsc` whose reset value is not zero. -/
def resetRowsLsc : List RegRow := [
  ]

/-! ## SAF (spec/[15], R394) -/

def R.SAF_CTRL : Nat := 0x006000
def F.SAF_CTRL.EN : FRef := ⟨R.SAF_CTRL, 0, 0⟩
def R.SAF_STAT : Nat := 0x006004
def F.SAF_STAT.OKH : FRef := ⟨R.SAF_STAT, 31, 31⟩
def F.SAF_STAT.ALIVE : FRef := ⟨R.SAF_STAT, 30, 30⟩
def F.SAF_STAT.SERVICE : FRef := ⟨R.SAF_STAT, 29, 29⟩
def F.SAF_STAT.SEALOK : FRef := ⟨R.SAF_STAT, 28, 28⟩
def F.SAF_STAT.SBOON : FRef := ⟨R.SAF_STAT, 25, 24⟩
def F.SAF_STAT.PERMIT : FRef := ⟨R.SAF_STAT, 17, 16⟩
def F.SAF_STAT.DEMAND : FRef := ⟨R.SAF_STAT, 3, 0⟩
def R.SAF_EVT : Nat := 0x006008
def F.SAF_EVT.KICK : FRef := ⟨R.SAF_EVT, 14, 14⟩
def F.SAF_EVT.STATUS : FRef := ⟨R.SAF_EVT, 13, 13⟩
def F.SAF_EVT.SBOF : FRef := ⟨R.SAF_EVT, 12, 12⟩
def F.SAF_EVT.SEAL : FRef := ⟨R.SAF_EVT, 11, 11⟩
def F.SAF_EVT.TESTP : FRef := ⟨R.SAF_EVT, 10, 10⟩
def F.SAF_EVT.DISC : FRef := ⟨R.SAF_EVT, 9, 9⟩
def F.SAF_EVT.DEMAND : FRef := ⟨R.SAF_EVT, 8, 8⟩
def F.SAF_EVT.SEQ : FRef := ⟨R.SAF_EVT, 7, 0⟩
def R.SAF_STOCMD : Nat := 0x00600C
def F.SAF_STOCMD.STO : FRef := ⟨R.SAF_STOCMD, 1, 0⟩
def R.SAF_SBOCMD : Nat := 0x006010
def F.SAF_SBOCMD.REL : FRef := ⟨R.SAF_SBOCMD, 1, 0⟩
def R.SAF_KICK : Nat := 0x006014
def F.SAF_KICK.KEY : FRef := ⟨R.SAF_KICK, 15, 0⟩
def R.SAF_SEAL : Nat := 0x006018
def F.SAF_SEAL.OPEN : FRef := ⟨R.SAF_SEAL, 13, 8⟩
def F.SAF_SEAL.READ : FRef := ⟨R.SAF_SEAL, 5, 0⟩
def R.SAF_SEALEXP : Nat := 0x00601C
def F.SAF_SEALEXP.EXP : FRef := ⟨R.SAF_SEALEXP, 5, 0⟩
def R.SAF_STPCFG : Nat := 0x006020
def F.SAF_STPCFG.TPW : FRef := ⟨R.SAF_STPCFG, 13, 8⟩
def F.SAF_STPCFG.TPP : FRef := ⟨R.SAF_STPCFG, 7, 0⟩
def R.SAF_ALIVECFG : Nat := 0x006024
def F.SAF_ALIVECFG.MAXT : FRef := ⟨R.SAF_ALIVECFG, 31, 16⟩
def F.SAF_ALIVECFG.MINT : FRef := ⟨R.SAF_ALIVECFG, 15, 0⟩
def R.SAF_SBOCFG : Nat := 0x006028
def F.SAF_SBOCFG.OLMIN : FRef := ⟨R.SAF_SBOCFG, 23, 16⟩
def F.SAF_SBOCFG.OFFTW : FRef := ⟨R.SAF_SBOCFG, 10, 8⟩
def F.SAF_SBOCFG.OFFTP : FRef := ⟨R.SAF_SBOCFG, 7, 0⟩
def R.SAF_SBOSTAT : Nat := 0x00602C
def F.SAF_SBOSTAT.CAUSE1 : FRef := ⟨R.SAF_SBOSTAT, 13, 12⟩
def F.SAF_SBOSTAT.CAUSE0 : FRef := ⟨R.SAF_SBOSTAT, 9, 8⟩
def F.SAF_SBOSTAT.TEST : FRef := ⟨R.SAF_SBOSTAT, 3, 2⟩
def F.SAF_SBOSTAT.SBOF : FRef := ⟨R.SAF_SBOSTAT, 1, 0⟩
def R.SAF_SINp_CFG (p : Nat) : Nat := 0x006100 + 0x10 * p
def F.SAF_SINp_CFG.USE (p : Nat) : FRef := ⟨R.SAF_SINp_CFG p, 31, 31⟩
def F.SAF_SINp_CFG.TYPE (p : Nat) : FRef := ⟨R.SAF_SINp_CFG p, 30, 30⟩
def F.SAF_SINp_CFG.STPA (p : Nat) : FRef := ⟨R.SAF_SINp_CFG p, 29, 29⟩
def F.SAF_SINp_CFG.STPB (p : Nat) : FRef := ⟨R.SAF_SINp_CFG p, 28, 28⟩
def F.SAF_SINp_CFG.SFILT (p : Nat) : FRef := ⟨R.SAF_SINp_CFG p, 27, 24⟩
def F.SAF_SINp_CFG.DISC (p : Nat) : FRef := ⟨R.SAF_SINp_CFG p, 23, 16⟩
def F.SAF_SINp_CFG.SERVICE (p : Nat) : FRef := ⟨R.SAF_SINp_CFG p, 10, 10⟩
def F.SAF_SINp_CFG.BRK (p : Nat) : FRef := ⟨R.SAF_SINp_CFG p, 9, 8⟩
def F.SAF_SINp_CFG.STO (p : Nat) : FRef := ⟨R.SAF_SINp_CFG p, 1, 0⟩
def R.SAF_SINp_STAT (p : Nat) : Nat := 0x006104 + 0x10 * p
def F.SAF_SINp_STAT.STATE (p : Nat) : FRef := ⟨R.SAF_SINp_STAT p, 31, 29⟩
def F.SAF_SINp_STAT.TPFB (p : Nat) : FRef := ⟨R.SAF_SINp_STAT p, 9, 9⟩
def F.SAF_SINp_STAT.TPFA (p : Nat) : FRef := ⟨R.SAF_SINp_STAT p, 8, 8⟩
def F.SAF_SINp_STAT.B (p : Nat) : FRef := ⟨R.SAF_SINp_STAT p, 1, 1⟩
def F.SAF_SINp_STAT.A (p : Nat) : FRef := ⟨R.SAF_SINp_STAT p, 0, 0⟩
def R.SAF_SINp_CNT (p : Nat) : Nat := 0x006108 + 0x10 * p
def F.SAF_SINp_CNT.ACTIVATIONS (p : Nat) : FRef := ⟨R.SAF_SINp_CNT p, 31, 16⟩
def F.SAF_SINp_CNT.DISCS (p : Nat) : FRef := ⟨R.SAF_SINp_CNT p, 15, 8⟩
def F.SAF_SINp_CNT.TPFAILS (p : Nat) : FRef := ⟨R.SAF_SINp_CNT p, 7, 0⟩

/-- The rows of the SAF register table. -/
def regRowsSaf : List RegRow := [
  ⟨"SAF_CTRL", 0x006000, [], .rt, 0x00000001, 0x00000000⟩,
  ⟨"SAF_STAT", 0x006004, [], .ro, 0x00000000, 0x00000000⟩,
  ⟨"SAF_EVT", 0x006008, [], .sq, 0x00000000, 0x00000000⟩,
  ⟨"SAF_STOCMD", 0x00600C, [], .rt, 0x00000003, 0x00000000⟩,
  ⟨"SAF_SBOCMD", 0x006010, [], .rt, 0x00000003, 0x00000000⟩,
  ⟨"SAF_KICK", 0x006014, [], .wo, 0x00000000, 0x00000000⟩,
  ⟨"SAF_SEAL", 0x006018, [], .ro, 0x00000000, 0x00000000⟩,
  ⟨"SAF_SEALEXP", 0x00601C, [], .l, 0x0000003F, 0x00000000⟩,
  ⟨"SAF_STPCFG", 0x006020, [], .l, 0x00003FFF, 0x00000A14⟩,
  ⟨"SAF_ALIVECFG", 0x006024, [], .l, 0xFFFFFFFF, 0x0CCD0148⟩,
  ⟨"SAF_SBOCFG", 0x006028, [], .l, 0x00FF07FF, 0x00050320⟩,
  ⟨"SAF_SBOSTAT", 0x00602C, [], .ro, 0x00000000, 0x00000000⟩,
  ⟨"SAF_SINp_CFG", 0x006100, [(16, 4)], .l, 0xFFFF0703, 0x00000000⟩,
  ⟨"SAF_SINp_STAT", 0x006104, [(16, 4)], .ro, 0x00000000, 0x00000000⟩,
  ⟨"SAF_SINp_CNT", 0x006108, [(16, 4)], .ro, 0x00000000, 0x00000000⟩]

/-- The rows of `regRowsSaf` whose reset value is not zero. -/
def resetRowsSaf : List RegRow := [
  ⟨"SAF_STPCFG", 0x006020, [], .l, 0x00003FFF, 0x00000A14⟩,
  ⟨"SAF_ALIVECFG", 0x006024, [], .l, 0xFFFFFFFF, 0x0CCD0148⟩,
  ⟨"SAF_SBOCFG", 0x006028, [], .l, 0x00FF07FF, 0x00050320⟩]

/-! ## LNT (spec/[16], R417) -/

def R.LNT_CTRL : Nat := 0x007000
def F.LNT_CTRL.EN : FRef := ⟨R.LNT_CTRL, 0, 0⟩
def R.LNT_ROLE : Nat := 0x007004
def F.LNT_ROLE.ROLE : FRef := ⟨R.LNT_ROLE, 31, 29⟩
def F.LNT_ROLE.ELIG : FRef := ⟨R.LNT_ROLE, 28, 28⟩
def F.LNT_ROLE.ISOL : FRef := ⟨R.LNT_ROLE, 27, 27⟩
def F.LNT_ROLE.PEERROLE : FRef := ⟨R.LNT_ROLE, 23, 21⟩
def F.LNT_ROLE.PEERELIG : FRef := ⟨R.LNT_ROLE, 20, 20⟩
def F.LNT_ROLE.PEERHB : FRef := ⟨R.LNT_ROLE, 19, 19⟩
def F.LNT_ROLE.EPOCH : FRef := ⟨R.LNT_ROLE, 15, 8⟩
def R.LNT_ROLECMD : Nat := 0x007008
def F.LNT_ROLECMD.HANDOVER : FRef := ⟨R.LNT_ROLECMD, 0, 0⟩
def R.LNT_EVT : Nat := 0x00700C
def F.LNT_EVT.DUAL : FRef := ⟨R.LNT_EVT, 13, 13⟩
def F.LNT_EVT.MIRROR : FRef := ⟨R.LNT_EVT, 12, 12⟩
def F.LNT_EVT.CKSKIP : FRef := ⟨R.LNT_EVT, 11, 11⟩
def F.LNT_EVT.LINK : FRef := ⟨R.LNT_EVT, 10, 10⟩
def F.LNT_EVT.HBLOST : FRef := ⟨R.LNT_EVT, 9, 9⟩
def F.LNT_EVT.ROLE : FRef := ⟨R.LNT_EVT, 8, 8⟩
def F.LNT_EVT.SEQ : FRef := ⟨R.LNT_EVT, 7, 0⟩
def R.LNT_PERMIT : Nat := 0x007010
def F.LNT_PERMIT.PEERWAIT : FRef := ⟨R.LNT_PERMIT, 31, 16⟩
def F.LNT_PERMIT.GWLANE : FRef := ⟨R.LNT_PERMIT, 15, 14⟩
def F.LNT_PERMIT.SOLO : FRef := ⟨R.LNT_PERMIT, 13, 13⟩
def F.LNT_PERMIT.DIRECTPINS : FRef := ⟨R.LNT_PERMIT, 12, 12⟩
def F.LNT_PERMIT.SINGLECORE : FRef := ⟨R.LNT_PERMIT, 11, 11⟩
def F.LNT_PERMIT.NODE2 : FRef := ⟨R.LNT_PERMIT, 9, 5⟩
def F.LNT_PERMIT.NODE1 : FRef := ⟨R.LNT_PERMIT, 4, 0⟩
def R.LNT_HBSTAT : Nat := 0x007014
def F.LNT_HBSTAT.LOST : FRef := ⟨R.LNT_HBSTAT, 31, 31⟩
def F.LNT_HBSTAT.LINKUP : FRef := ⟨R.LNT_HBSTAT, 30, 30⟩
def F.LNT_HBSTAT.AGE : FRef := ⟨R.LNT_HBSTAT, 15, 0⟩
def R.LNT_PEERHB : Nat := 0x007018
def F.LNT_PEERHB.WORD : FRef := ⟨R.LNT_PEERHB, 31, 0⟩
def R.LNT_GWCFG : Nat := 0x00701C
def F.LNT_GWCFG.PEERBUF : FRef := ⟨R.LNT_GWCFG, 15, 8⟩
def F.LNT_GWCFG.OWNBUF : FRef := ⟨R.LNT_GWCFG, 7, 0⟩
def R.LNT_GWSTAT : Nat := 0x007020
def F.LNT_GWSTAT.QUIET : FRef := ⟨R.LNT_GWSTAT, 15, 8⟩
def F.LNT_GWSTAT.PEERAGE : FRef := ⟨R.LNT_GWSTAT, 7, 0⟩
def R.LNT_CKSTAT : Nat := 0x007024
def F.LNT_CKSTAT.VALID : FRef := ⟨R.LNT_CKSTAT, 31, 31⟩
def F.LNT_CKSTAT.ORIGIN : FRef := ⟨R.LNT_CKSTAT, 30, 30⟩
def F.LNT_CKSTAT.CUR : FRef := ⟨R.LNT_CKSTAT, 29, 29⟩
def F.LNT_CKSTAT.RESYNC : FRef := ⟨R.LNT_CKSTAT, 28, 28⟩
def F.LNT_CKSTAT.QLEN : FRef := ⟨R.LNT_CKSTAT, 10, 0⟩
def R.LNT_CKSEQ : Nat := 0x007028
def F.LNT_CKSEQ.SEQ : FRef := ⟨R.LNT_CKSEQ, 31, 0⟩
def R.LNT_CKCNT : Nat := 0x00702C
def F.LNT_CKCNT.SKIP : FRef := ⟨R.LNT_CKCNT, 31, 16⟩
def F.LNT_CKCNT.MFAIL : FRef := ⟨R.LNT_CKCNT, 15, 0⟩
def R.LNT_TKSTAT : Nat := 0x007030
def F.LNT_TKSTAT.COUNT : FRef := ⟨R.LNT_TKSTAT, 31, 24⟩
def F.LNT_TKSTAT.NOCK : FRef := ⟨R.LNT_TKSTAT, 23, 23⟩
def F.LNT_TKSTAT.REJ : FRef := ⟨R.LNT_TKSTAT, 22, 16⟩
def F.LNT_TKSTAT.LAST : FRef := ⟨R.LNT_TKSTAT, 15, 0⟩
def R.LNT_LINKCNT : Nat := 0x007034
def F.LNT_LINKCNT.CRCERR : FRef := ⟨R.LNT_LINKCNT, 31, 16⟩
def F.LNT_LINKCNT.LOCKLOSS : FRef := ⟨R.LNT_LINKCNT, 15, 0⟩

/-- The rows of the LNT register table. -/
def regRowsLnt : List RegRow := [
  ⟨"LNT_CTRL", 0x007000, [], .rt, 0x00000001, 0x00000000⟩,
  ⟨"LNT_ROLE", 0x007004, [], .ro, 0x00000000, 0x00000000⟩,
  ⟨"LNT_ROLECMD", 0x007008, [], .wo, 0x00000000, 0x00000000⟩,
  ⟨"LNT_EVT", 0x00700C, [], .sq, 0x00000000, 0x00000000⟩,
  ⟨"LNT_PERMIT", 0x007010, [], .l, 0xFFFFFBFF, 0x00000000⟩,
  ⟨"LNT_HBSTAT", 0x007014, [], .ro, 0x00000000, 0x00000000⟩,
  ⟨"LNT_PEERHB", 0x007018, [], .ro, 0x00000000, 0x00000000⟩,
  ⟨"LNT_GWCFG", 0x00701C, [], .c, 0x0000FFFF, 0x00000000⟩,
  ⟨"LNT_GWSTAT", 0x007020, [], .ro, 0x00000000, 0x00000000⟩,
  ⟨"LNT_CKSTAT", 0x007024, [], .ro, 0x00000000, 0x00000000⟩,
  ⟨"LNT_CKSEQ", 0x007028, [], .ro, 0x00000000, 0x00000000⟩,
  ⟨"LNT_CKCNT", 0x00702C, [], .ro, 0x00000000, 0x00000000⟩,
  ⟨"LNT_TKSTAT", 0x007030, [], .ro, 0x00000000, 0x00000000⟩,
  ⟨"LNT_LINKCNT", 0x007034, [], .ro, 0x00000000, 0x00000000⟩]

/-- The rows of `regRowsLnt` whose reset value is not zero. -/
def resetRowsLnt : List RegRow := [
  ]

/-! ## PWM (spec/[04], R124) -/

def R.PWM_CTRL : Nat := 0x010000
def F.PWM_CTRL.EN : FRef := ⟨R.PWM_CTRL, 0, 0⟩
def R.PWM_START : Nat := 0x010004
def F.PWM_START.STOP : FRef := ⟨R.PWM_START, 6, 4⟩
def F.PWM_START.START : FRef := ⟨R.PWM_START, 2, 0⟩
def R.PWM_LOADALL : Nat := 0x010008
def F.PWM_LOADALL.ARM : FRef := ⟨R.PWM_LOADALL, 2, 0⟩
def R.PWM_STAT : Nat := 0x01000C
def F.PWM_STAT.DIR : FRef := ⟨R.PWM_STAT, 10, 8⟩
def F.PWM_STAT.ARMED : FRef := ⟨R.PWM_STAT, 6, 4⟩
def F.PWM_STAT.RUN : FRef := ⟨R.PWM_STAT, 2, 0⟩
def R.PWM_GRPCMD : Nat := 0x010010
def F.PWM_GRPCMD.CMD_L7 : FRef := ⟨R.PWM_GRPCMD, 5, 4⟩
def F.PWM_GRPCMD.CMD_M1 : FRef := ⟨R.PWM_GRPCMD, 3, 2⟩
def F.PWM_GRPCMD.CMD_M0 : FRef := ⟨R.PWM_GRPCMD, 1, 0⟩
def R.PWM_GRPSTAT : Nat := 0x010014
def F.PWM_GRPSTAT.CYC : FRef := ⟨R.PWM_GRPSTAT, 18, 16⟩
def F.PWM_GRPSTAT.ST_L7 : FRef := ⟨R.PWM_GRPSTAT, 10, 8⟩
def F.PWM_GRPSTAT.ST_M1 : FRef := ⟨R.PWM_GRPSTAT, 6, 4⟩
def F.PWM_GRPSTAT.ST_M0 : FRef := ⟨R.PWM_GRPSTAT, 2, 0⟩
def R.PWM_TRIPSTAT : Nat := 0x010018
def F.PWM_TRIPSTAT.FIRST : FRef := ⟨R.PWM_TRIPSTAT, 30, 28⟩
def F.PWM_TRIPSTAT.EVT : FRef := ⟨R.PWM_TRIPSTAT, 11, 8⟩
def F.PWM_TRIPSTAT.SEQ : FRef := ⟨R.PWM_TRIPSTAT, 7, 0⟩
def R.PWM_TRIPCLR : Nat := 0x01001C
def F.PWM_TRIPCLR.REL : FRef := ⟨R.PWM_TRIPCLR, 3, 0⟩
def R.PWM_TRIPIN : Nat := 0x010020
def F.PWM_TRIPIN.LATCH : FRef := ⟨R.PWM_TRIPIN, 11, 8⟩
def F.PWM_TRIPIN.FILT : FRef := ⟨R.PWM_TRIPIN, 7, 4⟩
def F.PWM_TRIPIN.RAW : FRef := ⟨R.PWM_TRIPIN, 3, 0⟩
def R.PWM_TBb_CFG (b : Nat) : Nat := 0x010100 + 0x40 * b
def F.PWM_TBb_CFG.SRC (b : Nat) : FRef := ⟨R.PWM_TBb_CFG b, 4, 4⟩
def F.PWM_TBb_CFG.MODE (b : Nat) : FRef := ⟨R.PWM_TBb_CFG b, 3, 2⟩
def F.PWM_TBb_CFG.DIV (b : Nat) : FRef := ⟨R.PWM_TBb_CFG b, 1, 0⟩
def R.PWM_TBb_LDCFG (b : Nat) : Nat := 0x010104 + 0x40 * b
def F.PWM_TBb_LDCFG.LOADMODE (b : Nat) : FRef := ⟨R.PWM_TBb_LDCFG b, 4, 4⟩
def F.PWM_TBb_LDCFG.LOADPT (b : Nat) : FRef := ⟨R.PWM_TBb_LDCFG b, 1, 0⟩
def R.PWM_TBb_PER (b : Nat) : Nat := 0x010108 + 0x40 * b
def F.PWM_TBb_PER.PER (b : Nat) : FRef := ⟨R.PWM_TBb_PER b, 15, 0⟩
def R.PWM_TBb_PERACT (b : Nat) : Nat := 0x01010C + 0x40 * b
def F.PWM_TBb_PERACT.TRIM (b : Nat) : FRef := ⟨R.PWM_TBb_PERACT b, 31, 16⟩
def F.PWM_TBb_PERACT.PER (b : Nat) : FRef := ⟨R.PWM_TBb_PERACT b, 15, 0⟩
def R.PWM_TBb_CNT (b : Nat) : Nat := 0x010110 + 0x40 * b
def F.PWM_TBb_CNT.RUN (b : Nat) : FRef := ⟨R.PWM_TBb_CNT b, 17, 17⟩
def F.PWM_TBb_CNT.DIR (b : Nat) : FRef := ⟨R.PWM_TBb_CNT b, 16, 16⟩
def F.PWM_TBb_CNT.CNT (b : Nat) : FRef := ⟨R.PWM_TBb_CNT b, 15, 0⟩
def R.PWM_TBb_PHASE (b : Nat) : Nat := 0x010114 + 0x40 * b
def F.PWM_TBb_PHASE.DIR (b : Nat) : FRef := ⟨R.PWM_TBb_PHASE b, 16, 16⟩
def F.PWM_TBb_PHASE.VALUE (b : Nat) : FRef := ⟨R.PWM_TBb_PHASE b, 15, 0⟩
def R.PWM_TBb_ECMPA (b : Nat) : Nat := 0x010118 + 0x40 * b
def F.PWM_TBb_ECMPA.QUAL (b : Nat) : FRef := ⟨R.PWM_TBb_ECMPA b, 17, 16⟩
def F.PWM_TBb_ECMPA.VALUE (b : Nat) : FRef := ⟨R.PWM_TBb_ECMPA b, 15, 0⟩
def R.PWM_TBb_ECMPB (b : Nat) : Nat := 0x01011C + 0x40 * b
def F.PWM_TBb_ECMPB.QUAL (b : Nat) : FRef := ⟨R.PWM_TBb_ECMPB b, 17, 16⟩
def F.PWM_TBb_ECMPB.VALUE (b : Nat) : FRef := ⟨R.PWM_TBb_ECMPB b, 15, 0⟩
def R.PWM_TBb_PSp (b p : Nat) : Nat := 0x010120 + 0x40 * b + 0x4 * p
def F.PWM_TBb_PSp.PHASE (b p : Nat) : FRef := ⟨R.PWM_TBb_PSp b p, 23, 16⟩
def F.PWM_TBb_PSp.RATIO (b p : Nat) : FRef := ⟨R.PWM_TBb_PSp b p, 15, 8⟩
def F.PWM_TBb_PSp.BASE (b p : Nat) : FRef := ⟨R.PWM_TBb_PSp b p, 2, 0⟩
def R.PWM_TRIPt_CFG (t : Nat) : Nat := 0x010200 + 0x10 * t
def F.PWM_TRIPt_CFG.EN (t : Nat) : FRef := ⟨R.PWM_TRIPt_CFG t, 18, 18⟩
def F.PWM_TRIPt_CFG.MODE (t : Nat) : FRef := ⟨R.PWM_TRIPt_CFG t, 17, 17⟩
def F.PWM_TRIPt_CFG.POL (t : Nat) : FRef := ⟨R.PWM_TRIPt_CFG t, 16, 16⟩
def F.PWM_TRIPt_CFG.FILT (t : Nat) : FRef := ⟨R.PWM_TRIPt_CFG t, 9, 0⟩
def R.PWM_TRIPt_ROUTE (t : Nat) : Nat := 0x010204 + 0x10 * t
def F.PWM_TRIPt_ROUTE.GROUPS (t : Nat) : FRef := ⟨R.PWM_TRIPt_ROUTE t, 2, 0⟩
def R.PWM_TRIPt_CNT (t : Nat) : Nat := 0x010208 + 0x10 * t
def F.PWM_TRIPt_CNT.COUNT (t : Nat) : FRef := ⟨R.PWM_TRIPt_CNT t, 31, 0⟩
def R.PWM_LEGn_CMP (n : Nat) : Nat := 0x010400 + 0x20 * (n - 1)
def F.PWM_LEGn_CMP.CMP (n : Nat) : FRef := ⟨R.PWM_LEGn_CMP n, 15, 0⟩
def R.PWM_LEGn_DT (n : Nat) : Nat := 0x010404 + 0x20 * (n - 1)
def F.PWM_LEGn_DT.FALL (n : Nat) : FRef := ⟨R.PWM_LEGn_DT n, 25, 16⟩
def F.PWM_LEGn_DT.RISE (n : Nat) : FRef := ⟨R.PWM_LEGn_DT n, 9, 0⟩
def R.PWM_LEGn_OUT (n : Nat) : Nat := 0x010408 + 0x20 * (n - 1)
def F.PWM_LEGn_OUT.MODE (n : Nat) : FRef := ⟨R.PWM_LEGn_OUT n, 1, 0⟩
def R.PWM_LEGn_ACT (n : Nat) : Nat := 0x01040C + 0x20 * (n - 1)
def F.PWM_LEGn_ACT.OVR (n : Nat) : FRef := ⟨R.PWM_LEGn_ACT n, 19, 19⟩
def F.PWM_LEGn_ACT.L (n : Nat) : FRef := ⟨R.PWM_LEGn_ACT n, 18, 18⟩
def F.PWM_LEGn_ACT.H (n : Nat) : FRef := ⟨R.PWM_LEGn_ACT n, 17, 17⟩
def F.PWM_LEGn_ACT.REF (n : Nat) : FRef := ⟨R.PWM_LEGn_ACT n, 16, 16⟩
def F.PWM_LEGn_ACT.CMP (n : Nat) : FRef := ⟨R.PWM_LEGn_ACT n, 15, 0⟩

/-- The rows of the PWM register table. -/
def regRowsPwm : List RegRow := [
  ⟨"PWM_CTRL", 0x010000, [], .rt, 0x00000001, 0x00000000⟩,
  ⟨"PWM_START", 0x010004, [], .wo, 0x00000000, 0x00000000⟩,
  ⟨"PWM_LOADALL", 0x010008, [], .wo, 0x00000000, 0x00000000⟩,
  ⟨"PWM_STAT", 0x01000C, [], .ro, 0x00000000, 0x00000000⟩,
  ⟨"PWM_GRPCMD", 0x010010, [], .wo, 0x00000000, 0x00000000⟩,
  ⟨"PWM_GRPSTAT", 0x010014, [], .ro, 0x00000000, 0x00000000⟩,
  ⟨"PWM_TRIPSTAT", 0x010018, [], .sq, 0x00000000, 0x00000000⟩,
  ⟨"PWM_TRIPCLR", 0x01001C, [], .wo, 0x00000000, 0x00000000⟩,
  ⟨"PWM_TRIPIN", 0x010020, [], .ro, 0x00000000, 0x00000000⟩,
  ⟨"PWM_TBb_CFG", 0x010100, [(64, 3)], .l, 0x0000001F, 0x00000000⟩,
  ⟨"PWM_TBb_LDCFG", 0x010104, [(64, 3)], .c, 0x00000013, 0x00000000⟩,
  ⟨"PWM_TBb_PER", 0x010108, [(64, 3)], .rt, 0x0000FFFF, 0x0000FFFF⟩,
  ⟨"PWM_TBb_PERACT", 0x01010C, [(64, 3)], .ro, 0x00000000, 0x0000FFFF⟩,
  ⟨"PWM_TBb_CNT", 0x010110, [(64, 3)], .ro, 0x00000000, 0x00000000⟩,
  ⟨"PWM_TBb_PHASE", 0x010114, [(64, 3)], .c, 0x0001FFFF, 0x00000000⟩,
  ⟨"PWM_TBb_ECMPA", 0x010118, [(64, 3)], .rt, 0x0003FFFF, 0x00000000⟩,
  ⟨"PWM_TBb_ECMPB", 0x01011C, [(64, 3)], .rt, 0x0003FFFF, 0x00000000⟩,
  ⟨"PWM_TBb_PSp", 0x010120, [(64, 3), (4, 3)], .c, 0x00FFFF07, 0x00000000⟩,
  ⟨"PWM_TRIPt_CFG", 0x010200, [(16, 4)], .c, 0x000703FF, 0x00000002⟩,
  ⟨"PWM_TRIPt_ROUTE", 0x010204, [(16, 4)], .l, 0x00000007, 0x00000000⟩,
  ⟨"PWM_TRIPt_CNT", 0x010208, [(16, 4)], .ro, 0x00000000, 0x00000000⟩,
  ⟨"PWM_LEGn_CMP", 0x010400, [(32, 7)], .rt, 0x0000FFFF, 0x0000FFFF⟩,
  ⟨"PWM_LEGn_DT", 0x010404, [(32, 7)], .rt, 0x03FF03FF, 0x00640064⟩,
  ⟨"PWM_LEGn_OUT", 0x010408, [(32, 7)], .c, 0x00000003, 0x00000000⟩,
  ⟨"PWM_LEGn_ACT", 0x01040C, [(32, 7)], .ro, 0x00000000, 0x0000FFFF⟩]

/-- The rows of `regRowsPwm` whose reset value is not zero. -/
def resetRowsPwm : List RegRow := [
  ⟨"PWM_TBb_PER", 0x010108, [(64, 3)], .rt, 0x0000FFFF, 0x0000FFFF⟩,
  ⟨"PWM_TBb_PERACT", 0x01010C, [(64, 3)], .ro, 0x00000000, 0x0000FFFF⟩,
  ⟨"PWM_TRIPt_CFG", 0x010200, [(16, 4)], .c, 0x000703FF, 0x00000002⟩,
  ⟨"PWM_LEGn_CMP", 0x010400, [(32, 7)], .rt, 0x0000FFFF, 0x0000FFFF⟩,
  ⟨"PWM_LEGn_DT", 0x010404, [(32, 7)], .rt, 0x03FF03FF, 0x00640064⟩,
  ⟨"PWM_LEGn_ACT", 0x01040C, [(32, 7)], .ro, 0x00000000, 0x0000FFFF⟩]

/-! ## GDV (spec/[05], R153) -/

def R.GDV_CTRL : Nat := 0x014000
def F.GDV_CTRL.EN : FRef := ⟨R.GDV_CTRL, 0, 0⟩
def R.GDV_STAT : Nat := 0x014004
def F.GDV_STAT.LINK : FRef := ⟨R.GDV_STAT, 31, 30⟩
def F.GDV_STAT.DIRECT : FRef := ⟨R.GDV_STAT, 29, 29⟩
def F.GDV_STAT.CPOK : FRef := ⟨R.GDV_STAT, 28, 28⟩
def F.GDV_STAT.VGDOK : FRef := ⟨R.GDV_STAT, 27, 27⟩
def F.GDV_STAT.REFLOST : FRef := ⟨R.GDV_STAT, 26, 26⟩
def F.GDV_STAT.BUSY : FRef := ⟨R.GDV_STAT, 25, 25⟩
def R.GDV_EVT : Nat := 0x014008
def F.GDV_EVT.FEED : FRef := ⟨R.GDV_EVT, 13, 13⟩
def F.GDV_EVT.FRAME : FRef := ⟨R.GDV_EVT, 12, 12⟩
def F.GDV_EVT.LINKF : FRef := ⟨R.GDV_EVT, 11, 11⟩
def F.GDV_EVT.UVLO : FRef := ⟨R.GDV_EVT, 10, 10⟩
def F.GDV_EVT.ILK : FRef := ⟨R.GDV_EVT, 9, 9⟩
def F.GDV_EVT.REFLEX : FRef := ⟨R.GDV_EVT, 8, 8⟩
def F.GDV_EVT.SEQ : FRef := ⟨R.GDV_EVT, 7, 0⟩
def R.GDV_GCLCMD : Nat := 0x01400C
def F.GDV_GCLCMD.REARM : FRef := ⟨R.GDV_GCLCMD, 0, 0⟩
def R.GDV_GCLERR : Nat := 0x014010
def F.GDV_GCLERR.UPBAD : FRef := ⟨R.GDV_GCLERR, 31, 16⟩
def F.GDV_GCLERR.DNBAD : FRef := ⟨R.GDV_GCLERR, 15, 0⟩
def R.GDV_FEEDCFG : Nat := 0x014014
def F.GDV_FEEDCFG.SYSV : FRef := ⟨R.GDV_FEEDCFG, 5, 4⟩
def F.GDV_FEEDCFG.FEEDS : FRef := ⟨R.GDV_FEEDCFG, 1, 0⟩
def R.GDV_RBCTL : Nat := 0x014018
def F.GDV_RBCTL.EN : FRef := ⟨R.GDV_RBCTL, 1, 0⟩
def R.GDV_RBSTAT : Nat := 0x01401C
def F.GDV_RBSTAT.FEED2 : FRef := ⟨R.GDV_RBSTAT, 11, 8⟩
def F.GDV_RBSTAT.FEED1 : FRef := ⟨R.GDV_RBSTAT, 3, 0⟩
def R.GDV_REFLEX : Nat := 0x014020
def F.GDV_REFLEX.HARD : FRef := ⟨R.GDV_REFLEX, 29, 16⟩
def F.GDV_REFLEX.LATCH : FRef := ⟨R.GDV_REFLEX, 13, 0⟩
def R.GDV_UVLO : Nat := 0x014024
def F.GDV_UVLO.LATCH : FRef := ⟨R.GDV_UVLO, 29, 16⟩
def F.GDV_UVLO.LIVE : FRef := ⟨R.GDV_UVLO, 13, 0⟩
def R.GDV_CLR : Nat := 0x014028
def F.GDV_CLR.UVLO : FRef := ⟨R.GDV_CLR, 29, 16⟩
def F.GDV_CLR.REFLEX : FRef := ⟨R.GDV_CLR, 13, 0⟩
def R.GDV_REQ : Nat := 0x01402C
def F.GDV_REQ.REQ_L7 : FRef := ⟨R.GDV_REQ, 10, 8⟩
def F.GDV_REQ.REQ_M1 : FRef := ⟨R.GDV_REQ, 6, 4⟩
def F.GDV_REQ.REQ_M0 : FRef := ⟨R.GDV_REQ, 2, 0⟩
def R.GDV_CHKCMD : Nat := 0x014030
def F.GDV_CHKCMD.KIND : FRef := ⟨R.GDV_CHKCMD, 17, 16⟩
def F.GDV_CHKCMD.TARGET : FRef := ⟨R.GDV_CHKCMD, 3, 0⟩
def R.GDV_CHKSTAT : Nat := 0x014034
def F.GDV_CHKSTAT.RESULT : FRef := ⟨R.GDV_CHKSTAT, 31, 28⟩
def F.GDV_CHKSTAT.KIND : FRef := ⟨R.GDV_CHKSTAT, 27, 26⟩
def F.GDV_CHKSTAT.TARGET : FRef := ⟨R.GDV_CHKSTAT, 25, 22⟩
def F.GDV_CHKSTAT.DONE : FRef := ⟨R.GDV_CHKSTAT, 8, 8⟩
def F.GDV_CHKSTAT.SEQ : FRef := ⟨R.GDV_CHKSTAT, 7, 0⟩
def R.GDV_CHKRES : Nat := 0x014038
def F.GDV_CHKRES.TCH : FRef := ⟨R.GDV_CHKRES, 31, 16⟩
def F.GDV_CHKRES.VEND : FRef := ⟨R.GDV_CHKRES, 11, 0⟩
def R.GDV_LEAKLIM : Nat := 0x01403C
def F.GDV_LEAKLIM.TMIN : FRef := ⟨R.GDV_LEAKLIM, 31, 16⟩
def F.GDV_LEAKLIM.VMIN : FRef := ⟨R.GDV_LEAKLIM, 11, 0⟩
def R.GDV_DGPIN : Nat := 0x014040
def F.GDV_DGPIN.LEVEL : FRef := ⟨R.GDV_DGPIN, 13, 0⟩
def R.GDV_ILKCNT : Nat := 0x014044
def F.GDV_ILKCNT.COUNT : FRef := ⟨R.GDV_ILKCNT, 31, 0⟩
def R.GDV_LEGn_STR (n : Nat) : Nat := 0x014100 + 0x20 * (n - 1)
def F.GDV_LEGn_STR.OFF_L (n : Nat) : FRef := ⟨R.GDV_LEGn_STR n, 26, 24⟩
def F.GDV_LEGn_STR.ON_L (n : Nat) : FRef := ⟨R.GDV_LEGn_STR n, 18, 16⟩
def F.GDV_LEGn_STR.OFF_H (n : Nat) : FRef := ⟨R.GDV_LEGn_STR n, 10, 8⟩
def F.GDV_LEGn_STR.ON_H (n : Nat) : FRef := ⟨R.GDV_LEGn_STR n, 2, 0⟩
def R.GDV_LEGn_BLANK (n : Nat) : Nat := 0x014104 + 0x20 * (n - 1)
def F.GDV_LEGn_BLANK.BLANK_L (n : Nat) : FRef := ⟨R.GDV_LEGn_BLANK n, 25, 16⟩
def F.GDV_LEGn_BLANK.BLANK_H (n : Nat) : FRef := ⟨R.GDV_LEGn_BLANK n, 9, 0⟩
def R.GDV_LEGn_THR (n : Nat) : Nat := 0x014108 + 0x20 * (n - 1)
def F.GDV_LEGn_THR.HARD_L (n : Nat) : FRef := ⟨R.GDV_LEGn_THR n, 31, 24⟩
def F.GDV_LEGn_THR.SOFT_L (n : Nat) : FRef := ⟨R.GDV_LEGn_THR n, 23, 16⟩
def F.GDV_LEGn_THR.HARD_H (n : Nat) : FRef := ⟨R.GDV_LEGn_THR n, 15, 8⟩
def F.GDV_LEGn_THR.SOFT_H (n : Nat) : FRef := ⟨R.GDV_LEGn_THR n, 7, 0⟩
def R.GDV_LEGn_QUAL (n : Nat) : Nat := 0x01410C + 0x20 * (n - 1)
def F.GDV_LEGn_QUAL.SOFTQ_L (n : Nat) : FRef := ⟨R.GDV_LEGn_QUAL n, 11, 8⟩
def F.GDV_LEGn_QUAL.SOFTQ_H (n : Nat) : FRef := ⟨R.GDV_LEGn_QUAL n, 3, 0⟩
def R.GDV_LEGn_CNT (n : Nat) : Nat := 0x014110 + 0x20 * (n - 1)
def F.GDV_LEGn_CNT.CLR_L (n : Nat) : FRef := ⟨R.GDV_LEGn_CNT n, 31, 28⟩
def F.GDV_LEGn_CNT.CLR_H (n : Nat) : FRef := ⟨R.GDV_LEGn_CNT n, 27, 24⟩
def F.GDV_LEGn_CNT.REF_L (n : Nat) : FRef := ⟨R.GDV_LEGn_CNT n, 23, 20⟩
def F.GDV_LEGn_CNT.REF_H (n : Nat) : FRef := ⟨R.GDV_LEGn_CNT n, 19, 16⟩
def F.GDV_LEGn_CNT.BLNKSOFT (n : Nat) : FRef := ⟨R.GDV_LEGn_CNT n, 15, 8⟩
def F.GDV_LEGn_CNT.DEFER (n : Nat) : FRef := ⟨R.GDV_LEGn_CNT n, 7, 0⟩
def R.GDV_LEGn_CHK (n : Nat) : Nat := 0x014114 + 0x20 * (n - 1)
def F.GDV_LEGn_CHK.LEAK_L (n : Nat) : FRef := ⟨R.GDV_LEGn_CHK n, 2, 2⟩
def F.GDV_LEGn_CHK.LEAK_H (n : Nat) : FRef := ⟨R.GDV_LEGn_CHK n, 1, 1⟩
def F.GDV_LEGn_CHK.STEST (n : Nat) : FRef := ⟨R.GDV_LEGn_CHK n, 0, 0⟩

/-- The rows of the GDV register table. -/
def regRowsGdv : List RegRow := [
  ⟨"GDV_CTRL", 0x014000, [], .rt, 0x00000001, 0x00000000⟩,
  ⟨"GDV_STAT", 0x014004, [], .ro, 0x00000000, 0x00000000⟩,
  ⟨"GDV_EVT", 0x014008, [], .sq, 0x00000000, 0x00000000⟩,
  ⟨"GDV_GCLCMD", 0x01400C, [], .wo, 0x00000000, 0x00000000⟩,
  ⟨"GDV_GCLERR", 0x014010, [], .ro, 0x00000000, 0x00000000⟩,
  ⟨"GDV_FEEDCFG", 0x014014, [], .l, 0x00000033, 0x00000000⟩,
  ⟨"GDV_RBCTL", 0x014018, [], .rt, 0x00000003, 0x00000000⟩,
  ⟨"GDV_RBSTAT", 0x01401C, [], .ro, 0x00000000, 0x00000000⟩,
  ⟨"GDV_REFLEX", 0x014020, [], .ro, 0x00000000, 0x00000000⟩,
  ⟨"GDV_UVLO", 0x014024, [], .ro, 0x00000000, 0x00000000⟩,
  ⟨"GDV_CLR", 0x014028, [], .wo, 0x00000000, 0x00000000⟩,
  ⟨"GDV_REQ", 0x01402C, [], .ro, 0x00000000, 0x00000000⟩,
  ⟨"GDV_CHKCMD", 0x014030, [], .wo, 0x00000000, 0x00000000⟩,
  ⟨"GDV_CHKSTAT", 0x014034, [], .sq, 0x00000000, 0x00000000⟩,
  ⟨"GDV_CHKRES", 0x014038, [], .ro, 0x00000000, 0x00000000⟩,
  ⟨"GDV_LEAKLIM", 0x01403C, [], .rt, 0xFFFF0FFF, 0x00050320⟩,
  ⟨"GDV_DGPIN", 0x014040, [], .ro, 0x00000000, 0x00000000⟩,
  ⟨"GDV_ILKCNT", 0x014044, [], .ro, 0x00000000, 0x00000000⟩,
  ⟨"GDV_LEGn_STR", 0x014100, [(32, 7)], .rt, 0x07070707, 0x07030703⟩,
  ⟨"GDV_LEGn_BLANK", 0x014104, [(32, 7)], .rt, 0x03FF03FF, 0x00640064⟩,
  ⟨"GDV_LEGn_THR", 0x014108, [(32, 7)], .rt, 0xFFFFFFFF, 0x64146414⟩,
  ⟨"GDV_LEGn_QUAL", 0x01410C, [(32, 7)], .rt, 0x00000F0F, 0x00000404⟩,
  ⟨"GDV_LEGn_CNT", 0x014110, [(32, 7)], .ro, 0x00000000, 0x00000000⟩,
  ⟨"GDV_LEGn_CHK", 0x014114, [(32, 7)], .ro, 0x00000000, 0x00000000⟩]

/-- The rows of `regRowsGdv` whose reset value is not zero. -/
def resetRowsGdv : List RegRow := [
  ⟨"GDV_LEAKLIM", 0x01403C, [], .rt, 0xFFFF0FFF, 0x00050320⟩,
  ⟨"GDV_LEGn_STR", 0x014100, [(32, 7)], .rt, 0x07070707, 0x07030703⟩,
  ⟨"GDV_LEGn_BLANK", 0x014104, [(32, 7)], .rt, 0x03FF03FF, 0x00640064⟩,
  ⟨"GDV_LEGn_THR", 0x014108, [(32, 7)], .rt, 0xFFFFFFFF, 0x64146414⟩,
  ⟨"GDV_LEGn_QUAL", 0x01410C, [(32, 7)], .rt, 0x00000F0F, 0x00000404⟩]

/-! ## ADC (spec/[07], R199) -/

def R.ADC_CTRL : Nat := 0x018000
def F.ADC_CTRL.EN : FRef := ⟨R.ADC_CTRL, 0, 0⟩
def R.ADC_STAT : Nat := 0x018004
def F.ADC_STAT.BUSYB : FRef := ⟨R.ADC_STAT, 2, 2⟩
def F.ADC_STAT.BUSYA : FRef := ⟨R.ADC_STAT, 1, 1⟩
def F.ADC_STAT.READY : FRef := ⟨R.ADC_STAT, 0, 0⟩
def R.ADC_EVT : Nat := 0x018008
def F.ADC_EVT.CAL : FRef := ⟨R.ADC_EVT, 12, 12⟩
def F.ADC_EVT.MONHI : FRef := ⟨R.ADC_EVT, 11, 11⟩
def F.ADC_EVT.MONLO : FRef := ⟨R.ADC_EVT, 10, 10⟩
def F.ADC_EVT.OVC : FRef := ⟨R.ADC_EVT, 9, 9⟩
def F.ADC_EVT.OVERRUN : FRef := ⟨R.ADC_EVT, 8, 8⟩
def F.ADC_EVT.SEQ : FRef := ⟨R.ADC_EVT, 7, 0⟩
def R.ADC_GAIN : Nat := 0x01800C
def F.ADC_GAIN.GAIN : FRef := ⟨R.ADC_GAIN, 13, 0⟩
def R.ADC_CMPSTAT : Nat := 0x018010
def F.ADC_CMPSTAT.MON : FRef := ⟨R.ADC_CMPSTAT, 31, 24⟩
def F.ADC_CMPSTAT.NEG : FRef := ⟨R.ADC_CMPSTAT, 14, 8⟩
def F.ADC_CMPSTAT.POS : FRef := ⟨R.ADC_CMPSTAT, 6, 0⟩
def R.ADC_OFSn (n : Nat) : Nat := 0x018020 + 0x4 * (n - 1)
def F.ADC_OFSn.OFS (n : Nat) : FRef := ⟨R.ADC_OFSn n, 15, 0⟩
def R.ADC_CLIMn (n : Nat) : Nat := 0x018040 + 0x4 * (n - 1)
def F.ADC_CLIMn.NEG (n : Nat) : FRef := ⟨R.ADC_CLIMn n, 29, 16⟩
def F.ADC_CLIMn.POS (n : Nat) : FRef := ⟨R.ADC_CLIMn n, 13, 0⟩
def R.ADC_CCFGn (n : Nat) : Nat := 0x018060 + 0x4 * (n - 1)
def F.ADC_CCFGn.EN (n : Nat) : FRef := ⟨R.ADC_CCFGn n, 8, 8⟩
def F.ADC_CCFGn.FILT (n : Nat) : FRef := ⟨R.ADC_CCFGn n, 7, 0⟩
def R.ADC_SQq_CFG (q : Nat) : Nat := 0x018100 + 0x10 * q
def F.ADC_SQq_CFG.COUNT (q : Nat) : FRef := ⟨R.ADC_SQq_CFG q, 20, 16⟩
def F.ADC_SQq_CFG.VAL (q : Nat) : FRef := ⟨R.ADC_SQq_CFG q, 7, 7⟩
def F.ADC_SQq_CFG.TRIG (q : Nat) : FRef := ⟨R.ADC_SQq_CFG q, 4, 0⟩
def R.ADC_SQq_STAT (q : Nat) : Nat := 0x018104 + 0x10 * q
def F.ADC_SQq_STAT.RUNS (q : Nat) : FRef := ⟨R.ADC_SQq_STAT q, 31, 16⟩
def F.ADC_SQq_STAT.ABANDON (q : Nat) : FRef := ⟨R.ADC_SQq_STAT q, 15, 8⟩
def F.ADC_SQq_STAT.BUSY (q : Nat) : FRef := ⟨R.ADC_SQq_STAT q, 0, 0⟩
def R.ADC_SQq_ENTe (q e : Nat) : Nat := 0x018200 + 0x40 * q + 0x4 * e
def F.ADC_SQq_ENTe.CONV (q e : Nat) : FRef := ⟨R.ADC_SQq_ENTe q e, 8, 8⟩
def F.ADC_SQq_ENTe.SUB (q e : Nat) : FRef := ⟨R.ADC_SQq_ENTe q e, 5, 5⟩
def F.ADC_SQq_ENTe.INPUT (q e : Nat) : FRef := ⟨R.ADC_SQq_ENTe q e, 4, 0⟩
def R.ADC_RESq_e (q e : Nat) : Nat := 0x018400 + 0x40 * q + 0x4 * e
def F.ADC_RESq_e.TAG (q e : Nat) : FRef := ⟨R.ADC_RESq_e q e, 23, 16⟩
def F.ADC_RESq_e.SAMPLE (q e : Nat) : FRef := ⟨R.ADC_RESq_e q e, 15, 0⟩
def R.ADC_MONm_CFG (m : Nat) : Nat := 0x018600 + 0x10 * m
def F.ADC_MONm_CFG.KIND (m : Nat) : FRef := ⟨R.ADC_MONm_CFG m, 12, 12⟩
def F.ADC_MONm_CFG.CNT (m : Nat) : FRef := ⟨R.ADC_MONm_CFG m, 11, 8⟩
def F.ADC_MONm_CFG.RES (m : Nat) : FRef := ⟨R.ADC_MONm_CFG m, 6, 0⟩
def R.ADC_MONm_THR (m : Nat) : Nat := 0x018604 + 0x10 * m
def F.ADC_MONm_THR.HI (m : Nat) : FRef := ⟨R.ADC_MONm_THR m, 29, 16⟩
def F.ADC_MONm_THR.LO (m : Nat) : FRef := ⟨R.ADC_MONm_THR m, 13, 0⟩

/-- The rows of the ADC register table. -/
def regRowsAdc : List RegRow := [
  ⟨"ADC_CTRL", 0x018000, [], .rt, 0x00000001, 0x00000000⟩,
  ⟨"ADC_STAT", 0x018004, [], .ro, 0x00000000, 0x00000000⟩,
  ⟨"ADC_EVT", 0x018008, [], .sq, 0x00000000, 0x00000000⟩,
  ⟨"ADC_GAIN", 0x01800C, [], .l, 0x00003FFF, 0x00000000⟩,
  ⟨"ADC_CMPSTAT", 0x018010, [], .ro, 0x00000000, 0x00000000⟩,
  ⟨"ADC_OFSn", 0x018020, [(4, 7)], .rt, 0x0000FFFF, 0x00000000⟩,
  ⟨"ADC_CLIMn", 0x018040, [(4, 7)], .l, 0x3FFF3FFF, 0x20001FFF⟩,
  ⟨"ADC_CCFGn", 0x018060, [(4, 7)], .l, 0x000001FF, 0x00000001⟩,
  ⟨"ADC_SQq_CFG", 0x018100, [(16, 8)], .l, 0x001F009F, 0x00000000⟩,
  ⟨"ADC_SQq_STAT", 0x018104, [(16, 8)], .ro, 0x00000000, 0x00000000⟩,
  ⟨"ADC_SQq_ENTe", 0x018200, [(64, 8), (4, 16)], .l, 0x0000013F, 0x00000000⟩,
  ⟨"ADC_RESq_e", 0x018400, [(64, 8), (4, 16)], .ro, 0x00000000, 0x00000000⟩,
  ⟨"ADC_MONm_CFG", 0x018600, [(16, 8)], .l, 0x00001F7F, 0x00000000⟩,
  ⟨"ADC_MONm_THR", 0x018604, [(16, 8)], .l, 0x3FFF3FFF, 0x1FFF0000⟩]

/-- The rows of `regRowsAdc` whose reset value is not zero. -/
def resetRowsAdc : List RegRow := [
  ⟨"ADC_CLIMn", 0x018040, [(4, 7)], .l, 0x3FFF3FFF, 0x20001FFF⟩,
  ⟨"ADC_CCFGn", 0x018060, [(4, 7)], .l, 0x000001FF, 0x00000001⟩,
  ⟨"ADC_MONm_THR", 0x018604, [(16, 8)], .l, 0x3FFF3FFF, 0x1FFF0000⟩]

/-! ## FBI (spec/[06], R184) -/

def R.FBI_CTRL : Nat := 0x020000
def F.FBI_CTRL.EN : FRef := ⟨R.FBI_CTRL, 0, 0⟩
def R.FBI_TIME : Nat := 0x020004
def F.FBI_TIME.TIME : FRef := ⟨R.FBI_TIME, 31, 0⟩
def R.FBI_PCOSEL : Nat := 0x020008
def F.FBI_PCOSEL.OWNER : FRef := ⟨R.FBI_PCOSEL, 7, 0⟩
def R.FBI_PDCFG : Nat := 0x02000C
def F.FBI_PDCFG.PDMIN : FRef := ⟨R.FBI_PDCFG, 27, 16⟩
def F.FBI_PDCFG.SRC : FRef := ⟨R.FBI_PDCFG, 2, 1⟩
def F.FBI_PDCFG.PDEN : FRef := ⟨R.FBI_PDCFG, 0, 0⟩
def R.FBI_PDRATIO : Nat := 0x020010
def F.FBI_PDRATIO.DEN : FRef := ⟨R.FBI_PDRATIO, 31, 16⟩
def F.FBI_PDRATIO.NUM : FRef := ⟨R.FBI_PDRATIO, 15, 0⟩
def R.FBI_PDSTAT : Nat := 0x020014
def F.FBI_PDSTAT.BACKLOG : FRef := ⟨R.FBI_PDSTAT, 23, 16⟩
def F.FBI_PDSTAT.OVF : FRef := ⟨R.FBI_PDSTAT, 8, 8⟩
def F.FBI_PDSTAT.SEQ : FRef := ⟨R.FBI_PDSTAT, 7, 0⟩
def R.FBI_CHn_CFG (n : Nat) : Nat := 0x020100 + 0x100 * n
def F.FBI_CHn_CFG.FILT (n : Nat) : FRef := ⟨R.FBI_CHn_CFG n, 15, 8⟩
def F.FBI_CHn_CFG.DIRINV (n : Nat) : FRef := ⟨R.FBI_CHn_CFG n, 3, 3⟩
def F.FBI_CHn_CFG.MODE (n : Nat) : FRef := ⟨R.FBI_CHn_CFG n, 2, 0⟩
def R.FBI_CHn_IDX (n : Nat) : Nat := 0x020104 + 0x100 * n
def F.FBI_CHn_IDX.IPOL (n : Nat) : FRef := ⟨R.FBI_CHn_IDX n, 25, 25⟩
def F.FBI_CHn_IDX.CORR (n : Nat) : FRef := ⟨R.FBI_CHn_IDX n, 24, 24⟩
def F.FBI_CHn_IDX.HOME (n : Nat) : FRef := ⟨R.FBI_CHn_IDX n, 23, 23⟩
def F.FBI_CHn_IDX.GATE (n : Nat) : FRef := ⟨R.FBI_CHn_IDX n, 22, 20⟩
def F.FBI_CHn_IDX.TOL (n : Nat) : FRef := ⟨R.FBI_CHn_IDX n, 19, 16⟩
def F.FBI_CHn_IDX.NOM (n : Nat) : FRef := ⟨R.FBI_CHn_IDX n, 15, 0⟩
def R.FBI_CHn_IDXVAL (n : Nat) : Nat := 0x020108 + 0x100 * n
def F.FBI_CHn_IDXVAL.VALUE (n : Nat) : FRef := ⟨R.FBI_CHn_IDXVAL n, 31, 0⟩
def R.FBI_CHn_SPD (n : Nat) : Nat := 0x02010C + 0x100 * n
def F.FBI_CHn_SPD.STILL (n : Nat) : FRef := ⟨R.FBI_CHn_SPD n, 31, 16⟩
def F.FBI_CHn_SPD.SMODE (n : Nat) : FRef := ⟨R.FBI_CHn_SPD n, 1, 0⟩
def R.FBI_CHn_HALLSEQ (n : Nat) : Nat := 0x020110 + 0x100 * n
def F.FBI_CHn_HALLSEQ.SEQ (n : Nat) : FRef := ⟨R.FBI_CHn_HALLSEQ n, 17, 0⟩
def R.FBI_CHn_SENT (n : Nat) : Nat := 0x020114 + 0x100 * n
def F.FBI_CHn_SENT.SMSGEN (n : Nat) : FRef := ⟨R.FBI_CHn_SENT n, 20, 20⟩
def F.FBI_CHn_SENT.CRCMODE (n : Nat) : FRef := ⟨R.FBI_CHn_SENT n, 19, 19⟩
def F.FBI_CHn_SENT.NDATA (n : Nat) : FRef := ⟨R.FBI_CHn_SENT n, 18, 16⟩
def F.FBI_CHn_SENT.TICK (n : Nat) : FRef := ⟨R.FBI_CHn_SENT n, 15, 0⟩
def R.FBI_CHn_SSI (n : Nat) : Nat := 0x020118 + 0x100 * n
def F.FBI_CHn_SSI.DIV (n : Nat) : FRef := ⟨R.FBI_CHn_SSI n, 27, 16⟩
def F.FBI_CHn_SSI.ERRPOL (n : Nat) : FRef := ⟨R.FBI_CHn_SSI n, 13, 13⟩
def F.FBI_CHn_SSI.ERRBIT (n : Nat) : FRef := ⟨R.FBI_CHn_SSI n, 12, 8⟩
def F.FBI_CHn_SSI.ERRCHK (n : Nat) : FRef := ⟨R.FBI_CHn_SSI n, 7, 7⟩
def F.FBI_CHn_SSI.GRAY (n : Nat) : FRef := ⟨R.FBI_CHn_SSI n, 6, 6⟩
def F.FBI_CHn_SSI.NBITS (n : Nat) : FRef := ⟨R.FBI_CHn_SSI n, 5, 0⟩
def R.FBI_CHn_SSI2 (n : Nat) : Nat := 0x02011C + 0x100 * n
def F.FBI_CHn_SSI2.DLY (n : Nat) : FRef := ⟨R.FBI_CHn_SSI2 n, 23, 16⟩
def F.FBI_CHn_SSI2.MONO (n : Nat) : FRef := ⟨R.FBI_CHn_SSI2 n, 15, 0⟩
def R.FBI_CHn_ABS (n : Nat) : Nat := 0x020120 + 0x100 * n
def F.FBI_CHn_ABS.BADN (n : Nat) : FRef := ⟨R.FBI_CHn_ABS n, 27, 24⟩
def F.FBI_CHn_ABS.TIMEOUT (n : Nat) : FRef := ⟨R.FBI_CHn_ABS n, 23, 16⟩
def F.FBI_CHn_ABS.POSW (n : Nat) : FRef := ⟨R.FBI_CHn_ABS n, 12, 8⟩
def F.FBI_CHn_ABS.POSSHIFT (n : Nat) : FRef := ⟨R.FBI_CHn_ABS n, 4, 0⟩
def R.FBI_CHn_SLMIN (n : Nat) : Nat := 0x020124 + 0x100 * n
def F.FBI_CHn_SLMIN.LIMIT (n : Nat) : FRef := ⟨R.FBI_CHn_SLMIN n, 31, 0⟩
def R.FBI_CHn_SLMAX (n : Nat) : Nat := 0x020128 + 0x100 * n
def F.FBI_CHn_SLMAX.LIMIT (n : Nat) : FRef := ⟨R.FBI_CHn_SLMAX n, 31, 0⟩
def R.FBI_CHn_LATCFG (n : Nat) : Nat := 0x02012C + 0x100 * n
def F.FBI_CHn_LATCFG.VAL_1 (n : Nat) : FRef := ⟨R.FBI_CHn_LATCFG n, 15, 15⟩
def F.FBI_CHn_LATCFG.TRIG_1 (n : Nat) : FRef := ⟨R.FBI_CHn_LATCFG n, 12, 8⟩
def F.FBI_CHn_LATCFG.VAL_0 (n : Nat) : FRef := ⟨R.FBI_CHn_LATCFG n, 7, 7⟩
def F.FBI_CHn_LATCFG.TRIG_0 (n : Nat) : FRef := ⟨R.FBI_CHn_LATCFG n, 4, 0⟩
def R.FBI_CHn_POS (n : Nat) : Nat := 0x020130 + 0x100 * n
def F.FBI_CHn_POS.POS (n : Nat) : FRef := ⟨R.FBI_CHn_POS n, 31, 0⟩
def R.FBI_CHn_RAW (n : Nat) : Nat := 0x020134 + 0x100 * n
def F.FBI_CHn_RAW.RAW (n : Nat) : FRef := ⟨R.FBI_CHn_RAW n, 31, 0⟩
def R.FBI_CHn_EXCESS (n : Nat) : Nat := 0x020138 + 0x100 * n
def F.FBI_CHn_EXCESS.LOST (n : Nat) : FRef := ⟨R.FBI_CHn_EXCESS n, 16, 16⟩
def F.FBI_CHn_EXCESS.EXCESS (n : Nat) : FRef := ⟨R.FBI_CHn_EXCESS n, 15, 0⟩
def R.FBI_CHn_SPEED (n : Nat) : Nat := 0x02013C + 0x100 * n
def F.FBI_CHn_SPEED.SPEED (n : Nat) : FRef := ⟨R.FBI_CHn_SPEED n, 31, 0⟩
def R.FBI_CHn_TSTAMP (n : Nat) : Nat := 0x020140 + 0x100 * n
def F.FBI_CHn_TSTAMP.STAMP (n : Nat) : FRef := ⟨R.FBI_CHn_TSTAMP n, 31, 0⟩
def R.FBI_CHn_IDXPOS (n : Nat) : Nat := 0x020144 + 0x100 * n
def F.FBI_CHn_IDXPOS.IDXPOS (n : Nat) : FRef := ⟨R.FBI_CHn_IDXPOS n, 31, 0⟩
def R.FBI_CHn_STAT (n : Nat) : Nat := 0x020148 + 0x100 * n
def F.FBI_CHn_STAT.INPUTS (n : Nat) : FRef := ⟨R.FBI_CHn_STAT n, 10, 8⟩
def F.FBI_CHn_STAT.VALID (n : Nat) : FRef := ⟨R.FBI_CHn_STAT n, 7, 7⟩
def F.FBI_CHn_STAT.ATMAX (n : Nat) : FRef := ⟨R.FBI_CHn_STAT n, 6, 6⟩
def F.FBI_CHn_STAT.ATMIN (n : Nat) : FRef := ⟨R.FBI_CHn_STAT n, 5, 5⟩
def F.FBI_CHn_STAT.IDXREF (n : Nat) : FRef := ⟨R.FBI_CHn_STAT n, 4, 4⟩
def F.FBI_CHn_STAT.HOMED (n : Nat) : FRef := ⟨R.FBI_CHn_STAT n, 3, 3⟩
def F.FBI_CHn_STAT.NOREF (n : Nat) : FRef := ⟨R.FBI_CHn_STAT n, 2, 2⟩
def F.FBI_CHn_STAT.STILL (n : Nat) : FRef := ⟨R.FBI_CHn_STAT n, 1, 1⟩
def F.FBI_CHn_STAT.DIR (n : Nat) : FRef := ⟨R.FBI_CHn_STAT n, 0, 0⟩
def R.FBI_CHn_EVT (n : Nat) : Nat := 0x02014C + 0x100 * n
def F.FBI_CHn_EVT.PCEVT (n : Nat) : FRef := ⟨R.FBI_CHn_EVT n, 21, 21⟩
def F.FBI_CHn_EVT.SMSG (n : Nat) : FRef := ⟨R.FBI_CHn_EVT n, 20, 20⟩
def F.FBI_CHn_EVT.HOME (n : Nat) : FRef := ⟨R.FBI_CHn_EVT n, 19, 19⟩
def F.FBI_CHn_EVT.LOST (n : Nat) : FRef := ⟨R.FBI_CHn_EVT n, 18, 18⟩
def F.FBI_CHn_EVT.OVF (n : Nat) : FRef := ⟨R.FBI_CHn_EVT n, 17, 17⟩
def F.FBI_CHn_EVT.TIMEOUT (n : Nat) : FRef := ⟨R.FBI_CHn_EVT n, 16, 16⟩
def F.FBI_CHn_EVT.FRAME (n : Nat) : FRef := ⟨R.FBI_CHn_EVT n, 15, 15⟩
def F.FBI_CHn_EVT.LIMIT (n : Nat) : FRef := ⟨R.FBI_CHn_EVT n, 14, 14⟩
def F.FBI_CHn_EVT.SLIP (n : Nat) : FRef := ⟨R.FBI_CHn_EVT n, 13, 13⟩
def F.FBI_CHn_EVT.MISS (n : Nat) : FRef := ⟨R.FBI_CHn_EVT n, 12, 12⟩
def F.FBI_CHn_EVT.LATE (n : Nat) : FRef := ⟨R.FBI_CHn_EVT n, 11, 11⟩
def F.FBI_CHn_EVT.EARLY (n : Nat) : FRef := ⟨R.FBI_CHn_EVT n, 10, 10⟩
def F.FBI_CHn_EVT.HALLST (n : Nat) : FRef := ⟨R.FBI_CHn_EVT n, 9, 9⟩
def F.FBI_CHn_EVT.QERR (n : Nat) : FRef := ⟨R.FBI_CHn_EVT n, 8, 8⟩
def F.FBI_CHn_EVT.SEQ (n : Nat) : FRef := ⟨R.FBI_CHn_EVT n, 7, 0⟩
def R.FBI_CHn_SMSG (n : Nat) : Nat := 0x020150 + 0x100 * n
def F.FBI_CHn_SMSG.FMT (n : Nat) : FRef := ⟨R.FBI_CHn_SMSG n, 31, 31⟩
def F.FBI_CHn_SMSG.ID (n : Nat) : FRef := ⟨R.FBI_CHn_SMSG n, 23, 16⟩
def F.FBI_CHn_SMSG.DATA (n : Nat) : FRef := ⟨R.FBI_CHn_SMSG n, 15, 0⟩
def R.FBI_CHn_ERRCNT (n : Nat) : Nat := 0x020154 + 0x100 * n
def F.FBI_CHn_ERRCNT.IDXERR (n : Nat) : FRef := ⟨R.FBI_CHn_ERRCNT n, 31, 24⟩
def F.FBI_CHn_ERRCNT.SLIPS (n : Nat) : FRef := ⟨R.FBI_CHn_ERRCNT n, 23, 16⟩
def F.FBI_CHn_ERRCNT.BAD (n : Nat) : FRef := ⟨R.FBI_CHn_ERRCNT n, 15, 0⟩
def R.FBI_CHn_PCCTL (n : Nat) : Nat := 0x020158 + 0x100 * n
def F.FBI_CHn_PCCTL.START (n : Nat) : FRef := ⟨R.FBI_CHn_PCCTL n, 13, 8⟩
def F.FBI_CHn_PCCTL.LOOP (n : Nat) : FRef := ⟨R.FBI_CHn_PCCTL n, 1, 1⟩
def F.FBI_CHn_PCCTL.EN (n : Nat) : FRef := ⟨R.FBI_CHn_PCCTL n, 0, 0⟩
def R.FBI_CHn_PCPW (n : Nat) : Nat := 0x02015C + 0x100 * n
def F.FBI_CHn_PCPW.PW (n : Nat) : FRef := ⟨R.FBI_CHn_PCPW n, 15, 0⟩
def R.FBI_CHn_PCSTAT (n : Nat) : Nat := 0x020160 + 0x100 * n
def F.FBI_CHn_PCSTAT.MATCHES (n : Nat) : FRef := ⟨R.FBI_CHn_PCSTAT n, 31, 16⟩
def F.FBI_CHn_PCSTAT.DONE (n : Nat) : FRef := ⟨R.FBI_CHn_PCSTAT n, 8, 8⟩
def F.FBI_CHn_PCSTAT.PTR (n : Nat) : FRef := ⟨R.FBI_CHn_PCSTAT n, 5, 0⟩
def R.FBI_CHn_LATk_POS (n k : Nat) : Nat := 0x020180 + 0x100 * n + 0x10 * k
def F.FBI_CHn_LATk_POS.POS (n k : Nat) : FRef := ⟨R.FBI_CHn_LATk_POS n k, 31, 0⟩
def R.FBI_CHn_LATk_SPD (n k : Nat) : Nat := 0x020184 + 0x100 * n + 0x10 * k
def F.FBI_CHn_LATk_SPD.SPEED (n k : Nat) : FRef := ⟨R.FBI_CHn_LATk_SPD n k, 31, 0⟩
def R.FBI_CHn_LATk_AGE (n k : Nat) : Nat := 0x020188 + 0x100 * n + 0x10 * k
def F.FBI_CHn_LATk_AGE.AGE (n k : Nat) : FRef := ⟨R.FBI_CHn_LATk_AGE n k, 15, 0⟩
def R.FBI_CHn_PCe_POS (n e : Nat) : Nat := 0x021000 + 0x200 * n + 0x8 * e
def F.FBI_CHn_PCe_POS.POS (n e : Nat) : FRef := ⟨R.FBI_CHn_PCe_POS n e, 31, 0⟩
def R.FBI_CHn_PCe_ACT (n e : Nat) : Nat := 0x021004 + 0x200 * n + 0x8 * e
def F.FBI_CHn_PCe_ACT.EVENT (n e : Nat) : FRef := ⟨R.FBI_CHn_PCe_ACT n e, 7, 7⟩
def F.FBI_CHn_PCe_ACT.LAST (n e : Nat) : FRef := ⟨R.FBI_CHn_PCe_ACT n e, 6, 6⟩
def F.FBI_CHn_PCe_ACT.ACTION (n e : Nat) : FRef := ⟨R.FBI_CHn_PCe_ACT n e, 5, 4⟩
def F.FBI_CHn_PCe_ACT.PIN (n e : Nat) : FRef := ⟨R.FBI_CHn_PCe_ACT n e, 3, 2⟩
def F.FBI_CHn_PCe_ACT.DIR (n e : Nat) : FRef := ⟨R.FBI_CHn_PCe_ACT n e, 1, 0⟩

/-- The rows of the FBI register table. -/
def regRowsFbi : List RegRow := [
  ⟨"FBI_CTRL", 0x020000, [], .rt, 0x00000001, 0x00000000⟩,
  ⟨"FBI_TIME", 0x020004, [], .ro, 0x00000000, 0x00000000⟩,
  ⟨"FBI_PCOSEL", 0x020008, [], .c, 0x000000FF, 0x000000E4⟩,
  ⟨"FBI_PDCFG", 0x02000C, [], .c, 0x0FFF0007, 0x00040000⟩,
  ⟨"FBI_PDRATIO", 0x020010, [], .c, 0xFFFFFFFF, 0x00010001⟩,
  ⟨"FBI_PDSTAT", 0x020014, [], .sq, 0x00000000, 0x00000000⟩,
  ⟨"FBI_CHn_CFG", 0x020100, [(256, 4)], .c, 0x0000FF0F, 0x00000800⟩,
  ⟨"FBI_CHn_IDX", 0x020104, [(256, 4)], .c, 0x03FFFFFF, 0x00000000⟩,
  ⟨"FBI_CHn_IDXVAL", 0x020108, [(256, 4)], .c, 0xFFFFFFFF, 0x00000000⟩,
  ⟨"FBI_CHn_SPD", 0x02010C, [(256, 4)], .c, 0xFFFF0003, 0x03E80002⟩,
  ⟨"FBI_CHn_HALLSEQ", 0x020110, [(256, 4)], .c, 0x0003FFFF, 0x0002CC99⟩,
  ⟨"FBI_CHn_SENT", 0x020114, [(256, 4)], .c, 0x001FFFFF, 0x000604B0⟩,
  ⟨"FBI_CHn_SSI", 0x020118, [(256, 4)], .c, 0x0FFF3FFF, 0x018F0019⟩,
  ⟨"FBI_CHn_SSI2", 0x02011C, [(256, 4)], .c, 0x00FFFFFF, 0x00001F40⟩,
  ⟨"FBI_CHn_ABS", 0x020120, [(256, 4)], .c, 0x0FFF1F1F, 0x03140C00⟩,
  ⟨"FBI_CHn_SLMIN", 0x020124, [(256, 4)], .l, 0xFFFFFFFF, 0x80000000⟩,
  ⟨"FBI_CHn_SLMAX", 0x020128, [(256, 4)], .l, 0xFFFFFFFF, 0x7FFFFFFF⟩,
  ⟨"FBI_CHn_LATCFG", 0x02012C, [(256, 4)], .l, 0x00009F9F, 0x00000000⟩,
  ⟨"FBI_CHn_POS", 0x020130, [(256, 4)], .ro, 0x00000000, 0x00000000⟩,
  ⟨"FBI_CHn_RAW", 0x020134, [(256, 4)], .ro, 0x00000000, 0x00000000⟩,
  ⟨"FBI_CHn_EXCESS", 0x020138, [(256, 4)], .ro, 0x00000000, 0x00000000⟩,
  ⟨"FBI_CHn_SPEED", 0x02013C, [(256, 4)], .ro, 0x00000000, 0x00000000⟩,
  ⟨"FBI_CHn_TSTAMP", 0x020140, [(256, 4)], .ro, 0x00000000, 0x00000000⟩,
  ⟨"FBI_CHn_IDXPOS", 0x020144, [(256, 4)], .ro, 0x00000000, 0x00000000⟩,
  ⟨"FBI_CHn_STAT", 0x020148, [(256, 4)], .ro, 0x00000000, 0x00000006⟩,
  ⟨"FBI_CHn_EVT", 0x02014C, [(256, 4)], .sq, 0x00000000, 0x00000000⟩,
  ⟨"FBI_CHn_SMSG", 0x020150, [(256, 4)], .ro, 0x00000000, 0x00000000⟩,
  ⟨"FBI_CHn_ERRCNT", 0x020154, [(256, 4)], .ro, 0x00000000, 0x00000000⟩,
  ⟨"FBI_CHn_PCCTL", 0x020158, [(256, 4)], .rt, 0x00003F03, 0x00000000⟩,
  ⟨"FBI_CHn_PCPW", 0x02015C, [(256, 4)], .rt, 0x0000FFFF, 0x00000028⟩,
  ⟨"FBI_CHn_PCSTAT", 0x020160, [(256, 4)], .ro, 0x00000000, 0x00000000⟩,
  ⟨"FBI_CHn_LATk_POS", 0x020180, [(256, 4), (16, 2)], .ro, 0x00000000, 0x00000000⟩,
  ⟨"FBI_CHn_LATk_SPD", 0x020184, [(256, 4), (16, 2)], .ro, 0x00000000, 0x00000000⟩,
  ⟨"FBI_CHn_LATk_AGE", 0x020188, [(256, 4), (16, 2)], .ro, 0x00000000, 0x00000000⟩,
  ⟨"FBI_CHn_PCe_POS", 0x021000, [(512, 4), (8, 64)], .rt, 0xFFFFFFFF, 0x00000000⟩,
  ⟨"FBI_CHn_PCe_ACT", 0x021004, [(512, 4), (8, 64)], .rt, 0x000000FF, 0x00000003⟩]

/-- The rows of `regRowsFbi` whose reset value is not zero. -/
def resetRowsFbi : List RegRow := [
  ⟨"FBI_PCOSEL", 0x020008, [], .c, 0x000000FF, 0x000000E4⟩,
  ⟨"FBI_PDCFG", 0x02000C, [], .c, 0x0FFF0007, 0x00040000⟩,
  ⟨"FBI_PDRATIO", 0x020010, [], .c, 0xFFFFFFFF, 0x00010001⟩,
  ⟨"FBI_CHn_CFG", 0x020100, [(256, 4)], .c, 0x0000FF0F, 0x00000800⟩,
  ⟨"FBI_CHn_SPD", 0x02010C, [(256, 4)], .c, 0xFFFF0003, 0x03E80002⟩,
  ⟨"FBI_CHn_HALLSEQ", 0x020110, [(256, 4)], .c, 0x0003FFFF, 0x0002CC99⟩,
  ⟨"FBI_CHn_SENT", 0x020114, [(256, 4)], .c, 0x001FFFFF, 0x000604B0⟩,
  ⟨"FBI_CHn_SSI", 0x020118, [(256, 4)], .c, 0x0FFF3FFF, 0x018F0019⟩,
  ⟨"FBI_CHn_SSI2", 0x02011C, [(256, 4)], .c, 0x00FFFFFF, 0x00001F40⟩,
  ⟨"FBI_CHn_ABS", 0x020120, [(256, 4)], .c, 0x0FFF1F1F, 0x03140C00⟩,
  ⟨"FBI_CHn_SLMIN", 0x020124, [(256, 4)], .l, 0xFFFFFFFF, 0x80000000⟩,
  ⟨"FBI_CHn_SLMAX", 0x020128, [(256, 4)], .l, 0xFFFFFFFF, 0x7FFFFFFF⟩,
  ⟨"FBI_CHn_STAT", 0x020148, [(256, 4)], .ro, 0x00000000, 0x00000006⟩,
  ⟨"FBI_CHn_PCPW", 0x02015C, [(256, 4)], .rt, 0x0000FFFF, 0x00000028⟩,
  ⟨"FBI_CHn_PCe_ACT", 0x021004, [(512, 4), (8, 64)], .rt, 0x000000FF, 0x00000003⟩]

/-! ## CFE (spec/[08], R224) -/

def R.CFE_CTRL : Nat := 0x028000
def F.CFE_CTRL.EN : FRef := ⟨R.CFE_CTRL, 0, 0⟩
def R.CFE_STAT : Nat := 0x028004
def F.CFE_STAT.CMDVALID : FRef := ⟨R.CFE_STAT, 5, 5⟩
def F.CFE_STAT.CHFAIL : FRef := ⟨R.CFE_STAT, 4, 4⟩
def F.CFE_STAT.CHSTATE : FRef := ⟨R.CFE_STAT, 3, 2⟩
def F.CFE_STAT.OVP : FRef := ⟨R.CFE_STAT, 1, 1⟩
def F.CFE_STAT.LIMACT : FRef := ⟨R.CFE_STAT, 0, 0⟩
def R.CFE_EVT : Nat := 0x028008
def F.CFE_EVT.CATCH : FRef := ⟨R.CFE_EVT, 14, 14⟩
def F.CFE_EVT.COMMAND : FRef := ⟨R.CFE_EVT, 13, 13⟩
def F.CFE_EVT.CHOPPER : FRef := ⟨R.CFE_EVT, 12, 12⟩
def F.CFE_EVT.OVERVOLT : FRef := ⟨R.CFE_EVT, 11, 11⟩
def F.CFE_EVT.LIMITER : FRef := ⟨R.CFE_EVT, 10, 10⟩
def F.CFE_EVT.CLAMP : FRef := ⟨R.CFE_EVT, 9, 9⟩
def F.CFE_EVT.OVERRUN : FRef := ⟨R.CFE_EVT, 8, 8⟩
def F.CFE_EVT.SEQ : FRef := ⟨R.CFE_EVT, 7, 0⟩
def R.CFE_GRPCMD : Nat := 0x02800C
def F.CFE_GRPCMD.CMD_M1 : FRef := ⟨R.CFE_GRPCMD, 3, 2⟩
def F.CFE_GRPCMD.CMD_M0 : FRef := ⟨R.CFE_GRPCMD, 1, 0⟩
def R.CFE_TBLSTAT : Nat := 0x028010
def F.CFE_TBLSTAT.BUSY : FRef := ⟨R.CFE_TBLSTAT, 5, 4⟩
def F.CFE_TBLSTAT.PEND : FRef := ⟨R.CFE_TBLSTAT, 3, 2⟩
def F.CFE_TBLSTAT.BANK : FRef := ⟨R.CFE_TBLSTAT, 1, 0⟩
def R.CFE_BUSCFG : Nat := 0x028014
def F.CFE_BUSCFG.VAL7 : FRef := ⟨R.CFE_BUSCFG, 23, 23⟩
def F.CFE_BUSCFG.RES7 : FRef := ⟨R.CFE_BUSCFG, 22, 16⟩
def F.CFE_BUSCFG.VAL1 : FRef := ⟨R.CFE_BUSCFG, 15, 15⟩
def F.CFE_BUSCFG.RES1 : FRef := ⟨R.CFE_BUSCFG, 14, 8⟩
def F.CFE_BUSCFG.VAL0 : FRef := ⟨R.CFE_BUSCFG, 7, 7⟩
def F.CFE_BUSCFG.RES0 : FRef := ⟨R.CFE_BUSCFG, 6, 0⟩
def R.CFE_BUS : Nat := 0x028018
def F.CFE_BUS.BUS : FRef := ⟨R.CFE_BUS, 13, 0⟩
def R.CFE_OVLIM : Nat := 0x02801C
def F.CFE_OVLIM.VOVP : FRef := ⟨R.CFE_OVLIM, 29, 16⟩
def F.CFE_OVLIM.VLIM : FRef := ⟨R.CFE_OVLIM, 13, 0⟩
def R.CFE_CHTHR : Nat := 0x028020
def F.CFE_CHTHR.CHON : FRef := ⟨R.CFE_CHTHR, 29, 16⟩
def F.CFE_CHTHR.CHOFF : FRef := ⟨R.CFE_CHTHR, 13, 0⟩
def R.CFE_CHMON : Nat := 0x028024
def F.CFE_CHMON.HIMIN : FRef := ⟨R.CFE_CHMON, 29, 16⟩
def F.CFE_CHMON.LOMAX : FRef := ⟨R.CFE_CHMON, 13, 0⟩
def R.CFE_CHPWM : Nat := 0x028028
def F.CFE_CHPWM.DUTY : FRef := ⟨R.CFE_CHPWM, 25, 16⟩
def F.CFE_CHPWM.PER : FRef := ⟨R.CFE_CHPWM, 15, 0⟩
def R.CFE_OVGAIN : Nat := 0x02802C
def F.CFE_OVGAIN.KOV : FRef := ⟨R.CFE_OVGAIN, 31, 0⟩
def R.CFE_CMDCFG : Nat := 0x028030
def F.CFE_CMDCFG.TIMEOUT : FRef := ⟨R.CFE_CMDCFG, 23, 16⟩
def F.CFE_CMDCFG.RES : FRef := ⟨R.CFE_CMDCFG, 14, 8⟩
def F.CFE_CMDCFG.MODE : FRef := ⟨R.CFE_CMDCFG, 1, 0⟩
def R.CFE_CMDMAP : Nat := 0x028034
def F.CFE_CMDMAP.MID : FRef := ⟨R.CFE_CMDMAP, 31, 16⟩
def F.CFE_CMDMAP.DEAD : FRef := ⟨R.CFE_CMDMAP, 15, 0⟩
def R.CFE_CMDSPAN : Nat := 0x028038
def F.CFE_CMDSPAN.SPAN : FRef := ⟨R.CFE_CMDSPAN, 15, 0⟩
def R.CFE_CMDVAL : Nat := 0x02803C
def F.CFE_CMDVAL.HI : FRef := ⟨R.CFE_CMDVAL, 31, 16⟩
def F.CFE_CMDVAL.LO : FRef := ⟨R.CFE_CMDVAL, 15, 0⟩
def R.CFE_CMDMEAS : Nat := 0x028040
def F.CFE_CMDMEAS.VALID : FRef := ⟨R.CFE_CMDMEAS, 16, 16⟩
def F.CFE_CMDMEAS.VALUE : FRef := ⟨R.CFE_CMDMEAS, 15, 0⟩
def R.CFE_Gg_CFG (g : Nat) : Nat := 0x028100 + 0x80 * g
def F.CFE_Gg_CFG.CPT (g : Nat) : FRef := ⟨R.CFE_Gg_CFG g, 31, 7⟩
def F.CFE_Gg_CFG.EXTRAP (g : Nat) : FRef := ⟨R.CFE_Gg_CFG g, 6, 6⟩
def F.CFE_Gg_CFG.POLES (g : Nat) : FRef := ⟨R.CFE_Gg_CFG g, 5, 0⟩
def R.CFE_Gg_MODE (g : Nat) : Nat := 0x028104 + 0x80 * g
def F.CFE_Gg_MODE.ADVEN (g : Nat) : FRef := ⟨R.CFE_Gg_MODE g, 1, 1⟩
def F.CFE_Gg_MODE.SRC (g : Nat) : FRef := ⟨R.CFE_Gg_MODE g, 0, 0⟩
def R.CFE_Gg_ANGOFS (g : Nat) : Nat := 0x028108 + 0x80 * g
def F.CFE_Gg_ANGOFS.OFS (g : Nat) : FRef := ⟨R.CFE_Gg_ANGOFS g, 31, 0⟩
def R.CFE_Gg_ADVCFG (g : Nat) : Nat := 0x02810C + 0x80 * g
def F.CFE_Gg_ADVCFG.ADVSHIFT (g : Nat) : FRef := ⟨R.CFE_Gg_ADVCFG g, 4, 0⟩
def R.CFE_Gg_AMPMAX (g : Nat) : Nat := 0x028110 + 0x80 * g
def F.CFE_Gg_AMPMAX.LIMIT (g : Nat) : FRef := ⟨R.CFE_Gg_AMPMAX g, 31, 0⟩
def R.CFE_Gg_SLEW (g : Nat) : Nat := 0x028114 + 0x80 * g
def F.CFE_Gg_SLEW.SLEW (g : Nat) : FRef := ⟨R.CFE_Gg_SLEW g, 31, 0⟩
def R.CFE_Gg_AMPLIMP (g : Nat) : Nat := 0x028118 + 0x80 * g
def F.CFE_Gg_AMPLIMP.LIMIT (g : Nat) : FRef := ⟨R.CFE_Gg_AMPLIMP g, 31, 0⟩
def R.CFE_Gg_SLEWLIMP (g : Nat) : Nat := 0x02811C + 0x80 * g
def F.CFE_Gg_SLEWLIMP.SLEW (g : Nat) : FRef := ⟨R.CFE_Gg_SLEWLIMP g, 31, 0⟩
def R.CFE_Gg_PER (g : Nat) : Nat := 0x028120 + 0x80 * g
def F.CFE_Gg_PER.MINP (g : Nat) : FRef := ⟨R.CFE_Gg_PER g, 25, 16⟩
def F.CFE_Gg_PER.PER (g : Nat) : FRef := ⟨R.CFE_Gg_PER g, 15, 0⟩
def R.CFE_Gg_BEMF (g : Nat) : Nat := 0x028124 + 0x80 * g
def F.CFE_Gg_BEMF.VAL (g : Nat) : FRef := ⟨R.CFE_Gg_BEMF g, 31, 31⟩
def F.CFE_Gg_BEMF.RESC (g : Nat) : FRef := ⟨R.CFE_Gg_BEMF g, 22, 16⟩
def F.CFE_Gg_BEMF.RESB (g : Nat) : FRef := ⟨R.CFE_Gg_BEMF g, 14, 8⟩
def F.CFE_Gg_BEMF.RESA (g : Nat) : FRef := ⟨R.CFE_Gg_BEMF g, 6, 0⟩
def R.CFE_Gg_CATCH (g : Nat) : Nat := 0x028128 + 0x80 * g
def F.CFE_Gg_CATCH.BEMFMIN (g : Nat) : FRef := ⟨R.CFE_Gg_CATCH g, 31, 16⟩
def F.CFE_Gg_CATCH.WINDOW (g : Nat) : FRef := ⟨R.CFE_Gg_CATCH g, 15, 8⟩
def F.CFE_Gg_CATCH.ANGTOL (g : Nat) : FRef := ⟨R.CFE_Gg_CATCH g, 7, 0⟩
def R.CFE_Gg_CATOFS (g : Nat) : Nat := 0x02812C + 0x80 * g
def F.CFE_Gg_CATOFS.OFS (g : Nat) : FRef := ⟨R.CFE_Gg_CATOFS g, 31, 0⟩
def R.CFE_Gg_ANGLE (g : Nat) : Nat := 0x028130 + 0x80 * g
def F.CFE_Gg_ANGLE.ANGLE (g : Nat) : FRef := ⟨R.CFE_Gg_ANGLE g, 31, 0⟩
def R.CFE_Gg_AMP (g : Nat) : Nat := 0x028134 + 0x80 * g
def F.CFE_Gg_AMP.AMP (g : Nat) : FRef := ⟨R.CFE_Gg_AMP g, 31, 0⟩
def R.CFE_Gg_STAT (g : Nat) : Nat := 0x028138 + 0x80 * g
def F.CFE_Gg_STAT.OVLIM (g : Nat) : FRef := ⟨R.CFE_Gg_STAT g, 3, 3⟩
def F.CFE_Gg_STAT.CLAMPED (g : Nat) : FRef := ⟨R.CFE_Gg_STAT g, 2, 2⟩
def F.CFE_Gg_STAT.LIMP (g : Nat) : FRef := ⟨R.CFE_Gg_STAT g, 1, 1⟩
def F.CFE_Gg_STAT.CATCHING (g : Nat) : FRef := ⟨R.CFE_Gg_STAT g, 0, 0⟩
def R.CFE_Gg_CATSTAT (g : Nat) : Nat := 0x02813C + 0x80 * g
def F.CFE_Gg_CATSTAT.RESULT (g : Nat) : FRef := ⟨R.CFE_Gg_CATSTAT g, 31, 28⟩
def F.CFE_Gg_CATSTAT.DIR (g : Nat) : FRef := ⟨R.CFE_Gg_CATSTAT g, 27, 27⟩
def F.CFE_Gg_CATSTAT.DONE (g : Nat) : FRef := ⟨R.CFE_Gg_CATSTAT g, 8, 8⟩
def F.CFE_Gg_CATSTAT.SEQ (g : Nat) : FRef := ⟨R.CFE_Gg_CATSTAT g, 7, 0⟩
def R.CFE_Gg_CATPER (g : Nat) : Nat := 0x028140 + 0x80 * g
def F.CFE_Gg_CATPER.PERIOD (g : Nat) : FRef := ⟨R.CFE_Gg_CATPER g, 31, 0⟩
def R.CFE_Gg_CATAMP (g : Nat) : Nat := 0x028144 + 0x80 * g
def F.CFE_Gg_CATAMP.A0 (g : Nat) : FRef := ⟨R.CFE_Gg_CATAMP g, 31, 0⟩

/-- The rows of the CFE register table. -/
def regRowsCfe : List RegRow := [
  ⟨"CFE_CTRL", 0x028000, [], .rt, 0x00000001, 0x00000000⟩,
  ⟨"CFE_STAT", 0x028004, [], .ro, 0x00000000, 0x00000000⟩,
  ⟨"CFE_EVT", 0x028008, [], .sq, 0x00000000, 0x00000000⟩,
  ⟨"CFE_GRPCMD", 0x02800C, [], .wo, 0x00000000, 0x00000000⟩,
  ⟨"CFE_TBLSTAT", 0x028010, [], .ro, 0x00000000, 0x00000000⟩,
  ⟨"CFE_BUSCFG", 0x028014, [], .l, 0x00FFFFFF, 0x00000000⟩,
  ⟨"CFE_BUS", 0x028018, [], .ro, 0x00000000, 0x00000000⟩,
  ⟨"CFE_OVLIM", 0x02801C, [], .l, 0x3FFF3FFF, 0x1FFF1FFF⟩,
  ⟨"CFE_CHTHR", 0x028020, [], .l, 0x3FFF3FFF, 0x1FFF1FFE⟩,
  ⟨"CFE_CHMON", 0x028024, [], .l, 0x3FFF3FFF, 0x00001FFF⟩,
  ⟨"CFE_CHPWM", 0x028028, [], .rt, 0x03FFFFFF, 0x02002710⟩,
  ⟨"CFE_OVGAIN", 0x02802C, [], .rt, 0xFFFFFFFF, 0x00000000⟩,
  ⟨"CFE_CMDCFG", 0x028030, [], .c, 0x00FF7F03, 0x00140000⟩,
  ⟨"CFE_CMDMAP", 0x028034, [], .rt, 0xFFFFFFFF, 0x00000000⟩,
  ⟨"CFE_CMDSPAN", 0x028038, [], .rt, 0x0000FFFF, 0x00000001⟩,
  ⟨"CFE_CMDVAL", 0x02803C, [], .l, 0xFFFFFFFF, 0xFFFF0000⟩,
  ⟨"CFE_CMDMEAS", 0x028040, [], .ro, 0x00000000, 0x00000000⟩,
  ⟨"CFE_Gg_CFG", 0x028100, [(128, 2)], .l, 0xFFFFFFFF, 0x00000000⟩,
  ⟨"CFE_Gg_MODE", 0x028104, [(128, 2)], .rt, 0x00000003, 0x00000000⟩,
  ⟨"CFE_Gg_ANGOFS", 0x028108, [(128, 2)], .rt, 0xFFFFFFFF, 0x00000000⟩,
  ⟨"CFE_Gg_ADVCFG", 0x02810C, [(128, 2)], .rt, 0x0000001F, 0x00000000⟩,
  ⟨"CFE_Gg_AMPMAX", 0x028110, [(128, 2)], .l, 0xFFFFFFFF, 0x00000000⟩,
  ⟨"CFE_Gg_SLEW", 0x028114, [(128, 2)], .l, 0xFFFFFFFF, 0x00000000⟩,
  ⟨"CFE_Gg_AMPLIMP", 0x028118, [(128, 2)], .l, 0xFFFFFFFF, 0x00000000⟩,
  ⟨"CFE_Gg_SLEWLIMP", 0x02811C, [(128, 2)], .l, 0xFFFFFFFF, 0x00000000⟩,
  ⟨"CFE_Gg_PER", 0x028120, [(128, 2)], .rt, 0x03FFFFFF, 0x0000FFFF⟩,
  ⟨"CFE_Gg_BEMF", 0x028124, [(128, 2)], .l, 0x807F7F7F, 0x00000000⟩,
  ⟨"CFE_Gg_CATCH", 0x028128, [(128, 2)], .rt, 0xFFFFFFFF, 0x00641410⟩,
  ⟨"CFE_Gg_CATOFS", 0x02812C, [(128, 2)], .rt, 0xFFFFFFFF, 0x00000000⟩,
  ⟨"CFE_Gg_ANGLE", 0x028130, [(128, 2)], .ro, 0x00000000, 0x00000000⟩,
  ⟨"CFE_Gg_AMP", 0x028134, [(128, 2)], .ro, 0x00000000, 0x00000000⟩,
  ⟨"CFE_Gg_STAT", 0x028138, [(128, 2)], .ro, 0x00000000, 0x00000000⟩,
  ⟨"CFE_Gg_CATSTAT", 0x02813C, [(128, 2)], .sq, 0x00000000, 0x00000000⟩,
  ⟨"CFE_Gg_CATPER", 0x028140, [(128, 2)], .ro, 0x00000000, 0x00000000⟩,
  ⟨"CFE_Gg_CATAMP", 0x028144, [(128, 2)], .ro, 0x00000000, 0x00000000⟩]

/-- The rows of `regRowsCfe` whose reset value is not zero. -/
def resetRowsCfe : List RegRow := [
  ⟨"CFE_OVLIM", 0x02801C, [], .l, 0x3FFF3FFF, 0x1FFF1FFF⟩,
  ⟨"CFE_CHTHR", 0x028020, [], .l, 0x3FFF3FFF, 0x1FFF1FFE⟩,
  ⟨"CFE_CHMON", 0x028024, [], .l, 0x3FFF3FFF, 0x00001FFF⟩,
  ⟨"CFE_CHPWM", 0x028028, [], .rt, 0x03FFFFFF, 0x02002710⟩,
  ⟨"CFE_CMDCFG", 0x028030, [], .c, 0x00FF7F03, 0x00140000⟩,
  ⟨"CFE_CMDSPAN", 0x028038, [], .rt, 0x0000FFFF, 0x00000001⟩,
  ⟨"CFE_CMDVAL", 0x02803C, [], .l, 0xFFFFFFFF, 0xFFFF0000⟩,
  ⟨"CFE_Gg_PER", 0x028120, [(128, 2)], .rt, 0x03FFFFFF, 0x0000FFFF⟩,
  ⟨"CFE_Gg_CATCH", 0x028128, [(128, 2)], .rt, 0xFFFFFFFF, 0x00641410⟩]

/-! ## CLE (spec/[09], R245) -/

def R.CLE_CTRL : Nat := 0x030000
def F.CLE_CTRL.EN : FRef := ⟨R.CLE_CTRL, 0, 0⟩
def R.CLE_STAT : Nat := 0x030004
def F.CLE_STAT.LOOP : FRef := ⟨R.CLE_STAT, 12, 8⟩
def F.CLE_STAT.BUSY : FRef := ⟨R.CLE_STAT, 0, 0⟩
def R.CLE_EVT : Nat := 0x030008
def F.CLE_EVT.LOOP : FRef := ⟨R.CLE_EVT, 28, 24⟩
def F.CLE_EVT.CHAIN : FRef := ⟨R.CLE_EVT, 18, 16⟩
def F.CLE_EVT.STALE : FRef := ⟨R.CLE_EVT, 10, 10⟩
def F.CLE_EVT.LIMITED : FRef := ⟨R.CLE_EVT, 9, 9⟩
def F.CLE_EVT.OVERRUN : FRef := ⟨R.CLE_EVT, 8, 8⟩
def F.CLE_EVT.SEQ : FRef := ⟨R.CLE_EVT, 7, 0⟩
def R.CLE_MAXLAT : Nat := 0x03000C
def F.CLE_MAXLAT.CHAIN : FRef := ⟨R.CLE_MAXLAT, 18, 16⟩
def F.CLE_MAXLAT.LAT : FRef := ⟨R.CLE_MAXLAT, 15, 0⟩
def R.CLE_OVRCNT : Nat := 0x030010
def F.CLE_OVRCNT.COUNT : FRef := ⟨R.CLE_OVRCNT, 31, 0⟩
def R.CLE_CHc_TRIG (c : Nat) : Nat := 0x030040 + 0x4 * c
def F.CLE_CHc_TRIG.VAL (c : Nat) : FRef := ⟨R.CLE_CHc_TRIG c, 7, 7⟩
def F.CLE_CHc_TRIG.TRIG (c : Nat) : FRef := ⟨R.CLE_CHc_TRIG c, 4, 0⟩
def R.CLE_CHc_STAT (c : Nat) : Nat := 0x030060 + 0x4 * c
def F.CLE_CHc_STAT.RUNS (c : Nat) : FRef := ⟨R.CLE_CHc_STAT c, 31, 16⟩
def F.CLE_CHc_STAT.ABANDON (c : Nat) : FRef := ⟨R.CLE_CHc_STAT c, 15, 8⟩
def F.CLE_CHc_STAT.BUSY (c : Nat) : FRef := ⟨R.CLE_CHc_STAT c, 0, 0⟩
def R.CLE_Ln_CFG (n : Nat) : Nat := 0x030100 + 0x100 * n
def F.CLE_Ln_CFG.MAXAGE (n : Nat) : FRef := ⟨R.CLE_Ln_CFG n, 23, 16⟩
def F.CLE_Ln_CFG.PGRP (n : Nat) : FRef := ⟨R.CLE_Ln_CFG n, 9, 9⟩
def F.CLE_Ln_CFG.INMODE (n : Nat) : FRef := ⟨R.CLE_Ln_CFG n, 8, 8⟩
def F.CLE_Ln_CFG.CHAIN (n : Nat) : FRef := ⟨R.CLE_Ln_CFG n, 6, 4⟩
def F.CLE_Ln_CFG.LAW (n : Nat) : FRef := ⟨R.CLE_Ln_CFG n, 2, 0⟩
def R.CLE_Ln_INi (n i : Nat) : Nat := 0x030104 + 0x100 * n + 0x4 * i
def F.CLE_Ln_INi.VAL (n i : Nat) : FRef := ⟨R.CLE_Ln_INi n i, 31, 31⟩
def F.CLE_Ln_INi.KIND (n i : Nat) : FRef := ⟨R.CLE_Ln_INi n i, 26, 24⟩
def F.CLE_Ln_INi.WORD (n i : Nat) : FRef := ⟨R.CLE_Ln_INi n i, 21, 16⟩
def F.CLE_Ln_INi.SOURCE (n i : Nat) : FRef := ⟨R.CLE_Ln_INi n i, 15, 0⟩
def R.CLE_Ln_SPSRC (n : Nat) : Nat := 0x030114 + 0x100 * n
def F.CLE_Ln_SPSRC.VAL (n : Nat) : FRef := ⟨R.CLE_Ln_SPSRC n, 31, 31⟩
def F.CLE_Ln_SPSRC.KIND (n : Nat) : FRef := ⟨R.CLE_Ln_SPSRC n, 26, 24⟩
def F.CLE_Ln_SPSRC.WORD (n : Nat) : FRef := ⟨R.CLE_Ln_SPSRC n, 21, 16⟩
def F.CLE_Ln_SPSRC.SOURCE (n : Nat) : FRef := ⟨R.CLE_Ln_SPSRC n, 15, 0⟩
def R.CLE_Ln_MODE (n : Nat) : Nat := 0x030118 + 0x100 * n
def F.CLE_Ln_MODE.TSRC (n : Nat) : FRef := ⟨R.CLE_Ln_MODE n, 4, 4⟩
def F.CLE_Ln_MODE.MODE (n : Nat) : FRef := ⟨R.CLE_Ln_MODE n, 1, 0⟩
def R.CLE_Ln_SP (n : Nat) : Nat := 0x03011C + 0x100 * n
def F.CLE_Ln_SP.TARGET (n : Nat) : FRef := ⟨R.CLE_Ln_SP n, 31, 0⟩
def R.CLE_Ln_SPMIN (n : Nat) : Nat := 0x030120 + 0x100 * n
def F.CLE_Ln_SPMIN.LIMIT (n : Nat) : FRef := ⟨R.CLE_Ln_SPMIN n, 31, 0⟩
def R.CLE_Ln_SPMAX (n : Nat) : Nat := 0x030124 + 0x100 * n
def F.CLE_Ln_SPMAX.LIMIT (n : Nat) : FRef := ⟨R.CLE_Ln_SPMAX n, 31, 0⟩
def R.CLE_Ln_SPSLEW (n : Nat) : Nat := 0x030128 + 0x100 * n
def F.CLE_Ln_SPSLEW.SLEW (n : Nat) : FRef := ⟨R.CLE_Ln_SPSLEW n, 31, 0⟩
def R.CLE_Ln_SPMINL (n : Nat) : Nat := 0x03012C + 0x100 * n
def F.CLE_Ln_SPMINL.LIMIT (n : Nat) : FRef := ⟨R.CLE_Ln_SPMINL n, 31, 0⟩
def R.CLE_Ln_SPMAXL (n : Nat) : Nat := 0x030130 + 0x100 * n
def F.CLE_Ln_SPMAXL.LIMIT (n : Nat) : FRef := ⟨R.CLE_Ln_SPMAXL n, 31, 0⟩
def R.CLE_Ln_SPSLEWL (n : Nat) : Nat := 0x030134 + 0x100 * n
def F.CLE_Ln_SPSLEWL.SLEW (n : Nat) : FRef := ⟨R.CLE_Ln_SPSLEWL n, 31, 0⟩
def R.CLE_Ln_OMIN (n : Nat) : Nat := 0x030138 + 0x100 * n
def F.CLE_Ln_OMIN.LIMIT (n : Nat) : FRef := ⟨R.CLE_Ln_OMIN n, 31, 0⟩
def R.CLE_Ln_OMAX (n : Nat) : Nat := 0x03013C + 0x100 * n
def F.CLE_Ln_OMAX.LIMIT (n : Nat) : FRef := ⟨R.CLE_Ln_OMAX n, 31, 0⟩
def R.CLE_Ln_IMIN (n : Nat) : Nat := 0x030140 + 0x100 * n
def F.CLE_Ln_IMIN.LIMIT (n : Nat) : FRef := ⟨R.CLE_Ln_IMIN n, 31, 0⟩
def R.CLE_Ln_IMAX (n : Nat) : Nat := 0x030144 + 0x100 * n
def F.CLE_Ln_IMAX.LIMIT (n : Nat) : FRef := ⟨R.CLE_Ln_IMAX n, 31, 0⟩
def R.CLE_Ln_Cj (n j : Nat) : Nat := 0x030148 + 0x100 * n + 0x4 * j
def F.CLE_Ln_Cj.VALUE (n j : Nat) : FRef := ⟨R.CLE_Ln_Cj n j, 31, 0⟩
def R.CLE_Ln_SHC (n : Nat) : Nat := 0x03015C + 0x100 * n
def F.CLE_Ln_SHC.S4 (n : Nat) : FRef := ⟨R.CLE_Ln_SHC n, 24, 20⟩
def F.CLE_Ln_SHC.S3 (n : Nat) : FRef := ⟨R.CLE_Ln_SHC n, 19, 15⟩
def F.CLE_Ln_SHC.S2 (n : Nat) : FRef := ⟨R.CLE_Ln_SHC n, 14, 10⟩
def F.CLE_Ln_SHC.S1 (n : Nat) : FRef := ⟨R.CLE_Ln_SHC n, 9, 5⟩
def F.CLE_Ln_SHC.S0 (n : Nat) : FRef := ⟨R.CLE_Ln_SHC n, 4, 0⟩
def R.CLE_Ln_Wi (n i : Nat) : Nat := 0x030160 + 0x100 * n + 0x4 * i
def F.CLE_Ln_Wi.VALUE (n i : Nat) : FRef := ⟨R.CLE_Ln_Wi n i, 31, 0⟩
def R.CLE_Ln_SHW (n : Nat) : Nat := 0x030170 + 0x100 * n
def F.CLE_Ln_SHW.SW3 (n : Nat) : FRef := ⟨R.CLE_Ln_SHW n, 19, 15⟩
def F.CLE_Ln_SHW.SW2 (n : Nat) : FRef := ⟨R.CLE_Ln_SHW n, 14, 10⟩
def F.CLE_Ln_SHW.SW1 (n : Nat) : FRef := ⟨R.CLE_Ln_SHW n, 9, 5⟩
def F.CLE_Ln_SHW.SW0 (n : Nat) : FRef := ⟨R.CLE_Ln_SHW n, 4, 0⟩
def R.CLE_Ln_PRESET (n : Nat) : Nat := 0x030174 + 0x100 * n
def F.CLE_Ln_PRESET.VALUE (n : Nat) : FRef := ⟨R.CLE_Ln_PRESET n, 31, 0⟩
def R.CLE_Ln_OUT (n : Nat) : Nat := 0x030180 + 0x100 * n
def F.CLE_Ln_OUT.VALUE (n : Nat) : FRef := ⟨R.CLE_Ln_OUT n, 31, 0⟩
def R.CLE_Ln_CUR (n : Nat) : Nat := 0x030184 + 0x100 * n
def F.CLE_Ln_CUR.VALUE (n : Nat) : FRef := ⟨R.CLE_Ln_CUR n, 31, 0⟩
def R.CLE_Ln_SPL (n : Nat) : Nat := 0x030188 + 0x100 * n
def F.CLE_Ln_SPL.VALUE (n : Nat) : FRef := ⟨R.CLE_Ln_SPL n, 31, 0⟩
def R.CLE_Ln_ERR (n : Nat) : Nat := 0x03018C + 0x100 * n
def F.CLE_Ln_ERR.VALUE (n : Nat) : FRef := ⟨R.CLE_Ln_ERR n, 31, 0⟩
def R.CLE_Ln_Sm (n m : Nat) : Nat := 0x030190 + 0x100 * n + 0x4 * m
def F.CLE_Ln_Sm.VALUE (n m : Nat) : FRef := ⟨R.CLE_Ln_Sm n m, 31, 0⟩
def R.CLE_Ln_STAT (n : Nat) : Nat := 0x0301A0 + 0x100 * n
def F.CLE_Ln_STAT.MODEACT (n : Nat) : FRef := ⟨R.CLE_Ln_STAT n, 25, 24⟩
def F.CLE_Ln_STAT.EXECS (n : Nat) : FRef := ⟨R.CLE_Ln_STAT n, 23, 16⟩
def F.CLE_Ln_STAT.FIRST (n : Nat) : FRef := ⟨R.CLE_Ln_STAT n, 8, 8⟩
def F.CLE_Ln_STAT.STALE (n : Nat) : FRef := ⟨R.CLE_Ln_STAT n, 7, 7⟩
def F.CLE_Ln_STAT.LIMP (n : Nat) : FRef := ⟨R.CLE_Ln_STAT n, 6, 6⟩
def F.CLE_Ln_STAT.SPSLEWA (n : Nat) : FRef := ⟨R.CLE_Ln_STAT n, 5, 5⟩
def F.CLE_Ln_STAT.SPCLAMP (n : Nat) : FRef := ⟨R.CLE_Ln_STAT n, 4, 4⟩
def F.CLE_Ln_STAT.OCLAMP (n : Nat) : FRef := ⟨R.CLE_Ln_STAT n, 3, 3⟩
def F.CLE_Ln_STAT.LIMLO (n : Nat) : FRef := ⟨R.CLE_Ln_STAT n, 2, 2⟩
def F.CLE_Ln_STAT.LIMHI (n : Nat) : FRef := ⟨R.CLE_Ln_STAT n, 1, 1⟩
def F.CLE_Ln_STAT.FTRACK (n : Nat) : FRef := ⟨R.CLE_Ln_STAT n, 0, 0⟩

/-- The rows of the CLE register table. -/
def regRowsCle : List RegRow := [
  ⟨"CLE_CTRL", 0x030000, [], .rt, 0x00000001, 0x00000000⟩,
  ⟨"CLE_STAT", 0x030004, [], .ro, 0x00000000, 0x00000000⟩,
  ⟨"CLE_EVT", 0x030008, [], .sq, 0x00000000, 0x00000000⟩,
  ⟨"CLE_MAXLAT", 0x03000C, [], .ro, 0x00000000, 0x00000000⟩,
  ⟨"CLE_OVRCNT", 0x030010, [], .ro, 0x00000000, 0x00000000⟩,
  ⟨"CLE_CHc_TRIG", 0x030040, [(4, 8)], .l, 0x0000009F, 0x00000000⟩,
  ⟨"CLE_CHc_STAT", 0x030060, [(4, 8)], .ro, 0x00000000, 0x00000000⟩,
  ⟨"CLE_Ln_CFG", 0x030100, [(256, 32)], .l, 0x00FF0377, 0x00000000⟩,
  ⟨"CLE_Ln_INi", 0x030104, [(256, 32), (4, 4)], .l, 0x873FFFFF, 0x00000000⟩,
  ⟨"CLE_Ln_SPSRC", 0x030114, [(256, 32)], .l, 0x873FFFFF, 0x00000000⟩,
  ⟨"CLE_Ln_MODE", 0x030118, [(256, 32)], .rt, 0x00000013, 0x00000000⟩,
  ⟨"CLE_Ln_SP", 0x03011C, [(256, 32)], .rt, 0xFFFFFFFF, 0x00000000⟩,
  ⟨"CLE_Ln_SPMIN", 0x030120, [(256, 32)], .l, 0xFFFFFFFF, 0x00000000⟩,
  ⟨"CLE_Ln_SPMAX", 0x030124, [(256, 32)], .l, 0xFFFFFFFF, 0x00000000⟩,
  ⟨"CLE_Ln_SPSLEW", 0x030128, [(256, 32)], .l, 0xFFFFFFFF, 0x00000000⟩,
  ⟨"CLE_Ln_SPMINL", 0x03012C, [(256, 32)], .l, 0xFFFFFFFF, 0x00000000⟩,
  ⟨"CLE_Ln_SPMAXL", 0x030130, [(256, 32)], .l, 0xFFFFFFFF, 0x00000000⟩,
  ⟨"CLE_Ln_SPSLEWL", 0x030134, [(256, 32)], .l, 0xFFFFFFFF, 0x00000000⟩,
  ⟨"CLE_Ln_OMIN", 0x030138, [(256, 32)], .l, 0xFFFFFFFF, 0x00000000⟩,
  ⟨"CLE_Ln_OMAX", 0x03013C, [(256, 32)], .l, 0xFFFFFFFF, 0x00000000⟩,
  ⟨"CLE_Ln_IMIN", 0x030140, [(256, 32)], .l, 0xFFFFFFFF, 0x00000000⟩,
  ⟨"CLE_Ln_IMAX", 0x030144, [(256, 32)], .l, 0xFFFFFFFF, 0x00000000⟩,
  ⟨"CLE_Ln_Cj", 0x030148, [(256, 32), (4, 5)], .rt, 0xFFFFFFFF, 0x00000000⟩,
  ⟨"CLE_Ln_SHC", 0x03015C, [(256, 32)], .rt, 0x01FFFFFF, 0x00000000⟩,
  ⟨"CLE_Ln_Wi", 0x030160, [(256, 32), (4, 4)], .rt, 0xFFFFFFFF, 0x01000000⟩,
  ⟨"CLE_Ln_SHW", 0x030170, [(256, 32)], .rt, 0x000FFFFF, 0x00000000⟩,
  ⟨"CLE_Ln_PRESET", 0x030174, [(256, 32)], .rt, 0xFFFFFFFF, 0x00000000⟩,
  ⟨"CLE_Ln_OUT", 0x030180, [(256, 32)], .ro, 0x00000000, 0x00000000⟩,
  ⟨"CLE_Ln_CUR", 0x030184, [(256, 32)], .ro, 0x00000000, 0x00000000⟩,
  ⟨"CLE_Ln_SPL", 0x030188, [(256, 32)], .ro, 0x00000000, 0x00000000⟩,
  ⟨"CLE_Ln_ERR", 0x03018C, [(256, 32)], .ro, 0x00000000, 0x00000000⟩,
  ⟨"CLE_Ln_Sm", 0x030190, [(256, 32), (4, 4)], .ro, 0x00000000, 0x00000000⟩,
  ⟨"CLE_Ln_STAT", 0x0301A0, [(256, 32)], .ro, 0x00000000, 0x00000100⟩]

/-- The rows of `regRowsCle` whose reset value is not zero. -/
def resetRowsCle : List RegRow := [
  ⟨"CLE_Ln_Wi", 0x030160, [(256, 32), (4, 4)], .rt, 0xFFFFFFFF, 0x01000000⟩,
  ⟨"CLE_Ln_STAT", 0x0301A0, [(256, 32)], .ro, 0x00000000, 0x00000100⟩]

/-! ## TPE (spec/[11, 12], R296, R330) -/

def R.TPE_LNKCTL : Nat := 0x058000
def F.TPE_LNKCTL.PEN : FRef := ⟨R.TPE_LNKCTL, 3, 0⟩
def R.TPE_LNKCMD : Nat := 0x058004
def F.TPE_LNKCMD.RETRAIN : FRef := ⟨R.TPE_LNKCMD, 11, 8⟩
def F.TPE_LNKCMD.RANGE : FRef := ⟨R.TPE_LNKCMD, 3, 0⟩
def R.TPE_ACCW : Nat := 0x058008
def F.TPE_ACCW.W : FRef := ⟨R.TPE_ACCW, 6, 0⟩
def R.TPE_LNKEVT : Nat := 0x05800C
def F.TPE_LNKEVT.PVAL : FRef := ⟨R.TPE_LNKEVT, 18, 18⟩
def F.TPE_LNKEVT.PORT : FRef := ⟨R.TPE_LNKEVT, 17, 16⟩
def F.TPE_LNKEVT.RANGE : FRef := ⟨R.TPE_LNKEVT, 14, 14⟩
def F.TPE_LNKEVT.CUT : FRef := ⟨R.TPE_LNKEVT, 13, 13⟩
def F.TPE_LNKEVT.COPY : FRef := ⟨R.TPE_LNKEVT, 12, 12⟩
def F.TPE_LNKEVT.WINDOW : FRef := ⟨R.TPE_LNKEVT, 11, 11⟩
def F.TPE_LNKEVT.FCRC : FRef := ⟨R.TPE_LNKEVT, 10, 10⟩
def F.TPE_LNKEVT.HCRC : FRef := ⟨R.TPE_LNKEVT, 9, 9⟩
def F.TPE_LNKEVT.DOWN : FRef := ⟨R.TPE_LNKEVT, 8, 8⟩
def F.TPE_LNKEVT.SEQ : FRef := ⟨R.TPE_LNKEVT, 7, 0⟩
def R.TPE_SPAN : Nat := 0x058010
def F.TPE_SPAN.SPANY : FRef := ⟨R.TPE_SPAN, 31, 16⟩
def F.TPE_SPAN.SPANX : FRef := ⟨R.TPE_SPAN, 15, 0⟩
def R.TPE_COPYCNT : Nat := 0x058014
def F.TPE_COPYCNT.DIFF : FRef := ⟨R.TPE_COPYCNT, 31, 16⟩
def F.TPE_COPYCNT.DUP : FRef := ⟨R.TPE_COPYCNT, 15, 0⟩
def R.TPE_PORTp_CFG (p : Nat) : Nat := 0x058040 + 0x40 * p
def F.TPE_PORTp_CFG.TXINV (p : Nat) : FRef := ⟨R.TPE_PORTp_CFG p, 13, 13⟩
def F.TPE_PORTp_CFG.RXINV (p : Nat) : FRef := ⟨R.TPE_PORTp_CFG p, 12, 12⟩
def F.TPE_PORTp_CFG.EQFIX (p : Nat) : FRef := ⟨R.TPE_PORTp_CFG p, 11, 8⟩
def F.TPE_PORTp_CFG.EQMODE (p : Nat) : FRef := ⟨R.TPE_PORTp_CFG p, 4, 4⟩
def F.TPE_PORTp_CFG.DEEMPH (p : Nat) : FRef := ⟨R.TPE_PORTp_CFG p, 3, 2⟩
def F.TPE_PORTp_CFG.SWING (p : Nat) : FRef := ⟨R.TPE_PORTp_CFG p, 1, 0⟩
def R.TPE_PORTp_STAT (p : Nat) : Nat := 0x058044 + 0x40 * p
def F.TPE_PORTp_STAT.NBVAL (p : Nat) : FRef := ⟨R.TPE_PORTp_STAT p, 26, 26⟩
def F.TPE_PORTp_STAT.NBPORT (p : Nat) : FRef := ⟨R.TPE_PORTp_STAT p, 25, 24⟩
def F.TPE_PORTp_STAT.NBNODE (p : Nat) : FRef := ⟨R.TPE_PORTp_STAT p, 20, 16⟩
def F.TPE_PORTp_STAT.EQ (p : Nat) : FRef := ⟨R.TPE_PORTp_STAT p, 11, 8⟩
def F.TPE_PORTp_STAT.SIGDET (p : Nat) : FRef := ⟨R.TPE_PORTp_STAT p, 3, 3⟩
def F.TPE_PORTp_STAT.STATE (p : Nat) : FRef := ⟨R.TPE_PORTp_STAT p, 2, 0⟩
def R.TPE_PORTp_RANGE (p : Nat) : Nat := 0x058048 + 0x40 * p
def F.TPE_PORTp_RANGE.VALID (p : Nat) : FRef := ⟨R.TPE_PORTp_RANGE p, 31, 31⟩
def F.TPE_PORTp_RANGE.SPREAD (p : Nat) : FRef := ⟨R.TPE_PORTp_RANGE p, 23, 16⟩
def F.TPE_PORTp_RANGE.LINKDLY (p : Nat) : FRef := ⟨R.TPE_PORTp_RANGE p, 15, 0⟩
def R.TPE_PORTp_HOP (p : Nat) : Nat := 0x05804C + 0x40 * p
def F.TPE_PORTp_HOP.MAX (p : Nat) : FRef := ⟨R.TPE_PORTp_HOP p, 31, 16⟩
def F.TPE_PORTp_HOP.LAST (p : Nat) : FRef := ⟨R.TPE_PORTp_HOP p, 15, 0⟩
def R.TPE_PORTp_CVCNT (p : Nat) : Nat := 0x058050 + 0x40 * p
def F.TPE_PORTp_CVCNT.COUNT (p : Nat) : FRef := ⟨R.TPE_PORTp_CVCNT p, 31, 0⟩
def R.TPE_PORTp_RXOK (p : Nat) : Nat := 0x058054 + 0x40 * p
def F.TPE_PORTp_RXOK.COUNT (p : Nat) : FRef := ⟨R.TPE_PORTp_RXOK p, 31, 0⟩
def R.TPE_PORTp_RXBAD (p : Nat) : Nat := 0x058058 + 0x40 * p
def F.TPE_PORTp_RXBAD.FCRC (p : Nat) : FRef := ⟨R.TPE_PORTp_RXBAD p, 31, 16⟩
def F.TPE_PORTp_RXBAD.HCRC (p : Nat) : FRef := ⟨R.TPE_PORTp_RXBAD p, 15, 0⟩
def R.TPE_PORTp_FWD (p : Nat) : Nat := 0x05805C + 0x40 * p
def F.TPE_PORTp_FWD.REFUSED (p : Nat) : FRef := ⟨R.TPE_PORTp_FWD p, 31, 16⟩
def F.TPE_PORTp_FWD.FWDS (p : Nat) : FRef := ⟨R.TPE_PORTp_FWD p, 15, 0⟩
def R.TPE_PORTp_CUT (p : Nat) : Nat := 0x058060 + 0x40 * p
def F.TPE_PORTp_CUT.DOWNS (p : Nat) : FRef := ⟨R.TPE_PORTp_CUT p, 31, 16⟩
def F.TPE_PORTp_CUT.CUTS (p : Nat) : FRef := ⟨R.TPE_PORTp_CUT p, 15, 0⟩
def R.TPE_CTRL : Nat := 0x040000
def F.TPE_CTRL.EN : FRef := ⟨R.TPE_CTRL, 0, 0⟩
def R.TPE_STAT : Nat := 0x040004
def F.TPE_STAT.STATE : FRef := ⟨R.TPE_STAT, 31, 28⟩
def F.TPE_STAT.COURSE : FRef := ⟨R.TPE_STAT, 21, 16⟩
def F.TPE_STAT.REFNODE : FRef := ⟨R.TPE_STAT, 12, 8⟩
def F.TPE_STAT.INTEG : FRef := ⟨R.TPE_STAT, 7, 0⟩
def R.TPE_EVT : Nat := 0x040008
def F.TPE_EVT.ARB : FRef := ⟨R.TPE_EVT, 15, 15⟩
def F.TPE_EVT.BUF : FRef := ⟨R.TPE_EVT, 14, 14⟩
def F.TPE_EVT.EXT : FRef := ⟨R.TPE_EVT, 13, 13⟩
def F.TPE_EVT.SPACING : FRef := ⟨R.TPE_EVT, 12, 12⟩
def F.TPE_EVT.RATE : FRef := ⟨R.TPE_EVT, 11, 11⟩
def F.TPE_EVT.MARGIN : FRef := ⟨R.TPE_EVT, 10, 10⟩
def F.TPE_EVT.INTEG : FRef := ⟨R.TPE_EVT, 9, 9⟩
def F.TPE_EVT.STATE : FRef := ⟨R.TPE_EVT, 8, 8⟩
def F.TPE_EVT.SEQ : FRef := ⟨R.TPE_EVT, 7, 0⟩
def R.TPE_CFGERR : Nat := 0x04000C
def F.TPE_CFGERR.CAUSE : FRef := ⟨R.TPE_CFGERR, 31, 28⟩
def F.TPE_CFGERR.ROW : FRef := ⟨R.TPE_CFGERR, 21, 16⟩
def F.TPE_CFGERR.SLOT : FRef := ⟨R.TPE_CFGERR, 7, 0⟩
def R.TPE_BONDCNT : Nat := 0x040010
def F.TPE_BONDCNT.COUNT : FRef := ⟨R.TPE_BONDCNT, 31, 0⟩
def R.TPE_TIME : Nat := 0x040014
def F.TPE_TIME.MTICK : FRef := ⟨R.TPE_TIME, 16, 0⟩
def R.TPE_CLCOURSE : Nat := 0x040020
def F.TPE_CLCOURSE.COURSE : FRef := ⟨R.TPE_CLCOURSE, 16, 0⟩
def R.TPE_CLSIZE : Nat := 0x040024
def F.TPE_CLSIZE.NSYNC : FRef := ⟨R.TPE_CLSIZE, 27, 24⟩
def F.TPE_CLSIZE.NODES : FRef := ⟨R.TPE_CLSIZE, 21, 16⟩
def F.TPE_CLSIZE.SLOTS : FRef := ⟨R.TPE_CLSIZE, 8, 0⟩
def R.TPE_CLARB : Nat := 0x040028
def F.TPE_CLARB.VALUE : FRef := ⟨R.TPE_CLARB, 16, 0⟩
def R.TPE_CLGAP : Nat := 0x04002C
def F.TPE_CLGAP.VALUE : FRef := ⟨R.TPE_CLGAP, 16, 0⟩
def R.TPE_CLCOLD : Nat := 0x040030
def F.TPE_CLCOLD.MASK : FRef := ⟨R.TPE_CLCOLD, 31, 0⟩
def R.TPE_CLSYNC : Nat := 0x040034
def F.TPE_CLSYNC.MASK : FRef := ⟨R.TPE_CLSYNC, 31, 0⟩
def R.TPE_CLNODE : Nat := 0x040038
def F.TPE_CLNODE.EXTNODE : FRef := ⟨R.TPE_CLNODE, 31, 24⟩
def F.TPE_CLNODE.RANK : FRef := ⟨R.TPE_CLNODE, 23, 16⟩
def F.TPE_CLNODE.FLAGS : FRef := ⟨R.TPE_CLNODE, 11, 8⟩
def F.TPE_CLNODE.NODE : FRef := ⟨R.TPE_CLNODE, 4, 0⟩
def R.TPE_SYNCCFG : Nat := 0x040040
def F.TPE_SYNCCFG.MARGIN : FRef := ⟨R.TPE_SYNCCFG, 6, 0⟩
def R.TPE_SYNCSTAT : Nat := 0x040044
def F.TPE_SYNCSTAT.OFS : FRef := ⟨R.TPE_SYNCSTAT, 31, 16⟩
def F.TPE_SYNCSTAT.NVAL : FRef := ⟨R.TPE_SYNCSTAT, 11, 8⟩
def F.TPE_SYNCSTAT.CLAMP : FRef := ⟨R.TPE_SYNCSTAT, 7, 7⟩
def R.TPE_RATE : Nat := 0x040048
def F.TPE_RATE.SAT : FRef := ⟨R.TPE_RATE, 31, 31⟩
def F.TPE_RATE.RATE : FRef := ⟨R.TPE_RATE, 15, 0⟩
def R.TPE_EXTCFG : Nat := 0x04004C
def F.TPE_EXTCFG.EN : FRef := ⟨R.TPE_EXTCFG, 31, 31⟩
def F.TPE_EXTCFG.PERMS : FRef := ⟨R.TPE_EXTCFG, 29, 16⟩
def F.TPE_EXTCFG.PWMFOL : FRef := ⟨R.TPE_EXTCFG, 14, 12⟩
def F.TPE_EXTCFG.STEPMAX : FRef := ⟨R.TPE_EXTCFG, 8, 0⟩
def R.TPE_EXTSTAT : Nat := 0x040050
def F.TPE_EXTSTAT.LOST : FRef := ⟨R.TPE_EXTSTAT, 31, 31⟩
def F.TPE_EXTSTAT.BONDLIM : FRef := ⟨R.TPE_EXTSTAT, 30, 30⟩
def F.TPE_EXTSTAT.BONDSUM : FRef := ⟨R.TPE_EXTSTAT, 29, 16⟩
def F.TPE_EXTSTAT.NEXT : FRef := ⟨R.TPE_EXTSTAT, 15, 0⟩
def R.TPE_EXTERR : Nat := 0x040054
def F.TPE_EXTERR.VALUE : FRef := ⟨R.TPE_EXTERR, 31, 0⟩
def R.TPE_EXTREM : Nat := 0x040058
def F.TPE_EXTREM.VALUE : FRef := ⟨R.TPE_EXTREM, 31, 0⟩
def R.TPE_ARBSTAT : Nat := 0x04005C
def F.TPE_ARBSTAT.GRANTS : FRef := ⟨R.TPE_ARBSTAT, 24, 16⟩
def F.TPE_ARBSTAT.OWN : FRef := ⟨R.TPE_ARBSTAT, 15, 8⟩
def F.TPE_ARBSTAT.LAPSED : FRef := ⟨R.TPE_ARBSTAT, 7, 0⟩
def R.TPE_CLAIMk (k : Nat) : Nat := 0x040060 + 0x4 * k
def F.TPE_CLAIMk.VAL (k : Nat) : FRef := ⟨R.TPE_CLAIMk k, 31, 31⟩
def F.TPE_CLAIMk.PRIO (k : Nat) : FRef := ⟨R.TPE_CLAIMk k, 23, 16⟩
def F.TPE_CLAIMk.CLEN (k : Nat) : FRef := ⟨R.TPE_CLAIMk k, 13, 8⟩
def F.TPE_CLAIMk.CBUF (k : Nat) : FRef := ⟨R.TPE_CLAIMk k, 7, 0⟩
def R.TPE_SPACE : Nat := 0x040070
def F.TPE_SPACE.VAL : FRef := ⟨R.TPE_SPACE, 31, 31⟩
def F.TPE_SPACE.CHAN : FRef := ⟨R.TPE_SPACE, 30, 30⟩
def F.TPE_SPACE.COURSE : FRef := ⟨R.TPE_SPACE, 21, 16⟩
def F.TPE_SPACE.COUNT : FRef := ⟨R.TPE_SPACE, 15, 8⟩
def F.TPE_SPACE.SLOT : FRef := ⟨R.TPE_SPACE, 7, 0⟩
def R.TPE_SLOTs (s : Nat) : Nat := 0x040100 + 0x4 * s
def F.TPE_SLOTs.START (s : Nat) : FRef := ⟨R.TPE_SLOTs s, 16, 0⟩
def R.TPE_BUFb_CFG (b : Nat) : Nat := 0x100300 + 0x400 * b
def F.TPE_BUFb_CFG.DIR (b : Nat) : FRef := ⟨R.TPE_BUFb_CFG b, 31, 30⟩
def F.TPE_BUFb_CFG.SENDONCE (b : Nat) : FRef := ⟨R.TPE_BUFb_CFG b, 29, 29⟩
def F.TPE_BUFb_CFG.LEN (b : Nat) : FRef := ⟨R.TPE_BUFb_CFG b, 21, 16⟩
def F.TPE_BUFb_CFG.MAXAGE (b : Nat) : FRef := ⟨R.TPE_BUFb_CFG b, 7, 0⟩
def R.TPE_BUFb_STAT (b : Nat) : Nat := 0x100304 + 0x400 * b
def F.TPE_BUFb_STAT.AGE (b : Nat) : FRef := ⟨R.TPE_BUFb_STAT b, 31, 24⟩
def F.TPE_BUFb_STAT.VALID (b : Nat) : FRef := ⟨R.TPE_BUFb_STAT b, 23, 23⟩
def F.TPE_BUFb_STAT.NEWEST (b : Nat) : FRef := ⟨R.TPE_BUFb_STAT b, 21, 20⟩
def F.TPE_BUFb_STAT.WIDX (b : Nat) : FRef := ⟨R.TPE_BUFb_STAT b, 19, 18⟩
def F.TPE_BUFb_STAT.PIN (b : Nat) : FRef := ⟨R.TPE_BUFb_STAT b, 17, 16⟩
def F.TPE_BUFb_STAT.PINAGE (b : Nat) : FRef := ⟨R.TPE_BUFb_STAT b, 15, 8⟩
def R.TPE_BUFb_CMD (b : Nat) : Nat := 0x100308 + 0x400 * b
def F.TPE_BUFb_CMD.RELEASE (b : Nat) : FRef := ⟨R.TPE_BUFb_CMD b, 2, 2⟩
def F.TPE_BUFb_CMD.ACQUIRE (b : Nat) : FRef := ⟨R.TPE_BUFb_CMD b, 1, 1⟩
def F.TPE_BUFb_CMD.COMMIT (b : Nat) : FRef := ⟨R.TPE_BUFb_CMD b, 0, 0⟩
def R.TPE_BUFb_CNT (b : Nat) : Nat := 0x10030C + 0x400 * b
def F.TPE_BUFb_CNT.FRAMES (b : Nat) : FRef := ⟨R.TPE_BUFb_CNT b, 31, 16⟩
def F.TPE_BUFb_CNT.NULLS (b : Nat) : FRef := ⟨R.TPE_BUFb_CNT b, 15, 8⟩
def F.TPE_BUFb_CNT.LENERR (b : Nat) : FRef := ⟨R.TPE_BUFb_CNT b, 7, 0⟩

/-- The rows of the TPE register tables. -/
def regRowsTpe : List RegRow := [
  ⟨"TPE_LNKCTL", 0x058000, [], .rt, 0x0000000F, 0x00000000⟩,
  ⟨"TPE_LNKCMD", 0x058004, [], .wo, 0x00000000, 0x00000000⟩,
  ⟨"TPE_ACCW", 0x058008, [], .c, 0x0000007F, 0x00000028⟩,
  ⟨"TPE_LNKEVT", 0x05800C, [], .sq, 0x00000000, 0x00000000⟩,
  ⟨"TPE_SPAN", 0x058010, [], .ro, 0x00000000, 0x00000000⟩,
  ⟨"TPE_COPYCNT", 0x058014, [], .ro, 0x00000000, 0x00000000⟩,
  ⟨"TPE_PORTp_CFG", 0x058040, [(64, 4)], .c, 0x00003F1F, 0x00000005⟩,
  ⟨"TPE_PORTp_STAT", 0x058044, [(64, 4)], .ro, 0x00000000, 0x00000000⟩,
  ⟨"TPE_PORTp_RANGE", 0x058048, [(64, 4)], .ro, 0x00000000, 0x00000000⟩,
  ⟨"TPE_PORTp_HOP", 0x05804C, [(64, 4)], .ro, 0x00000000, 0x00000000⟩,
  ⟨"TPE_PORTp_CVCNT", 0x058050, [(64, 4)], .ro, 0x00000000, 0x00000000⟩,
  ⟨"TPE_PORTp_RXOK", 0x058054, [(64, 4)], .ro, 0x00000000, 0x00000000⟩,
  ⟨"TPE_PORTp_RXBAD", 0x058058, [(64, 4)], .ro, 0x00000000, 0x00000000⟩,
  ⟨"TPE_PORTp_FWD", 0x05805C, [(64, 4)], .ro, 0x00000000, 0x00000000⟩,
  ⟨"TPE_PORTp_CUT", 0x058060, [(64, 4)], .ro, 0x00000000, 0x00000000⟩,
  ⟨"TPE_CTRL", 0x040000, [], .rt, 0x00000001, 0x00000000⟩,
  ⟨"TPE_STAT", 0x040004, [], .ro, 0x00000000, 0x00000000⟩,
  ⟨"TPE_EVT", 0x040008, [], .sq, 0x00000000, 0x00000000⟩,
  ⟨"TPE_CFGERR", 0x04000C, [], .ro, 0x00000000, 0x00000000⟩,
  ⟨"TPE_BONDCNT", 0x040010, [], .ro, 0x00000000, 0x00000000⟩,
  ⟨"TPE_TIME", 0x040014, [], .ro, 0x00000000, 0x00000000⟩,
  ⟨"TPE_CLCOURSE", 0x040020, [], .l, 0x0001FFFF, 0x00000000⟩,
  ⟨"TPE_CLSIZE", 0x040024, [], .l, 0x0F3F01FF, 0x00000000⟩,
  ⟨"TPE_CLARB", 0x040028, [], .l, 0x0001FFFF, 0x00000000⟩,
  ⟨"TPE_CLGAP", 0x04002C, [], .l, 0x0001FFFF, 0x00000000⟩,
  ⟨"TPE_CLCOLD", 0x040030, [], .l, 0xFFFFFFFF, 0x00000000⟩,
  ⟨"TPE_CLSYNC", 0x040034, [], .l, 0xFFFFFFFF, 0x00000000⟩,
  ⟨"TPE_CLNODE", 0x040038, [], .l, 0xFFFF0F1F, 0x00000000⟩,
  ⟨"TPE_SYNCCFG", 0x040040, [], .c, 0x0000007F, 0x00000020⟩,
  ⟨"TPE_SYNCSTAT", 0x040044, [], .ro, 0x00000000, 0x00000000⟩,
  ⟨"TPE_RATE", 0x040048, [], .ro, 0x00000000, 0x00000000⟩,
  ⟨"TPE_EXTCFG", 0x04004C, [], .c, 0xBFFF71FF, 0x03E80190⟩,
  ⟨"TPE_EXTSTAT", 0x040050, [], .ro, 0x00000000, 0x00000000⟩,
  ⟨"TPE_EXTERR", 0x040054, [], .ro, 0x00000000, 0x00000000⟩,
  ⟨"TPE_EXTREM", 0x040058, [], .ro, 0x00000000, 0x00000000⟩,
  ⟨"TPE_ARBSTAT", 0x04005C, [], .ro, 0x00000000, 0x00000000⟩,
  ⟨"TPE_CLAIMk", 0x040060, [(4, 4)], .rt, 0x80FF3FFF, 0x00000000⟩,
  ⟨"TPE_SPACE", 0x040070, [], .ro, 0x00000000, 0x00000000⟩,
  ⟨"TPE_SLOTs", 0x040100, [(4, 256)], .l, 0x0001FFFF, 0x00000000⟩,
  ⟨"TPE_BUFb_CFG", 0x100300, [(1024, 256)], .c, 0xE03F00FF, 0x000000FF⟩,
  ⟨"TPE_BUFb_STAT", 0x100304, [(1024, 256)], .ro, 0x00000000, 0x00030000⟩,
  ⟨"TPE_BUFb_CMD", 0x100308, [(1024, 256)], .wo, 0x00000000, 0x00000000⟩,
  ⟨"TPE_BUFb_CNT", 0x10030C, [(1024, 256)], .ro, 0x00000000, 0x00000000⟩]

/-- The rows of `regRowsTpe` whose reset value is not zero. -/
def resetRowsTpe : List RegRow := [
  ⟨"TPE_ACCW", 0x058008, [], .c, 0x0000007F, 0x00000028⟩,
  ⟨"TPE_PORTp_CFG", 0x058040, [(64, 4)], .c, 0x00003F1F, 0x00000005⟩,
  ⟨"TPE_SYNCCFG", 0x040040, [], .c, 0x0000007F, 0x00000020⟩,
  ⟨"TPE_EXTCFG", 0x04004C, [], .c, 0xBFFF71FF, 0x03E80190⟩,
  ⟨"TPE_BUFb_CFG", 0x100300, [(1024, 256)], .c, 0xE03F00FF, 0x000000FF⟩,
  ⟨"TPE_BUFb_STAT", 0x100304, [(1024, 256)], .ro, 0x00000000, 0x00030000⟩]

/-! ## CAN (spec/[13], R348) -/

def R.CAN_CTRL : Nat := 0x070000
def F.CAN_CTRL.EN : FRef := ⟨R.CAN_CTRL, 0, 0⟩
def R.CAN_GWCMD : Nat := 0x070004
def F.CAN_GWCMD.RESEND : FRef := ⟨R.CAN_GWCMD, 0, 0⟩
def R.CAN_Cc_MODE (c : Nat) : Nat := 0x070100 + 0x100 * c
def F.CAN_Cc_MODE.AUTOREC (c : Nat) : FRef := ⟨R.CAN_Cc_MODE c, 4, 4⟩
def F.CAN_Cc_MODE.BRSEN (c : Nat) : FRef := ⟨R.CAN_Cc_MODE c, 3, 3⟩
def F.CAN_Cc_MODE.FDEN (c : Nat) : FRef := ⟨R.CAN_Cc_MODE c, 2, 2⟩
def F.CAN_Cc_MODE.MODE (c : Nat) : FRef := ⟨R.CAN_Cc_MODE c, 1, 0⟩
def R.CAN_Cc_NBT (c : Nat) : Nat := 0x070104 + 0x100 * c
def F.CAN_Cc_NBT.BRP (c : Nat) : FRef := ⟨R.CAN_Cc_NBT c, 31, 24⟩
def F.CAN_Cc_NBT.TSEG1 (c : Nat) : FRef := ⟨R.CAN_Cc_NBT c, 23, 16⟩
def F.CAN_Cc_NBT.TSEG2 (c : Nat) : FRef := ⟨R.CAN_Cc_NBT c, 15, 8⟩
def F.CAN_Cc_NBT.SJW (c : Nat) : FRef := ⟨R.CAN_Cc_NBT c, 7, 0⟩
def R.CAN_Cc_DBT (c : Nat) : Nat := 0x070108 + 0x100 * c
def F.CAN_Cc_DBT.BRP (c : Nat) : FRef := ⟨R.CAN_Cc_DBT c, 26, 24⟩
def F.CAN_Cc_DBT.TSEG1 (c : Nat) : FRef := ⟨R.CAN_Cc_DBT c, 20, 16⟩
def F.CAN_Cc_DBT.TSEG2 (c : Nat) : FRef := ⟨R.CAN_Cc_DBT c, 11, 8⟩
def F.CAN_Cc_DBT.TDCEN (c : Nat) : FRef := ⟨R.CAN_Cc_DBT c, 7, 7⟩
def F.CAN_Cc_DBT.TDCO (c : Nat) : FRef := ⟨R.CAN_Cc_DBT c, 6, 0⟩
def R.CAN_Cc_STAT (c : Nat) : Nat := 0x07010C + 0x100 * c
def F.CAN_Cc_STAT.ESTATE (c : Nat) : FRef := ⟨R.CAN_Cc_STAT c, 31, 30⟩
def F.CAN_Cc_STAT.NOMATCH (c : Nat) : FRef := ⟨R.CAN_Cc_STAT c, 23, 16⟩
def F.CAN_Cc_STAT.TEC (c : Nat) : FRef := ⟨R.CAN_Cc_STAT c, 15, 8⟩
def F.CAN_Cc_STAT.REC (c : Nat) : FRef := ⟨R.CAN_Cc_STAT c, 7, 0⟩
def R.CAN_Cc_EVT (c : Nat) : Nat := 0x070110 + 0x100 * c
def F.CAN_Cc_EVT.RMT (c : Nat) : FRef := ⟨R.CAN_Cc_EVT c, 12, 12⟩
def F.CAN_Cc_EVT.TXDONE (c : Nat) : FRef := ⟨R.CAN_Cc_EVT c, 11, 11⟩
def F.CAN_Cc_EVT.OVWR (c : Nat) : FRef := ⟨R.CAN_Cc_EVT c, 10, 10⟩
def F.CAN_Cc_EVT.PASSIVE (c : Nat) : FRef := ⟨R.CAN_Cc_EVT c, 9, 9⟩
def F.CAN_Cc_EVT.BUSOFF (c : Nat) : FRef := ⟨R.CAN_Cc_EVT c, 8, 8⟩
def F.CAN_Cc_EVT.SEQ (c : Nat) : FRef := ⟨R.CAN_Cc_EVT c, 7, 0⟩
def R.CAN_Cc_ADDR (c : Nat) : Nat := 0x070114 + 0x100 * c
def F.CAN_Cc_ADDR.VAL (c : Nat) : FRef := ⟨R.CAN_Cc_ADDR c, 8, 8⟩
def F.CAN_Cc_ADDR.SA (c : Nat) : FRef := ⟨R.CAN_Cc_ADDR c, 7, 0⟩
def R.CAN_Cc_TXREQn (c n : Nat) : Nat := 0x070120 + 0x100 * c + 0x4 * n
def F.CAN_Cc_TXREQn.OBJ (c n : Nat) : FRef := ⟨R.CAN_Cc_TXREQn c n, 31, 0⟩
def R.CAN_Cc_TXABTn (c n : Nat) : Nat := 0x070128 + 0x100 * c + 0x4 * n
def F.CAN_Cc_TXABTn.OBJ (c n : Nat) : FRef := ⟨R.CAN_Cc_TXABTn c n, 31, 0⟩
def R.CAN_Cc_TXPENDn (c n : Nat) : Nat := 0x070130 + 0x100 * c + 0x4 * n
def F.CAN_Cc_TXPENDn.OBJ (c n : Nat) : FRef := ⟨R.CAN_Cc_TXPENDn c n, 31, 0⟩
def R.CAN_Cc_OBJo_ID (c o : Nat) : Nat := 0x071000 + 0x2000 * c + 0x80 * o
def F.CAN_Cc_OBJo_ID.ID (c o : Nat) : FRef := ⟨R.CAN_Cc_OBJo_ID c o, 28, 0⟩
def R.CAN_Cc_OBJo_MASK (c o : Nat) : Nat := 0x071004 + 0x2000 * c + 0x80 * o
def F.CAN_Cc_OBJo_MASK.ID (c o : Nat) : FRef := ⟨R.CAN_Cc_OBJo_MASK c o, 28, 0⟩
def R.CAN_Cc_OBJo_CTL (c o : Nat) : Nat := 0x071008 + 0x2000 * c + 0x80 * o
def F.CAN_Cc_OBJo_CTL.VAL (c o : Nat) : FRef := ⟨R.CAN_Cc_OBJo_CTL c o, 31, 31⟩
def F.CAN_Cc_OBJo_CTL.DIR (c o : Nat) : FRef := ⟨R.CAN_Cc_OBJo_CTL c o, 30, 30⟩
def F.CAN_Cc_OBJo_CTL.IDE (c o : Nat) : FRef := ⟨R.CAN_Cc_OBJo_CTL c o, 29, 29⟩
def F.CAN_Cc_OBJo_CTL.FDF (c o : Nat) : FRef := ⟨R.CAN_Cc_OBJo_CTL c o, 28, 28⟩
def F.CAN_Cc_OBJo_CTL.BRS (c o : Nat) : FRef := ⟨R.CAN_Cc_OBJo_CTL c o, 27, 27⟩
def F.CAN_Cc_OBJo_CTL.ANYF (c o : Nat) : FRef := ⟨R.CAN_Cc_OBJo_CTL c o, 26, 26⟩
def F.CAN_Cc_OBJo_CTL.ISOFILT (c o : Nat) : FRef := ⟨R.CAN_Cc_OBJo_CTL c o, 25, 25⟩
def F.CAN_Cc_OBJo_CTL.DLC (c o : Nat) : FRef := ⟨R.CAN_Cc_OBJo_CTL c o, 3, 0⟩
def R.CAN_Cc_OBJo_STAT (c o : Nat) : Nat := 0x07100C + 0x2000 * c + 0x80 * o
def F.CAN_Cc_OBJo_STAT.DLC (c o : Nat) : FRef := ⟨R.CAN_Cc_OBJo_STAT c o, 15, 12⟩
def F.CAN_Cc_OBJo_STAT.BRS (c o : Nat) : FRef := ⟨R.CAN_Cc_OBJo_STAT c o, 11, 11⟩
def F.CAN_Cc_OBJo_STAT.ESI (c o : Nat) : FRef := ⟨R.CAN_Cc_OBJo_STAT c o, 10, 10⟩
def F.CAN_Cc_OBJo_STAT.OVWR (c o : Nat) : FRef := ⟨R.CAN_Cc_OBJo_STAT c o, 9, 9⟩
def F.CAN_Cc_OBJo_STAT.NEW (c o : Nat) : FRef := ⟨R.CAN_Cc_OBJo_STAT c o, 8, 8⟩
def F.CAN_Cc_OBJo_STAT.SEQ (c o : Nat) : FRef := ⟨R.CAN_Cc_OBJo_STAT c o, 7, 0⟩
def R.CAN_Cc_OBJo_RXID (c o : Nat) : Nat := 0x071010 + 0x2000 * c + 0x80 * o
def F.CAN_Cc_OBJo_RXID.FDF (c o : Nat) : FRef := ⟨R.CAN_Cc_OBJo_RXID c o, 30, 30⟩
def F.CAN_Cc_OBJo_RXID.IDE (c o : Nat) : FRef := ⟨R.CAN_Cc_OBJo_RXID c o, 29, 29⟩
def F.CAN_Cc_OBJo_RXID.ID (c o : Nat) : FRef := ⟨R.CAN_Cc_OBJo_RXID c o, 28, 0⟩
def R.CAN_Cc_OBJo_DATAw (c o w : Nat) : Nat := 0x071040 + 0x2000 * c + 0x80 * o + 0x4 * w
def F.CAN_Cc_OBJo_DATAw.DATA (c o w : Nat) : FRef := ⟨R.CAN_Cc_OBJo_DATAw c o w, 31, 0⟩
def R.CAN_GWRr_CFG (r : Nat) : Nat := 0x076000 + 0x8 * r
def F.CAN_GWRr_CFG.VAL (r : Nat) : FRef := ⟨R.CAN_GWRr_CFG r, 31, 31⟩
def F.CAN_GWRr_CFG.DIR (r : Nat) : FRef := ⟨R.CAN_GWRr_CFG r, 30, 30⟩
def F.CAN_GWRr_CFG.CTLR (r : Nat) : FRef := ⟨R.CAN_GWRr_CFG r, 29, 29⟩
def F.CAN_GWRr_CFG.OBJ (r : Nat) : FRef := ⟨R.CAN_GWRr_CFG r, 21, 16⟩
def F.CAN_GWRr_CFG.WORD (r : Nat) : FRef := ⟨R.CAN_GWRr_CFG r, 13, 8⟩
def F.CAN_GWRr_CFG.BUF (r : Nat) : FRef := ⟨R.CAN_GWRr_CFG r, 7, 0⟩
def R.CAN_GWRr_CNT (r : Nat) : Nat := 0x076004 + 0x8 * r
def F.CAN_GWRr_CNT.FRAMES (r : Nat) : FRef := ⟨R.CAN_GWRr_CNT r, 31, 16⟩
def F.CAN_GWRr_CNT.SKIP (r : Nat) : FRef := ⟨R.CAN_GWRr_CNT r, 15, 8⟩
def F.CAN_GWRr_CNT.BAD (r : Nat) : FRef := ⟨R.CAN_GWRr_CNT r, 7, 0⟩

/-- The rows of the CAN register table. -/
def regRowsCan : List RegRow := [
  ⟨"CAN_CTRL", 0x070000, [], .rt, 0x00000001, 0x00000000⟩,
  ⟨"CAN_GWCMD", 0x070004, [], .wo, 0x00000000, 0x00000000⟩,
  ⟨"CAN_Cc_MODE", 0x070100, [(256, 2)], .rt, 0x0000001F, 0x00000000⟩,
  ⟨"CAN_Cc_NBT", 0x070104, [(256, 2)], .c, 0xFFFFFFFF, 0x100F0403⟩,
  ⟨"CAN_Cc_DBT", 0x070108, [(256, 2)], .c, 0x071F0FFF, 0x010B048C⟩,
  ⟨"CAN_Cc_STAT", 0x07010C, [(256, 2)], .ro, 0x00000000, 0x00000000⟩,
  ⟨"CAN_Cc_EVT", 0x070110, [(256, 2)], .sq, 0x00000000, 0x00000000⟩,
  ⟨"CAN_Cc_ADDR", 0x070114, [(256, 2)], .rt, 0x000001FF, 0x00000000⟩,
  ⟨"CAN_Cc_TXREQn", 0x070120, [(256, 2), (4, 2)], .wo, 0x00000000, 0x00000000⟩,
  ⟨"CAN_Cc_TXABTn", 0x070128, [(256, 2), (4, 2)], .wo, 0x00000000, 0x00000000⟩,
  ⟨"CAN_Cc_TXPENDn", 0x070130, [(256, 2), (4, 2)], .ro, 0x00000000, 0x00000000⟩,
  ⟨"CAN_Cc_OBJo_ID", 0x071000, [(8192, 2), (128, 64)], .c, 0x1FFFFFFF, 0x00000000⟩,
  ⟨"CAN_Cc_OBJo_MASK", 0x071004, [(8192, 2), (128, 64)], .c, 0x1FFFFFFF, 0x1FFFFFFF⟩,
  ⟨"CAN_Cc_OBJo_CTL", 0x071008, [(8192, 2), (128, 64)], .c, 0xFE00000F, 0x00000000⟩,
  ⟨"CAN_Cc_OBJo_STAT", 0x07100C, [(8192, 2), (128, 64)], .sq, 0x00000000, 0x00000000⟩,
  ⟨"CAN_Cc_OBJo_RXID", 0x071010, [(8192, 2), (128, 64)], .ro, 0x00000000, 0x00000000⟩,
  ⟨"CAN_Cc_OBJo_DATAw", 0x071040, [(8192, 2), (128, 64), (4, 16)], .rt, 0xFFFFFFFF, 0x00000000⟩,
  ⟨"CAN_GWRr_CFG", 0x076000, [(8, 32)], .c, 0xE03F3FFF, 0x00000000⟩,
  ⟨"CAN_GWRr_CNT", 0x076004, [(8, 32)], .ro, 0x00000000, 0x00000000⟩]

/-- The rows of `regRowsCan` whose reset value is not zero. -/
def resetRowsCan : List RegRow := [
  ⟨"CAN_Cc_NBT", 0x070104, [(256, 2)], .c, 0xFFFFFFFF, 0x100F0403⟩,
  ⟨"CAN_Cc_DBT", 0x070108, [(256, 2)], .c, 0x071F0FFF, 0x010B048C⟩,
  ⟨"CAN_Cc_OBJo_MASK", 0x071004, [(8192, 2), (128, 64)], .c, 0x1FFFFFFF, 0x1FFFFFFF⟩]

/-! ## HST (spec/[13], R349) -/

def R.HST_CTRL : Nat := 0x078000
def F.HST_CTRL.RAEN : FRef := ⟨R.HST_CTRL, 0, 0⟩
def R.HST_EVT : Nat := 0x078004
def F.HST_EVT.RSKIP : FRef := ⟨R.HST_EVT, 13, 13⟩
def F.HST_EVT.RIGN : FRef := ⟨R.HST_EVT, 12, 12⟩
def F.HST_EVT.ABORT : FRef := ⟨R.HST_EVT, 11, 11⟩
def F.HST_EVT.OVF : FRef := ⟨R.HST_EVT, 10, 10⟩
def F.HST_EVT.CMDERR : FRef := ⟨R.HST_EVT, 9, 9⟩
def F.HST_EVT.CRCERR : FRef := ⟨R.HST_EVT, 8, 8⟩
def F.HST_EVT.SEQ : FRef := ⟨R.HST_EVT, 7, 0⟩
def R.HST_MBOXIN : Nat := 0x078008
def F.HST_MBOXIN.WORD : FRef := ⟨R.HST_MBOXIN, 31, 0⟩
def R.HST_MBOXOUT : Nat := 0x07800C
def F.HST_MBOXOUT.WORD : FRef := ⟨R.HST_MBOXOUT, 31, 0⟩
def R.HST_IRQ : Nat := 0x078010
def F.HST_IRQ.KST : FRef := ⟨R.HST_IRQ, 9, 9⟩
def F.HST_IRQ.MBOX : FRef := ⟨R.HST_IRQ, 8, 8⟩
def F.HST_IRQ.SEQ : FRef := ⟨R.HST_IRQ, 7, 0⟩
def R.HST_IRQEN : Nat := 0x078014
def F.HST_IRQEN.EN : FRef := ⟨R.HST_IRQEN, 1, 0⟩
def R.HST_SPICNT : Nat := 0x078018
def F.HST_SPICNT.FRAMES : FRef := ⟨R.HST_SPICNT, 31, 16⟩
def F.HST_SPICNT.ERRS : FRef := ⟨R.HST_SPICNT, 15, 0⟩
def R.HST_RAALLOW : Nat := 0x07801C
def F.HST_RAALLOW.NODES : FRef := ⟨R.HST_RAALLOW, 31, 0⟩
def R.HST_RAk_CFG (k : Nat) : Nat := 0x078020 + 0x8 * k
def F.HST_RAk_CFG.VAL (k : Nat) : FRef := ⟨R.HST_RAk_CFG k, 31, 31⟩
def F.HST_RAk_CFG.RSBUF (k : Nat) : FRef := ⟨R.HST_RAk_CFG k, 15, 8⟩
def F.HST_RAk_CFG.RQBUF (k : Nat) : FRef := ⟨R.HST_RAk_CFG k, 7, 0⟩
def R.HST_RAk_STAT (k : Nat) : Nat := 0x078024 + 0x8 * k
def F.HST_RAk_STAT.TAG (k : Nat) : FRef := ⟨R.HST_RAk_STAT k, 31, 24⟩
def F.HST_RAk_STAT.IGN (k : Nat) : FRef := ⟨R.HST_RAk_STAT k, 23, 16⟩
def F.HST_RAk_STAT.SKIP (k : Nat) : FRef := ⟨R.HST_RAk_STAT k, 15, 8⟩
def F.HST_RAk_STAT.DONE (k : Nat) : FRef := ⟨R.HST_RAk_STAT k, 7, 0⟩

/-- The rows of the HST register table. -/
def regRowsHst : List RegRow := [
  ⟨"HST_CTRL", 0x078000, [], .rt, 0x00000001, 0x00000000⟩,
  ⟨"HST_EVT", 0x078004, [], .sq, 0x00000000, 0x00000000⟩,
  ⟨"HST_MBOXIN", 0x078008, [], .rt, 0xFFFFFFFF, 0x00000000⟩,
  ⟨"HST_MBOXOUT", 0x07800C, [], .rt, 0xFFFFFFFF, 0x00000000⟩,
  ⟨"HST_IRQ", 0x078010, [], .sq, 0x00000000, 0x00000000⟩,
  ⟨"HST_IRQEN", 0x078014, [], .rt, 0x00000003, 0x00000000⟩,
  ⟨"HST_SPICNT", 0x078018, [], .ro, 0x00000000, 0x00000000⟩,
  ⟨"HST_RAALLOW", 0x07801C, [], .c, 0xFFFFFFFF, 0x00000000⟩,
  ⟨"HST_RAk_CFG", 0x078020, [(8, 4)], .c, 0x8000FFFF, 0x00000000⟩,
  ⟨"HST_RAk_STAT", 0x078024, [(8, 4)], .ro, 0x00000000, 0x00000000⟩]

/-- The rows of `regRowsHst` whose reset value is not zero. -/
def resetRowsHst : List RegRow := [
  ]

/-! ## UPD (spec/[17], R442) -/

def R.UPD_CTRL : Nat := 0x080000
def F.UPD_CTRL.EN : FRef := ⟨R.UPD_CTRL, 0, 0⟩
def R.UPD_STAT : Nat := 0x080004
def F.UPD_STAT.XSTATE : FRef := ⟨R.UPD_STAT, 31, 28⟩
def F.UPD_STAT.TTYPE : FRef := ⟨R.UPD_STAT, 27, 26⟩
def F.UPD_STAT.SVC : FRef := ⟨R.UPD_STAT, 25, 25⟩
def R.UPD_EVT : Nat := 0x080008
def F.UPD_EVT.MIG : FRef := ⟨R.UPD_EVT, 13, 13⟩
def F.UPD_EVT.ROLLBACK : FRef := ⟨R.UPD_EVT, 12, 12⟩
def F.UPD_EVT.ACT : FRef := ⟨R.UPD_EVT, 11, 11⟩
def F.UPD_EVT.XFAIL : FRef := ⟨R.UPD_EVT, 10, 10⟩
def F.UPD_EVT.XDONE : FRef := ⟨R.UPD_EVT, 9, 9⟩
def F.UPD_EVT.BLOCKERR : FRef := ⟨R.UPD_EVT, 8, 8⟩
def F.UPD_EVT.SEQ : FRef := ⟨R.UPD_EVT, 7, 0⟩
def R.UPD_ACTCMD : Nat := 0x08000C
def F.UPD_ACTCMD.CMD : FRef := ⟨R.UPD_ACTCMD, 6, 4⟩
def F.UPD_ACTCMD.TYPE : FRef := ⟨R.UPD_ACTCMD, 1, 0⟩
def R.UPD_RELAY : Nat := 0x080010
def F.UPD_RELAY.SENDER : FRef := ⟨R.UPD_RELAY, 31, 31⟩
def F.UPD_RELAY.PASSES : FRef := ⟨R.UPD_RELAY, 30, 29⟩
def F.UPD_RELAY.UPNODE : FRef := ⟨R.UPD_RELAY, 28, 24⟩
def F.UPD_RELAY.PRIO : FRef := ⟨R.UPD_RELAY, 23, 16⟩
def F.UPD_RELAY.RXBUF : FRef := ⟨R.UPD_RELAY, 15, 8⟩
def F.UPD_RELAY.TXBUF : FRef := ⟨R.UPD_RELAY, 7, 0⟩
def R.UPD_XFERTO : Nat := 0x080014
def F.UPD_XFERTO.TIMEOUT : FRef := ⟨R.UPD_XFERTO, 15, 0⟩
def R.UPD_SRCCMD : Nat := 0x080018
def F.UPD_SRCCMD.TAG : FRef := ⟨R.UPD_SRCCMD, 31, 24⟩
def F.UPD_SRCCMD.BLOCK : FRef := ⟨R.UPD_SRCCMD, 23, 12⟩
def F.UPD_SRCCMD.PUSH : FRef := ⟨R.UPD_SRCCMD, 0, 0⟩
def R.UPD_XFER : Nat := 0x08001C
def F.UPD_XFER.TAG : FRef := ⟨R.UPD_XFER, 31, 24⟩
def F.UPD_XFER.NBLK : FRef := ⟨R.UPD_XFER, 23, 12⟩
def F.UPD_XFER.HAVE : FRef := ⟨R.UPD_XFER, 11, 0⟩
def R.UPD_HOSTAT : Nat := 0x080020
def F.UPD_HOSTAT.STEP : FRef := ⟨R.UPD_HOSTAT, 31, 28⟩
def F.UPD_HOSTAT.RESULT : FRef := ⟨R.UPD_HOSTAT, 27, 24⟩
def F.UPD_HOSTAT.TIME : FRef := ⟨R.UPD_HOSTAT, 15, 0⟩
def R.UPD_SETSTAT : Nat := 0x080024
def F.UPD_SETSTAT.LIVEVER : FRef := ⟨R.UPD_SETSTAT, 31, 16⟩
def F.UPD_SETSTAT.MIGRATE : FRef := ⟨R.UPD_SETSTAT, 3, 3⟩
def F.UPD_SETSTAT.INRANGE : FRef := ⟨R.UPD_SETSTAT, 2, 2⟩
def F.UPD_SETSTAT.RETVAL : FRef := ⟨R.UPD_SETSTAT, 1, 1⟩
def F.UPD_SETSTAT.LIVEVAL : FRef := ⟨R.UPD_SETSTAT, 0, 0⟩
def R.UPD_SETCMD : Nat := 0x080028
def F.UPD_SETCMD.COMMIT : FRef := ⟨R.UPD_SETCMD, 0, 0⟩
def R.UPD_SLOTs_STAT (s : Nat) : Nat := 0x080040 + 0x10 * s
def F.UPD_SLOTs_STAT.STATE (s : Nat) : FRef := ⟨R.UPD_SLOTs_STAT s, 31, 28⟩
def F.UPD_SLOTs_STAT.BOUND (s : Nat) : FRef := ⟨R.UPD_SLOTs_STAT s, 27, 27⟩
def F.UPD_SLOTs_STAT.KEYSLOT (s : Nat) : FRef := ⟨R.UPD_SLOTs_STAT s, 26, 25⟩
def R.UPD_SLOTs_VER (s : Nat) : Nat := 0x080044 + 0x10 * s
def F.UPD_SLOTs_VER.VERSION (s : Nat) : FRef := ⟨R.UPD_SLOTs_VER s, 31, 0⟩
def R.UPD_SLOTs_LEN (s : Nat) : Nat := 0x080048 + 0x10 * s
def F.UPD_SLOTs_LEN.BODYLEN (s : Nat) : FRef := ⟨R.UPD_SLOTs_LEN s, 31, 0⟩
def R.UPD_STAGEw (w : Nat) : Nat := 0x081000 + 0x4 * w
def F.UPD_STAGEw.DATA (w : Nat) : FRef := ⟨R.UPD_STAGEw w, 31, 0⟩

/-- The rows of the UPD register table. -/
def regRowsUpd : List RegRow := [
  ⟨"UPD_CTRL", 0x080000, [], .rt, 0x00000001, 0x00000000⟩,
  ⟨"UPD_STAT", 0x080004, [], .ro, 0x00000000, 0x00000000⟩,
  ⟨"UPD_EVT", 0x080008, [], .sq, 0x00000000, 0x00000000⟩,
  ⟨"UPD_ACTCMD", 0x08000C, [], .wo, 0x00000000, 0x00000000⟩,
  ⟨"UPD_RELAY", 0x080010, [], .c, 0xFFFFFFFF, 0x20000000⟩,
  ⟨"UPD_XFERTO", 0x080014, [], .c, 0x0000FFFF, 0x000003E8⟩,
  ⟨"UPD_SRCCMD", 0x080018, [], .wo, 0x00000000, 0x00000000⟩,
  ⟨"UPD_XFER", 0x08001C, [], .ro, 0x00000000, 0x00000000⟩,
  ⟨"UPD_HOSTAT", 0x080020, [], .ro, 0x00000000, 0x00000000⟩,
  ⟨"UPD_SETSTAT", 0x080024, [], .ro, 0x00000000, 0x00000000⟩,
  ⟨"UPD_SETCMD", 0x080028, [], .wo, 0x00000000, 0x00000000⟩,
  ⟨"UPD_SLOTs_STAT", 0x080040, [(16, 6)], .ro, 0x00000000, 0x00000000⟩,
  ⟨"UPD_SLOTs_VER", 0x080044, [(16, 6)], .ro, 0x00000000, 0x00000000⟩,
  ⟨"UPD_SLOTs_LEN", 0x080048, [(16, 6)], .ro, 0x00000000, 0x00000000⟩,
  ⟨"UPD_STAGEw", 0x081000, [(4, 1024)], .rt, 0xFFFFFFFF, 0x00000000⟩]

/-- The rows of `regRowsUpd` whose reset value is not zero. -/
def resetRowsUpd : List RegRow := [
  ⟨"UPD_RELAY", 0x080010, [], .c, 0xFFFFFFFF, 0x20000000⟩,
  ⟨"UPD_XFERTO", 0x080014, [], .c, 0x0000FFFF, 0x000003E8⟩]

end Sys2Proof.Machine
end

