-- ==== Sys2Proof/Machine/State.lean ====
section
/-! DEFINITION. The state of a VX8624: two lanes, each with its register file and the state behind it, and the queue of
waiting commands. Plain data throughout. Registers stand in `Lane.regs` (one entry per register that does not read its
reset value); what the spec describes but gives no register stands in the structures below, block by block. -/

namespace Sys2Proof.Machine

/-- Why a command can stop the machine.
`illFormed`: raised by a meaning whose operands no sender can form (`Instr.wellFormed` false: a list longer than the wire
format carries, an index outside its array). Safe: no hardware event is lost by it. -/
inductive Fault where
  | illFormed
  deriving DecidableEq, Repr

/-- Why a command is refused.
`notModelled`: raised by `exec` for a row that has no meaning yet, by its mnemonic. Safe: nothing follows from it. -/
inductive Refusal where
  | notModelled (mnemonic : String)
  deriving DecidableEq, Repr

/-! ## Keystone (spec/14) -/

/-- A message on its way to the collector, or accepted by it (R350). -/
structure Msg where
  src  : Nat
  kind : Nat
  word : Nat
  xl   : Bool := false
  inj  : Bool := false
  deriving DecidableEq, Repr

/-- An armed injection (R369): source, instance, the lane time its WAIT ends, DRY. -/
structure Injection where
  src    : Nat
  target : Nat
  due    : Nat
  dry    : Bool
  hit    : Bool := false
  deriving DecidableEq, Repr

/-- Keystone behind its registers: messages not yet accepted; by record its sources and the lane time of its opening; the log queue, its
next sequence number and whether a drop was raised in this episode (R367); an armed injection (R369); the detectors whose present
detection counts as injected, so that their next evaluation finds it again (R370). -/
structure KstState where
  msgs    : List Msg := []
  recSrcs : List (Nat × List Nat) := []
  recTime : List (Nat × Nat) := []
  logQ    : List (List W32) := []
  logSeq  : Nat := 0
  dropEp  : Bool := false
  inj     : Option Injection := none
  redo    : List (Nat × Nat) := []
  deriving DecidableEq, Repr

/-! ## Oapiec (spec/10) -/

/-- A store held in the write buffer (R263): the cycle it issued in, lane offset, width in bytes, data. -/
structure WEntry where
  t    : Nat
  off  : Nat
  size : Nat
  data : W32
  deriving DecidableEq, Repr

/-- A store to data memory that its compare has not released yet (R265): its issue cycle, place and size, and what stood there. -/
structure HeldStore where
  t    : Nat
  off  : Nat
  size : Nat
  old  : Nat
  deriving DecidableEq, Repr

/-- A lane-space load whose data has not come back (R263). -/
structure LoadWait where
  off    : Nat
  size   : Nat
  signed : Bool
  dest   : Nat
  deriving DecidableEq, Repr

/-- The Oapiec pair behind its CSRs: general registers, PC, captured event data, events already reported lost, the running
handler with the cycle of its first instruction and the cycle the next instruction may issue in, write buffer, whether a store waits
for free entries in it, stores to data memory not released yet, loads and a FENCE awaited, timers with the cycle they expire in, the active bank, both code banks and the data memory by byte, whether
the engine runs, whether it is stopped for good (R272), a freeze (cycle of its mismatch, R269), the cause of the restart
that scrubbing leads to with the cycle it ends in (R271), and whether CSR_LOCK has been written since the restart. -/
structure OapState where
  gpr        : List (Nat × W32) := []
  pc         : W32 := 0#32
  csr        : List (Nat × W32) := []
  evData     : List (Nat × W32) := []
  lostRaised : List Nat := []
  handler    : Option Nat := none
  startT     : Nat := 0
  next       : Nat := 0
  wbuf       : List WEntry := []
  stall      : Bool := false
  held       : List HeldStore := []
  loads      : List LoadWait := []
  fence      : Bool := false
  tmr        : List (Nat × Nat) := []
  bank       : Nat := 0
  code0      : List Host.Cell := []
  code1      : List Host.Cell := []
  data       : List Host.Cell := []
  running    : Bool := false
  stopped    : Bool := false
  frozen     : Option Nat := none
  scrub      : Option (Nat × Nat) := none
  locked     : Bool := false
  deriving DecidableEq, Repr

/-! ## Power domains and clocks (spec/18) -/

/-- An access (R71, R455): requester (R92's ORIGIN), offset, direction, data; `rep` tells where its answer goes: 0 nowhere; for
the SPI host 1, the port; for Tlasyn remote k + 1, the request on pair k. Its width in bytes (8 only where unaligned, R75), and for
Tlasyn remote the requesting node (R346). -/
structure Access where
  org   : Nat
  off   : Nat
  write : Bool
  val   : W32 := 0#32
  rep   : Nat := 0
  size  : Nat := 4
  node  : Option Nat := none
  deriving DecidableEq, Repr

/-- The Vetch port (R456): line levels, an address in progress, its clock edges, its bits, whether VW_DAT is driven low, and a
match whose wake is still to be registered. -/
structure Vetch where
  clk    : Bool := true
  dat    : Bool := true
  active : Bool := false
  count  : Nat := 0
  shift  : Nat := 0
  ack    : Bool := false
  hit    : Bool := false
  deriving DecidableEq, Repr

/-- The power controller behind its registers. By domain: the cycle of its latest entry request and of the begin of its latest exit, the
cycle that exit must be complete by (R455), the state a transition leaves, a late wake (R451, R453), an expired idle count (R450), the cycle its residency is counted to and the
cycles spent by 3 d + state (R461). Accesses that wait for their domain in their order (R455); causes kept until CORE is back (R463);
the cycle the wake timer was loaded in and the ticks it was loaded with (R459); the Vetch port; the cycle the XO started in; a PLL stop that is due (R450); a PLL that
lost lock and a crystal not STABLE since it failed (R446); supplies outside their window and the cycle one last came back (R460, R503);
lane time at the cycle `laneT` it counts from, its fraction in 1/32, and the cycle of a PLL stop that holds it (R445). -/
structure PwrState where
  entT    : List (Nat × Nat) := []
  exitT   : List (Nat × Nat) := []
  dueT    : List (Nat × Nat) := []
  leaving : List (Nat × Nat) := []
  late    : List Nat := []
  idle    : List Nat := []
  resT    : List (Nat × Nat) := []
  res     : List (Nat × Nat) := []
  stalled : List Access := []
  cause   : Nat := 0
  wtT     : Nat := 0
  wtN     : Nat := 0
  vetch   : Vetch := {}
  xoT     : Nat := 0
  pllStop : Option Nat := none
  pllFail : Bool := false
  xoFail  : Bool := false
  supOut  : List Nat := []
  supT    : Option Nat := none
  lane0   : Nat := 0
  laneT   : Nat := 0
  laneFr  : Nat := 0
  laneHold : Option Nat := none
  deriving DecidableEq, Repr

/-! ## PWM generator (spec/04) -/

/-- The safe patterns of R355. -/
inductive Pattern where
  | ascLow | ascHigh | allOff
  deriving DecidableEq, Repr

/-- What governs a leg at the dead-time stage (R115): an override that holds both switches off, a safe pattern, or REF. -/
inductive Gov where
  | off | safe (p : Pattern) | ref
  deriving DecidableEq, Repr

/-- The dead-time stage of one leg: active dead times, pending turn-ons with their due cycles, what governs it, and the overrides on
their way to it: the cycle each arrives in and what it makes govern. -/
structure LegStage where
  rise   : Nat := 100
  fall   : Nat := 100
  pendH  : Option Nat := none
  pendL  : Option Nat := none
  gov    : Gov := .off
  ovrDue : List (Nat × Gov) := []
  deriving DecidableEq, Repr

/-- A time base behind its registers: prescaler counts (R108), and whether the mid-point of the present arming has
transferred (R110), the cycle of its latest period start and the phase that remains to be taken up (R327), whether the counter
has been 0 since, and the cycle in which it took the value of PWM_TBb_CNT, from which it steps (R98). -/
structure TbStage where
  ps0     : Nat := 0
  ps1     : Nat := 0
  ps2     : Nat := 0
  midDone : Bool := false
  perT    : Nat := 0
  follow  : Int := 0
  zero    : Bool := false
  cntT    : Nat := 0
  deriving DecidableEq, Repr

/-- The PWM generator behind its registers: the dead-time stages of legs 1 to 7, the time bases, and by trip the cycle its filter output
last changed in (R116). -/
structure PwmState where
  legs  : List LegStage := [{}, {}, {}, {}, {}, {}, {}]
  tbs   : List TbStage := [{}, {}, {}]
  tripT : List Nat := [0, 0, 0, 0]
  deriving DecidableEq, Repr

/-! ## Gate drive (spec/05) -/

/-- A level change commanded by the lane die, with its timestamp, waiting for its edge frame (R103, R125). -/
structure EdgeCmd where
  sw : Nat
  on : Bool
  ts : Nat
  deriving DecidableEq, Repr

/-- A report of the gate-drive die that the next return frame carries to Keystone (R126). -/
structure GateRpt where
  src  : Nat
  kind : Nat
  word : Nat
  deriving DecidableEq, Repr

/-- One switch at the gate-drive die: driven on; the level its latest edge commanded; the cycle of its latest turn-off; the end of a
soft turn-off (R143); a deferred turn-on (R139); the strength step of its latest edge (once the gate is at its rail the driver holds it
at step 7 until the next edge, R132, log entry 101); the start of the on interval, the end of blanking and whether it runs; the start of
a soft crossing in progress at the end of blanking (R141); thresholds and qualification taken for the present on interval (R140). Times
are gate-die cycles. -/
structure Switch where
  on       : Bool := false
  lvl      : Bool := false
  offT     : Option Nat := none
  softEnd  : Option Nat := none
  deferred : Bool := false
  strength : Nat := 7
  onT      : Nat := 0
  blankEnd : Nat := 0
  blank    : Bool := false
  runT     : Option Nat := none
  soft     : Nat := 0x14
  hard     : Nat := 0x64
  softq    : Nat := 4
  deriving DecidableEq, Repr

/-- An off-state check in progress (R148, R149), with the gate-die cycle it started in. -/
structure Check where
  kind   : Nat
  target : Nat
  start  : Nat := 0
  deriving DecidableEq, Repr

/-- The GCL endpoints and the gate-drive die: levels sent so far and level changes waiting (R125); the switches; legs held off by the
interlock; reflex latches, those of hard shorts, lock-outs live and latched (R136, R141); the feeds, bits as in GDV_RBSTAT; charge pump
and VGD; link state, direct-pin drive, direct pin levels; the reference lost, the GCL lost (R129, R130); bad and good frames in a
row; a loss reported; the cycle from which frames are followed (R131); reports waiting for a return frame; a check in progress; bad
return frames in a row; settings on their way over the control lane and as delivered (R127); levels of frames taken, with the cycle they
take effect in (R125); GCLK's count at lane cycle `gT` (R129); the gate-die cycle since which all direct pins are low (R130); high sides
below their own threshold, and VCP − VBS below its (R135); clears of each reflex latch in this start (R151); the control-lane read data
of the latest good frame (R126). -/
structure GdvState where
  txLvl   : Nat := 0
  edges   : List EdgeCmd := []
  sw      : List Switch := List.replicate 14 {}
  ilkHold : List Nat := []
  latch   : Nat := 0
  hardLt  : Nat := 0
  live    : Nat := 0
  lockLt  : Nat := 0
  feed1   : Nat := 0
  feed2   : Nat := 0
  cpok    : Bool := false
  vgdok   : Bool := false
  link    : Nat := 0
  direct  : Bool := false
  dgpin   : Nat := 0
  refLost : Bool := false
  lost    : Bool := false
  badRun  : Nat := 0
  upRun   : Nat := 0
  lossRep : Bool := false
  followT : Nat := 0
  reports : List GateRpt := []
  check   : Option Check := none
  upBad   : Nat := 0
  ctl     : List (Nat × W32) := []
  set     : List (Nat × W32) := []
  due     : List (Nat × Nat) := []
  g0      : Nat := 0
  gT      : Nat := 0
  lowT    : Nat := 0
  own     : Nat := 0
  joint   : Bool := false
  clrs    : List (Nat × Nat) := []
  ctlData : W32 := 0#32
  deriving DecidableEq, Repr

/-! ## MRAM: what survives every reset (R466) -/

/-- One MRAM copy of the life-cycle state (R484): sequence number, state, whether its CRC-32 matches. A device is delivered
BLANK (R2). -/
structure LcCopy where
  seq   : Nat := 0
  state : Nat := 1
  ok    : Bool := true
  deriving DecidableEq, Repr

/-- The lane's MRAM: image slots s = 2 (TYPE − 1) + k with their bytes and states (spec/17), life-cycle copies (R484), key
slots and revocations (R485), the start count (R470), the fault log ring (R366), the settings areas (spec/17), the Cairn
region (spec/16), and an erasure to be completed (R489). -/
structure Mram where
  slots    : List (Nat × List Byte) := []
  slotSt   : List (Nat × Nat) := []
  lcA      : LcCopy := {}
  lcB      : LcCopy := {}
  keys     : List (Nat × W32) := []
  revoked  : Nat := 0
  startCnt : Nat := 0
  faultLog : List (Nat × List W32) := []
  setLive  : Nat := 0
  setA     : List (Nat × W32) := []
  setB     : List (Nat × W32) := []
  cairn    : List (Nat × W32) := []
  erasing  : Bool := false
  deriving DecidableEq, Repr

/-! ## SYS: start, Ashlar, life cycle (spec/02, 03, 19) -/

/-- A route entry of the ROUTING section (R48). -/
structure Route where
  kind   : Nat
  word   : Nat
  source : Nat
  sink   : Nat
  input  : Nat
  deriving DecidableEq, Repr

/-- A TUNING entry (R56). -/
structure Tune where
  off    : Nat
  signed : Bool
  mask   : W32
  min    : W32
  max    : W32
  init   : W32
  deriving DecidableEq, Repr

/-- What the lane keeps of its loaded Ashlar image beyond the mirror registers: M0_MODE, M1_MODE and AUX_FUNC; every route and those
left after the removals of R39, which are listed by index; the dependency graph; the TUNING entries; the mirrors by offset. -/
structure Ashlar where
  modes   : List Nat := [0, 0, 0]
  all     : List Route := []
  routes  : List Route := []
  removed : List Nat := []
  deps    : List (Nat × Nat) := []
  tunes   : List Tune := []
  mirrors : List (Nat × W32) := []
  deriving DecidableEq, Repr

/-- A frame a lane sends over Lintel (R18, R398): heartbeat, status, Keystone message, window request and response, Cairn mirror and
commit (each marked when it belongs to a resync, R405), wake. -/
inductive LFrame where
  | heartbeat (w : W32)
  | loading
  | digest (d : List Byte)
  | refused
  | kmsg (msg : W32)
  | wreq (off : Nat)
  | wrsp (ok : Bool) (data : W32)
  | mirror (slot off : Nat) (data : List W32) (resync : Bool := false)
  | commit (slot : Nat) (seq : W32) (resync : Bool)
  | wake
  deriving DecidableEq, Repr

/-- An outstanding window read (R94): offset t, requester, the cycle its 2 µs end, where its answer goes (as in `Access`; for
policy firmware 1, the load), its width in bytes. -/
structure WinRead where
  off  : Nat
  org  : Nat
  due  : Nat
  rep  : Nat := 0
  size : Nat := 4
  deriving DecidableEq, Repr

/-- A life-cycle transition being written to MRAM (R484): the state it ends in; `ret` for the entry into RETURNED. -/
structure LcPending where
  toState : Nat
  toBase  : Nat
  cmd     : Nat
  ret     : Bool := false
  deriving DecidableEq, Repr

/-- A command self-test in progress (R491). -/
structure SelfTest where
  parts : Nat
  mems  : Nat
  deriving DecidableEq, Repr

/-- The start sequencer and the SYS block behind their registers: supplies present (VAON), cycle of step 1, the
step of R469 reached, cold start, partitions 0 to 2 that failed in the last cold start and their signatures (R475), a failed start core (R472), RSTON,
the loaded image, end of the digest wait, cycle of the last status message, armed under SOLO, low words held for a wide write
(R79), W1 registers written, free values drawn, Lintel frames waiting to be sent, window reads, a life-cycle transition or a token
being checked (its requester), a command self-test, injection test due, the nonce in force (R488), the test access port, and
what manufacture fixed. -/
structure SysState where
  powered  : Bool := true
  vaon     : Bool := true
  startT   : Nat := 0
  step     : Nat := 1
  cold     : Bool := true
  aonFail  : Nat := 0
  aonSig   : List (Nat × W32) := []
  coreFail : Bool := false
  rston    : Bool := false
  ash      : Ashlar := {}
  peerDue  : Option Nat := none
  sentT    : Nat := 0
  solo     : Bool := false
  heldLow  : List (Nat × W32) := []
  w1       : List Nat := []
  draws    : Nat := 2
  tx       : List LFrame := []
  win      : List WinRead := []
  lc       : Option LcPending := none
  token    : Option Nat := none
  selfTest : Option SelfTest := none
  injDue   : Bool := false
  nonceL   : W32 := 0#32
  nonceH   : W32 := 0#32
  tap      : Nat := 0
  laneStep : Nat := 0
  gateStep : Nat := 0
  code     : Nat := 1
  uid      : BitVec 64 := 0#64
  deriving DecidableEq, Repr

/-! ## Position and speed feedback (spec/06) -/

/-- A stamped count edge: the cycle it was registered in and the RAW count after it (R155, R173). -/
structure Edge where
  t   : Nat
  raw : W32
  deriving DecidableEq, Repr

/-- Speed and age of a latch set on their way to its registers (R172). -/
structure LatPend where
  due : Nat
  spd : W32
  age : Nat
  ovf : Bool
  deriving DecidableEq, Repr

/-- One latch set behind its registers: the cycle and RAW of its previous latch, the last edge at or before that latch
(R173), what becomes valid later, and the RAW and cycle of its last sample instant (R203). -/
structure LatchSet where
  prev : Option (Nat × W32) := none
  mt   : Option Edge := none
  pend : Option LatPend := none
  raw  : W32 := 0#32
  t    : Nat := 0
  deriving DecidableEq, Repr

/-- An index window the RAW count has entered and not left (R159): its index number, the side it was entered from (true: below),
whether a qualified index came inside it. -/
structure IdxWindow where
  k    : Int
  low  : Bool
  seen : Bool
  deriving DecidableEq, Repr

/-- SENT reception (R163 to R165): last falling edge, sync length of the frame in progress (0: none), its nibbles, the sync
length after whose CRC the next pulse is awaited, the last valid frame's sync, bits 3 and 2 of the last valid status
nibbles. -/
structure SentRx where
  fall  : Option Nat := none
  sync  : Nat := 0
  nibs  : List Nat := []
  after : Nat := 0
  prev  : Nat := 0
  ser   : List Nat := []
  deriving DecidableEq, Repr

/-- One feedback channel behind its registers: the last count edge, the one before it and the first since the last barrier
of R174, latch sets, index windows, the cycles the filter outputs last changed in (R155), SENT states, absolute values, the SSI transfer, and the pace of the compare list. -/
structure FbiCh where
  e0     : Option Edge := none
  e1     : Option Edge := none
  first  : Option Edge := none
  stampT : Nat := 0
  edgeT  : Nat := 0
  lats   : List LatchSet := [{}, {}]
  idx    : Bool := false
  pref   : Option W32 := none
  wins   : List IdxWindow := []
  inT    : List Nat := [0, 0, 0]
  sent   : SentRx := {}
  bad    : Nat := 0
  lastOk : Nat := 0
  timed  : Bool := false
  vPrev  : Option Nat := none
  vT     : Option Nat := none
  absSpd : W32 := 0#32
  ssi    : Option Nat := none
  ssiEnd : Nat := 0
  pcT    : Nat := 0
  deriving DecidableEq, Repr

/-- The feedback engine: channels, the cycle it was enabled in, compare pins (as of the cycle after `pcoT`, and up to it) and their
pulses, the pulse divider
(accumulator, signed backlog, last step, output phase), and sample instants not yet captured (trigger, cycle; R25). -/
structure FbiState where
  chs     : List FbiCh := [{}, {}, {}, {}]
  en0     : Nat := 0
  pco     : Nat := 0
  pcoOld  : Nat := 0
  pcoT    : Nat := 0
  pulse   : List (Nat × Nat) := []
  pdAcc   : Int := 0
  pdQ     : Int := 0
  pdLast  : Option Nat := none
  pdPhase : Nat := 0
  samp    : List (Nat × Nat) := []
  deriving DecidableEq, Repr

/-! ## Measurement front end (spec/07) -/

/-- A queued conversion: its sequence and entry and the cycle of the trigger (R191). -/
structure Conv where
  q    : Nat
  e    : Nat
  trig : Nat
  deriving DecidableEq, Repr

/-- A conversion that has started (R190): the cycle it started in, and whether its result is discarded (R192). -/
structure Running where
  c     : Conv
  start : Nat
  drop  : Bool := false
  deriving DecidableEq, Repr

/-- One converter: its queue, the cycle from which it is free, and conversions whose results are not written yet. -/
structure Converter where
  queue : List Conv := []
  free  : Nat := 0
  run   : List Running := []
  deriving DecidableEq, Repr

/-- The measurement front end: converters A and B, hold stages captured in the cycle after a trigger (R193), results each running sequence still has to write
and the cycle of its trigger, calibration end,
consecutive writes outside and inside each monitor's range. -/
structure AdcState where
  cv   : List Converter := [{}, {}]
  caps : List (Nat × List Nat) := []
  left : List (Nat × Nat) := []
  trig : List (Nat × Nat) := []
  cal  : Option Nat := none
  out  : List (Nat × Nat) := []
  ins  : List (Nat × Nat) := []
  deriving DecidableEq, Repr

/-! ## Commutation and field (spec/08) -/

/-- One execution of the CFE for group `g` (R201): the sample instant it is bound to and what that instant captured (RAW,
latched speed and age, table bank, limp set), the requested amplitude or the command pin, the cycle of its request, the
cycle it started in, how many of its steps are done, and what they formed. -/
structure CfeExe where
  g      : Nat
  inst   : Nat
  raw    : W32 := 0#32
  spd    : Int := 0
  age    : Nat := 0
  filled : Bool := false
  bank   : Nat := 0
  limp   : Bool := false
  pin    : Bool := false
  req    : Option Int := none
  w      : Nat := 0
  start  : Option Nat := none
  stage  : Nat := 0
  a      : Int := 0
  ent    : List Int := []
  cmp    : List Nat := []
  per    : Nat := 0
  deriving DecidableEq, Repr

/-- A catch in progress (R213): its start, the last side each line voltage was on (true: high), the crossings of the present
run with their order numbers, its direction, the largest line voltage seen. -/
structure CatchSt where
  t0  : Nat
  vab : Option Bool := none
  vbc : Option Bool := none
  vca : Option Bool := none
  ts  : List Nat := []
  j   : Nat := 0
  fwd : Option Bool := none
  vpk : Nat := 0
  deriving DecidableEq, Repr

/-- A group at the CFE: modular count and the RAW it was formed at (R203), last applied and last requested amplitude, the
source in force (R208), episodes of the limiter, the catch, and the amplitude a catch hands on (R213). -/
structure CfeGrp where
  m       : Nat := 0
  rawPrev : W32 := 0#32
  aPrev   : Int := 0
  req     : Int := 0
  src     : Nat := 0
  limEp   : Bool := false
  spd     : Int := 0
  tf      : Nat := 0
  catch_  : Option CatchSt := none
  preset  : Option Int := none
  runDue  : Bool := false
  deriving DecidableEq, Repr

/-- The CFE: groups, executions in the order they start, the cycle from which one may start, chopper and over-voltage
counts, the command pin's last edge and update, whether the over-voltage source has been raised in the episode, table space by lane offset. -/
structure CfeState where
  grps  : List CfeGrp := [{}, {}]
  exes  : List CfeExe := []
  free  : Nat := 0
  ovc   : Nat := 0
  ovRaised : Bool := false
  chOn  : Bool := false
  chEp  : Bool := false
  chLo  : Nat := 0
  chHi  : Nat := 0
  cmdRise : Option Nat := none
  cmdT  : Nat := 0
  chDue : Option Nat := none
  tab   : List (Nat × W32) := []
  deriving DecidableEq, Repr

/-! ## Control law engine (spec/09) -/

/-- Why a loop is forced to TRACK (R239): a catch of its group ended, its group is not running, its group's source is the
command pin, or its consumer `m` tracks. -/
inductive Forced where
  | caught (g : Nat) | zero | amp (g : Nat) | cons (m : Nat)
  deriving DecidableEq, Repr

/-- One loop's part of a chain execution: mode in force, forced tracking, captured inputs, inputs still awaited, whether a routed setpoint is still awaited, latched setpoint, limp set, a stale Tlasyn input, whether it has
been dispatched and has written. -/
structure LoopEx where
  slot   : Nat
  mode   : Nat := 0
  forced : Option Forced := none
  xs     : List Int := [0, 0, 0, 0]
  waits  : List Nat := []
  spWait : Bool := false
  spL    : Int := 0
  limp   : Bool := false
  stale  : Bool := false
  sent   : Bool := false
  wrote  : Bool := false
  deriving DecidableEq, Repr

/-- A chain execution in progress (R28): its trigger cycle and source, its loops, groups whose CFE execution it waits for. -/
structure ChainEx where
  trigT : Nat
  src   : Nat
  loops : List LoopEx
  cfe   : List Nat := []
  deriving DecidableEq, Repr

/-- The loop execution the engine carries out (R232, R233): the slot, its chain and trigger cycle, dispatch and output
cycles, whether its chain execution was abandoned, and the results formed from the values of the dispatch cycle. -/
structure RunLoop where
  slot   : Nat
  chain  : Nat
  trigT  : Nat
  start  : Nat
  due    : Nat
  dead   : Bool := false
  uo     : Int
  st     : List Int
  first  : Bool
  y      : Option Int
  e      : Int
  hiU    : Bool
  loU    : Bool
  limHi  : Bool
  limLo  : Bool
  oclamp : Bool
  deriving DecidableEq, Repr

/-- The CLE: due triggers (chain, trigger cycle, source), those of them whose publication or overrun has come about, executions in
progress by chain, completed ones that still have a routed setpoint to latch, the running loop, each loop's y
of its latest execution, loops whose u exceeded OMAX or fell below OMIN, what each setpoint limiter last latched and from
what target, loops in a routed "limited" episode, groups whose catch has ended since their loop's previous execution, and by slot the
setpoint as it was written before a sample instant that is to be taken (R29). -/
structure CleState where
  due    : List (Nat × Nat × Nat) := []
  pub    : List (Nat × Nat) := []
  ex     : List (Nat × ChainEx) := []
  late   : List (Nat × ChainEx) := []
  run    : Option RunLoop := none
  y      : List (Nat × Int) := []
  hiU    : List Nat := []
  loU    : List Nat := []
  latch  : List (Nat × Int × Int) := []
  spEp   : List Nat := []
  caught : List Nat := []
  sps    : List (Nat × W32) := []
  deriving DecidableEq, Repr

/-! ## Tlasyn (spec/11, 12) -/

/-- A copy arriving on a port whose header has been received (R287): header fields, the schedule kind and buffer of its entry
(kind 0: a granted frame), whether it was refused, its deviation in 0.4 ns units (R289), the instant its /S/ arrived, the
instants between which its forwarded copy occupies the other port. -/
structure RxCopy where
  ty     : Nat
  claim  : Bool
  origin : Nat
  slot   : Nat
  course : Nat
  len    : Nat
  dly    : Nat
  head   : BitVec 64
  kind   : Nat := 0
  buf    : Nat := 0
  dead   : Bool := false
  dev    : Int := 0
  ta     : Nat := 0
  fwd    : Option (Nat × Nat) := none
  deriving DecidableEq, Repr

/-- A frame a port sends, has sent last or will forward (R282): its own or a forwarded one, header, HCRC, payload and FCRC of an own
frame, start and end in 0.4 ns units, whether it was terminated with /V/; of a forward the hop delay, and whether it is still to be
counted when it starts. -/
structure TxFrame where
  own     : Bool
  head    : BitVec 64
  hcrc    : BitVec 16
  payload : List W32 := []
  fcrc    : W32 := 0#32
  start   : Nat
  stop    : Nat
  cut     : Bool := false
  hop     : Nat := 0
  due     : Bool := false
  deriving DecidableEq, Repr

/-- A ranging in progress (R280, R281): commanded in UP or not, the exchanges' link delays in 0.2 ns steps, token, repeats
of the present exchange, the cycle its /RQ/ was sent. -/
structure Ranging where
  cmd   : Bool
  got   : List Int := []
  token : Nat
  tries : Nat := 0
  sent  : Option Nat := none
  deriving DecidableEq, Repr

/-- A ranging reply (R280): the token, node number and port index it carries, and the instant its K28.4 leaves, in 0.4 ns units. -/
structure RaReply where
  token : Nat
  node  : Nat
  port  : Nat
  at_   : Nat
  deriving DecidableEq, Repr

/-- One port behind its registers: copies arriving, the frames it sends, its ranging, the last token, the span of own frames
returning on it since it came UP (R294), the latest /RA/. -/
structure TpePort where
  rx    : List RxCopy := []
  tx    : List TxFrame := []
  rng   : Option Ranging := none
  token : Nat := 0
  span  : Nat := 0
  reply : Option RaReply := none
  deriving DecidableEq, Repr

/-- A frame fetched and not yet sent (R305): slot or grant, its course, schedule kind, buffer and the copy taken, channels, start
cycle, TYPE, claim flag and payload. -/
structure Fetched where
  arb     : Bool
  ix      : Nat
  course  : Nat
  kind    : Nat
  buf     : Nat
  copy    : Nat := 0
  x       : Bool
  y       : Bool
  start   : Nat
  ty      : Nat
  claim   : Bool
  payload : List W32
  deriving DecidableEq, Repr

/-- A claim of a course (R311), and once granted its start in macroticks (R312). -/
structure Claim where
  prio   : Nat
  len    : Nat
  buf    : Nat
  origin : Nat
  slot   : Nat
  start  : Nat := 0
  deriving DecidableEq, Repr

/-- A payload on its way into buffer memory (R292): the cycle it is there, the buffer, its words. -/
structure Delivery where
  due : Nat
  buf : Nat
  ws  : List W32
  deriving DecidableEq, Repr

/-- A frame of the present course that has been delivered (R292). -/
structure SeenFrame where
  origin : Nat
  course : Nat
  slot   : Nat
  ty     : Nat
  fcrc   : W32
  deriving DecidableEq, Repr

/-- The TPE behind its registers: ports; cycles of the present and previous course boundary and, once the mortar gap has
started, of the next; timing values (kind, origin, δ); the BEACON being followed (ACTIVE, rank, origin); start of the listen
time; cycle ACTIVE was entered; courses observed since integration's first course 0; courses without a value; the block's
sum; external steps of this and the next course and one announced and not yet of a course; claims and grants; frames
fetched, slots and grants fetched in this course; copies held for sending (buffer, copy, until); buffers whose newest copy
has been sent; suppressed (channel, row, slot); largest spans since EN; frames delivered, and payloads on their way to buffer memory; the external step
being applied in the mortar gap; macroticks of the course that ended before RATE changed, and their length in 2^−20 LCLK; whether "buffer" was raised; ignored
claims; the last accepted SYNC edge; the cycle EN set in. -/
structure TpeState where
  ports  : List TpePort := [{}, {}, {}, {}]
  bT     : Nat := 0
  prevT  : Nat := 0
  next   : Option Nat := none
  vals   : List (Nat × Nat × Int) := []
  beacon : Option (Bool × Nat × Nat) := none
  listen : Nat := 0
  actT   : Nat := 0
  obs    : Option Nat := none
  noVal  : Nat := 0
  blkSum : Int := 0
  thisSt : Option Int := none
  nextSt : Option Int := none
  ann    : Option Int := none
  claims : List Claim := []
  grants : List Claim := []
  gnext  : List Claim := []
  fet    : List Fetched := []
  fetIx  : List (Bool × Nat) := []
  hold   : List (Nat × Nat × Nat) := []
  once   : List Nat := []
  supp   : List (Nat × Nat × Nat) := []
  spanX  : Nat := 0
  spanY  : Nat := 0
  seen   : List SeenFrame := []
  dlv    : List Delivery := []
  step   : Int := 0
  rchM   : Nat := 0
  rchQ   : Int := 0
  bufRsd : Bool := false
  ign    : Nat := 0
  edge   : Option Nat := none
  enT    : Nat := 0
  deriving DecidableEq, Repr

/-! ## Machine safety functions (spec/15) -/

/-- A contact pair behind its registers: filtered levels (high at reset, as SAF_SINp_STAT reads there), the timer awaiting the second contact (true: towards the active
level), the stage of the reset sequence (1: both were active, 2: both inactive after that), an unended "discrepancy", passed
pulses of STP0 and STP1, failed contacts and their consecutive passes since (R377, R378, R380). -/
structure SafPair where
  a     : Bool := true
  b     : Bool := true
  timer : Option Bool := none
  stage : Nat := 0
  disc  : Bool := false
  ok0   : Bool := false
  ok1   : Bool := false
  failA : Bool := false
  failB : Bool := false
  passA : Nat := 0
  passB : Nat := 0
  deriving DecidableEq, Repr

/-- The SFB behind its registers: pairs, outputs in a test pulse with the contacts that read high before it, contacts that hold a level
after a pulse (contact, level, cycle of the pulse's end; R381), the expected
kick key (false: 0x5AA5), whether a kick was accepted and the cycle of the last, whether straps set SEALOK in this start, consecutive
disagreeing samples, SAF_STAT as last reported. -/
structure SafState where
  pairs   : List SafPair := [{}, {}, {}, {}]
  pulse   : List (Nat × Nat) := []
  hold    : List (Nat × Bool × Nat) := []
  keyAlt  : Bool := false
  kicked  : Bool := false
  kickT   : Nat := 0
  sealRun : Bool := false
  sealBad : Nat := 0
  shown   : W32 := 0#32
  deriving DecidableEq, Repr

/-! ## CAN and host port (spec/13) -/

/-- A write of CAN_Cc_ADDR (R335): controller, cycle, what stood there before. -/
structure AddrWrite where
  c   : Nat
  t   : Nat
  old : W32
  deriving DecidableEq, Repr

/-- The CAN block behind its registers: controllers that enter LISTEN at the next bus idle (R334); controllers in bus-off whose MODE
has been written since (R347); routes with a copy delivered and not sent, route copies last sent, routes whose RESEND waits for their
object (R339, R340); the cycles objects were requested in, and of each controller's last transmission (R337); writes of ADDR (R335). -/
structure CanState where
  leave  : List Nat := []
  rejoin : List Nat := []
  wait   : List Nat := []
  req    : List (Nat × Nat) := []
  idle   : List (Nat × Nat) := []
  addr   : List AddrWrite := []
  last   : List (Nat × List W32) := []
  again  : List Nat := []
  deriving DecidableEq, Repr

/-- An SPI access not yet reported (R342): offset, direction, written word, and once completed its data and error response. -/
structure SpiAcc where
  off   : Nat
  write : Bool
  val   : W32 := 0#32
  res   : Option (W32 × Bool) := none
  deriving DecidableEq, Repr

/-- A remote request being executed (R345, R346): requesting node, its words, the words executed, data read, error responses. -/
structure RaReq where
  origin : Nat
  words  : List W32
  i      : Nat := 0
  data   : List W32 := []
  errs   : Nat := 0
  deriving DecidableEq, Repr

/-- The host port behind its registers: unreported accesses; what the next slot reports of the frame before it (CRCERR, CMDERR, OVF);
whether the present CSN-low period ended with a partial frame, and whether the one before did (ABORT); frames in this period; the slot
last sent on HS_SDO; of each remote-access pair the request being executed and the one waiting to be taken up (node, words); pairs
that have executed one. -/
structure HstState where
  unrep  : List SpiAcc := []
  crcErr : Bool := false
  cmdErr : Bool := false
  ovf    : Bool := false
  abort  : Bool := false
  cut    : Bool := false
  frames : Nat := 0
  slot   : BitVec 72 := 0#72
  run    : List (Nat × RaReq) := []
  ra     : List (Nat × Nat × List W32) := []
  tagged : List Nat := []
  deriving DecidableEq, Repr

/-! ## Lanes and roles (spec/16) -/

/-- The LNT behind its registers: cycle of the last valid peer heartbeat and of the last one sent; the cycle the last Lintel frame that
has left ends in, and the cycle up to which frames have been taken for sending (R398); whether a peer claim with ROLE
ACTIVE came in this course and in the one just ended, whether the non-current slot's header has been written since its last
commit, writes being gathered into a MIRROR frame (slot, offset, words), cycle TAKING was entered and why (R397's cause), cycle AUX
last became ON (R407). -/
structure LntState where
  hbT     : Nat := 0
  sentT   : Nat := 0
  linkT   : Nat := 0
  idleT   : Nat := 0
  claim   : Bool := false
  claimed : Bool := false
  hdr     : Bool := false
  gather  : Option (Nat × Nat × List W32) := none
  takT    : Nat := 0
  takC    : Nat := 1
  auxT    : Nat := 0
  deriving DecidableEq, Repr

/-! ## Field update (spec/17) -/

/-- A transfer (R422, R424, R428): tag; the slot its blocks are stored into, if any; whether block 0 has decided; number of blocks; the
distinct blocks completed; those stored; courses since a new one; whether every block is stored and verification is due. -/
structure Xfer where
  tag     : Nat
  slot    : Option Nat := none
  decided : Bool := false
  nblk    : Nat := 0
  got     : List Nat := []
  stored  : List Nat := []
  idle    : Nat := 0
  verify  : Bool := false
  deriving DecidableEq, Repr

/-- A block whose 32 fragments are present (R425, R426): tag, block number, CRC, its words, the next fragment to send, and whether
a course boundary has passed since it was completed. -/
structure Relay where
  tag   : Nat
  block : Nat
  crc   : W32
  words : List W32
  frag  : Nat := 0
  ready : Bool := false
  deriving DecidableEq, Repr

/-- An activation in progress (R430, R433): image type, its slot, the slot active before; for POLICY the step of R430 it is in (1
PREPARING to 5 IMPORT), the cycle of B, the start of the clearing, whether it rolls back; for TABLES the cycle the copy began in, the
banks active then, whether it is a REVERT. -/
structure Activation where
  ty     : Nat
  slot   : Nat
  old    : Option Nat
  phase  : Nat := 1
  b      : Nat := 0
  clr    : Nat := 0
  back   : Bool := false
  banks  : Nat := 0
  revert : Bool := false
  deriving DecidableEq, Repr

/-- UPD behind its registers: the transfer; tag, number and CRC of the block being assembled and its fragments; blocks to be handled;
blocks queued for sending; whether a claim is placed for the fragment at the head; whether a delivery waits in RXBUF (R452); the
activation; slots of ended transfers still to be verified (R423). -/
structure UpdState where
  xfer   : Option Xfer := none
  asm    : Option (Nat × Nat × W32) := none
  frags  : List (Nat × List W32) := []
  blocks : List Relay := []
  queue  : List Relay := []
  claim  : Bool := false
  due    : Bool := false
  act    : Option Activation := none
  checks : List Nat := []
  deriving DecidableEq, Repr

/-- A transfer, an activation or a relay is in progress (R449). -/
def UpdState.busy (u : UpdState) : Bool := u.xfer.isSome || u.act.isSome || !u.blocks.isEmpty || !u.queue.isEmpty || !u.checks.isEmpty


/-! ## A lane and the package -/

/-- One lane: its lane die and its gate-drive die (R15). `now` is the lane time in LCLK (R445); `regs` lists every
lane-space word that does not read its reset value. -/
structure Lane where
  id   : LaneId
  now  : Nat := 0
  regs : List (Nat × W32) := []
  kst  : KstState := {}
  oap  : OapState := {}
  pwr  : PwrState := {}
  pwm  : PwmState := {}
  gdv  : GdvState := {}
  fbi  : FbiState := {}
  adc  : AdcState := {}
  cfe  : CfeState := {}
  cle  : CleState := {}
  tpe  : TpeState := {}
  saf  : SafState := {}
  sys  : SysState := {}
  mram : Mram := {}
  can  : CanState := {}
  hst  : HstState := {}
  lnt  : LntState := {}
  upd  : UpdState := {}
  deriving DecidableEq, Repr

/-- The package: two lanes (R1, R15) and the commands that wait, first in, first out. -/
structure State where
  lane1   : Lane
  lane2   : Lane
  pending : List Instr
  deriving DecidableEq, Repr

/-- The registers a lane's start sets to something other than their reset value: SYS_STEP, SYS_LANE and SYS_RSTCAUSE, and lane 2's
Vetch address (R95, R464, R492; the chip of log entry 3: ordering code 1, steppings 0, UID 0, no key). -/
def bootRegs : LaneId → List (Nat × W32)
  | .lane1 => [(0x000004, 0x00000001#32), (0x000008, 0x00000001#32), (0x000034, 0x00000101#32)]
  | .lane2 => [(0x000004, 0x00000001#32), (0x000008, 0x00000002#32), (0x000034, 0x00000101#32), (0x001010, 0xC0000132#32)]

/-- A lane right after its VAON power-on (log entry 3): step 1 of its start sequence (R469) is beginning. -/
def Lane.reset (l : LaneId) : Lane :=
  { id := l, regs := bootRegs l, sys := { nonceL := Config.freeWord (l.num - 1), nonceH := Config.freeWord (l.num + 1) } }

/-- The package right after reset: both lanes at their power-on, nothing waiting. -/
def State.reset : State := { lane1 := Lane.reset .lane1, lane2 := Lane.reset .lane2, pending := [] }

end Sys2Proof.Machine
end

