-- ==== Sys2Proof/Machine/Ops.lean ====
section
/-! DEFINITION. The named operations over the state: the sparse register file and memories in canonical form, register
fields, sequence-clear event records (R85, R86, R88), Keystone messages (R350), Oapiec events (R257), domain states
(R447) and the wrapper every command goes through. -/

namespace Sys2Proof.Machine

/-! ## Parts of a lane -/

/-- Update the state `kst` of a lane. -/
def Lane.upKst (n : Lane) (g : KstState → KstState) : Lane := { n with kst := g n.kst }
/-- Update the state `oap` of a lane. -/
def Lane.upOap (n : Lane) (g : OapState → OapState) : Lane := { n with oap := g n.oap }
/-- Update the state `pwr` of a lane. -/
def Lane.upPwr (n : Lane) (g : PwrState → PwrState) : Lane := { n with pwr := g n.pwr }
/-- Update the state `pwm` of a lane. -/
def Lane.upPwm (n : Lane) (g : PwmState → PwmState) : Lane := { n with pwm := g n.pwm }
/-- Update the state `gdv` of a lane. -/
def Lane.upGdv (n : Lane) (g : GdvState → GdvState) : Lane := { n with gdv := g n.gdv }
/-- Update the state `fbi` of a lane. -/
def Lane.upFbi (n : Lane) (g : FbiState → FbiState) : Lane := { n with fbi := g n.fbi }
/-- Update the state `adc` of a lane. -/
def Lane.upAdc (n : Lane) (g : AdcState → AdcState) : Lane := { n with adc := g n.adc }
/-- Update the state `cfe` of a lane. -/
def Lane.upCfe (n : Lane) (g : CfeState → CfeState) : Lane := { n with cfe := g n.cfe }
/-- Update the state `cle` of a lane. -/
def Lane.upCle (n : Lane) (g : CleState → CleState) : Lane := { n with cle := g n.cle }
/-- Update the state `tpe` of a lane. -/
def Lane.upTpe (n : Lane) (g : TpeState → TpeState) : Lane := { n with tpe := g n.tpe }
/-- Update the state `saf` of a lane. -/
def Lane.upSaf (n : Lane) (g : SafState → SafState) : Lane := { n with saf := g n.saf }
/-- Update the state `sys` of a lane. -/
def Lane.upSys (n : Lane) (g : SysState → SysState) : Lane := { n with sys := g n.sys }
/-- Update the state `mram` of a lane. -/
def Lane.upMram (n : Lane) (g : Mram → Mram) : Lane := { n with mram := g n.mram }
/-- Update the state `hst` of a lane. -/
def Lane.upHst (n : Lane) (g : HstState → HstState) : Lane := { n with hst := g n.hst }
/-- Update the state `can` of a lane. -/
def Lane.upCan (n : Lane) (g : CanState → CanState) : Lane := { n with can := g n.can }
/-- Update the state `lnt` of a lane. -/
def Lane.upLnt (n : Lane) (g : LntState → LntState) : Lane := { n with lnt := g n.lnt }
/-- Update the state `upd` of a lane. -/
def Lane.upUpd (n : Lane) (g : UpdState → UpdState) : Lane := { n with upd := g n.upd }

/-! ## Sparse storage in canonical form -/

/-- What the cells list at key `k`; an unlisted key reads `d`. -/
def Cells.get {α : Type} (d : α) : List (Nat × α) → Nat → α
  | [], _ => d
  | (a, v) :: m, k => if k = a then v else Cells.get d m k

/-- The cells with key `k` no longer listed. -/
def Cells.erase {α : Type} : List (Nat × α) → Nat → List (Nat × α)
  | [], _ => []
  | (a, v) :: m, k => if a = k then Cells.erase m k else (a, v) :: Cells.erase m k

/-- The cells with `v` listed at `k`, keys kept strictly rising. -/
def Cells.put {α : Type} : List (Nat × α) → Nat → α → List (Nat × α)
  | [], k, v => [(k, v)]
  | (a, w) :: m, k, v =>
    if k < a then (k, v) :: (a, w) :: m
    else if k = a then (k, v) :: m
    else (a, w) :: Cells.put m k v

/-- Write `v` at `k`, where an unlisted `k` reads `d`: writing `d` removes the entry, so that equal contents are equal
lists. -/
def Cells.set {α : Type} [DecidableEq α] (d : α) (m : List (Nat × α)) (k : Nat) (v : α) : List (Nat × α) :=
  if v = d then Cells.erase m k else Cells.put m k v

/-- The cells whose keys lie in [lo, hi) return to unlisted. -/
def Cells.clear {α : Type} (lo hi : Nat) (m : List (Nat × α)) : List (Nat × α) :=
  m.filter fun c => !(decide (lo ≤ c.1) && decide (c.1 < hi))

/-- The keys rise strictly. -/
def Cells.rising {α : Type} : List (Nat × α) → Bool
  | [] => true
  | (a, _) :: m => (match m with
    | [] => true
    | (b, _) :: _ => decide (a < b)) && Cells.rising m

/-- The canonical form: keys strictly rising, and no entry that an unlisted key reads anyway (`d k` for key `k`). -/
def Cells.wf {α : Type} [DecidableEq α] (d : Nat → α) (m : List (Nat × α)) : Bool := Cells.rising m && m.all fun c => decide (c.2 ≠ d c.1)

/-! ## Keystone source codes (R351) -/

/-- Source code `c` is listed in R351; other codes are reserved. -/
def srcImpl (c : Nat) : Bool :=
  (c ≤ 0x0D) || (0x10 ≤ c && c ≤ 0x1C) || (0x20 ≤ c && c ≤ 0x24) || (0x30 ≤ c && c ≤ 0x3D) || (0x40 ≤ c && c ≤ 0x43)
    || (0x50 ≤ c && c ≤ 0x5D) || (0x70 ≤ c && c ≤ 0x80) || (0x90 ≤ c && c ≤ 0xAF) || (0xB0 ≤ c && c ≤ 0xBB)
    || (0xC0 ≤ c && c ≤ 0xC2) || (0xC8 ≤ c && c ≤ 0xD2) || (0xD4 ≤ c && c ≤ 0xD9) || (0xE0 ≤ c && c ≤ 0xE5)
    || (0xF0 ≤ c && c ≤ 0xF7)

/-- The least floor of a source (R351), as a severity number 0 RECORD to 4 SAFE-LANE. -/
def leastFloor (c : Nat) : Nat :=
  if c = 0x09 ∨ c = 0x0A ∨ c = 0x0D ∨ c = 0x16 ∨ c = 0x18 ∨ c = 0x38 ∨ (0x3B ≤ c ∧ c ≤ 0x3D) then 4
  else if c = 0x39 ∨ c = 0x3A ∨ (0x50 ≤ c ∧ c ≤ 0x52) ∨ c = 0x5C ∨ c = 0xB4 ∨ c = 0xB9 then 3
  else if c = 0x17 ∨ c = 0x19 then 2
  else if (0x04 ≤ c ∧ c ≤ 0x06) ∨ c = 0x08 ∨ c = 0x0B ∨ c = 0x0C ∨ (0x1A ≤ c ∧ c ≤ 0x1C) ∨ c = 0x21
      ∨ (0x30 ≤ c ∧ c ≤ 0x37) ∨ (0x53 ≤ c ∧ c ≤ 0x55) ∨ c = 0x5D ∨ (0x71 ≤ c ∧ c ≤ 0x78) ∨ c = 0xC1 then 1
  else 0

/-! ## The register file of a lane -/

/-- Distance `d` from a row's base falls on one of its registers: one stride and count for each index, the outermost first. -/
def dimsHave : List (Nat × Nat) → Nat → Bool
  | [], d => d == 0
  | (s, c) :: inner, d => decide (d / s < c) && dimsHave inner (d % s)

/-- Row `r` covers offset `off`. -/
def RegRow.hasOff (r : RegRow) (off : Nat) : Bool := decide (r.base ≤ off) && dimsHave r.dims (off - r.base)

/-- The row covering `off` among `rows`. -/
def findRow (rows : List RegRow) (off : Nat) : Option RegRow := rows.find? fun r => r.hasOff off

/-- The register rows of the block at `off` (R93). -/
def rowsAt (off : Nat) : List RegRow :=
  if off < 0x001000 then regRowsSys
  else if off < 0x002000 then regRowsPwr
  else if off < 0x003000 then regRowsClk
  else if off < 0x004000 then regRowsKst
  else if off < 0x005000 then regRowsYar
  else if off < 0x006000 then regRowsLsc
  else if off < 0x007000 then regRowsSaf
  else if off < 0x008000 then regRowsLnt
  else if off < 0x010000 then []
  else if off < 0x014000 then regRowsPwm
  else if off < 0x018000 then regRowsGdv
  else if off < 0x020000 then regRowsAdc
  else if off < 0x028000 then regRowsFbi
  else if off < 0x030000 then regRowsCfe
  else if off < 0x040000 then regRowsCle
  else if off < 0x060000 then regRowsTpe
  else if off < 0x070000 then []
  else if off < 0x078000 then regRowsCan
  else if off < 0x080000 then regRowsHst
  else if off < 0x090000 then regRowsUpd
  else if off < 0x100000 then []
  else if off < 0x140000 then regRowsTpe
  else []

/-- The rows of the block at `off` that reset to something other than zero. -/
def resetRowsAt (off : Nat) : List RegRow :=
  if off < 0x001000 then resetRowsSys
  else if off < 0x002000 then resetRowsPwr
  else if off < 0x003000 then resetRowsClk
  else if off < 0x006000 then []
  else if off < 0x007000 then resetRowsSaf
  else if off < 0x010000 then []
  else if off < 0x014000 then resetRowsPwm
  else if off < 0x018000 then resetRowsGdv
  else if off < 0x020000 then resetRowsAdc
  else if off < 0x028000 then resetRowsFbi
  else if off < 0x030000 then resetRowsCfe
  else if off < 0x040000 then resetRowsCle
  else if off < 0x060000 then resetRowsTpe
  else if off < 0x070000 then []
  else if off < 0x078000 then resetRowsCan
  else if off < 0x080000 then []
  else if off < 0x090000 then resetRowsUpd
  else if off < 0x100000 then []
  else if off < 0x140000 then resetRowsTpe
  else []

/-- The register that covers `off`, if any is implemented there (R77, R93). -/
def regRow (off : Nat) : Option RegRow := findRow (rowsAt off) off

/-- The reset value of the register at `off`; every unlisted offset reads this (R13's tables, R77: zero elsewhere). The
source arrays of KST reset to each source's least floor (R351, R373). -/
def mapReset (off : Nat) : W32 :=
  if 0x003800 ≤ off ∧ off < 0x003C00 then BitVec.ofNat 32 (leastFloor ((off - 0x003800) / 4))
  else if 0x003C00 ≤ off ∧ off < 0x004000 then
    BitVec.ofNat 32 (leastFloor ((off - 0x003C00) / 4) + (if srcImpl ((off - 0x003C00) / 4) then 2 ^ 31 else 0))
  else match findRow (resetRowsAt off) off with
    | some r => BitVec.ofNat 32 r.reset
    | none => 0#32

/-- Read the register at `off`. -/
def Lane.rd (n : Lane) (off : Nat) : W32 :=
  Cells.get (mapReset off) n.regs off

/-- Set the register at `off`. -/
def Lane.wr (n : Lane) (off : Nat) (v : W32) : Lane :=
  { n with regs := Cells.set (mapReset off) n.regs off v }

/-- The value of bits [hi:lo] of a word. -/
def bits (v : W32) (hi lo : Nat) : Nat := (v.toNat >>> lo) % 2 ^ (hi + 1 - lo)

/-- The word with bits [hi:lo] set to the low bits of `x`. -/
def setBits (v : W32) (hi lo : Nat) (x : Nat) : W32 :=
  BitVec.ofNat 32 (v.toNat - bits v hi lo * 2 ^ lo + x % 2 ^ (hi + 1 - lo) * 2 ^ lo)

/-- Read a field. -/
def Lane.f (n : Lane) (r : FRef) : Nat := bits (n.rd r.off) r.hi r.lo

/-- Set a field, keeping the register's other bits. -/
def Lane.setF (n : Lane) (r : FRef) (x : Nat) : Lane := n.wr r.off (setBits (n.rd r.off) r.hi r.lo x)

/-- Set several fields in order. -/
def Lane.setFs (n : Lane) (fs : List (FRef × Nat)) : Lane := fs.foldl (fun n p => n.setF p.1 p.2) n

/-- A bit as a field value. -/
def b1 (b : Bool) : Nat := if b then 1 else 0

/-- A one-bit field reads 1. -/
def Lane.on (n : Lane) (r : FRef) : Bool := n.f r == 1

/-- A field of a word being written. -/
def FRef.val (r : FRef) (v : W32) : Nat := bits v r.hi r.lo

/-- Bit `i` of a field. -/
def Lane.bit (n : Lane) (r : FRef) (i : Nat) : Bool := (n.f r).testBit i

/-- Bit `i` of a number set or cleared. -/
def natSetBit (x i : Nat) (b : Bool) : Nat :=
  if x.testBit i then (if b then x else x - 2 ^ i) else (if b then x + 2 ^ i else x)

/-- Set bit `i` of a field. -/
def Lane.setBit (n : Lane) (r : FRef) (i : Nat) (b : Bool) : Lane := n.setF r (natSetBit (n.f r) i b)

/-- The lane is halted (R478). -/
def Lane.halted (n : Lane) : Bool := n.f F.SYS_START.STATE == 3

/-- A field as a two's complement number. -/
def Lane.sf (n : Lane) (r : FRef) : Int :=
  let w := r.hi + 1 - r.lo
  let x := n.f r
  if x < 2 ^ (w - 1) then x else (x : Int) - 2 ^ w

/-- Step a counting field, saturating at its largest value. -/
def Lane.stepSat (n : Lane) (r : FRef) : Lane :=
  let x := n.f r
  if x + 1 < 2 ^ (r.hi + 1 - r.lo) then n.setF r (x + 1) else n

/-- Step a counting field, wrapping. -/
def Lane.stepWrap (n : Lane) (r : FRef) : Lane := n.setF r (n.f r + 1)

/-- Return every register with an offset in [lo, hi) to its reset value. -/
def Lane.resetRange (n : Lane) (lo hi : Nat) : Lane := { n with regs := Cells.clear lo hi n.regs }

/-! ## Sequence-clear registers -/

/-- The SEQ value after `q`: 1, 2, …, 255, then 1 again (R85). -/
def nextSeq (q : Nat) : Nat := if q ≥ 255 then 1 else q + 1

/-- Record an event in the SQ register at `off`: step SEQ in bits [7:0] (R85). -/
def Lane.seqStep (n : Lane) (off : Nat) : Lane :=
  n.setF ⟨off, 7, 0⟩ (nextSeq (n.f ⟨off, 7, 0⟩))

/-- Record an event whose flag is `flag` in an SQ register (R85). -/
def Lane.sqEvent (n : Lane) (flag : FRef) : Lane :=
  (n.setF flag 1).seqStep flag.off

/-- Record an event only while its flag is clear (R372, R463). -/
def Lane.sqEventOnce (n : Lane) (flag : FRef) : Lane :=
  if n.on flag then n else n.sqEvent flag

/-- Set field `r` to `x` if it still reads 0: a field that describes the first recorded event. -/
def Lane.setFirst (n : Lane) (r : FRef) (x : Nat) : Lane :=
  if n.f r = 0 then n.setF r x else n

/-- A write to the SQ register at `off` (R86): a matching non-zero SEQ clears everything but SEQ; SYS_REGADR clears
together with SYS_REGERR (R92). -/
def Lane.sqClear (n : Lane) (off : Nat) (v : W32) : Lane :=
  let q := n.f ⟨off, 7, 0⟩
  if bits v 7 0 = q ∧ q ≠ 0 then
    -- BUSY of SYS_LCSTAT is class RO
    let n := n.wr off (BitVec.ofNat 32 (q + if off = R.SYS_LCSTAT then n.f F.SYS_LCSTAT.BUSY * 2 ^ 9 else 0))
    if off = R.SYS_REGERR then n.wr R.SYS_REGADR 0#32 else n
  else n

/-! ## Free values -/

/-- Free value number `k` of the lane (log entry 4). -/
def Lane.free (n : Lane) (k : Nat) : W32 := Config.freeWord (2 * k + (n.id.num - 1))

/-- The lane has drawn `k` more free values. -/
def Lane.drawn (n : Lane) (k : Nat) : Lane := n.upSys fun s => { s with draws := s.draws + k }

/-- SYS_NONCE takes a new value from the random source (R488): two free values. -/
def Lane.newNonce (n : Lane) : Lane :=
  (n.upSys fun s => { s with nonceL := n.free s.draws, nonceH := n.free (s.draws + 1) }).drawn 2

/-! ## Keystone messages and Oapiec events -/

/-- An injection waits in the detector of source `src` at the instance `word` names: the detector's next evaluation is forced to its
fault state (R369). -/
def Lane.injArmed (n : Lane) (src word : Nat) : Bool :=
  match n.kst.inj with
  | some j => j.src == src && j.target == word % 2 ^ 8 && !j.hit && decide (n.now < j.due)
  | none => false

/-- The latest detection of `src` at `word` counts as injected: the detector's next evaluation finds a fault that persists again, as a
genuine one (R370). -/
def Lane.foundAgain (n : Lane) (src word : Nat) : Bool := n.kst.redo.contains (src, word % 2 ^ 8)

/-- Register a message with the collector: source code, kind, word (R350). It waits until the collector accepts it
(KEYSTONE_MESSAGE_ACCEPT). A detection in the evaluation an injection is armed for counts as the injected one (R369, R370). -/
def Lane.raise (n : Lane) (src kind word : Nat) : Lane :=
  let inj := n.injArmed src word
  let key := (src, word % 2 ^ 8)
  n.upKst fun x_ => { x_ with
    msgs := n.kst.msgs ++ [{ src := src, kind := kind, word := word % 2 ^ 16, inj := inj }]
    inj := if inj then n.kst.inj.map fun j => { j with hit := true } else n.kst.inj
    redo := if inj then key :: n.kst.redo else n.kst.redo.filter fun k => k != key }

/-! ## Lintel frames (R398) -/

/-- The order frames leave in (R398); the wake is no frame of the table and goes first. -/
def LFrame.order : LFrame → Nat
  | .wake => 0
  | .heartbeat _ => 1
  | .kmsg _ => 2
  | .wrsp _ _ => 3
  | .wreq _ => 4
  | .loading => 5
  | .refused => 5
  | .digest _ => 5
  | .commit _ _ _ => 6
  | .mirror _ _ _ _ => 7

/-- Frame `g`, which waits, leaves before the later frame `f`: by the table's order, except that a COMMIT follows the MIRROR frames of
its slot (R398, R405). -/
def LFrame.leads (g f : LFrame) : Bool :=
  match g, f with
  | .mirror k _ _ _, .commit j _ _ => k == j
  | _, _ => decide (g.order ≤ f.order)

/-- `f` joins the waiting frames behind the last one that leaves before it. -/
def putFrame (f : LFrame) (q : List LFrame) : List LFrame :=
  let later := (q.reverse.takeWhile fun g => !g.leads f).reverse
  q.take (q.length - later.length) ++ f :: later

/-- Add a frame to those waiting for Lintel. -/
def Lane.send (n : Lane) (f : LFrame) : Lane := n.upSys fun s => { s with tx := putFrame f s.tx }

/-- Payload bytes of a frame (R398, R399, R64); DEDUCED where the table names the contents alone (log entry 76). -/
def LFrame.payload : LFrame → Nat
  | .heartbeat _ => 4
  | .kmsg _ => 4
  | .wrsp _ _ => 8
  | .wreq _ => 4
  | .loading => 1
  | .refused => 1
  | .digest d => 1 + d.length
  | .commit _ _ _ => 8
  | .mirror _ _ ws _ => 4 + 4 * ws.length
  | .wake => 0

/-- LCLK cycles a frame takes at one byte in 8 ns, with its ten bytes of framing; 2 µs for a wake (R398). -/
def LFrame.cycles (f : LFrame) : Nat :=
  match f with
  | .wake => 800
  | _ => ((f.payload + 10) * 16 + 4) / 5

/-- The frames that have begun before cycle `t` and have left the queue; `at_` is the cycle the link is free from (R398). -/
def framesLeft (t : Nat) : Nat → List LFrame → Nat × List LFrame
  | at_, [] => (at_, [])
  | at_, f :: q => if at_ < t then framesLeft t (at_ + f.cycles) q else (at_, f :: q)

/-- The frames that waited since the last command have left as far as Lintel has carried them; a resync ends with its COMMIT (R405).
Frames of the data path need CORE. -/
def Lane.linkSync (n : Lane) : Lane :=
  if n.sys.tx.isEmpty || n.f (F.PWR_Dd_STAT.STATE 0) != 0 then n.upLnt fun x => { x with idleT := n.now }
  else
    let r := framesLeft n.now (max n.lnt.linkT n.lnt.idleT) n.sys.tx
    let n := (n.upSys fun s => { s with tx := r.2 }).upLnt fun x => { x with linkT := if r.2.length < n.sys.tx.length then r.1 else x.linkT, idleT := n.now }
    if r.2.any fun f => match f with
      | .commit _ _ true => true
      | _ => false
    then n else n.setF F.LNT_CKSTAT.RESYNC 0

/-- The Keystone family codes of R351 for kinds numbered from 1. -/
def Lane.raiseSys (n : Lane) (kind word : Nat) : Lane := n.raise (kind - 1) kind word

/-- CSR fields of event `e` (R264). -/
def csrEvVec (e : Nat) : Nat := 0x100 + e
def csrEvCfg (e : Nat) : Nat := 0x140 + e
def csrEvCnt (e : Nat) : Nat := 0x180 + e

/-- Read a CSR: CSR_ID and CSR_EV0_CFG have fixed values (R264), every other unlisted CSR reads 0. -/
def csrReset (k : Nat) : W32 :=
  if k = 0 then 0x100#32 else if k = 0x140 then 0xB0000000#32 else 0#32

def Lane.csr (n : Lane) (k : Nat) : W32 := Cells.get (csrReset k) n.oap.csr k
def Lane.setCsr (n : Lane) (k : Nat) (v : W32) : Lane :=
  (n.upOap fun x_ => { x_ with csr := Cells.set (csrReset k) n.oap.csr k v })
def Lane.setCsrF (n : Lane) (k hi lo x : Nat) : Lane := n.setCsr k (setBits (n.csr k) hi lo x)

/-- Event `e` is enabled (R264: CSR_EVe_CFG.EN; event 0 always). -/
def Lane.evEnabled (n : Lane) (e : Nat) : Bool := bits (n.csr (csrEvCfg e)) 31 31 == 1

/-- Event `e` is pending (CSR_PEND0, CSR_PEND1). -/
def Lane.evPending (n : Lane) (e : Nat) : Bool := bits (n.csr (0xC0 + e / 32)) (e % 32) (e % 32) == 1

/-- An Oapiec event occurs (R257): it becomes pending with its data word, or is lost; a disabled one is discarded. -/
def Lane.event (n : Lane) (e : Nat) (data : W32) : Lane :=
  if n.evEnabled e = false then n
  else if n.evPending e then
    let c := n.csr (csrEvCnt e)
    let n := if bits c 15 8 < 255 then n.setCsr (csrEvCnt e) (setBits c 15 8 (bits c 15 8 + 1)) else n
    if n.oap.lostRaised.contains e then n
    else ((n.upOap fun x_ => { x_ with lostRaised := e :: n.oap.lostRaised })).raise 0x11 2 e
  else
    let n := n.setCsrF (0xC0 + e / 32) (e % 32) (e % 32) 1
    (n.upOap fun x_ => { x_ with evData := Cells.set 0#32 n.oap.evData e data })

/-! ## Power domains -/

/-- The state of domain `d` read in PWR_Dd_STAT.STATE. -/
def Lane.domState (n : Lane) (d : Nat) : Nat := n.f (F.PWR_Dd_STAT.STATE d)

/-- Domain `d` is ON: clocked and powered (R447), which no domain is before step 9 of a start (R469). -/
def Lane.domOn (n : Lane) (d : Nat) : Bool := n.sys.powered && decide (9 ≤ n.sys.step) && n.domState d == 0

/-- Domain numbers (R447). -/
def dCORE : Nat := 0
def dCLE : Nat := 1
def dCFE : Nat := 2
def dFBI : Nat := 3
def dACT : Nat := 4
def dTPE : Nat := 5
def dSERX : Nat := 6
def dSERY : Nat := 7
def dAUX : Nat := 8

/-- Apply `f` for every element of a list in order. -/
def forEach {α : Type} (xs : List α) (f : α → Lane → Lane) (n : Lane) : Lane :=
  xs.foldl (fun n x => f x n) n

/-! ## Arithmetic -/

/-- A 32-bit two's complement number as an integer. -/
def sInt (v : W32) : Int := v.toInt

/-- Narrow to 32 bits, saturating (R14). -/
def sat32 (x : Int) : W32 :=
  if x > 2147483647 then 0x7FFFFFFF#32
  else if x < -2147483648 then 0x80000000#32
  else BitVec.ofInt 32 x

/-- Limit `x` to [lo, hi]. -/
def clampInt (lo hi x : Int) : Int := if x < lo then lo else if x > hi then hi else x

/-- Arithmetic right shift of an integer, rounding towards minus infinity. -/
def asr (x : Int) (k : Nat) : Int := x / (2 ^ k : Int)

end Sys2Proof.Machine
end

