-- ==== Sys2Proof/Machine/Power.lean ====
section
/-! DEFINITION. The power controller's shared operations (spec/18): holds (R449), wakes (R452 to R455), the choice of a
target state (R450), entries and exits of domains (R451, R447) and residency (R461). -/

namespace Sys2Proof.Machine

/-- The first offset of the blocks of domain `d` and the end of their range, as in the address map (R93); PORT registers
of SERX and SERY are held in TPE (R296), so those domains hold no registers. -/
def domRanges (d : Nat) : List (Nat × Nat) :=
  if d = dCLE then [(0x030000, 0x040000)]
  else if d = dCFE then [(0x028000, 0x030000), (0x090000, 0x0A0000)]
  else if d = dFBI then [(0x020000, 0x028000)]
  else if d = dACT then [(0x010000, 0x020000)]
  else if d = dTPE then [(0x040000, 0x070000), (0x100000, 0x140000)]
  else if d = dAUX then [(0x070000, 0x078000), (0x080000, 0x090000)]
  else []

/-- The domain of a lane-space offset (R93); `none` for the AON blocks PWR, KST and SAF. -/
def domainOf (off : Nat) : Option Nat :=
  if off < 0x001000 then some dCORE
  else if off < 0x002000 then none
  else if off < 0x003000 then some dCORE
  else if off < 0x004000 then none
  else if off < 0x006000 then some dCORE
  else if off < 0x007000 then none
  else if off < 0x010000 then some dCORE
  else if off < 0x020000 then some dACT
  else if off < 0x028000 then some dFBI
  else if off < 0x030000 then some dCFE
  else if off < 0x040000 then some dCLE
  else if off < 0x070000 then some dTPE
  else if off < 0x078000 then some dAUX
  else if off < 0x080000 then some dCORE
  else if off < 0x090000 then some dAUX
  else if off < 0x0A0000 then some dCFE
  else if off < 0x100000 then some dCORE
  else if off < 0x140000 then some dTPE
  else some dCORE

/-- Domain `d` is kept OFF because a partition in it is unusable (R477, R471). -/
def Lane.domUnusable (n : Lane) (d : Nat) : Bool :=
  if d = dCLE then n.bit F.YAR_UNUSABLE.PARTS 7
  else if d = dCFE then n.bit F.YAR_UNUSABLE.PARTS 8
  else if d = dFBI then n.bit F.YAR_UNUSABLE.PARTS 9
  else if d = dACT then n.bit F.YAR_UNUSABLE.PARTS 10 || n.bit F.YAR_UNUSABLE.PARTS 11
  else if d = dTPE then n.bit F.YAR_UNUSABLE.PARTS 12
  else if d = dAUX then n.bit F.YAR_UNUSABLE.PARTS 13 || n.bit F.YAR_UNUSABLE.PARTS 15
  else false

/-- One of domains 1 to 8 is ON or in transition. -/
def Lane.anyUp (n : Lane) : Bool :=
  [1, 2, 3, 4, 5, 6, 7, 8].any fun d => !(n.domState d == 1 || n.domState d == 2)

/-- An enabled Oapiec event is pending. -/
def Lane.anyEventPending (n : Lane) : Bool :=
  n.csr 0xC0 != 0#32 || n.csr 0xC1 != 0#32

/-- Domain `d` is held (R449). -/
def Lane.held (n : Lane) (d : Nat) : Bool :=
  let role := n.f F.LNT_ROLE.ROLE
  if d = dCORE then
    n.oap.handler.isSome || n.oap.frozen.isSome || n.anyEventPending || n.on F.LNT_CTRL.EN || !n.kst.logQ.isEmpty || !n.hst.unrep.isEmpty
      || n.anyUp
  else if d = dCLE then n.on F.CLE_CTRL.EN
  else if d = dCFE then n.on F.CFE_CTRL.EN
  else if d = dFBI then n.on F.FBI_CTRL.EN
  else if d = dACT then n.on F.PWM_CTRL.EN || n.on F.GDV_CTRL.EN || n.on F.ADC_CTRL.EN
  else if d = dTPE then n.on F.TPE_CTRL.EN || n.f F.TPE_LNKCTL.PEN != 0
  else if d = dSERX then n.bit F.TPE_LNKCTL.PEN 0 || n.bit F.TPE_LNKCTL.PEN 1
  else if d = dSERY then n.bit F.TPE_LNKCTL.PEN 2 || n.bit F.TPE_LNKCTL.PEN 3
  else if d = dAUX then
    role == 2 || role == 3 || role == 4 || n.upd.busy || n.on F.CAN_CTRL.EN
      || n.f (F.CAN_Cc_MODE.MODE 0) != 0 || n.f (F.CAN_Cc_MODE.MODE 1) != 0
  else false

/-- Count the cycles since the last change of domain `d` as spent in the state it was in: an entry counts as ON and an exit
as the state being left (R461). -/
def Lane.resMark (n : Lane) (d : Nat) : Lane :=
  let st := n.domState d
  let k := if st = 1 then 1 else if st = 2 then 2 else if st = 4 then Cells.get 0 n.pwr.leaving d else 0
  let t₀ := Cells.get 0 n.pwr.resT d
  let acc := Cells.get 0 n.pwr.res (3 * d + k) + (n.now - t₀)
  (n.upPwr fun x_ => { x_ with resT := Cells.set 0 n.pwr.resT d n.now, res := Cells.set 0 n.pwr.res (3 * d + k) acc })

/-- Set STATE of domain `d`, closing its residency interval. The reference is forwarded to the gate-drive die while ACT is ON and the
PLL is referenced to the XO (R443). -/
def Lane.setDom (n : Lane) (d st : Nat) : Lane :=
  let n := (n.resMark d).setF (F.PWR_Dd_STAT.STATE d) st
  if d = dACT then n.setF F.CLK_STAT.REFOUT (if st = 0 ∧ n.on F.CLK_STAT.REF then 1 else 0) else n

/-- Record an event of PWR_EVT: only while its flag is clear, DOM with the first (R463). -/
def Lane.pwrEvt (n : Lane) (flag : FRef) (d : Nat) : Lane :=
  if n.on flag then n
  else
    let first := !(n.on F.PWR_EVT.SUPPLY || n.on F.PWR_EVT.DOMFAIL || n.on F.PWR_EVT.SUPER || n.on F.PWR_EVT.ABORT)
    let n := if first then n.setF F.PWR_EVT.DOM d else n
    n.sqEvent flag

/-- The idle count of `d` restarts (R450). -/
def Lane.idleRestart (n : Lane) (d : Nat) : Lane := (n.upPwr fun x_ => { x_ with idle := n.pwr.idle.filter (· != d) })

/-- The domains whose exits need the XO (R444). -/
def xoClass (d : Nat) : Bool := d == dACT || d == dTPE || d == dSERX || d == dSERY || d == dAUX

/-- Lane time, as CSR_TIMEL and CSR_TIMEH count it (R445): LCLK since the lane's start while the PLL runs. -/
def Lane.laneTime (n : Lane) : Nat := n.pwr.lane0 + (n.pwr.laneHold.getD n.now - n.pwr.laneT)

/-- Lane time goes on as the PLL starts: the ACLK ticks that passed while it was stopped count LPT / 32 LCLK each, the fraction kept (R445). -/
def Lane.laneResume (n : Lane) : Lane :=
  match n.pwr.laneHold with
  | some c =>
    let sum := Config.aclkTicks (n.now - c) * n.f F.CLK_ACLKCAL.LPT + n.pwr.laneFr
    n.upPwr fun x => { x with lane0 := n.laneTime + sum / 32, laneT := n.now, laneFr := sum % 32, laneHold := none }
  | none => n

/-- The clocks a woken domain needs start (R443): the PLL, and for an XO-class domain the crystal oscillator. A stop that has not
taken effect is cancelled (R450). -/
def Lane.clkWake (n : Lane) (d : Nat) : Lane :=
  let n := n.upPwr fun x => { x with pllStop := none }
  let n := if n.on F.PWR_STAT.PLLON then n else (n.laneResume.setF F.PWR_STAT.PLLON 1).setF F.CLK_ACLKCAL.VALID 0
  if xoClass d && n.f F.CLK_STAT.XO == 0 then
    ((n.setF F.CLK_STAT.XO 1).setF F.PWR_STAT.XOON 1).upPwr fun x => { x with xoT := n.now }
  else n

/-- The cycle by which an exit of domain `d` that leaves state `st` now must be complete: twice its exit time, plus the start cost of a
clock it waits for (R450, R455). -/
def Lane.exitBound (n : Lane) (d st : Nat) : Nat :=
  let x := if st = 2 then n.f (F.PWR_Dd_EXIT.XOFF d) else n.f (F.PWR_Dd_EXIT.XRET d)
  let start := if xoClass d && (!n.on F.CLK_STAT.REF || n.on F.CLK_STAT.GLIDE) then 1520 else if n.on F.CLK_STAT.LOCK then 0 else 42
  n.now + 400 * (2 * x + start)

/-- Begin the exit of domain `d` from RET or OFF. -/
def Lane.beginExit (n : Lane) (d : Nat) : Lane :=
  let st := n.domState d
  let n := (n.clkWake d).setDom d 4
  let n := n.setF (F.PWR_Dd_STAT.TARGET d) 0
  (n.upPwr fun x_ => { x_ with
      leaving := Cells.set 0 n.pwr.leaving d st
      exitT := Cells.set 0 n.pwr.exitT d n.now
      dueT := Cells.set 0 n.pwr.dueT d (n.exitBound d st) })

/-- Register a request that domain `d` enter `tgt`, RET or OFF (R451). -/
def Lane.beginEntry (n : Lane) (d tgt : Nat) : Lane :=
  let st := n.domState d
  let n := (n.setDom d 3).setF (F.PWR_Dd_STAT.TARGET d) tgt
  n.upPwr fun x => { x with entT := Cells.set 0 x.entT d n.now, leaving := Cells.set 0 x.leaving d st }

/-- A wake of domain `d` is registered (R452): it begins the exit from RET or OFF, abandons an entry before cycle 24, and
after that lets the entry complete with the exit to follow (R451, R453). A request latched for the abandoned entry goes with it; an
entry to OFF that began in RET is undone to RET, and the exit begins there. An unusable domain stays off (R477). -/
def Lane.wake (n : Lane) (d : Nat) : Lane :=
  let n := n.idleRestart d
  if n.domUnusable d then n
  else match n.domState d with
  | 1 | 2 => n.beginExit d
  | 3 =>
    if n.now < Cells.get 0 n.pwr.entT d + 24 then
      let st := if Cells.get 0 n.pwr.leaving d = 1 then 1 else 0
      let n := (n.setDom d st).setFs [(F.PWR_Dd_STAT.TARGET d, 0), (F.PWR_Dd_STAT.PVAL d, 0), (F.PWR_Dd_STAT.PEND d, 0)]
      let n := (n.stepSat (F.PWR_Dd_CNT.ABORTS d)).pwrEvt F.PWR_EVT.ABORT d
      if st = 1 then n.beginExit d else n
    else (n.upPwr fun x_ => { x_ with late := if n.pwr.late.contains d then n.pwr.late else d :: n.pwr.late })
  | _ => n

/-- A wake of CORE with its cause, a flag of PWR_WCAUSE. A cause is kept until CORE's exit completes (R463); a match or a
burst in a lane already ON records at once (R457, R458). -/
def Lane.wakeCore (n : Lane) (flag : FRef) : Lane :=
  if n.domState dCORE = 0 then n.wake dCORE
  else ((n.upPwr fun x_ => { x_ with cause := natSetBit n.pwr.cause flag.lo true })).wake dCORE

/-- Wake every domain named in a DOMS field, and CORE (R457 to R459). -/
def Lane.wakeDoms (n : Lane) (doms : Nat) (flag : FRef) : Lane :=
  let n := n.wakeCore flag
  forEach [1, 2, 3, 4, 5, 6, 7, 8] (fun d n => if doms.testBit d then n.wake d else n) n

/-- An Oapiec event occurs and, becoming pending, wakes CORE (R257, R452). -/
def Lane.eventW (n : Lane) (e : Nat) (data : W32) : Lane :=
  let n := n.event e data
  if n.evPending e && n.domState dCORE != 0 then n.wakeCore F.PWR_WCAUSE.EVENT else n

/-- CORE may take RET only while domains 1 to 8 are all RET or OFF, and OFF only while they are all OFF (R450). -/
def Lane.coreMay (n : Lane) (st : Nat) : Bool :=
  [1, 2, 3, 4, 5, 6, 7, 8].all fun d => n.domState d == 2 || (st == 1 && n.domState d == 1)

/-- The target state of domain `d` (R450). -/
def Lane.targetOf (n : Lane) (d : Nat) : Nat :=
  let lat := n.f (F.PWR_Dd_LAT.LAT d)
  let fits := fun x => lat = 0xFFFFFFFF ∨ x ≤ lat
  if n.held d || !n.pwr.idle.contains d || lat = 0 || decide (n.sys.step < 9) then 0
  else if n.on (F.PWR_Dd_ALLOW.OFF d) ∧ fits (n.f (F.PWR_Dd_EXIT.XOFF d)) ∧ (d = dCORE → n.coreMay 2) then 2
  else if n.on (F.PWR_Dd_ALLOW.RET d) ∧ fits (n.f (F.PWR_Dd_EXIT.XRET d)) ∧ (d = dCORE → n.coreMay 1) then 1
  else 0

/-- Latch a request that comes during a transition: a later one replaces it and steps SUPER (R454). -/
def Lane.latchReq (n : Lane) (d tgt : Nat) : Lane :=
  let had := n.on (F.PWR_Dd_STAT.PVAL d)
  if had ∧ n.f (F.PWR_Dd_STAT.PEND d) = tgt then n
  else
    let n := if had then (n.stepSat (F.PWR_Dd_CNT.SUPER d)).pwrEvt F.PWR_EVT.SUPER d else n
    (n.setF (F.PWR_Dd_STAT.PVAL d) 1).setF (F.PWR_Dd_STAT.PEND d) tgt

/-- The controller evaluates domain `d` (R450): a domain in a shallower state than its target begins its entry (R451); one in
a deeper state than its target is woken; a target that changes during a transition is latched (R454). -/
def Lane.evalDom (n : Lane) (d : Nat) : Lane :=
  let n := n.setF (F.PWR_Dd_STAT.HELD d) (if n.held d then 1 else 0)
  let tgt := n.targetOf d
  match n.domState d with
  | 0 =>
    if tgt = 0 then n else n.beginEntry d tgt
  | 1 => if tgt = 0 then n.wake d else if tgt = 2 then n.beginEntry d 2 else n
  | 2 => if tgt = 2 then n else n.wake d
  | 3 =>
    -- a hold or a shallower target wakes (R452); any other change is latched
    if tgt = 0 then n.wake d
    else if tgt < n.f (F.PWR_Dd_STAT.TARGET d) then n.wake d
    else if tgt ≠ n.f (F.PWR_Dd_STAT.TARGET d) then n.latchReq d tgt else n
  | _ => if tgt = 0 ∧ !n.on (F.PWR_Dd_STAT.PVAL d) then n else n.latchReq d tgt

/-- The controller evaluates every domain, CORE last. -/
def Lane.evalAll (n : Lane) : Lane := forEach [1, 2, 3, 4, 5, 6, 7, 8, 0] (fun d n => n.evalDom d) n

/-- The cause of a wake of CORE by a hold (R449, R463): entries of the log queue, an Oapiec event, or else a register access, which left
unreported frames at the SPI port or woke another domain. -/
def Lane.holdCause (n : Lane) : FRef :=
  if !n.kst.logQ.isEmpty then F.PWR_WCAUSE.LOG else if n.anyEventPending then F.PWR_WCAUSE.EVENT else F.PWR_WCAUSE.ACCESS

/-- The holds of every domain are judged anew (R449, R450): a domain that became held is woken, one no longer held whose idle
count has expired is evaluated. -/
def Lane.checkHolds (n : Lane) : Lane :=
  forEach [0, 1, 2, 3, 4, 5, 6, 7, 8] (fun d n =>
    if n.held d then
      (if n.domState d = 0 then n
       else if d = dCORE then n.wakeCore n.holdCause
       else n.wake d)
    else if n.domState d == 0 && n.pwr.idle.contains d then n.evalDom d else n) n

/-- A PLL stop that has fallen due takes effect (R450). -/
def Lane.clkSync (n : Lane) : Lane :=
  match n.pwr.pllStop with
  | some d =>
    if d ≤ n.now then
      let n := n.upPwr fun x => { x with pllStop := none, laneHold := some d }
      n.setFs [(F.PWR_STAT.PLLON, 0), (F.PWR_STAT.XOREF, 0), (F.CLK_STAT.LOCK, 0), (F.CLK_STAT.REF, 0), (F.CLK_STAT.GLIDE, 0)]
    else n
  | none => n

end Sys2Proof.Machine
end

