-- ==== Sys2Proof/Machine/Gate.lean ====
section
/-! DEFINITION. The switches of the gate-drive die (spec/05): GCLK, the levels that edge frames and direct pins command, turn-on and
turn-off edges, lock-out and the interlock. The commands that bring them about are in Gdv.lean; levels of a frame take effect in a cycle
of their own, which `Lane.sync` (Sample.lean) carries out. -/

namespace Sys2Proof.Machine

/-- The group, and so the time base, of leg n = 1 to 7 (R97): 0 M0, 1 M1, 2 leg 7 on AUX. -/
def legGroup (leg : Nat) : Nat := if leg ≤ 3 then 0 else if leg ≤ 6 then 1 else 2

/-- Switch index s of a leg's high or low side (R136). -/
def swIx (leg : Nat) (high : Bool) : Nat := 2 * (leg - 1) + if high then 0 else 1

/-! ## GCLK (R129) -/

/-- The gate-die cycle of lane cycle `c`: GCLK counts with LCLK while the reference is present, and runs from the local oscillator once
it has been absent for 40 ns. -/
def Lane.gcyc (n : Lane) (c : Nat) : Nat :=
  n.gdv.g0 + (if n.gdv.refLost then Config.oscTicks (c - n.gdv.gT) else c - n.gdv.gT)

/-- The present gate-die cycle. -/
def Lane.gnow (n : Lane) : Nat := n.gcyc n.now

/-- The reference goes or comes back: GCLK counts on from its present cycle. -/
def Lane.setRef (n : Lane) (lost : Bool) : Lane :=
  if n.gdv.refLost = lost then n
  else n.upGdv fun g => { g with refLost := lost, g0 := n.gnow, gT := n.now }

/-! ## The gate-drive die's switches -/

/-- Switch indices 0 to 13. -/
def switches : List Nat := List.range 14

def Lane.sw (n : Lane) (s : Nat) : Switch := n.gdv.sw.getD s {}
def Lane.setSw (n : Lane) (s : Nat) (x : Switch) : Lane := (n.upGdv fun x_ => { x_ with sw := n.gdv.sw.set s x })

/-- The leg of a switch, and its complement. -/
def swLeg (s : Nat) : Nat := s / 2 + 1
def swComp (s : Nat) : Nat := if s % 2 = 0 then s + 1 else s - 1

/-- A register of the settings the gate-drive die works with (R132, R140). -/
def isGateSet (off : Nat) : Bool :=
  [1, 2, 3, 4, 5, 6, 7].any fun i => off == R.GDV_LEGn_STR i || off == R.GDV_LEGn_BLANK i || off == R.GDV_LEGn_THR i || off == R.GDV_LEGn_QUAL i

/-- The register at `off`, if it is such a setting, is sent over the control lane (R127). -/
def Lane.gateSend (n : Lane) (off : Nat) : Lane :=
  if isGateSet off then n.upGdv fun g => { g with ctl := g.ctl ++ [(off, n.rd off)] } else n

/-- A gate-die setting as it stands at the gate-drive die: what the control lane last delivered (R127). -/
def Lane.gateSet (n : Lane) (off : Nat) : W32 := Cells.get (mapReset off) n.gdv.set off

def FRef.gate (r : FRef) (n : Lane) : Nat := bits (n.gateSet r.off) r.hi r.lo

def Lane.onStep (n : Lane) (s : Nat) : Nat :=
  (if s % 2 = 0 then F.GDV_LEGn_STR.ON_H (swLeg s) else F.GDV_LEGn_STR.ON_L (swLeg s)).gate n
def Lane.offStep (n : Lane) (s : Nat) : Nat :=
  (if s % 2 = 0 then F.GDV_LEGn_STR.OFF_H (swLeg s) else F.GDV_LEGn_STR.OFF_L (swLeg s)).gate n

/-- A turn-off edge of a switch starts in gate cycle `c` at its OFF strength (R132); a switch in reflex soft turn-off
continues that (R129, R143). -/
def Lane.swOff (n : Lane) (s c : Nat) : Lane :=
  let x := n.sw s
  if x.on then n.setSw s { x with on := false, offT := some c, strength := n.offStep s, blank := false, deferred := false }
  else n.setSw s { x with deferred := false }

/-- A turn-on edge of a switch starts in gate cycle `c`: it takes its strength, thresholds, blanking and qualification for
the whole on interval (R132, R140). -/
def Lane.swTurnOn (n : Lane) (s c : Nat) : Lane :=
  let leg := swLeg s
  let hi := s % 2 = 0
  let bl := (if hi then F.GDV_LEGn_BLANK.BLANK_H leg else F.GDV_LEGn_BLANK.BLANK_L leg).gate n
  n.setSw s { n.sw s with
    on := true, deferred := false, strength := n.onStep s, onT := c, blank := decide (0 < bl), blankEnd := c + bl, runT := none
    soft := (if hi then F.GDV_LEGn_THR.SOFT_H leg else F.GDV_LEGn_THR.SOFT_L leg).gate n
    hard := (if hi then F.GDV_LEGn_THR.HARD_H leg else F.GDV_LEGn_THR.HARD_L leg).gate n
    softq := (if hi then F.GDV_LEGn_QUAL.SOFTQ_H leg else F.GDV_LEGn_QUAL.SOFTQ_L leg).gate n }

/-- A running check keeps the switch off (R148, R149). -/
def Lane.checkHolds_ (n : Lane) (s : Nat) : Bool :=
  match n.gdv.check with
  | some c => if c.kind = 1 then c.target == swLeg s else c.target == s
  | none => false

/-- Turn-on edges of the switch are ignored: reflex-latched (R32), in lock-out (R136), under check, or the block is not
enabled (R152). -/
def Lane.swBarred (n : Lane) (s : Nat) : Bool :=
  n.gdv.latch.testBit s || n.gdv.live.testBit s || n.checkHolds_ s || !n.on F.GDV_CTRL.EN

/-- A report for the next return frame (R126). -/
def Lane.report (n : Lane) (src kind word : Nat) : Lane :=
  (n.upGdv fun x_ => { x_ with reports := n.gdv.reports ++ [{ src := src, kind := kind, word := word }] })

/-- The interlock refuses a turn-on on a leg (R138): the complement goes off, the leg is held off, the refusal is counted
once and reported. -/
def Lane.ilkRefuse (n : Lane) (leg c : Nat) : Lane :=
  let n := (n.swOff (2 * (leg - 1)) c).swOff (2 * (leg - 1) + 1) c
  let n := (n.upGdv fun x_ => { x_ with ilkHold := if n.gdv.ilkHold.contains leg then n.gdv.ilkHold else leg :: n.gdv.ilkHold })
  (n.stepSat F.GDV_ILKCNT.COUNT).report (0x56 + legGroup leg) 5 leg

/-- The complement's last turn-off edge started fewer than 16 GCLK before cycle `c` (R138). -/
def Lane.recentOff (n : Lane) (s c : Nat) : Bool :=
  match (n.sw s).offT with
  | some e => decide (c < e + 16)
  | none => false

/-- One leg's turn-on edge of switch `s` in gate cycle `c` (R136, R138, R139). -/
def Lane.turnOnEdge (n : Lane) (s c : Nat) : Lane :=
  if n.swBarred s || n.gdv.ilkHold.contains (swLeg s) then n
  else if (n.sw (swComp s)).softEnd.any fun e => decide (c < e) then
    (n.setSw s { n.sw s with deferred := true }).stepSat (F.GDV_LEGn_CNT.DEFER (swLeg s))
  else if (n.sw (swComp s)).on || n.recentOff (swComp s) c then n.ilkRefuse (swLeg s) c
  else n.swTurnOn s c

/-- The levels `lv` reach one leg in gate cycle `c`: turn-off edges, then turn-on edges, two at once being refused
together; a held leg follows commands again once both levels are off (R138). DESIGN CHOICE: a turn-on edge that is ignored (its switch
latched, in lock-out or under check) does not count as taken in the same cycle, so the complement's is judged on its own (log entry
100). -/
def Lane.legLevels (n : Lane) (leg lv c : Nat) : Lane :=
  let h := 2 * (leg - 1)
  let lo := h + 1
  let wasH := (n.sw h).lvl
  let wasL := (n.sw lo).lvl
  let isH := lv.testBit h
  let isL := lv.testBit lo
  let n := n.setSw h { n.sw h with lvl := isH }
  let n := n.setSw lo { n.sw lo with lvl := isL }
  let n := if wasH && !isH then n.swOff h c else n
  let n := if wasL && !isL then n.swOff lo c else n
  let onH := !wasH && isH
  let onL := !wasL && isL
  let n :=
    if onH && onL && !n.gdv.ilkHold.contains leg && !(n.swBarred h) && !(n.swBarred lo) then n.ilkRefuse leg c
    else
      let n := if onH then n.turnOnEdge h c else n
      if onL then n.turnOnEdge lo c else n
  if !isH && !isL then (n.upGdv fun x_ => { x_ with ilkHold := n.gdv.ilkHold.filter (· != leg) }) else n

/-- The levels `lv` reach every leg in gate cycle `c`. -/
def Lane.gateLevels (n : Lane) (lv c : Nat) : Lane := forEach [1, 2, 3, 4, 5, 6, 7] (fun leg n => n.legLevels leg lv c) n

/-- The levels are noted without driving anything: the block is disabled or the link is not in use (R131, R152). -/
def Lane.noteLevels (n : Lane) (lv : Nat) : Lane :=
  forEach switches (fun s n => n.setSw s { n.sw s with lvl := lv.testBit s }) n

/-- The levels of frames taken so far take effect in their cycles (R125). -/
def Lane.gateSync (n : Lane) : Lane :=
  if n.gdv.due.isEmpty then n
  else
    let here := n.gdv.due.filter fun d => decide (d.1 ≤ n.now)
    let n := n.upGdv fun g => { g with due := g.due.filter fun d => decide (n.now < d.1) }
    forEach here (fun d n => n.gateLevels d.2 (n.gcyc d.1)) n

end Sys2Proof.Machine
end

