-- ==== Sys2Proof/WellFormed.lean ====
section
/-! DEFINITION. Which commands a sender can form: what their operands must satisfy beyond their types. A meaning stops with the fault
illFormed on any other. -/

namespace Sys2Proof

/-- The number of data bytes a DLC stands for (R331). -/
def dlcLen (fdf : Bool) (d : Nat) : Nat :=
  if d ≤ 8 then d else if fdf then [12, 16, 20, 24, 32, 48, 64].getD (d - 9) 64 else 8

/-- A frame a bus can carry (R331): as many data bytes as its DLC says, none in a remote frame; BRS and ESI only in CAN FD, which has no
remote frames; a standard identifier has 11 bits. -/
def canFrameOk (f : CanFrame) : Bool :=
  f.data.length == (if f.rtr then 0 else dlcLen f.fdf f.dlc.toNat) && (f.fdf || !(f.brs || f.esi)) && !(f.fdf && f.rtr)
    && (f.ide || f.id.toNat % 2 ^ 18 == 0)

/-- A DIGEST message carries 32 bytes (R64). -/
def statusOk : StatusMsg → Bool
  | .digest d => d.length == 32
  | _ => true

/-- A MIRROR frame carries at most 256 bytes (R405), in a frame of 8 to 256 bytes of data (R398). -/
def mirrorOk (data : List W32) : Bool := decide (2 ≤ data.length) && decide (data.length ≤ 64)

/-- Only policy firmware and the debug port make other than 32-bit accesses (R74). -/
def sizeOk (org : Origin) (size : AccSize) : Bool := size == .word || org == .firmware || org == .debug

/-- A sender can form the command. -/
def Instr.wellFormed : Instr → Bool
  | .statusMessageReceive _ _ _ m => statusOk m
  | .registerWrite _ _ org _ size _ => sizeOk org size
  | .mirrorReceive _ _ _ _ _ data => mirrorOk data
  | .canFrameReceive _ _ _ f _ _ => canFrameOk f
  | _ => true

end Sys2Proof
end

