-- ==== Sys2Proof/Machine/Sample.lean ====
section
/-! DEFINITION. What a lane does between commands, and the wrapper every command goes through. Sample instants (R25),
starts of conversions (R190, R191) and the steps of a CFE execution (R201) fall in cycles fixed by what was registered
before; `Lane.sync` carries them out up to the present cycle. -/

namespace Sys2Proof.Machine

/-! ## Groups and routes -/

/-- The state field of group `g` in PWM_GRPSTAT. -/
def grpField (g : Nat) : FRef := if g = 0 then F.PWM_GRPSTAT.ST_M0 else if g = 1 then F.PWM_GRPSTAT.ST_M1 else F.PWM_GRPSTAT.ST_L7

/-- Group states (R113). -/
def gUNARMED : Nat := 0
def gIDLE : Nat := 1
def gPENDING : Nat := 2
def gRUN : Nat := 3
def gTRIPPED : Nat := 4
def gSAFE : Nat := 5

def Lane.grp (n : Lane) (g : Nat) : Nat := n.f (grpField g)

/-- The channel a kind 1 route names for the angle of group `g` (R49). -/
def Lane.angleCh (n : Lane) (g : Nat) : Option Nat :=
  (n.sys.ash.routes.find? fun r => r.kind == 1 && r.sink == g).map fun r => r.source

/-- The loop that drives group `g` (kind 6). -/
def Lane.groupLoop (n : Lane) (g : Nat) : Option Nat :=
  (n.sys.ash.routes.find? fun r => r.kind == 6 && r.sink == g).map fun r => r.source

/-- The groups a loop drives: one output may have several sinks (R49). -/
def Lane.loopGroups (n : Lane) (slot : Nat) : List Nat := [0, 1].filter fun g => n.groupLoop g == some slot

/-- The first group a loop drives. -/
def Lane.loopGroup (n : Lane) (slot : Nat) : Option Nat := (n.loopGroups slot).head?

/-- The chain of the loop that drives group `g`. -/
def Lane.groupChain (n : Lane) (g : Nat) : Option Nat := (n.groupLoop g).map fun slot => n.f (F.CLE_Ln_CFG.CHAIN slot)

/-- The trigger source of chain `c`, if it has one (R225). -/
def Lane.chainTrig (n : Lane) (c : Nat) : Option Nat :=
  if n.on (F.CLE_CHc_TRIG.VAL c) then some (n.f (F.CLE_CHc_TRIG.TRIG c)) else none

/-- The trigger source of the chain that drives group `g`. -/
def Lane.groupTrig (n : Lane) (g : Nat) : Option Nat :=
  match n.groupLoop g with
  | some slot => n.chainTrig (n.f (F.CLE_Ln_CFG.CHAIN slot))
  | none => none

/-! ## Feedback channels -/

def Lane.fch (n : Lane) (ch : Nat) : FbiCh := n.fbi.chs.getD ch {}
def Lane.setFch (n : Lane) (ch : Nat) (x : FbiCh) : Lane := n.upFbi fun g => { g with chs := g.chs.set ch x }

def Lane.fmode (n : Lane) (ch : Nat) : Nat := n.f (F.FBI_CHn_CFG.MODE ch)

/-- The channel runs: the block is enabled and the channel has a sensor (R154, R183). -/
def Lane.fbiRuns (n : Lane) (ch : Nat) : Bool := n.on F.FBI_CTRL.EN && n.fmode ch != 0

/-- FBI_TIME in cycle `t` (R155). -/
def Lane.fbiTimeAt (n : Lane) (t : Nat) : W32 := BitVec.ofNat 32 (t - n.fbi.en0)

/-- The ERRCNT field that counts an event, with its place in FBI_CHn_EVT: 8 QERR, 9 HALLST, 15 FRAME; 10 EARLY, 11 LATE, 12
MISS; 13 SLIP. -/
def errField (ch bit : Nat) : Option FRef :=
  if bit = 8 ∨ bit = 9 ∨ bit = 15 then some (F.FBI_CHn_ERRCNT.BAD ch)
  else if bit = 10 ∨ bit = 11 ∨ bit = 12 then some (F.FBI_CHn_ERRCNT.IDXERR ch)
  else if bit = 13 then some (F.FBI_CHn_ERRCNT.SLIPS ch)
  else none

/-- Record an event of channel `ch` (R182): counted always, recorded and raised with its kind only while its flag is
clear; kind 0 raises nothing. -/
def Lane.fbiEvent (n : Lane) (ch : Nat) (flag : FRef) (kind : Nat) : Lane :=
  let n := match errField ch flag.lo with
    | some r => n.stepSat r
    | none => n
  if n.on flag then n
  else
    let n := n.sqEvent flag
    if kind = 0 then n else n.raise (0x90 + 8 * ch + kind - 1) kind ch

/-- Keystone kinds of R182. -/
def kQuad : Nat := 1
def kHall : Nat := 2
def kIndex : Nat := 3
def kSent : Nat := 4
def kSsi : Nat := 5
def kLimit : Nat := 6
def kOvf : Nat := 7
def kDivider : Nat := 8

/-! ## Speed (R173 to R178) -/

/-- 2^8 × 400,000,000. -/
def speedK : Int := 102400000000

/-- Saturate a speed to ±(2^31 − 1) (R178). -/
def spdSat (v : Int) : Int × Bool :=
  (clampInt (-2147483647) 2147483647 v, decide (v < -2147483647) || decide (2147483647 < v))

/-- The speed of `dc` counts over `dt` cycles, truncated towards zero (R178). -/
def spdRate (dc : Int) (dt : Nat) : Int × Bool := spdSat (Int.tdiv (dc * speedK) (max dt 1 : Nat))

/-- The speed between a reference edge and the last edge, limited by silence (R173, R175). -/
def edgeSpeed (ref last : Option Edge) (rev : Bool) (t : Nat) : Int × Bool :=
  match ref, last with
  | some a, some b =>
    if a = b then (0, false)
    else
      let dc := (b.raw - a.raw).toInt
      let dt := b.t - a.t
      let gap := t - b.t
      if dt < gap * dc.natAbs then spdSat (Int.tdiv (if rev then -speedK else speedK) (max gap 1 : Nat))
      else spdRate dc dt
  | _, _ => (0, false)

/-- The MT reference edge of a latch set (R173, R174). -/
def FbiCh.mtRef (x : FbiCh) (k : Nat) : Option Edge :=
  let ls := x.lats.getD k {}
  match ls.prev with
  | none => x.e0
  | some _ =>
    match ls.mt with
    | none => x.first
    | some m => if some m = x.e1 then x.e0 else some m

/-- The speed of channel `ch` for latch set `k` in cycle `t`, by speed mode `sm` (R173 to R177). -/
def Lane.speedAt (n : Lane) (ch k sm t : Nat) : Int × Bool :=
  let x := n.fch ch
  if 3 ≤ n.fmode ch then (x.absSpd.toInt, false)
  else if n.on (F.FBI_CHn_STAT.STILL ch) then (0, false)
  else
    let rev := n.on (F.FBI_CHn_STAT.DIR ch)
    if sm = 1 then
      match (x.lats.getD k {}).prev with
      | some (tl, rl) => spdRate (n.rd (R.FBI_CHn_RAW ch) - rl).toInt (t - tl)
      | none => (0, false)
    else if sm = 0 then edgeSpeed x.e0 x.e1 rev t
    else edgeSpeed (x.mtRef k) x.e1 rev t

/-- The edges known to the estimator are given up: start, standstill or a discontinuity (R174). -/
def FbiCh.barrier (x : FbiCh) : FbiCh :=
  { x with e0 := none, e1 := none, first := none, lats := x.lats.map fun s => { s with mt := none } }

def Lane.fbiBarrier (n : Lane) (ch : Nat) : Lane :=
  (n.setFch ch (n.fch ch).barrier).setF (F.FBI_CHn_STAT.NOREF ch) 1

/-! ## Latching (R170 to R172) -/

/-- Latch set `k` of channel `ch` captures at sample instant `c`; an SSI transfer starts with set 0 (R166). -/
def Lane.fbiLatch (n : Lane) (ch k c : Nat) : Lane :=
  if n.fbiRuns ch then
    let x := n.fch ch
    let (v, ovf) := n.speedAt ch k (n.f (F.FBI_CHn_SPD.SMODE ch)) c
    let age := min 0xFFFF ((c - x.stampT) / 40)
    let ls : LatchSet :=
      { prev := some (c, n.rd (R.FBI_CHn_RAW ch)), mt := x.e1, raw := n.rd (R.FBI_CHn_RAW ch), t := c
        pend := some { due := c + 24, spd := BitVec.ofInt 32 v, age := age, ovf := ovf } }
    let x := { x with lats := x.lats.set k ls }
    let x := if n.fmode ch = 4 ∧ k = 0 ∧ x.ssi.isNone ∧ x.ssiEnd ≤ c then { x with ssi := some c } else x
    (n.setFch ch x).wr (R.FBI_CHn_LATk_POS ch k) (n.rd (R.FBI_CHn_POS ch))
  else n

/-- Latch set `k` of channel `ch` is triggered by source `src` = 8 × time base + event code (R170). -/
def Lane.latTrig (n : Lane) (ch k src : Nat) : Bool :=
  if k = 0 then n.on (F.FBI_CHn_LATCFG.VAL_0 ch) && n.f (F.FBI_CHn_LATCFG.TRIG_0 ch) == src
  else n.on (F.FBI_CHn_LATCFG.VAL_1 ch) && n.f (F.FBI_CHn_LATCFG.TRIG_1 ch) == src

/-! ## Sample instants -/

/-- The sample instant `c` of trigger `src` gives the CFE executions bound to it their RAW count, speed and age (R201, R203,
R204): those of the latch set whose trigger is the group's chain trigger. -/
def Lane.cfeFill (n : Lane) (src c : Nat) : Lane :=
  let one := fun (e : CfeExe) =>
    if e.inst = c ∧ e.filled = false ∧ n.groupTrig e.g = some src then
      match n.angleCh e.g with
      | none => { e with filled := true }
      | some ch =>
        let k := if n.latTrig ch 0 src then 0 else 1
        let ls := (n.fch ch).lats.getD k {}
        if n.latTrig ch k src ∧ ls.t = c then
          match ls.pend with
          | some p => { e with raw := ls.raw, spd := p.spd.toInt, age := p.age, filled := true }
          | none => { e with raw := ls.raw, spd := (n.rd (R.FBI_CHn_LATk_SPD ch k)).toInt
                             age := n.f (F.FBI_CHn_LATk_AGE.AGE ch k), filled := true }
        else { e with raw := n.rd (R.FBI_CHn_RAW ch), filled := true }
    else e
  n.upCfe fun g => { g with exes := g.exes.map one }

/-- Every latch set triggered by `src` captures at sample instant `c`. -/
def Lane.fbiCapture (n : Lane) (src c : Nat) : Lane :=
  let n := if n.domOn dFBI then
      forEach [0, 1, 2, 3] (fun ch n =>
        forEach [0, 1] (fun k n => if n.latTrig ch k src then n.fbiLatch ch k c else n) n) n
    else n
  n.cfeFill src c

/-- Sample instants before the present cycle are captured: everything registered in their own cycle is in (R171). -/
def Lane.fbiSync (n : Lane) : Lane :=
  if n.fbi.samp.isEmpty then n
  else
    let due := n.fbi.samp.filter fun p => decide (p.2 < n.now)
    let n := n.upFbi fun g => { g with samp := g.samp.filter fun p => decide (n.now ≤ p.2) }
    forEach due (fun p n => n.fbiCapture p.1 p.2) n

/-! ## Conversions (R190, R191) -/

/-- A converter starts the queued conversions whose start falls before cycle `lim`: from the second cycle after their
trigger, and one every 80 LCLK. -/
def Converter.starts (lim : Nat) : Nat → Converter → Converter
  | 0, x => x
  | k + 1, x =>
    match x.queue with
    | [] => x
    | h :: q =>
      let s := max x.free (h.trig + 2)
      if s < lim then
        Converter.starts lim k { x with queue := q, free := s + 80, run := x.run ++ [{ c := h, start := s }] }
      else x

/-- Both converters start what falls before cycle `lim`. -/
def Lane.adcStarts (n : Lane) (lim : Nat) : Lane :=
  if n.adc.cv.all fun x => x.queue.isEmpty then n
  else n.upAdc fun g => { g with cv := g.cv.map fun x => Converter.starts lim x.queue.length x }

/-- Sequences 0 to 7. -/
def seqs : List Nat := [0, 1, 2, 3, 4, 5, 6, 7]

/-- The entry of result index `r` (R189: r = 16 × q + e). -/
def Lane.entInput (n : Lane) (q e : Nat) : Nat := n.f (F.ADC_SQq_ENTe.INPUT q e)

/-- Keystone kinds of the ADC (R351). -/
def aOverrun : Nat := 1
def aCal : Nat := 2
def aOvc : Nat := 3

/-- A run of sequence `q` is abandoned (R192): entries not started are dropped, and the results of conversions in progress
are discarded, but for those on the inputs `keep` (R193). -/
def Lane.seqAbandon (n : Lane) (q : Nat) (keep : List Nat) : Lane :=
  let kept := fun (r : Running) => r.c.q == q && !r.drop && !keep.contains (n.entInput q r.c.e)
  let n := n.upAdc fun g => { g with
    cv := g.cv.map fun x => { x with
      queue := x.queue.filter fun c => c.q != q
      run := x.run.map fun r => if kept r then { r with drop := true } else r }
    left := Cells.erase g.left q }
  let n := (n.stepSat (F.ADC_SQq_STAT.ABANDON q)).setF (F.ADC_SQq_STAT.BUSY q) 0
  (n.sqEventOnce F.ADC_EVT.OVERRUN).raise 0x70 aOverrun q

/-- A queued conversion of sequence `q` triggered before cycle `t` still needs one of the hold stages `hs` (R193). -/
def Lane.holdUser (n : Lane) (t : Nat) (hs : List Nat) (q : Nat) : Bool :=
  (n.adc.cv.flatMap fun x => x.queue).any fun c => c.q == q && decide (c.trig < t) && hs.contains (n.entInput q c.e)

/-- The hold stages `hs` capture in the cycle after the trigger of cycle `t`: earlier sequences that still need one of them are
abandoned, and of their conversions in progress those of a stage captured anew are written (R193). -/
def Lane.holdCapture (n : Lane) (t : Nat) (hs : List Nat) : Lane :=
  forEach seqs (fun q n => if n.holdUser t hs q then n.seqAbandon q hs else n) (n.adcStarts (t + 2))

/-- The captures before the present cycle, and the conversions that start before it. -/
def Lane.adcSync (n : Lane) : Lane :=
  let due := n.adc.caps.filter fun p => decide (p.1 + 1 < n.now)
  let n := if due.isEmpty then n else
    forEach due (fun p n => n.holdCapture p.1 p.2) (n.upAdc fun g => { g with caps := g.caps.filter fun p => decide (n.now ≤ p.1 + 1) })
  n.adcStarts n.now

/-! ## The steps of a CFE execution (R201) -/

def Lane.cg (n : Lane) (g : Nat) : CfeGrp := n.cfe.grps.getD g {}
def Lane.setCg (n : Lane) (g : Nat) (x : CfeGrp) : Lane := n.upCfe fun s => { s with grps := s.grps.set g x }

/-- Keystone kinds of the CFE (R351). -/
def cOverrun : Nat := 1
def cClamp : Nat := 2
def cLimiter : Nat := 3
def cCatch : Nat := 4
def cOvervolt : Nat := 5
def cChopper : Nat := 6
def cCommand : Nat := 7

/-- An event of the CFE (R222): recorded while its flag is clear, and raised. -/
def Lane.cfeEvent (n : Lane) (flag : FRef) (g kind : Nat) : Lane :=
  let n := n.sqEventOnce flag
  if kind = cChopper then n.raise 0xBA kind 0
  else if kind = cCommand then n.raise 0xBB kind 0
  else n.raise (0xB0 + 5 * g + kind - 1) kind g

/-- A bus result is named (R214). -/
def Lane.busNamed (n : Lane) : Bool := n.on F.CFE_BUSCFG.VAL0 || n.on F.CFE_BUSCFG.VAL1

/-- The bus value exceeds VLIM (R215). -/
def Lane.overVlim (n : Lane) : Bool := n.busNamed && decide (n.f F.CFE_OVLIM.VLIM < n.f F.CFE_BUS.BUS)

/-- The amplitude the command pin requests of group `g` (R211). -/
def Lane.pinAmp (n : Lane) (g : Nat) : Int :=
  let d : Int := (n.f F.CFE_CMDMEAS.VALUE : Int) - n.f F.CFE_CMDMAP.MID
  let span : Int := n.f F.CFE_CMDSPAN.SPAN
  if n.on F.CFE_STAT.CMDVALID = false ∨ d.natAbs ≤ n.f F.CFE_CMDMAP.DEAD then 0
  else Int.tdiv ((n.f (F.CFE_Gg_AMPMAX.LIMIT g) : Int) * clampInt (-span) span d) span

/-- Step 1 (R206, R207, R213, R215): the applied amplitude; the execution that takes up what a catch hands on issues RUN. -/
def Lane.cfeAmp (n : Lane) (e : CfeExe) : Lane × CfeExe :=
  let g := e.g
  let x := n.cg g
  let st := n.grp g
  let two := fun (r : FRef) (l : FRef) => if e.limp then min (n.f r) (n.f l) else n.f r
  let amax : Int := two (F.CFE_Gg_AMPMAX.LIMIT g) (F.CFE_Gg_AMPLIMP.LIMIT g)
  let slew : Int := two (F.CFE_Gg_SLEW.SLEW g) (F.CFE_Gg_SLEWLIMP.SLEW g)
  let r := if e.pin then n.pinAmp g else e.req.getD 0
  let prev := match x.preset with
    | some a0 => a0
    | none => if st = gPENDING ∨ st = gRUN then x.aPrev else 0
  let s := clampInt (prev - slew) (prev + slew) r
  let kov := (n.rd R.CFE_OVGAIN).toInt * ((n.f F.CFE_BUS.BUS : Int) - n.f F.CFE_OVLIM.VLIM)
  let c := if n.overVlim && st == gRUN && e.spd != 0 then (if e.spd < 0 then -kov else kov) else 0
  let a := clampInt (-amax) amax (s + c)
  let acted := decide (s ≠ r) || decide (a ≠ s + c)
  let first := acted && !n.on (F.CFE_Gg_STAT.CLAMPED g)
  let n := n.setCg g { x with aPrev := a, req := r, preset := none, runDue := x.preset.isSome, limEp := x.limEp || decide (c ≠ 0) }
  let n := n.setFs [(F.CFE_Gg_STAT.CLAMPED g, b1 acted), (F.CFE_Gg_STAT.LIMP g, b1 e.limp), (F.CFE_Gg_STAT.OVLIM g, b1 (decide (c ≠ 0)))]
  let n := n.wr (R.CFE_Gg_AMP g) (BitVec.ofInt 32 a)
  let n := if first then n.cfeEvent F.CFE_EVT.CLAMP g cClamp else n
  let n := if decide (c ≠ 0) && !x.limEp then n.cfeEvent F.CFE_EVT.LIMITER g cLimiter else n
  (n, { e with a := a, stage := 1 })

/-- Offsets of the tables of group `g`, bank `k` (R220). -/
def commBase (g k : Nat) : Nat := 0x090000 + 0x3000 * (2 * g + k)
def advBase (g k : Nat) : Nat := 0x09C000 + 0x200 * (2 * g + k)

/-- A table entry: the signed low 16 bits of its word. -/
def Lane.tabEntry (n : Lane) (off : Nat) : Int := ((Cells.get 0#32 n.cfe.tab off).setWidth 16).toInt

/-- The three commutation entries of angle `th` in bank `k` of group `g` (R209). -/
def Lane.commEntries (n : Lane) (g k th : Nat) : List Int :=
  let i := th * 3072 / 2 ^ 32
  [i, (i + 2048) % 3072, (i + 1024) % 3072].map fun j => n.tabEntry (commBase g k + 4 * j)

/-- The phase advance for a speed of magnitude `spd` (R205). -/
def Lane.advance_ (n : Lane) (g k spd : Nat) : Int :=
  let u := spd / 2 ^ n.f (F.CFE_Gg_ADVCFG.ADVSHIFT g)
  let i := u / 256
  let e := fun i => n.tabEntry (advBase g k + 4 * i)
  if 63 ≤ i then e 63 else e i + Int.tdiv ((e (i + 1) - e i) * (u % 256 : Nat)) 256

/-- Step 2 (R203 to R205): the commutation angle. -/
def Lane.cfeAngle (n : Lane) (e : CfeExe) : Lane × CfeExe :=
  let g := e.g
  let x := n.cg g
  let cpt : Int := n.f (F.CFE_Gg_CFG.CPT g)
  let poles : Int := n.f (F.CFE_Gg_CFG.POLES g)
  let m := ((x.m : Int) + (e.raw - x.rawPrev).toInt) % cpt
  let thc := m * poles * 2 ^ 32 / cpt
  let lim := 255 * poles * 2 ^ 32 / (256 * cpt)
  let ext := if n.on (F.CFE_Gg_CFG.EXTRAP g) then
      clampInt (-lim) lim (Int.tdiv (e.spd * e.age * poles * 2 ^ 32) (cpt * 2560000000)) else 0
  let tf := ((n.f (F.CFE_Gg_ANGOFS.OFS g) : Int) + thc + ext) % 2 ^ 32
  let adv := n.advance_ g e.bank e.spd.natAbs * 2 ^ 16
  let th := if n.on (F.CFE_Gg_MODE.ADVEN g) then
      (if 0 < e.spd then (tf + adv) % 2 ^ 32 else if e.spd < 0 then (tf - adv) % 2 ^ 32 else tf) else tf
  let n := n.setCg g { x with m := m.toNat, rawPrev := e.raw, tf := tf.toNat, spd := e.spd }
  (n.wr (R.CFE_Gg_ANGLE g) (BitVec.ofInt 32 th), { e with stage := 2 })

/-- Steps 3 and 4: the table entries of the angle from the execution's bank. -/
def Lane.cfeEnt (n : Lane) (e : CfeExe) : Lane × CfeExe :=
  (n, { e with ent := n.commEntries e.g e.bank (n.f (F.CFE_Gg_ANGLE.ANGLE e.g)), stage := 3 })

/-- Step 5 (R210): compare values and period. -/
def Lane.cfeCmp (n : Lane) (e : CfeExe) : Lane × CfeExe :=
  let per := n.f (F.CFE_Gg_PER.PER e.g)
  let p : Int := per + n.sf (F.PWM_TBb_PERACT.TRIM e.g)
  let minp : Int := n.f (F.CFE_Gg_PER.MINP e.g)
  let one := fun (t : Int) =>
    if p - minp < minp then (p / 2).toNat
    else (clampInt minp (p - minp) (p * (2 ^ 44 - e.a * t) / 2 ^ 45)).toNat
  (n, { e with per := per, cmp := e.ent.map one, stage := 4 })

/-- The shadow of leg `i` of group `g` takes its compare value; the first goes with the period (step 6). -/
def Lane.cfeShadow (n : Lane) (e : CfeExe) (i : Nat) : Lane :=
  if n.on F.CFE_CTRL.EN then
    let n := if i = 0 then n.setF (F.PWM_TBb_PER.PER e.g) e.per else n
    n.setF (F.PWM_LEGn_CMP.CMP (3 * e.g + i + 1)) (e.cmp.getD i 0)
  else n

/-- The next step of a started execution, and in which cycle after its start it falls: the steps of R201, of step 6 the period with the
first leg and the second leg. The third leg and the arming end the execution (CFE_EXECUTION). -/
def Lane.cfeStep (n : Lane) (e : CfeExe) : Lane × CfeExe :=
  if e.stage = 0 then n.cfeAmp e else if e.stage = 1 then n.cfeAngle e else if e.stage = 2 then n.cfeEnt e
  else if e.stage = 3 then n.cfeCmp e
  else (n.cfeShadow e (e.stage - 4), { e with stage := e.stage + 1 })
def cfeStepAt (stage : Nat) : Nat :=
  if stage = 0 then 1 else if stage = 1 then 9 else if stage = 2 then 17 else if stage = 3 then 49 else if stage = 4 then 72 else 73

/-- An execution has been asked for: its loop has written, or its source is the command pin. -/
def CfeExe.asked (e : CfeExe) : Bool := e.req.isSome || e.pin

/-- Executions are served in the order they fall, M0 first in one cycle (R202). -/
def CfeExe.before (a b : CfeExe) : Bool := decide (a.w < b.w) || (a.w == b.w && decide (a.g < b.g))

/-- The execution in progress, or else the one to start next. -/
def CfeState.head (c : CfeState) : Option CfeExe :=
  match c.exes.find? fun e => e.start.isSome with
  | some e => some e
  | none => (c.exes.filter fun e => e.asked).foldl (fun o e =>
      match o with
      | none => some e
      | some x => if e.before x then some e else some x) none

/-- Replace the execution of the same group and sample instant. -/
def CfeState.put (c : CfeState) (e : CfeExe) : CfeState :=
  { c with exes := c.exes.map fun x => if x.g = e.g ∧ x.inst = e.inst then e else x }

/-- One thing the CFE does before the present cycle: a start or a step. -/
def Lane.cfeTick (n : Lane) : Lane :=
  match n.cfe.head with
  | none => n
  | some e =>
    match e.start with
    | none =>
      let s := max e.w n.cfe.free
      if s < n.now then n.upCfe fun c => c.put { e with start := some s } else n
    | some s =>
      if e.stage < 6 ∧ s + cfeStepAt e.stage < n.now then
        let (n, e) := n.cfeStep e
        n.upCfe fun c => c.put e
      else n

/-- The CFE's starts and steps before the present cycle. -/
def Lane.cfeSync (n : Lane) : Lane :=
  if n.cfe.exes.isEmpty then n else n.cfeTick.cfeTick.cfeTick.cfeTick.cfeTick.cfeTick.cfeTick

/-! ## Catch and chopper, as group states reach them (R213, R217) -/

/-- The integer square root of a number below 4^k, by bits from the top. -/
def isqrtUp (x : Nat) : Nat → Nat → Nat
  | 0, r => r
  | k + 1, r => isqrtUp x k (if (r + 2 ^ k) * (r + 2 ^ k) ≤ x then r + 2 ^ k else r)

/-- Catch results (CFE_Gg_CATSTAT.RESULT). -/
def rSPINNING : Nat := 1
def rSTILL : Nat := 2
def rFAILSLOW : Nat := 3
def rFAILANGLE : Nat := 4
def rFAILDIR : Nat := 5
def rABORTED : Nat := 6

/-- The mean interval between the crossings of a run, oldest first. -/
def meanInterval (ts : List Nat) : Nat := (ts.getLast?.getD 0 - ts.head?.getD 0) / (ts.length - 1)

/-- The catch of group `g` ends (R213): its result is recorded and stored; SPINNING and STILL hand `a0` to the execution
that follows, which issues RUN, and to the loop; a FAIL raises "catch". -/
def Lane.catchEnd (n : Lane) (g res : Nat) (a0 : Int) : Lane :=
  let x := n.cg g
  match x.catch_ with
  | none => n
  | some k =>
    let good := res = rSPINNING ∨ res = rSTILL
    let n := n.setCg g { x with catch_ := none, preset := if good then some a0 else x.preset }
    let n := if good then n.upCle fun c => { c with caught := if c.caught.contains g then c.caught else g :: c.caught } else n
    let n := n.setFs [(F.CFE_Gg_STAT.CATCHING g, 0), (F.CFE_Gg_CATSTAT.RESULT g, res), (F.CFE_Gg_CATSTAT.DIR g, b1 (k.fwd == some false))]
    let n := (n.wr (R.CFE_Gg_CATPER g) (BitVec.ofNat 32 (meanInterval k.ts))).wr (R.CFE_Gg_CATAMP g) (BitVec.ofInt 32 a0)
    let n := n.sqEvent (F.CFE_Gg_CATSTAT.DONE g)
    if res = rFAILSLOW ∨ res = rFAILANGLE ∨ res = rFAILDIR then n.cfeEvent F.CFE_EVT.CATCH g cCatch else n

/-- A catch whose group has left IDLE, whose time base has stopped or whose channel is no longer valid is ABORTED. -/
def Lane.catchCheck (n : Lane) (g : Nat) : Lane :=
  let ok := n.grp g == gIDLE && n.on (F.PWM_TBb_CNT.RUN g) && (match n.angleCh g with
    | some ch => n.on (F.FBI_CHn_STAT.VALID ch)
    | none => true)
  if (n.cg g).catch_.isNone || ok then n else n.catchEnd g rABORTED 0

def Lane.catchChecks (n : Lane) : Lane := (n.catchCheck 0).catchCheck 1

/-- AUX_FUNC of COMPOSITION. -/
def Lane.auxFunc (n : Lane) : Nat := n.sys.ash.modes.getD 2 0

/-- The chopper is unavailable (R217). -/
def Lane.chopOut (n : Lane) : Bool :=
  n.grp 2 != gRUN || n.f F.GDV_REQ.REQ_L7 != 0 || n.f (F.PWM_LEGn_OUT.MODE 7) != 2 || n.on F.CFE_STAT.CHFAIL

/-- The chopper's episode and CHSTATE follow the bus value and its availability (R216, R217). -/
def Lane.chopCheck (n : Lane) : Lane :=
  if n.auxFunc = 1 ∧ n.busNamed then
    let bus := n.f F.CFE_BUS.BUS
    let out := n.chopOut
    let due := decide (n.f F.CFE_CHTHR.CHON ≤ bus)
    let ep := if n.cfe.chEp then out && decide (n.f F.CFE_CHTHR.CHOFF < bus) else out && due
    let began := ep && !n.cfe.chEp
    let n := n.upCfe fun c => { c with chEp := ep }
    let n := n.setF F.CFE_STAT.CHSTATE (if ep then 2 else if n.cfe.chOn then 1 else 0)
    if began then n.cfeEvent F.CFE_EVT.CHOPPER 0 cChopper else n
  else n

/-- A group takes a state (R113): a catch of it ends when it leaves IDLE, and leg 7 decides the chopper's availability. -/
def Lane.setGrp (n : Lane) (g st : Nat) : Lane :=
  let n := n.setF (grpField g) st
  if g = 2 then n.chopCheck else n.catchCheck g

/-- CHOPPER_PERIOD_UPDATE (R216): in the cycle after an AUX period start the CFE writes the chopper's period and duty and arms
the AUX time base, unless CFE_CTRL.EN has cleared (R223). -/
def Lane.chopSync (n : Lane) : Lane :=
  match n.cfe.chDue with
  | some c =>
    if c < n.now then
      let n := n.upCfe fun s => { s with chDue := none }
      if !n.on F.CFE_CTRL.EN then n else
      let per := n.f F.CFE_CHPWM.PER
      let on := n.cfe.chOn && !n.chopOut
      let n := n.setF (F.PWM_TBb_PER.PER 2) per
      let n := n.setF (F.PWM_LEGn_CMP.CMP 7) (if on then n.f F.CFE_CHPWM.DUTY * per / 1024 else 0)
      n.setBit F.PWM_STAT.ARMED 2 true
    else n
  | none => n

/-! ## Frames sent and payloads delivered (R282, R288, R292) -/

def Lane.tport (n : Lane) (p : Nat) : TpePort := n.tpe.ports.getD p {}
def Lane.setTport (n : Lane) (p : Nat) (x : TpePort) : Lane := n.upTpe fun s => { s with ports := s.ports.set p x }

/-- The other port of the channel, and the channel. -/
def mate (p : Nat) : Nat := if p % 2 = 0 then p + 1 else p - 1
def chanOf (p : Nat) : Nat := p / 2

/-- The present instant in 0.4 ns units. -/
def Lane.units (n : Lane) : Nat := n.now * 25 / 4

/-- A forwarded copy counts when its /S/ leaves (R288, R296): hop delay and FWDS of the port it came in on. -/
def Lane.fwdCount (n : Lane) (q : Nat) : Lane :=
  let x := n.tport q
  let go := x.tx.filter fun f => f.due && decide (f.start ≤ n.units)
  if go.isEmpty then n
  else
    let n := n.setTport q { x with tx := x.tx.map fun f => if f.start ≤ n.units then { f with due := false } else f }
    let p := mate q
    forEach go (fun f n =>
      (n.setFs [(F.TPE_PORTp_HOP.LAST p, f.hop), (F.TPE_PORTp_HOP.MAX p, max f.hop (n.f (F.TPE_PORTp_HOP.MAX p)))]).stepWrap
        (F.TPE_PORTp_FWD.FWDS p)) n

def bufWord (b k j : Nat) : Nat := 0x100000 + 0x400 * b + 0x100 * k + 4 * j

/-- The payload in copy `k` of buffer `b`: LEN × 2 words. -/
def Lane.bufCopy (n : Lane) (b k : Nat) : List W32 :=
  (List.range (2 * n.f (F.TPE_BUFb_CFG.LEN b))).map fun j => n.rd (bufWord b k j)

/-- Write words into copy `k` of buffer `b` from word `j`. -/
def Lane.bufPut (n : Lane) (b k : Nat) (ws : List W32) : Lane :=
  (ws.foldl (fun (a : Lane × Nat) w => (a.1.wr (bufWord b k a.2) w, a.2 + 1)) (n, 0)).1

/-- The first of copies 0 to 2 outside a list. -/
def freeCopy (busy : List Nat) : Nat := ([0, 1, 2].find? fun k => !busy.contains k).getD 0

/-- Copies of `b` held for sending at this instant (R305). -/
def Lane.heldCopies (n : Lane) (b : Nat) : List Nat :=
  (n.tpe.hold.filter fun h => h.1 == b && decide (n.units < h.2.2)).map fun h => h.2.1

/-- The payload becomes the newest copy of buffer `b` (R307). -/
def Lane.bufTake (n : Lane) (b : Nat) (ws : List W32) : Lane :=
  let k := freeCopy [n.f (F.TPE_BUFb_STAT.NEWEST b), n.f (F.TPE_BUFb_STAT.PIN b)]
  let n := (n.bufPut b k ws).setFs [(F.TPE_BUFb_STAT.NEWEST b, k), (F.TPE_BUFb_STAT.AGE b, 0), (F.TPE_BUFb_STAT.VALID b, 1)]
  n.stepWrap (F.TPE_BUFb_CNT.FRAMES b)

/-- The latest payload delivered to buffer `b`: one on its way to buffer memory, or else the newest copy there. -/
def Lane.bufNew (n : Lane) (b : Nat) : List W32 :=
  match (n.tpe.dlv.filter fun d => d.buf == b).getLast? with
  | some d => d.ws
  | none => n.bufCopy b (n.f (F.TPE_BUFb_STAT.NEWEST b))

/-- The forwards that have started by the present cycle, and the payloads that are in buffer memory by then. -/
def Lane.tpeSync (n : Lane) : Lane :=
  let due := n.tpe.dlv.filter fun d => decide (d.due ≤ n.now)
  let n := if due.isEmpty then n else
    forEach due (fun d n => n.bufTake d.buf d.ws) (n.upTpe fun s => { s with dlv := s.dlv.filter fun d => decide (n.now < d.due) })
  if n.tpe.ports.any fun x => x.tx.any fun f => f.due then forEach [0, 1, 2, 3] (fun q n => n.fwdCount q) n else n

/-- Setpoints written before the sample instant of a due trigger are kept for it: a write of that cycle or later is left to the next
execution (R29). -/
def Lane.spSync (n : Lane) : Lane :=
  if n.cle.due.isEmpty then n
  else
    let due := n.cle.due.filter fun d => decide (d.2.1 < n.now)
    let ms := (List.range 32).filter fun m =>
      (due.any fun d => n.f (F.CLE_Ln_CFG.CHAIN m) == d.1) && !n.cle.sps.any fun p => p.1 == m
    n.upCle fun c => { c with sps := ms.foldl (fun l m => Cells.put l m (n.rd (R.CLE_Ln_SP m))) c.sps }

/-- The kept setpoints of the chains `cs` are used up. -/
def Lane.spDrop (n : Lane) (cs : List Nat) : Lane :=
  n.upCle fun c => { c with sps := c.sps.filter fun p => !cs.contains (n.f (F.CLE_Ln_CFG.CHAIN p.1)) }

/-- Everything that falls before the present cycle without a command. -/
def Lane.sync (n : Lane) : Lane := (((n.clkSync.linkSync.gateSync.tpeSync.spSync.fbiSync.adcSync).cfeSync).chopSync)

/-! ## Commands -/

/-- The lane `l` of the package. -/
def State.lane (s : State) : LaneId → Lane
  | .lane1 => s.lane1
  | .lane2 => s.lane2

/-- The package with lane `l` replaced. -/
def State.setLane (s : State) : LaneId → Lane → State
  | .lane1, n => { s with lane1 := n }
  | .lane2, n => { s with lane2 := n }

/-- The lane's clock moves on to cycle `t`; it never runs backwards (R445). What the lane does in the cycles before without
a command of its own is done first: sample instants, conversion starts, steps of a CFE execution (log entry 8). -/
def Lane.advance (n : Lane) (t : Nat) : Lane := Lane.sync { n with now := max n.now t }

/-- A command of lane `l`, registered in cycle `t`: the lane's clock moves on to `t`, `f` is its effect on that lane, and
nothing of the other lane changes (R15 to R19). -/
def onLane (l : LaneId) (t : Nat) (s : State) (f : Lane → Lane) : Host.Outcome State Fault Refusal :=
  .next (s.setLane l (f ((s.lane l).advance t)))

/-- As `onLane`, for a command that happens only while domain `d` of the lane is ON: in any other state of the domain the
block's clocks are stopped or its supply is removed (R447) and the command finds nothing to act on. -/
def onDomain (l : LaneId) (t d : Nat) (s : State) (f : Lane → Lane) : Host.Outcome State Fault Refusal :=
  onLane l t s fun n => if n.domOn d then f n else n

/-- As `onLane`, for a block of the AON domain: it runs while the lane is powered (R22, R447). -/
def onAon (l : LaneId) (t : Nat) (s : State) (f : Lane → Lane) : Host.Outcome State Fault Refusal :=
  onLane l t s fun n => if n.sys.powered then f n else n

/-- A command whose operands no sender can form stops with a fault. -/
def wellFormedOnly (ok : Bool) (o : Host.Outcome State Fault Refusal) : Host.Outcome State Fault Refusal :=
  if ok then o else .fault .illFormed

end Sys2Proof.Machine
end

