-- ==== Sys2Proof/Machine/Access.lean ====
section
/-! DEFINITION. How a register write is judged (spec/03): rejected accesses and their record (R89 to R92), enables, locks
and write-once marks (R80 to R82), tuning ranges (R56), writes that stall for their domain (R455), and the wrapper through
which every row that is a register write goes. -/

namespace Sys2Proof.Machine

/-- Rejection kinds of SYS_REGERR.KIND (R91). -/
def kWIDTH : Nat := 1
def kUNALIGNED : Nat := 2
def kENABLED : Nat := 3
def kLOCKED : Nat := 4
def kONCE : Nat := 5
def kREADONLY : Nat := 6
def kSTATE : Nat := 7
def kWINDOW : Nat := 8
def kNOANSWER : Nat := 9

/-- Record a rejected access in SYS_REGERR and SYS_REGADR (R89, R92) and raise SYS register access, or Lintel register
access for NOANSWER (R20). -/
def Lane.reject (n : Lane) (kind org off : Nat) (write : Bool) (strobe : Nat) : Lane :=
  let first := !n.on F.SYS_REGERR.FLAG
  let n := if first then
      let n := ((n.setF F.SYS_REGERR.KIND kind).setF F.SYS_REGERR.ORIGIN org).setF F.SYS_REGERR.WRITE (if write then 1 else 0)
      (n.setF F.SYS_REGADR.STROBE strobe).setF F.SYS_REGADR.OFFSET off
    else n
  let n := (n.stepSat F.SYS_REGERR.COUNT).sqEvent F.SYS_REGERR.FLAG
  if kind = kNOANSWER then n.raise 0x20 1 (off / 4) else n.raise 0x00 1 (off / 4)

/-- A word write rejected with kind STATE (R90). -/
def Lane.rejectState (n : Lane) (org off : Nat) : Lane := n.reject kSTATE org off true 15

/-- The enable of the block that owns the class C register at `off` is set (R81). The SerDes registers are under
TPE_CTRL.EN (R296), the registers of a CAN controller under its MODE (R333), the remote-access registers under
HST_CTRL.RAEN (R349). -/
def Lane.enableSet (n : Lane) (off : Nat) : Bool :=
  if off < 0x010000 then (if 0x007000 ≤ off ∧ off < 0x008000 then n.on F.LNT_CTRL.EN else false)
  else if off < 0x014000 then n.on F.PWM_CTRL.EN
  else if off < 0x018000 then n.on F.GDV_CTRL.EN
  else if off < 0x020000 then n.on F.ADC_CTRL.EN
  else if off < 0x028000 then n.on F.FBI_CTRL.EN
  else if off < 0x030000 then n.on F.CFE_CTRL.EN
  else if off < 0x040000 then n.on F.CLE_CTRL.EN
  else if off < 0x070000 then n.on F.TPE_CTRL.EN
  else if off < 0x078000 then
    if 0x076000 ≤ off then n.on F.CAN_CTRL.EN
    else if off < 0x070200 then n.f (F.CAN_Cc_MODE.MODE 0) != 0
    else if off < 0x071000 then n.f (F.CAN_Cc_MODE.MODE 1) != 0
    else if off < 0x073000 then n.f (F.CAN_Cc_MODE.MODE 0) != 0
    else n.f (F.CAN_Cc_MODE.MODE 1) != 0
  else if off < 0x080000 then n.on F.HST_CTRL.RAEN
  else if off < 0x090000 then n.on F.UPD_CTRL.EN
  else n.on F.TPE_CTRL.EN

/-- The lock of the class L register at `off` is set (R81): the key slots lock when the state leaves BLANK (R485), every
other class L register is an Ashlar mirror under SYS_ASHLOCK.LOCK (R61). -/
def Lane.lockSet (n : Lane) (off : Nat) : Bool :=
  if 0x000200 ≤ off ∧ off < 0x000280 then n.f F.SYS_LCS.STATE != 1
  else n.on F.SYS_ASHLOCK.LOCK

/-- The partition whose block holds `off` (R471), for the rejection of R477; LSC's registers stay readable. -/
def partitionOf (off : Nat) : Option Nat :=
  if off < 0x001000 then none
  else if off < 0x002000 then some 1
  else if off < 0x003000 then none
  else if off < 0x004000 then some 0
  else if off < 0x006000 then none
  else if off < 0x007000 then some 2
  else if off < 0x008000 then some 6
  else if off < 0x010000 then none
  else if off < 0x018000 then some 10
  else if off < 0x020000 then some 11
  else if off < 0x028000 then some 9
  else if off < 0x030000 then some 8
  else if off < 0x040000 then some 7
  else if off < 0x070000 then some 12
  else if off < 0x078000 then some 13
  else if off < 0x080000 then some 14
  else if off < 0x090000 then some 15
  else if off < 0x0A0000 then some 8
  else if off < 0x100000 then none
  else if off < 0x140000 then some 12
  else none

/-- The offsets an access may reach while the Ashlar load runs (R60): the SYS identity registers and the SYS Ashlar map. -/
def openWhileLoading (off : Nat) : Bool := off < 0x000018 || (0x000100 ≤ off && off < 0x000160)

/-- A register the CFE alone drives: PER and CMP of a CFE-sourced time base (R34, R124). -/
def Lane.cfeOwned (n : Lane) (off : Nat) : Bool :=
  [0, 1, 2].any fun b =>
    n.on (F.PWM_TBb_CFG.SRC b) && (off == R.PWM_TBb_PER b
      || [1, 2, 3, 4, 5, 6, 7].any fun leg =>
          off == R.PWM_LEGn_CMP leg && b == (if leg ≤ 3 then 0 else if leg ≤ 6 then 1 else 2))

/-- The position of a mask's lowest set bit. -/
def lowBit (m : Nat) : Nat := ((List.range 32).find? fun i => m.testBit i).getD 0

/-- The number of set bits of a 32-bit mask. -/
def popBits (m : Nat) : Nat := (List.range 32).countP fun i => m.testBit i

/-- The field a TUNING entry names in a written word, as a number to compare (R56). -/
def Tune.field (e : Tune) (v : W32) : Int :=
  let w := popBits e.mask.toNat
  let x := (v &&& e.mask).toNat / 2 ^ lowBit e.mask.toNat
  if e.signed then (if x < 2 ^ (w - 1) then (x : Int) else (x : Int) - 2 ^ w) else x

/-- A bound of a TUNING entry, as a number to compare (R56). -/
def Tune.bound (e : Tune) (b : W32) : Int := if e.signed then b.toInt else b.toNat

/-- The written word lies inside the range of every TUNING entry of the register (R56). -/
def Lane.inTuning (n : Lane) (off : Nat) (v : W32) : Bool :=
  n.sys.ash.tunes.all fun e =>
    e.off != off || (decide (e.bound e.min ≤ e.field v) && decide (e.field v ≤ e.bound e.max))

/-- The mask of the bits of the register at `off` that TUNING entries name. -/
def Lane.tuneMask (n : Lane) (off : Nat) : W32 :=
  n.sys.ash.tunes.foldl (fun m e => if e.off = off then m ||| e.mask else m) 0#32

/-- How a word write to the implemented register `r` at `off` is judged (R80 to R83, R90): `none` when it may take effect. DESIGN CHOICE:
a write to a locked class L register that holds a hardware limit records LOCKED (R61, R81) also where it would widen the limit, for
which R36 and R90 name STATE: no such write reaches the comparison (log entry 97). -/
def Lane.judge (n : Lane) (r : RegRow) (off : Nat) (v : W32) : Option Nat :=
  match r.cls with
  | .ro => some kREADONLY
  | .c => if n.enableSet off then some kENABLED else if n.inTuning off v then none else some kSTATE
  | .l => if n.lockSet off then some kLOCKED else none
  | .w1 => if n.sys.w1.contains off then some kONCE else none
  | .rt => if n.cfeOwned off then some kSTATE else if n.inTuning off v then none else some kSTATE
  | .sq => none
  | .wo => none

/-- The table space (R220): group and bank of a table word. -/
def tabWhere (off : Nat) : Option (Nat × Nat) :=
  if 0x090000 ≤ off ∧ off < 0x09C000 then some ((off - 0x090000) / 0x6000, (off - 0x090000) / 0x3000 % 2)
  else if 0x09C000 ≤ off ∧ off < 0x09C800 ∧ (off - 0x09C000) % 0x200 < 0x100 then some ((off - 0x09C000) / 0x400, (off - 0x09C000) / 0x200 % 2)
  else none

/-- A word of the schedule matrix, the settings areas, the tables, the Cairn window or the buffer memory stands at `off` (R93, R402). -/
def isMemory (off : Nat) : Bool :=
  (decide (0x060000 ≤ off) && decide (off < 0x070000)) || (decide (0x084000 ≤ off) && decide (off < 0x08C000)) || (tabWhere off).isSome
    || (decide (0x0A0000 ≤ off) && decide (off < 0x0C0000)) || (decide (0x0D0000 ≤ off) && decide (off < 0x0F0000))
    || (decide (0x100000 ≤ off) && decide (off < 0x140000) && decide ((off - 0x100000) % 0x400 < 0x300))

/-- Something is implemented in the word that holds `off` (R77). -/
def implemented (off : Nat) : Bool := (regRow (off / 4 * 4)).isSome || isMemory (off / 4 * 4)

/-- Something implemented at `off` lies in a partition marked unusable (R477; R77: elsewhere nothing is rejected). -/
def Lane.outOfService (n : Lane) (off : Nat) : Bool :=
  implemented off && match partitionOf off with
  | some p => n.bit F.YAR_UNUSABLE.PARTS p
  | none => false

/-- The byte lanes of an access of `size` bytes at `off`. -/
def strobe (off size : Nat) : Nat := (2 ^ size - 1) * 2 ^ (off % 4) % 16

/-- The byte lanes of an access (R92). -/
def Access.lanes (a : Access) : Nat := strobe a.off a.size

/-- An access at no multiple of its width, or of 4 for 64 bits (R75). -/
def Access.unaligned (a : Access) : Bool := a.off % min a.size 4 != 0

/-- A write of a node without a bit in HST_RAALLOW to an implemented location (R346, R77). -/
def Lane.barred (n : Lane) (a : Access) : Bool :=
  match a.node with
  | some k => a.write && implemented a.off && !n.bit F.HST_RAALLOW.NODES k
  | none => false

/-- An access reaches the lane bus while the Ashlar load runs and its offset is not open (R60). -/
def Lane.loadingRejects (n : Lane) (off : Nat) : Bool := n.f F.SYS_ASHSTAT.STATE == 1 && !openWhileLoading off && implemented off

/-- The lane can serve an access: powered, its start core sound (R472), and CORE released by the start sequence (R469). -/
def Lane.busUp (n : Lane) : Bool := n.sys.powered && !n.sys.coreFail && decide (9 ≤ n.sys.step)

/-- The debug port is live: in BLANK and RETURNED, and everywhere where restrictions are not enforced (R71, R490). -/
def Lane.debugLive (n : Lane) : Bool := n.f F.SYS_LCS.STATE == 1 || n.f F.SYS_LCS.STATE == 5 || !n.on F.SYS_LCS.ENF

/-- The access never reaches the lane bus: Lintel carries no writes (R20), the debug port is not live, or the lane has no bus. The SPI
host's accesses wait for the start sequence (R455). -/
def Lane.shut (n : Lane) (a : Access) : Bool :=
  (a.org == 3 && a.write) || (a.org == 4 && !n.debugLive) || (!n.busUp && !(a.org == 1 && n.sys.powered && !n.sys.coreFail))

/-- The block at `off` can serve an access of requester `org` now: its domain, if switched, is ON, and CORE, which holds the lane bus;
the SPI front end reaches the AON blocks without CORE (R455). -/
def Lane.reachable (n : Lane) (org off : Nat) : Bool :=
  match domainOf off with
  | none => n.sys.powered && (org == 1 || n.domOn dCORE)
  | some d => n.domOn d && n.domOn dCORE

/-- An access wakes the domains it needs (R452, R455). -/
def Lane.wakeFor (n : Lane) (off : Nat) : Lane :=
  let n := if n.domState dCORE = 0 then n else n.wakeCore F.PWR_WCAUSE.ACCESS
  match domainOf off with
  | some d => n.wake d
  | none => n

/-- An access has reached the block at `off`: it wakes the block's domain if that is not ON, and restarts its idle count (R72). -/
def Lane.wakeAt (n : Lane) (off : Nat) : Lane :=
  match domainOf off with
  | some d => n.wake d
  | none => n

/-- An access joins those that wait for their domain; an unaligned one, which has no effect, wakes none (R75). -/
def Lane.stall (n : Lane) (a : Access) : Lane :=
  let n := n.upPwr fun x => { x with stalled := x.stalled ++ [a] }
  if a.unaligned then n else n.wakeFor a.off

/-- An earlier access of the same requester still waits (R71, R455: its order is kept). -/
def Lane.mustQueue (n : Lane) (org : Nat) : Bool := (n.pwr.stalled.any fun a => a.org == org) || n.sys.win.any fun w => w.org == org

/-- Bytes waiting in the mirror queue (R405); a resync reads the slot itself. -/
def Lane.mirrorLen (n : Lane) : Nat :=
  (n.sys.tx.foldl (fun a f => match f with
    | .mirror _ _ ws false => a + 4 * ws.length
    | _ => a) 0)
    + (match n.lnt.gather with
       | some (_, _, ws) => 4 * ws.length
       | none => 0)

/-- A word written to a gateway slot would find the mirror queue of 1 KiB full (R405). -/
def Lane.mirrorFull (n : Lane) (off : Nat) : Bool := decide (0x0A0000 ≤ off) && decide (off < 0x0C0000) && decide (1024 < n.mirrorLen + 4)

/-- A write of policy firmware to a gateway slot waits for room in the mirror queue (R405). -/
def Lane.mirrorWaits (n : Lane) (a : Access) : Bool := a.org == 0 && a.write && a.size == 4 && n.mirrorFull a.off

/-- An access on its way to the block at `off`: it waits behind earlier ones of its requester, for its domain and for the mirror queue, is rejected while the
Ashlar load runs, where its partition is out of service and where its node may not write (R60, R477, R346), and otherwise `go` serves it. The answer, once there is
one, is the data read and whether it is an error response. An access during an entry's first cycles abandons the entry and
proceeds (R453). -/
def Lane.gate (n : Lane) (a : Access) (go : Lane → Lane × Option (W32 × Bool)) : Lane × Option (W32 × Bool) :=
  if n.shut a then (n, some (0#32, false))
  else if n.busUp = false then (n, none)
  else if n.mustQueue a.org then (n, none)
  else if n.loadingRejects a.off || n.barred a then (n.reject kSTATE a.org a.off a.write a.lanes, some (0#32, false))
  else
    let n := n.wakeAt a.off
    if n.outOfService a.off then (n.reject kSTATE a.org a.off a.write a.lanes, some (0#32, false))
    else if n.reachable a.org a.off = false then (n.wakeFor a.off, none)
    else if n.mirrorWaits a then (n, none)
    else go n

/-- An access that cannot be served yet waits in the lane. -/
def Lane.orStall (n : Lane) (a : Access) (r : Lane × Option (W32 × Bool)) : Lane × Option (W32 × Bool) :=
  match r with
  | (m, none) => (if n.busUp then m.stall a else n.upPwr fun x => { x with stalled := x.stalled ++ [a] }, none)
  | r => r

/-- A word write that has reached the register at `off` is judged, and has its effect `eff` or is rejected; domains that became held
are woken (R449, R450). -/
def Lane.judged (n : Lane) (org off : Nat) (v : W32) (eff : Lane → Lane) : Lane :=
  match regRow off with
  | none => n
  | some r =>
    match n.judge r off v with
    | some k => n.reject k org off true 15
    | none => (eff n).checkHolds

/-- A 32-bit write of `v` to the register at `off` by requester `org`, whose effect when accepted is `eff`. -/
def Lane.regWrite (n : Lane) (org off : Nat) (v : W32) (eff : Lane → Lane) : Lane :=
  let a : Access := { org := org, off := off, write := true, val := v }
  (n.orStall a (n.gate a fun n => (n.judged org off v eff, some (0#32, false)))).1

/-- The plain effect of an accepted write: the writable bits take the written value, reserved bits stay (R77). -/
def Lane.store (n : Lane) (off : Nat) (v : W32) : Lane :=
  match regRow off with
  | some r =>
    let m := BitVec.ofNat 32 r.wmask
    let n := if r.cls = .w1 then (n.upSys fun x_ => { x_ with w1 := off :: n.sys.w1 }) else n
    n.wr off ((n.rd off &&& ~~~m) ||| (v &&& m))
  | none => n

end Sys2Proof.Machine
end

