-- ==== Sys2Proof/Machine/Pwm.lean ====
section
/-! DEFINITION. The PWM generator (spec/04): group states, references, the dead-time stage, overrides, trips and the rows
of the PWM block that fire no PWM event. Rows that fire events (PWM_START, PWM_EVENT) are in Chain.lean. -/

namespace Sys2Proof.Machine

/-! ## Groups, legs and their registers -/

/-- The legs of a group (R97). -/
def groupLegs (g : Nat) : List Nat := if g = 0 then [1, 2, 3] else if g = 1 then [4, 5, 6] else [7]

/-- The request field of group `g` in GDV_REQ (R144). -/
def reqField (g : Nat) : FRef := if g = 0 then F.GDV_REQ.REQ_M0 else if g = 1 then F.GDV_REQ.REQ_M1 else F.GDV_REQ.REQ_L7

/-- The dead-time stage of a leg. -/
def Lane.leg (n : Lane) (leg : Nat) : LegStage := n.pwm.legs.getD (leg - 1) {}
def Lane.setLeg (n : Lane) (leg : Nat) (x : LegStage) : Lane :=
  (n.upPwm fun x_ => { x_ with legs := n.pwm.legs.set (leg - 1) x })

/-- The hidden counts of a time base. -/
def Lane.tb (n : Lane) (b : Nat) : TbStage := n.pwm.tbs.getD b {}
def Lane.setTb (n : Lane) (b : Nat) (x : TbStage) : Lane := (n.upPwm fun x_ => { x_ with tbs := n.pwm.tbs.set b x })

/-- Time base `b` is running. -/
def Lane.tbRun (n : Lane) (b : Nat) : Bool := n.on (F.PWM_TBb_CNT.RUN b)

/-- Counting modes (R98). -/
def mUP : Nat := 0
def mUPDOWN : Nat := 1
def mDOWN : Nat := 2

/-- The active period in ticks: PER with the synchronisation trim of the running period (R124, R327). -/
def Lane.perAct (n : Lane) (b : Nat) : Nat := ((n.f (F.PWM_TBb_PERACT.PER b) : Int) + n.sf (F.PWM_TBb_PERACT.TRIM b)).toNat

/-- LOADMODE as it acts: 0 on a CFE-sourced time base, whatever an image wrote (R110). -/
def Lane.loadCont (n : Lane) (b : Nat) : Bool := n.on (F.PWM_TBb_LDCFG.LOADMODE b) && !n.on (F.PWM_TBb_CFG.SRC b)

/-- What TRIM becomes at a period start of time base `b` (R327). -/
def Lane.nextTrim (n : Lane) (b : Nat) : Int :=
  let f : Int := if n.f (F.PWM_TBb_CFG.MODE b) = mUPDOWN then 2 else 1
  let lim : Int := n.f (F.PWM_TBb_PERACT.PER b) / 50
  let want := if n.bit F.TPE_EXTCFG.PWMFOL b then Int.tdiv (n.tb b).follow f else 0
  clampInt (-lim) lim want

/-- The period in force once a period start of time base `b` has reloaded (R98, R110): the shadow if PER transfers there. -/
def Lane.perNext (n : Lane) (b : Nat) : Nat :=
  let go := n.loadCont b || n.bit F.PWM_STAT.ARMED b
  ((n.f (if go then F.PWM_TBb_PER.PER b else F.PWM_TBb_PERACT.PER b) : Int) + n.nextTrim b).toNat

/-! ## The counter (R98) -/

/-- The value and direction `k` steps after value `cnt` and direction `down`, in periods of `per`; a DOWN counter goes on from 0 with
`next` − 1. -/
def countStep (mode per next cnt : Nat) (down : Bool) (k : Nat) : Nat × Bool :=
  if mode = mUPDOWN then
    let ph := ((if down then 2 * per - cnt else cnt) + k) % (2 * per)
    if ph < per then (ph, false) else (2 * per - ph, true)
  else if mode = mDOWN then
    if k ≤ cnt then (cnt - k, true) else (next - 1 - (k - cnt - 1) % next, true)
  else ((cnt + k) % per, false)

/-- D, the LCLK cycles a time base holds each value. -/
def Lane.tbDiv (n : Lane) (b : Nat) : Nat := 2 ^ n.f (F.PWM_TBb_CFG.DIV b)

/-- The counter's value and direction in this cycle: a running one has stepped once every D cycles since it took the value of
PWM_TBb_CNT; a stopped one holds it. -/
def Lane.tbNow (n : Lane) (b : Nat) : Nat × Bool :=
  let cnt := n.f (F.PWM_TBb_CNT.CNT b)
  let down := n.on (F.PWM_TBb_CNT.DIR b)
  if n.tbRun b then
    countStep (n.f (F.PWM_TBb_CFG.MODE b)) (n.perAct b) (n.perNext b) cnt down ((n.now - (n.tb b).cntT) / n.tbDiv b)
  else (cnt, down)

/-- The counter of running time base `b` takes a new value in this cycle. -/
def Lane.tbSteps (n : Lane) (b : Nat) : Bool :=
  n.tbRun b && decide ((n.tb b).cntT < n.now) && (n.now - (n.tb b).cntT) % n.tbDiv b == 0

/-- The counter stands at `cnt`, in UPDOWN in the down half when `down`; at 0 and PER the half is the counter's own. -/
def Lane.tbAt (n : Lane) (b cnt : Nat) (down : Bool) : Bool :=
  let p := n.tbNow b
  p.1 == cnt && (n.f (F.PWM_TBb_CFG.MODE b) != mUPDOWN || p.2 == down || cnt == 0 || cnt == n.perAct b)

/-- The reference signal of a leg from its counter and active compare value (R102). -/
def refOf (mode cnt : Nat) (down : Bool) (cmp : Nat) : Bool :=
  if mode = mUPDOWN ∧ down then decide (cmp < cnt) else decide (cmp ≤ cnt)

def Lane.legRef (n : Lane) (leg : Nat) : Bool :=
  let b := legGroup leg
  refOf (n.f (F.PWM_TBb_CFG.MODE b)) (n.tbNow b).1 (n.tbNow b).2 (n.f (F.PWM_LEGn_ACT.CMP leg))

/-! ## Commands of the dead-time stage -/

/-- Command one switch of a leg on or off; a change is timestamped with its cycle and leaves in its edge frame (R103). -/
def Lane.cmdSwitch (n : Lane) (leg : Nat) (high on : Bool) : Lane :=
  let fld := if high then F.PWM_LEGn_ACT.H leg else F.PWM_LEGn_ACT.L leg
  if n.on fld = on then n
  else
    let n := n.setF fld (if on then 1 else 0)
    (n.upGdv fun x_ => { x_ with edges := n.gdv.edges ++ [{ sw := swIx leg high, on := on, ts := n.now }] })

/-- The turn-on pending for a switch of a leg. -/
def LegStage.pend (x : LegStage) (high : Bool) : Option Nat := if high then x.pendH else x.pendL
def LegStage.setPend (x : LegStage) (high : Bool) (p : Option Nat) : LegStage :=
  if high then { x with pendH := p } else { x with pendL := p }

/-- Command a switch off and cancel its pending turn-on (R104, R121). -/
def Lane.switchOff (n : Lane) (leg : Nat) (high : Bool) : Lane :=
  (n.setLeg leg ((n.leg leg).setPend high none)).cmdSwitch leg high false

/-- Ask for a switch to be on: it stays on if it is, and otherwise its turn-on falls due `delay` cycles later (R103). -/
def Lane.switchOn (n : Lane) (leg : Nat) (high : Bool) (delay : Nat) : Lane :=
  if n.on (if high then F.PWM_LEGn_ACT.H leg else F.PWM_LEGn_ACT.L leg) then n
  else match (n.leg leg).pend high with
    | some _ => n
    | none => n.setLeg leg ((n.leg leg).setPend high (some (n.now + delay)))

/-- The leg's output mode lets REF reach the switch (R105): 0 COMP, 1 HIGH_ONLY, 2 LOW_ONLY, 3 OFF. -/
def modeAllows (mode : Nat) (high : Bool) : Bool := if high then mode == 0 || mode == 1 else mode == 0 || mode == 2

/-- REF drives the leg (R103, R105): the switch it holds off is commanded off at once, the other waits for its dead time. -/
def Lane.driveRef (n : Lane) (leg : Nat) : Lane :=
  let r := n.on (F.PWM_LEGn_ACT.REF leg)
  let mode := n.f (F.PWM_LEGn_OUT.MODE leg)
  let x := n.leg leg
  let one := fun (high want : Bool) (d : Nat) (n : Lane) =>
    if want && modeAllows mode high then n.switchOn leg high d else n.switchOff leg high
  -- the turn-off first, so that the complement's dead time is counted from it
  if r then one true true x.rise (one false false x.fall n)
  else one false true x.fall (one true false x.rise n)

/-- The safe dead time D of a leg (R356): the larger of 40 and its active dead times. -/
def Lane.safeD (n : Lane) (leg : Nat) : Nat := max 40 (max (n.leg leg).rise (n.leg leg).fall)

/-- A safe pattern holds a switch on. -/
def Pattern.wants (p : Pattern) (high : Bool) : Bool :=
  match p with
  | .ascLow => !high
  | .ascHigh => high
  | .allOff => false

/-- A safe pattern reaches the dead-time stage of a leg (R356). -/
def Lane.driveSafe (n : Lane) (leg : Nat) (p : Pattern) : Lane :=
  let d := n.safeD leg
  let one := fun (high : Bool) (n : Lane) => if p.wants high then n.switchOn leg high d else n.switchOff leg high
  one true (one false n)

/-- Both switches of a leg are held off. -/
def Lane.driveOff (n : Lane) (leg : Nat) : Lane := (n.switchOff leg true).switchOff leg false

/-- The leg takes what now governs it at the dead-time stage. A pending turn-on of the pattern or reference that governed
before is given up first: its dead time counts anew (R115). -/
def Lane.govern (n : Lane) (leg : Nat) (g : Gov) : Lane :=
  if (n.leg leg).gov = g then n
  else
    let x := n.leg leg
    let n := n.setLeg leg { x with gov := g, pendH := none, pendL := none }
    match g with
    | .off => n.driveOff leg
    | .ref => n.driveRef leg
    | .safe p => n.driveSafe leg p

/-- The safe pattern of a group: its request and its COMPOSITION mode (R355). -/
def Lane.pattern (n : Lane) (g : Nat) : Pattern :=
  let mode := if g = 2 then 2 else n.sys.ash.modes.getD g 0
  if mode ≠ 1 then .allOff
  else match n.f (reqField g) with
    | 1 => .ascHigh
    | 3 => .allOff
    | _ => .ascLow

/-- What governs a leg from the registered states, in the order of R115: the safe pattern, a trip hold, a state or stopped
time base that holds the switches off, REF. -/
def Lane.govNow (n : Lane) (leg : Nat) : Gov :=
  let g := legGroup leg
  let st := n.grp g
  if st = gSAFE then .safe (n.pattern g)
  else if st = gTRIPPED then .off
  else if n.bit F.PWM_GRPSTAT.CYC g then .off
  else if st ≠ gRUN then .off
  else if n.tbRun g then .ref else .off

/-- An override of group `g` is registered: what then governs reaches the dead-time stage of each leg 4 LCLK later (R115). -/
def Lane.schedOvr (n : Lane) (g : Nat) : Lane :=
  forEach (groupLegs g) (fun leg n =>
    let x := n.leg leg
    n.setLeg leg { x with ovrDue := x.ovrDue ++ [(n.now + 4, n.govNow leg)] }) n

/-- Move a group to a state and register the override that follows. -/
def Lane.moveGrp (n : Lane) (g st : Nat) : Lane := if n.grp g = st then n else (n.setGrp g st).schedOvr g

/-- Recompute REF of a leg in this cycle (R102) and drive the leg when REF governs it. -/
def Lane.updateRef (n : Lane) (leg : Nat) : Lane :=
  let r := n.legRef leg
  if n.on (F.PWM_LEGn_ACT.REF leg) = r then n
  else
    let n := n.setF (F.PWM_LEGn_ACT.REF leg) (if r then 1 else 0)
    if (n.leg leg).gov = .ref then n.driveRef leg else n

/-- A count lies in the counter's sequence for its mode (R98). -/
def inSeq (mode per cnt : Nat) : Bool := if mode = mUPDOWN then decide (cnt ≤ per) else decide (cnt < per)

/-- The direction the counter has at a value (R98). -/
def cntDir (mode per cnt : Nat) (down : Bool) : Bool :=
  if mode = mDOWN then true else if mode = mUPDOWN then (if cnt = 0 then false else if cnt = per then true else down) else false

/-! ## COMPARE_MATCH, TURN_ON_DUE, OVERRIDE_APPLY -/

/-- COMPARE_MATCH (R102, R103): the counter of the leg's running time base stands at `cnt`, counting down when `down`; when
REF changes with it, the dead-time stage commands the switch turning off and its complement waits for its dead time. -/
def compareMatch (leg cnt : Nat) (down : Bool) (n : Lane) : Lane :=
  if n.tbRun (legGroup leg) && n.tbAt (legGroup leg) cnt down then n.updateRef leg else n

def execCompareMatch (l : LaneId) (t : Nat) (leg : Fin 7) (cnt : BitVec 16) (down : Bool) (s : State) :
    Host.Outcome State Fault Refusal :=
  onDomain l t dACT s (compareMatch (leg.val + 1) cnt.toNat down)

/-! ## Off-state checks, as far as the PWM side ends them (R150) -/

/-- The group of a check's target. -/
def Check.group (c : Check) : Nat := legGroup (if c.kind = 1 then c.target else c.target / 2 + 1)

/-- The check in progress is abandoned with result ABORTED (R150). -/
def Lane.checkAbort (n : Lane) : Lane :=
  match n.gdv.check with
  | none => n
  | some c =>
    let n := (n.upGdv fun x_ => { x_ with check := none })
    let n := n.setF F.GDV_STAT.BUSY 0
    let n := ((n.setF F.GDV_CHKSTAT.RESULT 6).setF F.GDV_CHKSTAT.KIND c.kind).setF F.GDV_CHKSTAT.TARGET c.target
    n.sqEvent F.GDV_CHKSTAT.DONE

/-- A check of a leg or switch is abandoned when the safe pattern commands one of its switches on (R150). -/
def Lane.checkAbortSafe (n : Lane) (leg : Nat) (p : Pattern) : Lane :=
  match n.gdv.check with
  | none => n
  | some c =>
    let hit := if c.kind = 1 then c.target == leg && (p.wants true || p.wants false)
      else (c.target == swIx leg true && p.wants true) || (c.target == swIx leg false && p.wants false)
    if hit then n.checkAbort else n

/-- TURN_ON_DUE (R103, R104): a pending turn-on whose dead time has run is issued, unless an override reaches the leg in the same
cycle (R121); one of the safe pattern ends a check of the switch (R150). -/
def turnOnDue (leg : Nat) (high : Bool) (n : Lane) : Lane :=
  match (n.leg leg).pend high with
  | some due =>
    if due ≤ n.now && !(n.leg leg).ovrDue.any (fun d => decide (d.1 ≤ n.now)) then
      let n := match (n.leg leg).gov with
        | .safe p => n.checkAbortSafe leg p
        | _ => n
      (n.setLeg leg ((n.leg leg).setPend high none)).cmdSwitch leg high true
    else n
  | none => n

def execTurnOnDue (l : LaneId) (t : Nat) (leg : Fin 7) (high : Bool) (s : State) : Host.Outcome State Fault Refusal :=
  onDomain l t dACT s (turnOnDue (leg.val + 1) high)

/-- OVERRIDE_APPLY (R115): the overrides registered 4 LCLK ago reach the leg's dead-time stage, each as it was registered. -/
def overrideApply (leg : Nat) (n : Lane) : Lane :=
  let x := n.leg leg
  let here := x.ovrDue.filter fun d => decide (d.1 ≤ n.now)
  let n := if here.isEmpty then n else n.setLeg leg { x with ovrDue := x.ovrDue.filter fun d => decide (n.now < d.1) }
  forEach here (fun d n =>
    let n := match d.2 with
      | .safe p => n.checkAbortSafe leg p
      | _ => n
    n.govern leg d.2) n

def execOverrideApply (l : LaneId) (t : Nat) (leg : Fin 7) (s : State) : Host.Outcome State Fault Refusal :=
  onDomain l t dACT s (overrideApply (leg.val + 1))

/-! ## Group commands (R114) -/

/-- The command a PWM_GRPCMD word gives group `g`. -/
def grpCmdOf (v : W32) (g : Nat) : Nat :=
  if g = 0 then F.PWM_GRPCMD.CMD_M0.val v else if g = 1 then F.PWM_GRPCMD.CMD_M1.val v else F.PWM_GRPCMD.CMD_L7.val v

/-- One group's command is rejected (R114); RUN of M0 or M1 also while its torque permit is withheld (R383) or a catch of it
is in progress (R212). -/
def Lane.grpCmdBad (n : Lane) (g cmd : Nat) : Bool :=
  let st := n.grp g
  if cmd = 1 then (decide (g < 2) && (!n.bit F.SAF_STAT.PERMIT g || n.on (F.CFE_Gg_STAT.CATCHING g))) || st == gUNARMED || st == gTRIPPED || st == gSAFE || (st == gIDLE && !n.tbRun g)
  else if cmd = 2 then st == gUNARMED || st == gTRIPPED || st == gSAFE
  else false

/-- One group's accepted command: RUN from IDLE to PENDING (a check of the group is abandoned, R150), IDLE from PENDING or
RUN to IDLE. -/
def Lane.grpCmd (n : Lane) (g cmd : Nat) : Lane :=
  let st := n.grp g
  if cmd = 1 ∧ st = gIDLE then
    let n := n.setGrp g gPENDING
    match n.gdv.check with
    | some c => if c.group = g then n.checkAbort else n
    | none => n
  else if cmd = 2 ∧ (st = gPENDING ∨ st = gRUN) then
    (n.setBit F.PWM_GRPSTAT.CYC g false).moveGrp g gIDLE
  else n

/-- A write of PWM_GRPCMD: each group is judged on its own; one STATE record covers the write. -/
def grpCmdWrite (org : Nat) (v : W32) (n : Lane) : Lane :=
  let bad := [0, 1, 2].any fun g => n.grpCmdBad g (grpCmdOf v g)
  let n' := forEach [0, 1, 2] (fun g m => if n.grpCmdBad g (grpCmdOf v g) then m else m.grpCmd g (grpCmdOf v g)) n
  if bad then n'.rejectState org R.PWM_GRPCMD else n'

/-- GROUP_RUN: a write of PWM_GRPCMD that carries RUN. -/
def execGroupRun (l : LaneId) (t : Nat) (org : Origin) (v : W32) (s : State) : Host.Outcome State Fault Refusal :=
  onLane l t s fun n => n.regWrite org.code R.PWM_GRPCMD v (grpCmdWrite org.code v)

/-- GROUP_IDLE: a write of PWM_GRPCMD that carries IDLE. -/
def execGroupIdle (l : LaneId) (t : Nat) (org : Origin) (v : W32) (s : State) : Host.Outcome State Fault Refusal :=
  onLane l t s fun n => n.regWrite org.code R.PWM_GRPCMD v (grpCmdWrite org.code v)

/-! ## Stop, arming, enable -/

/-- A stop of time base `b` is rejected while the group on it is PENDING or RUN (R101). -/
def Lane.stopBad (n : Lane) (b : Nat) : Bool := n.grp b == gPENDING || n.grp b == gRUN

/-- The stops of a write of PWM_START (R101): a running time base stops where it stands and its legs are held off. The legs of a
SAFE group keep their pattern. -/
def pwmStop (v : W32) (n : Lane) : Lane :=
  forEach [0, 1, 2] (fun b m =>
    if (F.PWM_START.STOP.val v).testBit b && !n.stopBad b && m.tbRun b then
      let p := m.tbNow b
      ((m.setFs [(F.PWM_TBb_CNT.CNT b, p.1), (F.PWM_TBb_CNT.DIR b, b1 p.2), (F.PWM_TBb_CNT.RUN b, 0)]).schedOvr b).catchCheck b else m) n

/-- PWM_LOADALL.ARM (R110): arming by any source other than the CFE of a CFE-sourced time base is rejected. DESIGN CHOICE: where the bit
of one time base is rejected, the other bits arm theirs and one STATE record covers the write (log entry 99). -/
def loadAllArm (org : Nat) (v : W32) (n : Lane) : Lane :=
  let asked := fun b => (F.PWM_LOADALL.ARM.val v).testBit b
  let bad := fun b => asked b && n.on (F.PWM_TBb_CFG.SRC b)
  let n' := forEach [0, 1, 2] (fun b m => if asked b && !bad b then m.setBit F.PWM_STAT.ARMED b true else m) n
  if [0, 1, 2].any bad then n'.rejectState org R.PWM_LOADALL else n'

def execLoadAllArm (l : LaneId) (t : Nat) (org : Origin) (v : W32) (s : State) : Host.Outcome State Fault Refusal :=
  onLane l t s fun n => n.regWrite org.code R.PWM_LOADALL v (loadAllArm org.code v)

/-- PWM_CTRL.EN (R123): set only with the structure locked, cleared only while no time base runs. -/
def pwmEnable (org : Nat) (v : W32) (n : Lane) : Lane :=
  let en := F.PWM_CTRL.EN.val v == 1
  if en && !n.on F.SYS_ASHLOCK.LOCK then n.rejectState org R.PWM_CTRL
  else if !en && n.on F.PWM_CTRL.EN && [0, 1, 2].any n.tbRun then n.rejectState org R.PWM_CTRL
  else n.store R.PWM_CTRL v

def execPwmBlockEnable (l : LaneId) (t : Nat) (org : Origin) (v : W32) (s : State) : Host.Outcome State Fault Refusal :=
  onLane l t s fun n => n.regWrite org.code R.PWM_CTRL v (pwmEnable org.code v)

/-! ## Trips (R116 to R122) -/

/-- A pin carries trip `t` (R499: FUNC t + 1). -/
def Lane.tripPinned (n : Lane) (t : Nat) : Bool := (List.range 8).any fun i => n.f (F.SYS_PINFn.FUNC i) == t + 1

/-- Trip `t` is heard: it has a pin and its EN is set (R116). -/
def Lane.tripLive (n : Lane) (t : Nat) : Bool := n.tripPinned t && n.on (F.PWM_TRIPt_CFG.EN t)

/-- The groups trip `t` is routed to. -/
def Lane.tripRoutes (n : Lane) (t g : Nat) : Bool := n.bit (F.PWM_TRIPt_ROUTE.GROUPS t) g

/-- Record an event of trip `t` in PWM_TRIPSTAT (R122) and raise the PWM source. -/
def Lane.tripEvent (n : Lane) (t : Nat) : Lane :=
  let n := n.setFirst F.PWM_TRIPSTAT.FIRST (t + 1)
  let n := (n.setBit F.PWM_TRIPSTAT.EVT t true).seqStep R.PWM_TRIPSTAT
  n.raise (0x40 + t) 1 t

/-- The latch of a LATCH-mode trip sets: its groups in IDLE, PENDING or RUN enter TRIPPED (R118). -/
def Lane.tripLatch (n : Lane) (t : Nat) : Lane :=
  let n := n.setBit F.PWM_TRIPIN.LATCH t true
  let n := forEach [0, 1, 2] (fun g n =>
    if n.tripRoutes t g && (n.grp g == gIDLE || n.grp g == gPENDING || n.grp g == gRUN) then
      (n.setBit F.PWM_GRPSTAT.CYC g false).moveGrp g gTRIPPED else n) n
  n.tripEvent t

/-- A CYCLE-mode trip holds its groups in RUN (R119) and records one event between clears (R122). -/
def Lane.tripCycle (n : Lane) (t : Nat) : Lane :=
  let n := forEach [0, 1, 2] (fun g n =>
    if n.tripRoutes t g && n.grp g == gRUN then (n.setBit F.PWM_GRPSTAT.CYC g true).schedOvr g else n) n
  if n.bit F.PWM_TRIPSTAT.EVT t then n else n.tripEvent t

/-- The filter of trip `t` may change its output: F samples at the new level have followed its last change (R116). -/
def Lane.tripSettled (n : Lane) (t : Nat) : Bool :=
  decide (n.pwm.tripT.getD t 0 + n.f (F.PWM_TRIPt_CFG.FILT t) ≤ n.now)

/-- The filter output of trip `t` changes to `on`, and with it the level behind the synchroniser and the polarity select. -/
def Lane.tripFilt (n : Lane) (t : Nat) (on : Bool) : Lane :=
  ((n.setBit F.PWM_TRIPIN.RAW t on).setBit F.PWM_TRIPIN.FILT t on).upPwm fun p => { p with tripT := p.tripT.set t n.now }

/-- TRIP_ASSERT (R116, R118, R119): the filter output of trip `t` asserts. A trip whose EN is clear shows its synchronised level and
nothing more. -/
def tripAssert (t : Nat) (n : Lane) : Lane :=
  if n.tripPinned t && !n.on (F.PWM_TRIPt_CFG.EN t) then n.setBit F.PWM_TRIPIN.RAW t true
  else if n.tripLive t && ((!n.bit F.PWM_TRIPIN.FILT t && (n.tripSettled t || n.injArmed (0x40 + t) t)) || n.foundAgain (0x40 + t) t) then
    let n := n.tripFilt t true
    let n := n.stepSat (F.PWM_TRIPt_CNT.COUNT t)
    if n.on (F.PWM_TRIPt_CFG.MODE t) then n.tripCycle t
    else if n.bit F.PWM_TRIPIN.LATCH t then n else n.tripLatch t
  else n

def execTripAssert (l : LaneId) (t : Nat) (trip : Fin 4) (s : State) : Host.Outcome State Fault Refusal :=
  onDomain l t dACT s (tripAssert trip.val)

/-- TRIP_DEASSERT (R119): the filter output deasserts; a CYCLE hold then ends at the next reload. -/
def tripDeassert (t : Nat) (n : Lane) : Lane :=
  if !n.bit F.PWM_TRIPIN.FILT t then n.setBit F.PWM_TRIPIN.RAW t false
  else if n.tripSettled t then n.tripFilt t false else n

def execTripDeassert (l : LaneId) (t : Nat) (trip : Fin 4) (s : State) : Host.Outcome State Fault Refusal :=
  onDomain l t dACT s (tripDeassert trip.val)

/-- A group that is TRIPPED with no latch routed to it set becomes IDLE (R120). -/
def Lane.untrip (n : Lane) (g : Nat) : Lane :=
  if n.grp g = gTRIPPED ∧ ([0, 1, 2, 3].all fun t => !(n.tripRoutes t g && n.bit F.PWM_TRIPIN.LATCH t)) then n.moveGrp g gIDLE
  else n

/-- A write of PWM_TRIPCLR.REL (R120): a latch whose filter output was deasserted clears; the others are rejected. -/
def tripRelease (org : Nat) (v : W32) (n : Lane) : Lane :=
  let asked := fun t => (F.PWM_TRIPCLR.REL.val v).testBit t
  let bad := fun t => asked t && n.bit F.PWM_TRIPIN.FILT t
  let n' := forEach [0, 1, 2, 3] (fun t m => if asked t && !bad t then m.setBit F.PWM_TRIPIN.LATCH t false else m) n
  let n' := forEach [0, 1, 2] (fun g m => m.untrip g) n'
  if [0, 1, 2, 3].any bad then n'.rejectState org R.PWM_TRIPCLR else n'

def execTripRelease (l : LaneId) (t : Nat) (org : Origin) (v : W32) (s : State) : Host.Outcome State Fault Refusal :=
  onLane l t s fun n => n.regWrite org.code R.PWM_TRIPCLR v (tripRelease org.code v)

/-! ## Writes of the block's other registers -/

/-- The effect of an accepted write to a PWM register without a row of its own (R99, R107, R108, R109, R110, R124); a value
the chapter refuses is rejected with kind STATE. -/
def pwmStore (org off : Nat) (v : W32) (n : Lane) : Lane :=
  let bad := [0, 1, 2].any fun b =>
    let mode := n.f (F.PWM_TBb_CFG.MODE b)
    (off == R.PWM_TBb_PER b && decide ((F.PWM_TBb_PER.PER b).val v < 400))
      || (off == R.PWM_TBb_LDCFG b &&
          ((F.PWM_TBb_LDCFG.LOADPT b).val v == 3
            || ((F.PWM_TBb_LDCFG.LOADPT b).val v != 0 && mode != mUPDOWN)
            || ((F.PWM_TBb_LDCFG.LOADMODE b).val v == 1 && n.on (F.PWM_TBb_CFG.SRC b))))
      || ([0, 1, 2].any fun p => off == R.PWM_TBb_PSp b p &&
          (decide (4 < (F.PWM_TBb_PSp.BASE b p).val v) || decide ((F.PWM_TBb_PSp.RATIO b p).val v < (F.PWM_TBb_PSp.PHASE b p).val v)))
  let badTrip := [0, 1, 2, 3].any fun t => off == R.PWM_TRIPt_CFG t && decide ((F.PWM_TRIPt_CFG.FILT t).val v < 2)
  let badChop := off == R.PWM_LEGn_OUT 7 && n.auxFunc == 1 && decide ((F.PWM_LEGn_OUT.MODE 7).val v < 2)
  if bad || badTrip || badChop then n.rejectState org off
  else if off = R.PWM_LEGn_OUT 7 then (n.store off v).chopCheck else n.store off v

/-- PWM_LEGn_ACT.OVR: something other than REF governs a switch of the leg (R115). -/
def Lane.legOvr (n : Lane) (leg : Nat) : Bool :=
  (match (n.leg leg).gov with
    | .ref => false
    | _ => true) || n.f (F.PWM_LEGn_OUT.MODE leg) != 0

/-- What a read of a PWM register returns: PWM_STAT repeats the running and direction bits of the counters, and OVR of
PWM_LEGn_ACT is formed from what governs the leg; a counter shows its value of this cycle, and LOADMODE of a CFE-sourced time base 0.
DESIGN CHOICE: OVR follows R115 from reset on, when every group is UNARMED, so PWM_LEGn_ACT reads 0x0008_FFFF there, where the table of
R124 gives 0x0000_FFFF (log entry 99). -/
def pwmView (off : Nat) (n : Lane) : W32 :=
  if off = R.PWM_STAT then
    let put := fun (v : W32) (b : Nat) =>
      let v := setBits v (8 + b) (8 + b) (b1 (n.tbNow b).2)
      setBits v b b (n.f (F.PWM_TBb_CNT.RUN b))
    [0, 1, 2].foldl put (n.rd off)
  else match [0, 1, 2].find? fun b => off == R.PWM_TBb_CNT b || off == R.PWM_TBb_LDCFG b with
  | some b =>
    if off = R.PWM_TBb_LDCFG b then
      let r := F.PWM_TBb_LDCFG.LOADMODE b
      setBits (n.rd off) r.hi r.lo (b1 (n.loadCont b))
    else
      let c := F.PWM_TBb_CNT.CNT b
      let d := F.PWM_TBb_CNT.DIR b
      setBits (setBits (n.rd off) c.hi c.lo (n.tbNow b).1) d.hi d.lo (b1 (n.tbNow b).2)
  | none => match [1, 2, 3, 4, 5, 6, 7].find? fun leg => off == R.PWM_LEGn_ACT leg with
    | some leg => setBits (n.rd off) 19 19 (if n.legOvr leg then 1 else 0)
    | none => n.rd off

end Sys2Proof.Machine
end

