-- ==== Sys2Proof/Machine/Adc.lean ====
section
/-! DEFINITION. The measurement front end (spec/07): sequences and their triggers, results, over-current comparators,
monitors and the enable. What a result feeds in the CFE and the CLE is in Chain.lean. -/

namespace Sys2Proof.Machine

/-- Place a conversion in a queue: earlier trigger first, then lower sequence, then entry order (R191). -/
def Converter.insert (c : Conv) : List Conv → List Conv
  | [] => [c]
  | h :: t => if h.trig < c.trig ∨ (h.trig = c.trig ∧ h.q ≤ c.q) then h :: Converter.insert c t else c :: h :: t

/-- Queue every entry of sequence `q`, triggered in the present cycle (R189, R190). -/
def Lane.seqStart (n : Lane) (q : Nat) : Lane :=
  let cnt := n.f (F.ADC_SQq_CFG.COUNT q)
  let n := n.setF (F.ADC_SQq_STAT.BUSY q) 1
  let n := n.upAdc fun g => { g with left := Cells.put g.left q cnt, trig := Cells.put g.trig q n.now }
  forEach (List.range cnt) (fun e n =>
    let k := n.f (F.ADC_SQq_ENTe.CONV q e)
    n.upAdc fun g =>
      let x := g.cv.getD k {}
      { g with cv := g.cv.set k { x with queue := Converter.insert { q := q, e := e, trig := n.now } x.queue } }) n

/-- SEQUENCE_TRIGGER (R189, R192, R193): the sources `srcs` are registered in the present cycle; the sample instant is the
next. Sequences run only once the converters are ready (R198). -/
def Lane.seqTrigger (n : Lane) (srcs : List Nat) : Lane :=
  if n.on F.ADC_CTRL.EN && n.on F.ADC_STAT.READY then
    let qs := seqs.filter fun q =>
      n.on (F.ADC_SQq_CFG.VAL q) && srcs.contains (n.f (F.ADC_SQq_CFG.TRIG q)) && n.f (F.ADC_SQq_CFG.COUNT q) != 0
    if qs.isEmpty then n
    else
      let n := n.adcStarts (n.now + 1)
      let n := forEach qs (fun q n => if n.on (F.ADC_SQq_STAT.BUSY q) then n.seqAbandon q [] else n) n
      let hs := qs.flatMap fun q => ((List.range (n.f (F.ADC_SQq_CFG.COUNT q))).map (n.entInput q)).filter fun i => decide (i ≤ 6)
      let n := if hs.isEmpty then n else n.upAdc fun g => { g with caps := g.caps ++ [(n.now, hs)] }
      forEach qs (fun q n => n.seqStart q) n
  else n

/-! ## Results -/

/-- A converter input is assigned: TMP0 and TMP1 need a pin (R185, R499). -/
def Lane.inputPinned (n : Lane) (i : Nat) : Bool :=
  if i = 18 then (List.range 8).any fun p => n.f (F.SYS_PINFn.FUNC p) == 5
  else if i = 19 then (List.range 8).any fun p => n.f (F.SYS_PINFn.FUNC p) == 6
  else true

/-- The result of a converter code on input `i` (R188). -/
def Lane.adcResult (n : Lane) (i : Nat) (code : Int) : Int :=
  if n.inputPinned i = false then 0
  else if i ≤ 6 then clampInt (-8192) 8191 (code - n.sf (F.ADC_OFSn.OFS (i + 1)))
  else clampInt 0 8191 code

/-- The result register `r` as a signed number. -/
def Lane.adcRes (n : Lane) (r : Nat) : Int := n.sf (F.ADC_RESq_e.SAMPLE (r / 16) (r % 16))

/-- MONITOR_DECIDE (R196): monitor `m` sees a write of its result. An armed injection forces its output (R369). -/
def Lane.monSee (n : Lane) (m : Nat) (v : Int) : Lane :=
  let lo := n.sf (F.ADC_MONm_THR.LO m)
  let hi := n.sf (F.ADC_MONm_THR.HI m)
  let cnt := n.f (F.ADC_MONm_CFG.CNT m)
  let live := n.bit F.ADC_CMPSTAT.MON m
  let find (n : Lane) : Lane :=
    let kind := if n.on (F.ADC_MONm_CFG.KIND m) then 5 else 4
    let n := n.setBit F.ADC_CMPSTAT.MON m true
    (n.sqEventOnce (if v < lo then F.ADC_EVT.MONLO else F.ADC_EVT.MONHI)).raise (0x79 + m) kind m
  let fresh := !live || n.foundAgain (0x79 + m) m
  let forced := n.injArmed (0x79 + m) m
  if v < lo ∨ hi < v then
    let k := Cells.get 0 n.adc.out m + 1
    let n := n.upAdc fun g => { g with out := Cells.set 0 g.out m k, ins := Cells.erase g.ins m }
    if (cnt ≤ k ∨ forced) ∧ fresh then find n else n
  else
    let k := Cells.get 0 n.adc.ins m + 1
    let n := n.upAdc fun g => { g with ins := Cells.set 0 g.ins m k, out := Cells.erase g.out m }
    if forced ∧ fresh then find n else if cnt ≤ k ∧ live then n.setBit F.ADC_CMPSTAT.MON m false else n

/-- Result `r` is written with value `v` (R188, R190, R194, R196). -/
def Lane.resWrite (n : Lane) (c : Conv) (v : Int) : Lane :=
  let tag := n.f (F.ADC_SQq_STAT.RUNS c.q) + 1
  let n := n.setFs [(F.ADC_RESq_e.SAMPLE c.q c.e, (BitVec.ofInt 16 v).toNat), (F.ADC_RESq_e.TAG c.q c.e, tag)]
  let n := forEach seqs (fun m n =>
    if n.f (F.ADC_MONm_CFG.CNT m) != 0 && n.f (F.ADC_MONm_CFG.RES m) == 16 * c.q + c.e then n.monSee m v else n) n
  let left := Cells.get 0 n.adc.left c.q
  if 0 < left ∧ Cells.get 0 n.adc.trig c.q = c.trig then
    let n := n.upAdc fun g => { g with left := if left = 1 then Cells.erase g.left c.q else Cells.put g.left c.q (left - 1) }
    if left = 1 then (n.stepWrap (F.ADC_SQq_STAT.RUNS c.q)).setF (F.ADC_SQq_STAT.BUSY c.q) 0 else n
  else n

/-- The oldest conversion of converter `k` whose result is due to be written: 82 cycles after its start (R190). -/
def Lane.convDue (n : Lane) (k : Nat) : Option Running :=
  match (n.adc.cv.getD k {}).run with
  | [] => none
  | r :: _ => if r.start + 82 ≤ n.now then some r else none

/-- That conversion is no longer in progress. -/
def Lane.convPop (n : Lane) (k : Nat) : Lane :=
  n.upAdc fun g => { g with cv := g.cv.set k { g.cv.getD k {} with run := (g.cv.getD k {}).run.drop 1 } }

/-! ## Comparators, calibration, enable -/

/-- OVERCURRENT_DETECT (R195): an excursion of amplifier `a` above POS (or below NEG) has lasted FILT cycles. -/
def overcurrentDetect (a : Nat) (neg : Bool) (n : Lane) : Lane :=
  let fld := if neg then F.ADC_CMPSTAT.NEG else F.ADC_CMPSTAT.POS
  if n.on F.ADC_CTRL.EN && n.on (F.ADC_CCFGn.EN a) && (!n.bit fld (a - 1) || n.foundAgain (0x71 + a) a) then
    ((n.setBit fld (a - 1) true).sqEventOnce F.ADC_EVT.OVC).raise (0x71 + a) aOvc a
  else n

def execOvercurrentDetect (l : LaneId) (t : Nat) (a : Fin 7) (neg : Bool) (s : State) : Host.Outcome State Fault Refusal :=
  onDomain l t dACT s (overcurrentDetect (a.val + 1) neg)

/-- OVERCURRENT_CLEAR (R195): the amplifier output is back within NEG … POS. -/
def overcurrentClear (a : Nat) (n : Lane) : Lane :=
  if n.on F.ADC_CTRL.EN then (n.setBit F.ADC_CMPSTAT.POS (a - 1) false).setBit F.ADC_CMPSTAT.NEG (a - 1) false else n

def execOvercurrentClear (l : LaneId) (t : Nat) (a : Fin 7) (s : State) : Host.Outcome State Fault Refusal :=
  onDomain l t dACT s (overcurrentClear (a.val + 1))

/-- ADC_CALIBRATION_COMPLETE (R198): 8,000 LCLK after EN sets the calibration ends. -/
def adcCalEnd (ok : Bool) (n : Lane) : Lane :=
  match n.adc.cal with
  | some d =>
    if d ≤ n.now then
      let n := n.upAdc fun g => { g with cal := none }
      if ok then n.setF F.ADC_STAT.READY 1 else (n.sqEventOnce F.ADC_EVT.CAL).raise 0x71 aCal 0
    else n
  | none => n

def execAdcCalibrationComplete (l : LaneId) (t : Nat) (ok : Bool) (s : State) : Host.Outcome State Fault Refusal :=
  onDomain l t dACT s (adcCalEnd ok)

/-- Some group reads PENDING or RUN. -/
def Lane.anyDriving (n : Lane) : Bool := [0, 1, 2].any fun g => n.grp g == gPENDING || n.grp g == gRUN

/-- ADC_CTRL.EN (R198). -/
def adcEnable (org : Nat) (v : W32) (n : Lane) : Lane :=
  let en := F.ADC_CTRL.EN.val v == 1
  let was := n.on F.ADC_CTRL.EN
  if en && !n.on F.SYS_ASHLOCK.LOCK then n.rejectState org R.ADC_CTRL
  else if !en && was && n.anyDriving then n.rejectState org R.ADC_CTRL
  else
    let n := n.store R.ADC_CTRL v
    if en && !was then n.upAdc fun g => { g with cal := some (n.now + 8000) }
    else if !en && was then
      let n := n.upAdc fun g => { g with cal := none, cv := [{}, {}], caps := [], left := [], trig := [] }
      forEach seqs (fun q n => n.setF (F.ADC_SQq_STAT.BUSY q) 0) (n.setF F.ADC_STAT.READY 0)
    else n

def execAdcBlockEnable (l : LaneId) (t : Nat) (org : Origin) (v : W32) (s : State) : Host.Outcome State Fault Refusal :=
  onLane l t s fun n => n.regWrite org.code R.ADC_CTRL v (adcEnable org.code v)

/-- The effect of an accepted write to an ADC register without a row of its own: ADC_OFSn takes −511 to +511 only (R199). -/
def adcStore (org off : Nat) (v : W32) (n : Lane) : Lane :=
  let ofs := (v.setWidth 16).toInt
  if ([1, 2, 3, 4, 5, 6, 7].any fun a => off == R.ADC_OFSn a) && (decide (ofs < -511) || decide (511 < ofs)) then n.rejectState org off
  else n.store off v

/-- What a read of an ADC register returns: BUSYA and BUSYB show conversions under way. -/
def adcView (off : Nat) (n : Lane) : W32 :=
  if off = R.ADC_STAT then
    let n := n.adcStarts (n.now + 1)
    let busy := fun k => (n.adc.cv.getD k {}).run.any fun r => decide (n.now < r.start + 80)
    setBits (setBits (n.rd off) 1 1 (b1 (busy 0))) 2 2 (b1 (busy 1))
  else n.rd off

end Sys2Proof.Machine
end

