-- ==== Sys2Proof/Machine/Crypto.lean ====
section
/-! DEFINITION. The two published algorithms by which images and tokens are checked (spec/00, "Standards"; R41, R419, R487):
SHA-256 and ECDSA over the curve P-256. Their constants are those of the published standards (log entry 21). Bytes are
numbers below 256. -/

namespace Sys2Proof.Machine

/-! ## SHA-256 -/

/-- The round constants. -/
def shaK1 : List W32 := [
  0x428a2f98#32, 0x71374491#32, 0xb5c0fbcf#32, 0xe9b5dba5#32, 0x3956c25b#32, 0x59f111f1#32, 0x923f82a4#32, 0xab1c5ed5#32,
  0xd807aa98#32, 0x12835b01#32, 0x243185be#32, 0x550c7dc3#32, 0x72be5d74#32, 0x80deb1fe#32, 0x9bdc06a7#32, 0xc19bf174#32,
  0xe49b69c1#32, 0xefbe4786#32, 0x0fc19dc6#32, 0x240ca1cc#32, 0x2de92c6f#32, 0x4a7484aa#32, 0x5cb0a9dc#32, 0x76f988da#32,
  0x983e5152#32, 0xa831c66d#32, 0xb00327c8#32, 0xbf597fc7#32, 0xc6e00bf3#32, 0xd5a79147#32, 0x06ca6351#32, 0x14292967#32]

def shaK2 : List W32 := [
  0x27b70a85#32, 0x2e1b2138#32, 0x4d2c6dfc#32, 0x53380d13#32, 0x650a7354#32, 0x766a0abb#32, 0x81c2c92e#32, 0x92722c85#32,
  0xa2bfe8a1#32, 0xa81a664b#32, 0xc24b8b70#32, 0xc76c51a3#32, 0xd192e819#32, 0xd6990624#32, 0xf40e3585#32, 0x106aa070#32,
  0x19a4c116#32, 0x1e376c08#32, 0x2748774c#32, 0x34b0bcb5#32, 0x391c0cb3#32, 0x4ed8aa4a#32, 0x5b9cca4f#32, 0x682e6ff3#32,
  0x748f82ee#32, 0x78a5636f#32, 0x84c87814#32, 0x8cc70208#32, 0x90befffa#32, 0xa4506ceb#32, 0xbef9a3f7#32, 0xc67178f2#32]

/-- The initial hash value. -/
def shaInit : List W32 := [
  0x6a09e667#32, 0xbb67ae85#32, 0x3c6ef372#32, 0xa54ff53a#32, 0x510e527f#32, 0x9b05688c#32, 0x1f83d9ab#32, 0x5be0cd19#32]

/-- A big-endian word of four bytes. -/
def beWord (a b c d : Nat) : W32 := BitVec.ofNat 32 (((a * 256 + b) * 256 + c) * 256 + d)

/-- Big-endian words of bytes. -/
def beWords : List Nat → List W32
  | a :: b :: c :: d :: bs => beWord a b c d :: beWords bs
  | _ => []

/-- The message schedule: `k` further words of a list kept newest first. -/
def shaExpand : Nat → List W32 → List W32
  | 0, ws => ws
  | k + 1, ws =>
    let w2 := ws.getD 1 0#32
    let w7 := ws.getD 6 0#32
    let w15 := ws.getD 14 0#32
    let w16 := ws.getD 15 0#32
    let s0 := w15.rotateRight 7 ^^^ w15.rotateRight 18 ^^^ (w15 >>> 3)
    let s1 := w2.rotateRight 17 ^^^ w2.rotateRight 19 ^^^ (w2 >>> 10)
    shaExpand k ((w16 + s0 + w7 + s1) :: ws)

/-- One round on (a, …, h) with the round constant plus the schedule word. -/
def shaRound (v : List W32) (kw : W32) : List W32 :=
  let x := fun i => v.getD i 0#32
  let a := x 0
  let e := x 4
  let s1 := e.rotateRight 6 ^^^ e.rotateRight 11 ^^^ e.rotateRight 25
  let t1 := x 7 + s1 + ((e &&& x 5) ^^^ (~~~e &&& x 6)) + kw
  let s0 := a.rotateRight 2 ^^^ a.rotateRight 13 ^^^ a.rotateRight 22
  let t2 := s0 + ((a &&& x 1) ^^^ (a &&& x 2) ^^^ (x 1 &&& x 2))
  [t1 + t2, a, x 1, x 2, x 3 + t1, e, x 5, x 6]

/-- One block of 64 bytes. -/
def shaBlock (h : List W32) (bs : List Nat) : List W32 :=
  let ws := (shaExpand 48 (beWords bs).reverse).reverse
  let kws := List.zipWith (· + ·) (shaK1 ++ shaK2) ws
  List.zipWith (· + ·) h (kws.foldl shaRound h)

/-- Blocks of 64 bytes, at most `k` of them. -/
def shaBlocks : Nat → List W32 → List Nat → List W32
  | 0, h, _ => h
  | k + 1, h, bs => shaBlocks k (shaBlock h (bs.take 64)) (bs.drop 64)

/-- Big-endian bytes of a word. -/
def beBytes (w : W32) : List Nat := [w.toNat / 16777216, w.toNat / 65536 % 256, w.toNat / 256 % 256, w.toNat % 256]

/-- The padding of a message of `len` bytes. -/
def shaPad (len : Nat) : List Nat :=
  let z := (119 - len % 64) % 64
  128 :: List.replicate z 0 ++ (List.range 8).map fun i => len * 8 / 2 ^ (8 * (7 - i)) % 256

/-- SHA-256 of bytes, as 32 bytes. -/
def sha256 (bs : List Nat) : List Nat :=
  let m := bs ++ shaPad bs.length
  (shaBlocks (m.length / 64) shaInit m).flatMap beBytes

/-! ## ECDSA over P-256 -/

/-- The field prime, the order of the base point, the constant b, the base point. -/
def ecP : Nat := 0xffffffff00000001000000000000000000000000ffffffffffffffffffffffff
def ecN : Nat := 0xffffffff00000000ffffffffffffffffbce6faada7179e84f3b9cac2fc632551
def ecB : Nat := 0x5ac635d8aa3a93e7b3ebbd55769886bc651d06b0cc53b0f63bce3c3e27d2604b
def ecG : Nat × Nat :=
  (0x6b17d1f2e12c4247f8bce6e563a440f277037d812deb33a0f4a13945d898c296,
   0x4fe342e2fe1a7f9b8ee7eb4a7c0f9e162bce33576b315ececbb6406837bf51f5)

/-- b^e modulo m, for e below 2^256. -/
def powMod (m b e : Nat) : Nat :=
  (List.range 256).foldr (fun i acc => if e.testBit i then acc * acc % m * b % m else acc * acc % m) 1

/-- A point (X, Y, Z) stands for the affine point (X / Z², Y / Z³), and Z = 0 for the point at infinity. -/
abbrev EcPoint := Nat × Nat × Nat

/-- Twice a point; the curve is y² = x³ − 3x + b. -/
def ecDbl (q : EcPoint) : EcPoint :=
  let (x, y, z) := q
  if y = 0 ∨ z = 0 then (1, 1, 0)
  else
    let z2 := z * z % ecP
    let y2 := y * y % ecP
    let s := 4 * x * y2 % ecP
    let m := 3 * (x + z2) * (x + ecP - z2) % ecP
    let x' := (m * m + 2 * ecP - 2 * s) % ecP
    (x', (m * (s + ecP - x') + 8 * (ecP - y2) * y2) % ecP, 2 * y * z % ecP)

/-- The sum of two points. -/
def ecAdd (q1 q2 : EcPoint) : EcPoint :=
  let (x1, y1, z1) := q1
  let (x2, y2, z2) := q2
  if z1 = 0 then q2
  else if z2 = 0 then q1
  else
    let u1 := x1 * (z2 * z2 % ecP) % ecP
    let u2 := x2 * (z1 * z1 % ecP) % ecP
    let s1 := y1 * (z2 * z2 % ecP) % ecP * z2 % ecP
    let s2 := y2 * (z1 * z1 % ecP) % ecP * z1 % ecP
    if u1 = u2 then (if s1 = s2 then ecDbl q1 else (1, 1, 0))
    else
      let h := (u2 + ecP - u1) % ecP
      let r := (s2 + ecP - s1) % ecP
      let h2 := h * h % ecP
      let h3 := h2 * h % ecP
      let v := u1 * h2 % ecP
      let x := (r * r + 3 * ecP - h3 - 2 * v) % ecP
      (x, (r * (v + ecP - x) + s1 * (ecP - h3)) % ecP, z1 * z2 % ecP * h % ecP)

/-- A multiple of an affine point. -/
def ecMul (k : Nat) (q : Nat × Nat) : EcPoint :=
  (List.range 256).foldr (fun i acc =>
    let d := ecDbl acc
    if k.testBit i then ecAdd d (q.1, q.2, 1) else d) (1, 1, 0)

/-- A number from big-endian bytes. -/
def beNat (bs : List Nat) : Nat := bs.foldl (fun a b => a * 256 + b) 0

/-- The point of a SEC1 compressed key (R418). -/
def ecPoint (key : List Nat) : Option (Nat × Nat) :=
  let x := beNat (key.drop 1)
  let t := key.headD 0
  let y2 := (x * x * x + (ecP - 3) * x + ecB) % ecP
  let y := powMod ecP y2 ((ecP + 1) / 4)
  if (t = 2 ∨ t = 3) ∧ x < ecP ∧ y * y % ecP = y2 then some (x, if y % 2 = t % 2 then y else (ecP - y) % ecP) else none

/-- The signature `sig` (r, then s) over `msg` verifies with the compressed key `key` (R419, R487). -/
def ecdsaOk (key msg sig : List Nat) : Bool :=
  let r := beNat (sig.take 32)
  let s := beNat ((sig.drop 32).take 32)
  match ecPoint key with
  | none => false
  | some q =>
    if r = 0 ∨ ecN ≤ r ∨ s = 0 ∨ ecN ≤ s then false
    else
      let w := powMod ecN s (ecN - 2)
      let e := beNat (sha256 msg)
      let (x, _, z) := ecAdd (ecMul (e * w % ecN) ecG) (ecMul (r * w % ecN) q)
      z != 0 && x * powMod ecP (z * z % ecP) (ecP - 2) % ecP % ecN == r

end Sys2Proof.Machine
end

