-- ==== Sys2Proof/Machine/Crc.lean ====
section
/-! DEFINITION. The two cyclic redundancy checks the spec names: CRC-16 of a Tlasyn header (R284) and the reflected IEEE
802.3 CRC-32 of frames, images and MRAM records (R41, R284, R484). -/

namespace Sys2Proof.Machine

/-- One bit of the CRC-16 with polynomial 0x1021, most significant bit first. -/
def crc16Bit (c : Nat) : Nat := if c.testBit 15 then ((c * 2) ^^^ 0x1021) % 65536 else c * 2

/-- CRC-16 of bytes taken in order, initial value 0xFFFF, no reflection, no final XOR (R284). -/
def crc16 (bs : List Nat) : Nat :=
  bs.foldl (fun c b =>
    crc16Bit (crc16Bit (crc16Bit (crc16Bit (crc16Bit (crc16Bit (crc16Bit (crc16Bit (c ^^^ (b * 256)))))))))) 0xFFFF

/-- One bit of the reflected CRC-32. -/
def crc32Bit (c : Nat) : Nat := if c.testBit 0 then (c / 2) ^^^ 0xEDB88320 else c / 2

/-- CRC-32 of bytes taken in order: IEEE 802.3 polynomial, reflected, initial value and final XOR all ones. -/
def crc32 (bs : List Nat) : Nat :=
  (bs.foldl (fun c b =>
    crc32Bit (crc32Bit (crc32Bit (crc32Bit (crc32Bit (crc32Bit (crc32Bit (crc32Bit (c ^^^ b)))))))) ) 0xFFFFFFFF) ^^^ 0xFFFFFFFF

/-- The bytes of a word, least significant first (R8). -/
def wordBytes (w : W32) : List Nat :=
  [w.toNat % 256, w.toNat / 256 % 256, w.toNat / 65536 % 256, w.toNat / 16777216]

/-- The bytes of words in order. -/
def wordsBytes (ws : List W32) : List Nat := ws.flatMap wordBytes

end Sys2Proof.Machine
end

