-- ==== Sys2Proof/Machine/Gdv.lean ====
section
/-! DEFINITION. Gate drive and power-stage protection (spec/05): edge and return frames, loss and re-arming of the GCL,
lock-out, feed switches, the interlock, short detection and reflex turn-off, off-state checks and latch clears. The
gate-drive die's own state is `Lane.gdv`; GDV registers show what the last good return frame carried (R126). -/

namespace Sys2Proof.Machine

/-! ## Frames -/

/-- The low `k` bits of `w`, most significant first. -/
def bitsMsb : Nat → Nat → List Bool
  | 0, _ => []
  | k + 1, w => w.testBit k :: bitsMsb k w

/-- CRC-8 of R125: polynomial 0x1D, initial value 0xFF, unreflected, no final XOR, over bits [55:0] from bit 55. -/
def crc8 (w : Nat) : Nat :=
  (bitsMsb 56 w).foldl (fun c b =>
    let top := Bool.xor (c.testBit 7) b
    let c := (c * 2) % 256
    if top then c ^^^ 0x1D else c) 0xFF

/-- The switch levels the lane die commands in cycle `c`: those of the frames already sent with the changes timestamped up
to `c`. -/
def Lane.txLevels (n : Lane) (c : Nat) : Nat :=
  n.gdv.edges.foldl (fun lv e => if e.ts ≤ c then natSetBit lv e.sw e.on else lv) n.gdv.txLvl

/-- The 64-bit edge frame covering cycles k to k + 3 (R125). -/
def Lane.edgeFrame (n : Lane) (k : Nat) : BitVec 64 :=
  let body := ([1, 2, 3, 4, 5, 6, 7].foldl (fun w leg =>
    [0, 1, 2, 3].foldl (fun w j =>
      let lv := n.txLevels (k + j)
      let w := natSetBit w (8 * (leg - 1) + j) (lv.testBit (swIx leg true))
      natSetBit w (8 * (leg - 1) + 4 + j) (lv.testBit (swIx leg false))) w) 0)
  BitVec.ofNat 64 (crc8 body * 2 ^ 56 + body)

/-- The level of switch `s` in cycle k + j of a frame. -/
def frameLevel (w : BitVec 64) (s j : Nat) : Bool := w.toNat.testBit (8 * (s / 2) + 4 * (s % 2) + j)

/-- A frame's CRC is right. -/
def frameOk (w : BitVec 64) : Bool := w.toNat / 2 ^ 56 == crc8 (w.toNat % 2 ^ 56)

/-- The lane die has sent the frame of cycles k to k + 3: its changes are no longer waiting. -/
def Lane.frameSent (n : Lane) (k : Nat) : Lane :=
  (n.upGdv fun x_ => { x_ with
      txLvl := n.txLevels (k + 3)
      edges := n.gdv.edges.filter fun e => decide (k + 3 < e.ts) })

/-! ## Edge frames -/

/-- The gate-drive die follows edge frames beginning in cycle `k`: the link is ARMED, no pause of a re-arming remains
(R131). -/
def Lane.follows (n : Lane) (k : Nat) : Bool := n.gdv.link == 2 && !n.gdv.direct && decide (n.gdv.followT ≤ k)

/-- The levels of cycle k + j of a frame, by switch. -/
def frameLevels (w : BitVec 64) (j : Nat) : Nat := switches.foldl (fun lv s => natSetBit lv s (frameLevel w s j)) 0

/-- EDGE_FRAME (R125): the frame of cycles k to k + 3, which have passed, arrives and passes its CRC; its levels take effect 12 cycles
after their timestamps. The reference it is aligned to is present. -/
def edgeFrame (k : Nat) (n : Lane) : Lane :=
  let w := n.edgeFrame k
  if k % 4 = 0 ∧ k + 3 ≤ n.now ∧ frameOk w then
    let lvAt := frameLevels w
    let m := (n.frameSent k).setRef false
    let m := m.upGdv fun x_ => { x_ with badRun := 0, upRun := m.gdv.upRun + 1 }
    if n.follows k then
      (m.upGdv fun g => { g with due := g.due ++ [0, 1, 2, 3].map fun j => (k + j + 12, lvAt j) }).gateSync
    else if n.gdv.direct then m
    else if n.gdv.link == 2 then m
    else m.noteLevels (lvAt 3)
  else n

def execEdgeFrame (l : LaneId) (t : Nat) (k : Nat) (s : State) : Host.Outcome State Fault Refusal :=
  onDomain l t dACT s (edgeFrame k)

/-- EDGE_FRAME_DISCARD (R128): the frame of cycles k to k + 3, whose reference period came, is discarded; every switch keeps its
level. -/
def edgeFrameDiscard (k : Nat) (n : Lane) : Lane :=
  if k % 4 = 0 ∧ k + 3 ≤ n.now then
    let n := (n.frameSent k).setRef false
    let n := n.stepSat F.GDV_GCLERR.DNBAD
    let n := if n.on F.GDV_EVT.FRAME then n else n.raise 0x5B 1 0
    let n := n.sqEventOnce F.GDV_EVT.FRAME
    (n.upGdv fun x_ => { x_ with badRun := n.gdv.badRun + 1, upRun := 0 })
  else n

def execEdgeFrameDiscard (l : LaneId) (t : Nat) (k : Nat) (s : State) : Host.Outcome State Fault Refusal :=
  onDomain l t dACT s (edgeFrameDiscard k)

/-! ## The request of a group (R144) -/

/-- The request formed from unavailable switches `u` (reflex- or lock-out-latched) for group `g`: 0 NONE, 1 ASC_HIGH, 2
ASC_LOW, 3 HIGH_Z. -/
def requestOf (u g : Nat) : Nat :=
  let hi := (groupLegs g).any fun leg => u.testBit (swIx leg true)
  let lo := (groupLegs g).any fun leg => u.testBit (swIx leg false)
  if hi && lo then 3 else if hi then 2 else if lo then 1 else 0

/-- A good return frame's GDV_REQ (R144, R146); a changed request of a SAFE group is applied as an override (R357). -/
def Lane.takeRequests (n : Lane) : Lane :=
  forEach [0, 1, 2] (fun g n =>
    let q := requestOf (n.gdv.latch ||| n.gdv.lockLt) g
    if n.f (reqField g) = q then n
    else
      let n := n.setF (reqField g) q
      let n := if g = 2 then n.chopCheck else n
      if n.grp g = gSAFE then n.schedOvr g else n) n

/-- The GDV_EVT flag a report sets. -/
def GateRpt.flag (r : GateRpt) : Option FRef :=
  if r.kind = 6 then some F.GDV_EVT.REFLEX
  else if r.kind = 5 then some F.GDV_EVT.ILK
  else if r.kind = 3 then some F.GDV_EVT.UVLO
  else if r.kind = 4 then some F.GDV_EVT.FEED
  else none

/-- The lane die raises GDV link once for each loss (R129). -/
def Lane.linkLost (n : Lane) : Lane :=
  if n.gdv.lossRep then n
  else
    let n := (n.upGdv fun x_ => { x_ with lossRep := true })
    (n.sqEventOnce F.GDV_EVT.LINKF).raise 0x5C 2 0

/-- The items of a good return frame are copied into the GDV status registers (R126). -/
def Lane.copyStatus (n : Lane) : Lane :=
  let g := n.gdv
  n.setFs [(F.GDV_REFLEX.LATCH, g.latch), (F.GDV_REFLEX.HARD, g.hardLt), (F.GDV_UVLO.LIVE, g.live),
    (F.GDV_UVLO.LATCH, g.lockLt), (F.GDV_RBSTAT.FEED1, g.feed1), (F.GDV_RBSTAT.FEED2, g.feed2),
    (F.GDV_STAT.CPOK, b1 g.cpok), (F.GDV_STAT.VGDOK, b1 g.vgdok), (F.GDV_STAT.LINK, g.link),
    (F.GDV_STAT.DIRECT, b1 g.direct), (F.GDV_STAT.REFLOST, b1 g.refLost), (F.GDV_DGPIN.LEVEL, g.dgpin)]

/-- One report of a good return frame: its GDV_EVT flag and its Keystone message. -/
def Lane.takeReport (n : Lane) (r : GateRpt) : Lane :=
  let n := match r.flag with
    | some fl => n.sqEventOnce fl
    | none => n
  n.raise r.src r.kind r.word

/-- The KIND a gate-drive die source reports (R351). -/
def gateKind (src : Nat) : Nat :=
  if src ≤ 0x52 then 6 else if src ≤ 0x55 then 3 else if src ≤ 0x58 then 5 else if src ≤ 0x5A then 4 else if src = 0x5B then 1
  else if src = 0x5C then 2 else 7

/-- An injection armed into a gate-drive die source inverts its report bit in the next return frame (R369): only the message
is raised, latches, requests and GDV status stay. -/
def Lane.injectedReport (n : Lane) : Lane :=
  match n.kst.inj with
  | some j => if 0x50 ≤ j.src ∧ j.src ≤ 0x5D ∧ n.injArmed j.src j.target then n.raise j.src (gateKind j.src) j.target else n
  | none => n

/-- RETURN_FRAME (R126, R128, R129): a frame that passes its CRC is copied into the GDV status registers and its reports
go to Keystone; one that fails steps UPBAD, and the fourth in a row is a loss. -/
def returnFrame (ok : Bool) (n : Lane) : Lane :=
  if ok then
    let g := n.gdv
    -- a report in the evaluation an injection is armed for comes again in the next frame (R370)
    let again := g.reports.filter fun r => n.injArmed r.src r.word
    let n := (forEach g.reports (fun r n => n.takeReport r) n.copyStatus.takeRequests).injectedReport
    let n := (n.upGdv fun x_ => { x_ with reports := again, upBad := 0, ctlData := Config.ctlRead (2 * n.now + (n.id.num - 1)) })
    if g.link ≠ 0 then (n.upGdv fun x_ => { x_ with lossRep := false })
    else if g.lost then n.linkLost else n
  else
    let n := (n.stepSat F.GDV_GCLERR.UPBAD).sqEventOnce F.GDV_EVT.FRAME
    let n := (n.upGdv fun x_ => { x_ with upBad := n.gdv.upBad + 1 })
    if n.gdv.upBad ≥ 4 then n.linkLost else n

def execReturnFrame (l : LaneId) (t : Nat) (ok : Bool) (s : State) : Host.Outcome State Fault Refusal :=
  onDomain l t dACT s (returnFrame ok)

/-! ## Control lane (R127) -/

/-- GCL_CONTROL_WRITE_APPLY: the oldest register write sent over the control lane takes effect at the gate-drive die; none does
from a loss until the link is up again and direct-pin drive has ended, so that the strengths of the moment of loss stay in force
(R130). -/
def gclControlWriteApply (n : Lane) : Lane :=
  match n.gdv.ctl with
  | [] => n
  | (off, v) :: rest => if n.gdv.lost || n.gdv.direct then n else (n.upGdv fun x_ => { x_ with ctl := rest, set := Cells.set (mapReset off) n.gdv.set off v })

/-- Every write still on its way takes effect: a later one has reached the gate-drive die, and writes keep their order (R127). -/
def Lane.ctlFlush (n : Lane) : Lane := forEach n.gdv.ctl (fun _ n => gclControlWriteApply n) n

def execGclControlWriteApply (l : LaneId) (t : Nat) (s : State) : Host.Outcome State Fault Refusal :=
  onDomain l t dACT s gclControlWriteApply

/-! ## Loss and return of the link -/

/-- GCL_LOSS (R129): four discarded edge frames, or the reference absent for 40 ns: every switch that is on starts its
turn-off, the link is DOWN, a check is abandoned (R150). The run of valid frames ends with it, as with every later gap (R131). -/
def gclLoss (refAbsent : Bool) (n : Lane) : Lane :=
  if refAbsent || decide (4 ≤ n.gdv.badRun) then
    let n := (if refAbsent then n.setRef true else n).upGdv fun g => { g with upRun := 0, due := [] }
    if n.gdv.lost then n
    else
      let n := n.checkAbort
      let n := forEach switches (fun s n => n.swOff s n.gnow) n
      n.upGdv fun g => { g with link := 0, lost := true, direct := false }
  else n

def execGclLoss (l : LaneId) (t : Nat) (refAbsent : Bool) (s : State) : Host.Outcome State Fault Refusal :=
  onAon l t s (gclLoss refAbsent)

/-- DIRECT_PIN_TAKEOVER (R130): after a loss, with direct pins permitted and all fourteen low for 1 µs, the switches follow
their pins, which all command off: a leg the interlock held is free again (R138). -/
def directTakeover (n : Lane) : Lane :=
  if n.gdv.link = 0 ∧ n.gdv.lost ∧ !n.gdv.direct ∧ n.on F.LNT_PERMIT.DIRECTPINS ∧ n.gdv.dgpin = 0 ∧ n.gdv.lowT + 400 ≤ n.gnow then
    (n.noteLevels 0).upGdv fun g => { g with direct := true, ilkHold := [] }
  else n

def execDirectPinTakeover (l : LaneId) (t : Nat) (s : State) : Host.Outcome State Fault Refusal := onAon l t s directTakeover

/-- DIRECT_PIN_CHANGE (R130): a filtered direct pin changes; under direct-pin drive its switch follows. -/
def directPin (sw : Nat) (level : Bool) (n : Lane) : Lane :=
  let pins := natSetBit n.gdv.dgpin sw level
  let n := n.upGdv fun g => { g with dgpin := pins, lowT := if pins = 0 ∧ g.dgpin ≠ 0 then n.gnow else g.lowT }
  if n.gdv.direct then n.gateLevels pins n.gnow else n

def execDirectPinChange (l : LaneId) (t : Nat) (sw : Fin 14) (level : Bool) (s : State) : Host.Outcome State Fault Refusal :=
  onAon l t s (directPin sw.val level)

/-- GCL_UP (R131): 64 consecutive valid edge frames bring the link UP. -/
def gclUp (n : Lane) : Lane :=
  if n.gdv.link = 0 ∧ 64 ≤ n.gdv.upRun then (n.upGdv fun x_ => { x_ with link := 1, lost := false }) else n

def execGclUp (l : LaneId) (t : Nat) (s : State) : Host.Outcome State Fault Refusal := onDomain l t dACT s gclUp

/-- A group is neither PENDING nor RUN. -/
def Lane.grpQuiet (n : Lane) (g : Nat) : Bool := n.grp g != gPENDING && n.grp g != gRUN

/-- GCL_REARM (R131): accepted with LINK reading UP and no group PENDING or RUN; every switch goes off and edge frames are
followed from the first that begins 16 GCLK or more later. Where the link has been lost again since the frame that showed UP, the write
does not reach the gate-drive die. -/
def gclRearm (org : Nat) (v : W32) (n : Lane) : Lane :=
  if F.GDV_GCLCMD.REARM.val v = 0 then n
  else if n.f F.GDV_STAT.LINK = 1 ∧ [0, 1, 2].all n.grpQuiet then
    if n.gdv.link ≠ 1 then n
    else
      let n := forEach switches (fun s n => n.swOff s n.gnow) n.ctlFlush
      let n := n.noteLevels 0
      (n.upGdv fun x_ => { x_ with link := 2, direct := false, followT := n.now + 16, ilkHold := [], due := [] })
  else n.rejectState org R.GDV_GCLCMD

def execGclRearm (l : LaneId) (t : Nat) (org : Origin) (v : W32) (s : State) : Host.Outcome State Fault Refusal :=
  onLane l t s fun n => n.regWrite org.code R.GDV_GCLCMD v (gclRearm org.code v)

/-! ## Supplies, feeds -/

/-- Switch `s` enters lock-out (R136): it turns off, LIVE and LATCH set, and the event is reported. -/
def Lane.lockOut (n : Lane) (s : Nat) : Lane :=
  if n.gdv.live.testBit s then n
  else
    let n := (n.swOff s n.gnow).upGdv fun g => { g with live := natSetBit g.live s true, lockLt := natSetBit g.lockLt s true }
    n.report (0x53 + legGroup (swLeg s)) 3 s

/-- The high sides. -/
def highSides : List Nat := [0, 2, 4, 6, 8, 10, 12]

/-- VCP − VBS falls below its threshold: all seven high sides enter lock-out together (R135). -/
def Lane.vbsLow (n : Lane) : Lane := forEach highSides (fun s n => n.lockOut s) (n.upGdv fun g => { g with joint := true })

/-- VCP − VBS rises past its threshold: a high side stays in lock-out only for its own comparator (R135, R136). -/
def Lane.vbsHigh (n : Lane) : Lane :=
  n.upGdv fun g => { g with joint := false, live := highSides.foldl (fun lv s => natSetBit lv s (g.own.testBit s)) g.live }

/-- The charge pump runs (R133, R152): GDV_CTRL.EN is 1 and VGD is above its lock-out threshold. -/
def Lane.pumpOn (n : Lane) : Bool := n.on F.GDV_CTRL.EN && n.gdv.vgdok

/-- CPOK_CHANGE (R133): VCP − VBS crosses a lock-out threshold, upwards only while the pump runs. The same voltage decides the lock-out
of the high sides (R135). -/
def cpokChange (ok : Bool) (n : Lane) : Lane :=
  if ok && !n.pumpOn then n
  else
    let fell := n.gdv.cpok && !ok && n.on F.GDV_CTRL.EN
    let was := n.gdv.cpok
    let n := (n.upGdv fun x_ => { x_ with cpok := ok })
    let n := if fell then n.report 0x5D 7 0 else n
    if ok then n.vbsHigh else if was then n.vbsLow else n

def execCpokChange (l : LaneId) (t : Nat) (ok : Bool) (s : State) : Host.Outcome State Fault Refusal := onAon l t s (cpokChange ok)

/-- UVLO_ASSERT (R135, R136): a switch's filtered supply falls below its threshold, by its own comparator or, for a high
side, by the VCP − VBS comparator (`vbs`), which applies to all seven together; a high side's own comparator asserts only while the
switch is on. -/
def uvloAssert (s : Nat) (vbs : Bool) (n : Lane) : Lane :=
  if vbs then (if s % 2 = 0 ∧ !n.gdv.joint then n.vbsLow else n)
  else if s % 2 = 1 then (n.lockOut s).upGdv fun g => { g with vgdok := false }
  else if (n.sw s).on then (n.lockOut s).upGdv fun g => { g with own := natSetBit g.own s true }
  else n

def execUvloAssert (l : LaneId) (t : Nat) (sw : Fin 14) (vbs : Bool) (s : State) : Host.Outcome State Fault Refusal :=
  onAon l t s (uvloAssert sw.val vbs)

/-- UVLO_RECOVER (R136): the supply rises past the rising threshold; LIVE clears, LATCH stays. DEDUCED: of a high side's two comparators
its own recovers first, and LIVE clears once neither is low (log entry 101). -/
def uvloRecover (s : Nat) (n : Lane) : Lane :=
  if s % 2 = 1 then
    n.upGdv fun g =>
      let live := natSetBit g.live s false
      { g with live := live, vgdok := [1, 3, 5, 7, 9, 11, 13].all fun i => !live.testBit i }
  else if n.gdv.own.testBit s then
    n.upGdv fun g => { g with own := natSetBit g.own s false, live := natSetBit g.live s g.joint }
  else n.vbsHigh

def execUvloRecover (l : LaneId) (t : Nat) (sw : Fin 14) (s : State) : Host.Outcome State Fault Refusal :=
  onAon l t s (uvloRecover sw.val)

/-- The feed state bits (GDV_RBSTAT): 0 ON, 1 UV, 2 REV, 3 NEG. -/
def Lane.feed (n : Lane) (f : Nat) : Nat := if f = 0 then n.gdv.feed1 else n.gdv.feed2
def Lane.setFeed (n : Lane) (f x : Nat) : Lane :=
  if f = 0 then (n.upGdv fun x_ => { x_ with feed1 := x }) else (n.upGdv fun x_ => { x_ with feed2 := x })

/-- The bit a failing feed condition sets. -/
def feedMark (c : FeedCause) (x : Nat) : Nat :=
  match c with
  | .enable => x
  | .underVoltage => natSetBit (natSetBit x 1 true) 3 false
  | .reverse => natSetBit x 2 true
  | .negative => natSetBit (natSetBit x 1 true) 3 true

/-- Feed f + 1 is in use, enabled and supplied by a running charge pump (R137). -/
def Lane.feedReady (n : Lane) (f : Nat) : Bool :=
  n.bit F.GDV_FEEDCFG.FEEDS f && n.bit F.GDV_RBCTL.EN f && n.on F.GDV_CTRL.EN && n.gdv.cpok

/-- FEED_SWITCH_OFF (R137): a condition of feed f + 1 fails; a switch that was on turns off and GDV feed is raised. -/
def feedOff (f : Nat) (c : FeedCause) (n : Lane) : Lane :=
  let x := n.feed f
  let was := x.testBit 0
  if c = .enable ∧ n.feedReady f then n
  else
    let n := n.setFeed f (natSetBit (if c = .reverse ∧ !was then x else feedMark c x) 0 false)
    if was then n.report (0x59 + f) 4 (f + 1) else n

def execFeedSwitchOff (l : LaneId) (t : Nat) (f : Fin 2) (c : FeedCause) (s : State) : Host.Outcome State Fault Refusal :=
  onAon l t s (feedOff f.val c)

/-- FEED_SWITCH_ON (R137): the feed's voltage is above its threshold and every other condition holds. -/
def feedOn (f : Nat) (n : Lane) : Lane :=
  let x := natSetBit (natSetBit (n.feed f) 1 false) 3 false
  if n.feedReady f && !x.testBit 2 then
    n.setFeed f (natSetBit x 0 true)
  else n.setFeed f x

def execFeedSwitchOn (l : LaneId) (t : Nat) (f : Fin 2) (s : State) : Host.Outcome State Fault Refusal :=
  onAon l t s (feedOn f.val)

/-- REVERSE_LATCH_CLEAR (R137): VFf − VBS above 200 mV clears the reverse-current latch. -/
def reverseClear (f : Nat) (n : Lane) : Lane := n.setFeed f (natSetBit (n.feed f) 2 false)

def execReverseLatchClear (l : LaneId) (t : Nat) (f : Fin 2) (s : State) : Host.Outcome State Fault Refusal :=
  onAon l t s (reverseClear f.val)

/-! ## Shorts and reflex turn-off -/

/-- A short of switch `s` (R143): its reflex latch sets, the 400 ns soft turn-off starts, the checks passed before no
longer count (R150), the event is reported. -/
def Lane.reflex (n : Lane) (s : Nat) (hard : Bool) : Lane :=
  if n.gdv.latch.testBit s then n
  else
    let leg := swLeg s
    let hi := s % 2 = 0
    let n := (n.upGdv fun x_ => { x_ with
      latch := natSetBit n.gdv.latch s true, hardLt := natSetBit n.gdv.hardLt s hard })
    let n := n.stepSat (if hi then F.GDV_LEGn_CNT.REF_H leg else F.GDV_LEGn_CNT.REF_L leg)
    let n := (n.setF (if hi then F.GDV_LEGn_CHK.LEAK_H leg else F.GDV_LEGn_CHK.LEAK_L leg) 0).setF (F.GDV_LEGn_CHK.STEST leg) 0
    let n := n.setSw s { n.sw s with
      on := false, offT := some n.gnow, softEnd := some (n.gnow + 160), strength := 0, blank := false, deferred := false }
    n.report (0x50 + legGroup leg) 6 s

/-- The switch's comparators are armed: from its turn-on edge to its turn-off edge, with the 4 GCLK of the latch logic in
which an edge may already have begun (R140, R142, R143). -/
def Lane.armed (n : Lane) (s : Nat) : Bool :=
  (n.sw s).on || (match (n.sw s).offT with
    | some e => decide (n.gnow ≤ e + 4) && (n.sw s).softEnd.isNone
    | none => false)

/-- The comparators of a leg under self-test are disconnected (R148). -/
def Lane.underSelfTest (n : Lane) (s : Nat) : Bool :=
  match n.gdv.check with
  | some c => c.kind == 1 && c.target == swLeg s
  | none => false

/-- The earliest gate-die cycle a crossing of switch `s` can be qualified in (R141): 2 GCLK of the hard comparator from the turn-on edge;
SOFTQ GCLK of the soft one from the end of blanking, or from the start of the crossing that was in progress then. -/
def Lane.qualT (n : Lane) (s : Nat) (hard : Bool) : Nat :=
  let x := n.sw s
  if hard then x.onT + 2 else x.runT.getD x.blankEnd + x.softq

/-- SHORT_DETECT (R141): a qualified crossing; the soft comparator does not act during blanking. -/
def shortDetect (s : Nat) (hard : Bool) (n : Lane) : Lane :=
  if n.armed s && !n.underSelfTest s && decide (n.qualT s hard ≤ n.gnow) && (hard || !(n.sw s).blank) then n.reflex s hard
  else n

def execShortDetect (l : LaneId) (t : Nat) (sw : Fin 14) (hard : Bool) (s : State) : Host.Outcome State Fault Refusal :=
  onAon l t s (shortDetect sw.val hard)

/-- BLANKING_END (R141): the longest soft crossing of the blanking interval is judged; `cur` is the run still in
progress. -/
def blankingEnd (s longest cur : Nat) (n : Lane) : Lane :=
  let x := n.sw s
  if x.blank && decide (x.blankEnd ≤ n.gnow) then
    let n := n.setSw s { x with blank := false, runT := if 0 < cur then some (x.blankEnd - cur) else none }
    if x.softq ≤ longest then n.reflex s false
    else if 0 < cur then n
    else if 0 < longest then n.stepSat (F.GDV_LEGn_CNT.BLNKSOFT (swLeg s))
    else n
  else n

def execBlankingEnd (l : LaneId) (t : Nat) (sw : Fin 14) (longest cur : Nat) (s : State) : Host.Outcome State Fault Refusal :=
  onAon l t s (blankingEnd sw.val longest cur)

/-- SOFT_PERIOD_END (R139, R143): the switch is held off at step 7 and a deferred complement turn-on proceeds if it is
still commanded. -/
def softPeriodEnd (s : Nat) (n : Lane) : Lane :=
  match (n.sw s).softEnd with
  | some e =>
    if e ≤ n.gnow then
      let n := n.setSw s { n.sw s with softEnd := none, strength := 7 }
      let c := swComp s
      if (n.sw c).deferred && (n.sw c).lvl && !n.swBarred c then n.swTurnOn c n.gnow else n
    else n
  | none => n

def execSoftPeriodEnd (l : LaneId) (t : Nat) (sw : Fin 14) (s : State) : Host.Outcome State Fault Refusal :=
  onAon l t s (softPeriodEnd sw.val)

/-! ## Off-state checks (R148 to R150) -/

/-- Switch `s` is commanded off: by the lane die, and under direct-pin drive by its pin. -/
def Lane.cmdOff (n : Lane) (s : Nat) : Bool :=
  !n.on (if s % 2 = 0 then F.PWM_LEGn_ACT.H (swLeg s) else F.PWM_LEGn_ACT.L (swLeg s)) && !(n.gdv.direct && n.gdv.dgpin.testBit s)

/-- A write of GDV_CHKCMD: the conditions of R148 and R149, and those of a running check and a cleared EN. -/
def chkCmd (org : Nat) (v : W32) (n : Lane) : Lane :=
  let kind := F.GDV_CHKCMD.KIND.val v
  let tgt := F.GDV_CHKCMD.TARGET.val v
  let ok := n.on F.GDV_CTRL.EN && n.gdv.check.isNone &&
    (if kind = 1 then decide (1 ≤ tgt ∧ tgt ≤ 7) && n.cmdOff (swIx tgt true) && n.cmdOff (swIx tgt false) && n.grpQuiet (legGroup tgt)
     else if kind = 2 then decide (tgt ≤ 13) && n.cmdOff tgt
       && n.grpQuiet (legGroup (swLeg tgt))
     else false)
  if ok then (n.ctlFlush.upGdv fun x_ => { x_ with check := some { kind := kind, target := tgt, start := n.gnow } }).setF F.GDV_STAT.BUSY 1
  else n.rejectState org R.GDV_CHKCMD

/-- COMPARATOR_SELF_TEST: a write of GDV_CHKCMD with KIND 1. -/
def execComparatorSelfTest (l : LaneId) (t : Nat) (org : Origin) (v : W32) (s : State) : Host.Outcome State Fault Refusal :=
  onLane l t s fun n => n.regWrite org.code R.GDV_CHKCMD v (chkCmd org.code v)

/-- GATE_LEAKAGE_CHECK: a write of GDV_CHKCMD with KIND 2. -/
def execGateLeakageCheck (l : LaneId) (t : Nat) (org : Origin) (v : W32) (s : State) : Host.Outcome State Fault Refusal :=
  onLane l t s fun n => n.regWrite org.code R.GDV_CHKCMD v (chkCmd org.code v)

/-- The result of a check: the self-test's outcome match, or the leakage measurement against GDV_LEAKLIM (R148, R149). -/
def chkResult (n : Lane) (c : Check) (pass slow : Bool) (tch vend : Nat) : Nat :=
  if c.kind = 1 then (if pass then 1 else 2)
  else if slow || decide (2000 < tch) then 5
  else if tch < n.f F.GDV_LEAKLIM.TMIN then 4
  else if vend < n.f F.GDV_LEAKLIM.VMIN then 3
  else 1

/-- The GCLK cycles a check with this result takes (R148, R149): the self-test 720; of the leakage check 400 for step 1, step 2 until the
level is reached (TCH in 10 ns) or 20 µs, 20,000 for step 3 and 40 for step 4. -/
def chkTime (c : Check) (r tch : Nat) : Nat :=
  if c.kind = 1 then 720 else if r = 5 then 400 + 8000 else if r = 4 then 400 + 4 * tch else 400 + 4 * tch + 20000 + 40

/-- CHECK_COMPLETE (R150): the check in progress completes, its time over; `pass` is the self-test's outcome, `slow`, `tch` and `vend`
the leakage measurement, which ends at the step that fails (log entry 93). -/
def checkComplete (pass slow : Bool) (tch vend : Nat) (n : Lane) : Lane :=
  match n.gdv.check with
  | none => n
  | some c =>
    let r := chkResult n c pass slow tch vend
    if n.gnow < c.start + chkTime c r tch then n
    else
    let n := (n.upGdv fun x_ => { x_ with check := none }).setF F.GDV_STAT.BUSY 0
    let n := if c.kind = 2 then n.setF F.GDV_CHKRES.TCH tch else n
    let n := if c.kind = 2 ∧ r ≠ 4 ∧ r ≠ 5 then n.setF F.GDV_CHKRES.VEND vend else n
    let n := if r = 1 then
        (if c.kind = 1 then n.setF (F.GDV_LEGn_CHK.STEST c.target) 1
         else if c.target % 2 = 0 then n.setF (F.GDV_LEGn_CHK.LEAK_H (swLeg c.target)) 1
         else n.setF (F.GDV_LEGn_CHK.LEAK_L (swLeg c.target)) 1)
      else n
    let n := ((n.setF F.GDV_CHKSTAT.RESULT r).setF F.GDV_CHKSTAT.KIND c.kind).setF F.GDV_CHKSTAT.TARGET c.target
    n.sqEvent F.GDV_CHKSTAT.DONE

def execCheckComplete (l : LaneId) (t : Nat) (pass slow : Bool) (tch : BitVec 16) (vend : BitVec 12) (s : State) :
    Host.Outcome State Fault Refusal :=
  onDomain l t dACT s (checkComplete pass slow tch.toNat vend.toNat)

/-! ## Latch clears (R136, R151) -/

/-- The group of a switch reads UNARMED, IDLE or TRIPPED. -/
def Lane.grpRest (n : Lane) (s : Nat) : Bool :=
  let st := n.grp (legGroup (swLeg s))
  st == gUNARMED || st == gIDLE || st == gTRIPPED

/-- The lock-out latch of switch `s` may be cleared (R136). -/
def Lane.uvloClrOk (n : Lane) (s : Nat) : Bool := !n.bit F.GDV_UVLO.LIVE s && n.grpRest s

/-- The reflex latch of switch `s` may be cleared (R151); the gate-drive die counts the clears of this start. -/
def Lane.reflexClrOk (n : Lane) (s : Nat) : Bool :=
  let leg := swLeg s
  n.grpRest s && n.on (F.GDV_LEGn_CHK.STEST leg)
    && n.on (if s % 2 = 0 then F.GDV_LEGn_CHK.LEAK_H leg else F.GDV_LEGn_CHK.LEAK_L leg)
    && decide (Cells.get 0 n.gdv.clrs s < 3)

def Lane.uvloClr (n : Lane) (s : Nat) : Lane :=
  (n.setBit F.GDV_UVLO.LATCH s false).upGdv fun g => { g with lockLt := natSetBit g.lockLt s false }

def Lane.reflexClr (n : Lane) (s : Nat) : Lane :=
  let leg := swLeg s
  let n := n.stepSat (if s % 2 = 0 then F.GDV_LEGn_CNT.CLR_H leg else F.GDV_LEGn_CNT.CLR_L leg)
  let n := (n.setBit F.GDV_REFLEX.LATCH s false).setBit F.GDV_REFLEX.HARD s false
  n.upGdv fun g => { g with
    latch := natSetBit g.latch s false, hardLt := natSetBit g.hardLt s false, clrs := Cells.set 0 g.clrs s (Cells.get 0 g.clrs s + 1) }

/-- A write of GDV_CLR: each bit is judged on the state before the write (R80), one STATE record covers it. -/
def gdvClr (org : Nat) (v : W32) (n : Lane) : Lane :=
  let u := fun s => (F.GDV_CLR.UVLO.val v).testBit s
  let r := fun s => (F.GDV_CLR.REFLEX.val v).testBit s
  let bad := switches.any fun s => (u s && !n.uvloClrOk s) || (r s && !n.reflexClrOk s)
  let m := forEach switches (fun s m => if u s && n.uvloClrOk s then m.uvloClr s else m) n
  let m := forEach switches (fun s m => if r s && n.reflexClrOk s then m.reflexClr s else m) m
  let m := m.ctlFlush
  if bad then m.rejectState org R.GDV_CLR else m

def execUvloLatchClear (l : LaneId) (t : Nat) (org : Origin) (v : W32) (s : State) : Host.Outcome State Fault Refusal :=
  onLane l t s fun n => n.regWrite org.code R.GDV_CLR v (gdvClr org.code v)

def execReflexLatchClear (l : LaneId) (t : Nat) (org : Origin) (v : W32) (s : State) : Host.Outcome State Fault Refusal :=
  onLane l t s fun n => n.regWrite org.code R.GDV_CLR v (gdvClr org.code v)

/-! ## Enable and the block's other registers -/

/-- GDV_CTRL.EN (R152): set only with the structure locked, cleared only while no group is PENDING, RUN or SAFE; clearing
it holds every switch and both feed switches off. -/
def gdvEnable (org : Nat) (v : W32) (n : Lane) : Lane :=
  let en := F.GDV_CTRL.EN.val v == 1
  if en && !n.on F.SYS_ASHLOCK.LOCK then n.rejectState org R.GDV_CTRL
  else if !en && n.on F.GDV_CTRL.EN && ([0, 1, 2].any fun g => !n.grpQuiet g || n.grp g == gSAFE) then n.rejectState org R.GDV_CTRL
  else
    let was := n.on F.GDV_CTRL.EN
    let n := n.ctlFlush.store R.GDV_CTRL v
    if !en && was then
      let n := n.checkAbort
      let n := forEach switches (fun s n => n.swOff s n.gnow) n
      (feedOff 1 .enable (feedOff 0 .enable n))
    else n

def execGdvBlockEnable (l : LaneId) (t : Nat) (org : Origin) (v : W32) (s : State) : Host.Outcome State Fault Refusal :=
  onLane l t s fun n => n.regWrite org.code R.GDV_CTRL v (gdvEnable org.code v)

/-- A write to STR, BLANK, THR or QUAL changes a field that no TUNING entry names (R132). -/
def Lane.untuned (n : Lane) (off : Nat) (v : W32) : Bool :=
  match regRow off with
  | some r => ((n.rd off ^^^ v) &&& BitVec.ofNat 32 r.wmask &&& ~~~(n.tuneMask off)) != 0#32
  | none => false

/-- The effect of an accepted write to a GDV register without a row of its own (R132, R137, R140, R149, R153); the per-leg
settings go on to the gate-drive die over the control lane (R127). -/
def gdvStore (org off : Nat) (v : W32) (n : Lane) : Lane :=
  let legs := [1, 2, 3, 4, 5, 6, 7]
  let badThr := legs.any fun i => off == R.GDV_LEGn_THR i &&
    (let sl := (F.GDV_LEGn_THR.SOFT_L i).val v
     let hl := (F.GDV_LEGn_THR.HARD_L i).val v
     let sh := (F.GDV_LEGn_THR.SOFT_H i).val v
     let hh := (F.GDV_LEGn_THR.HARD_H i).val v
     decide (sl < 5) || decide (sh < 5) || decide (hl < sl + 2) || decide (hh < sh + 2))
  let badQual := legs.any fun i => off == R.GDV_LEGn_QUAL i &&
    ((F.GDV_LEGn_QUAL.SOFTQ_L i).val v == 0 || (F.GDV_LEGn_QUAL.SOFTQ_H i).val v == 0)
  let badLim := off == R.GDV_LEAKLIM && decide (1000 < F.GDV_LEAKLIM.VMIN.val v)
  let badRb := off == R.GDV_RBCTL && ([0, 1].any fun f => (F.GDV_RBCTL.EN.val v).testBit f && !n.bit F.GDV_FEEDCFG.FEEDS f)
  if (isGateSet off && n.untuned off v) || badThr || badQual || badLim || badRb then n.rejectState org off
  else
    let n := n.store off v
    if isGateSet off then n.gateSend off else if off = R.GDV_RBCTL then n.ctlFlush else n

end Sys2Proof.Machine
end

