-- ==== Sys2Proof/Machine/Tpe.lean ====
section
/-! DEFINITION. Tlasyn links, frames, schedule, startup and synchronisation (spec/11, 12): ports and ranging, the schedule
matrix, buffers, copies received and forwarded, arbitration, clock synchronisation and external steps. Instants of symbols
are in 0.4 ns units of lane time, deviations are compared in tenths of a nanosecond. -/

namespace Sys2Proof.Machine

/-! ## Events (R295, R329) -/

/-- Keystone code of the TPE source's kind `k` (R351). -/
def tpeSrc (k : Nat) : Nat := 0xC7 + k

/-- A link or frame event of port `p` (R295): recorded only while its flag is clear, PORT with the first, raised always. -/
def Lane.lnkEvent (n : Lane) (flag : FRef) (kind p : Nat) : Lane :=
  let n := if n.on flag then n
    else (if n.on F.TPE_LNKEVT.PVAL then n else n.setFs [(F.TPE_LNKEVT.PVAL, 1), (F.TPE_LNKEVT.PORT, p)]).sqEvent flag
  n.raise (tpeSrc kind) kind p

/-- STATE of the TPE (R314). -/
def tOFF : Nat := 0
def tLISTEN : Nat := 1
def tCOLD : Nat := 2
def tINTEG : Nat := 3
def tACTIVE : Nat := 4

def Lane.tpeSt (n : Lane) : Nat := n.f F.TPE_STAT.STATE

/-- A change of STATE records STATE and sets the Oapiec TPE event (R314). -/
def Lane.tpeTo (n : Lane) (st : Nat) : Lane :=
  if n.tpeSt = st then n
  else
    let n := (n.setF F.TPE_STAT.STATE st).sqEventOnce F.TPE_EVT.STATE
    n.eventW 13 (n.rd R.TPE_STAT)

/-! ## Ports (R277 to R279) -/

/-- Port states. -/
def pDARK : Nat := 0
def pTRAIN : Nat := 1
def pRANGING : Nat := 3
def pUP : Nat := 4

def Lane.portSt (n : Lane) (p : Nat) : Nat := n.f (F.TPE_PORTp_STAT.STATE p)
def Lane.portUp (n : Lane) (p : Nat) : Bool := n.portSt p == pUP

/-- The domain of port `p`. -/
def portDom (p : Nat) : Nat := if p < 2 then dSERX else dSERY

/-- TPE_SPAN holds the larger span of a channel's two ports, and 0 while one of them is not UP: the ring is a chain (R294). -/
def Lane.showSpan (n : Lane) : Lane :=
  let sp := fun c => if n.portUp (2 * c) && n.portUp (2 * c + 1) then max (n.tport (2 * c)).span (n.tport (2 * c + 1)).span else 0
  n.setFs [(F.TPE_SPAN.SPANX, sp 0), (F.TPE_SPAN.SPANY, sp 1)]

/-- The frames of a port, those of `sel` terminated with /V/ /T/ /R/ at instant `u`; one that has not begun by then never does. -/
def cutFrames (u : Nat) (sel : TxFrame → Bool) (fs : List TxFrame) : List TxFrame :=
  (fs.filter fun f => !(sel f && decide (u < f.start))).map fun f =>
    if sel f && decide (u < f.stop) then { f with stop := u, cut := true } else f

/-- The forward a copy feeds is not over. -/
def RxCopy.feeds (r : RxCopy) (u : Nat) : Bool :=
  match r.fwd with
  | some (_, e) => decide (u < e)
  | none => false

/-- CUTS steps at port `p`, and CUT is recorded and raised. -/
def Lane.cutCount (n : Lane) (p : Nat) : Lane := (n.stepSat (F.TPE_PORTp_CUT.CUTS p)).lnkEvent F.TPE_LNKEVT.CUT 6 p

/-- The forwards of the copies of `sel` arriving on port `p` are terminated at the other port. -/
def Lane.endForward (n : Lane) (p : Nat) (sel : RxCopy → Bool) : Lane :=
  let x := n.tport p
  let starts := (x.rx.filter sel).filterMap fun r => r.fwd.map fun w => w.1
  let n := n.setTport p { x with rx := x.rx.map fun r => if sel r then { r with fwd := none } else r }
  let y := n.tport (mate p)
  n.setTport (mate p) { y with tx := cutFrames n.units (fun f => !f.own && starts.contains f.start) y.tx }

/-- A forwarded copy that port `p` feeds is terminated at the other port, and CUTS steps at `p` (R279). -/
def Lane.cutForward (n : Lane) (p : Nat) : Lane :=
  let live : RxCopy → Bool := fun r => r.feeds n.units
  if (n.tport p).rx.any live then (n.endForward p live).cutCount p else n

/-- An own frame in progress on port `p` is terminated there (R279). -/
def Lane.cutOwn (n : Lane) (p : Nat) : Lane :=
  let x := n.tport p
  n.setTport p { x with tx := cutFrames n.units (fun f => f.own) x.tx }

/-- Nothing is forwarded out of port `p` any more: a copy its mate is receiving goes on without it. -/
def Lane.dropForward (n : Lane) (p : Nat) : Lane :=
  let x := n.tport p
  let y := n.tport (mate p)
  let n := n.setTport (mate p) { y with rx := y.rx.map fun r => { r with fwd := none } }
  n.setTport p { x with tx := cutFrames n.units (fun f => !f.own) x.tx }

/-- Port `p` leaves its state for `st`, DARK or TRAIN (R277, R278, R279). -/
def Lane.portDrop (n : Lane) (p st : Nat) : Lane :=
  let up := n.portUp p
  let n := ((n.cutForward p).cutOwn p).dropForward p
  let x := n.tport p
  let n := n.setTport p { x with rx := [], rng := none, span := 0, reply := none }
  let n := (n.setF (F.TPE_PORTp_STAT.STATE p) st).showSpan
  if up then (n.stepSat (F.TPE_PORTp_CUT.DOWNS p)).lnkEvent F.TPE_LNKEVT.DOWN 1 p else n

/-- Ports whose PEN bit is set and whose domain is on leave DARK; ports that lost either return to it (R277), as every port of a halted
lane does (R22). -/
def Lane.portsFollow (n : Lane) : Lane :=
  forEach [0, 1, 2, 3] (fun p n =>
    let want := n.bit F.TPE_LNKCTL.PEN p && n.domOn (portDom p) && n.domOn dTPE && !n.halted
    if want && n.portSt p == pDARK then n.setF (F.TPE_PORTp_STAT.STATE p) pTRAIN
    else if !want && n.portSt p != pDARK then n.portDrop p pDARK
    else n) n

/-- A write of TPE_LNKCTL (R277). -/
def penWrite (org : Nat) (v : W32) (n : Lane) : Lane :=
  let new := F.TPE_LNKCTL.PEN.val v
  let sets := [0, 1, 2, 3].any fun p => new.testBit p && !n.bit F.TPE_LNKCTL.PEN p
  if sets && (n.f F.SYS_ASHSTAT.STATE != 2 || n.halted) then n.rejectState org R.TPE_LNKCTL
  else (n.setF F.TPE_LNKCTL.PEN new).portsFollow

/-! ## Ranging (R280, R281) -/

/-- The four symbols of an /RA/ from instant `u` fall inside the frame. -/
def TxFrame.meets (f : TxFrame) (u : Nat) : Bool := decide (f.start < u + 32) && decide (u < f.stop)

/-- Port `p` will send frame `f`: frames that are over are forgotten, and an /RA/ that would fall inside `f` is not sent (R281). -/
def Lane.putTx (n : Lane) (p : Nat) (f : TxFrame) : Lane :=
  let x := n.tport p
  n.setTport p { x with
    tx := (x.tx.filter fun g => decide (n.units < g.stop + 32)) ++ [f]
    reply := x.reply.filter fun r => !f.meets r.at_ }

def Lane.node (n : Lane) : Nat := n.f F.TPE_CLNODE.NODE

/-- Send a /RQ/ with the next token on port `p`. -/
def Lane.sendRq (n : Lane) (p : Nat) : Lane :=
  let x := n.tport p
  match x.rng with
  | some r =>
    let tok := (x.token + 1) % 256
    n.setTport p { x with token := tok, rng := some { r with token := tok, sent := some n.now } }
  | none => n

/-- Begin a ranging of port `p`. -/
def Lane.beginRanging (n : Lane) (p : Nat) (cmd : Bool) : Lane :=
  let x := n.tport p
  let n := n.setTport p { x with rng := some { cmd := cmd, token := x.token } }
  if cmd then n else n.sendRq p

/-- A ranging is invalid (R281). -/
def Lane.rangingFails (n : Lane) (p : Nat) (cmd : Bool) : Lane :=
  let n := n.setTport p { n.tport p with rng := none }
  let n := n.lnkEvent F.TPE_LNKEVT.RANGE 2 p
  if cmd then n else n.setF (F.TPE_PORTp_STAT.STATE p) pTRAIN

/-- The largest and least of a list of integers. -/
def listMax (xs : List Int) : Int := xs.foldl max (xs.getD 0 0)
def listMin (xs : List Int) : Int := xs.foldl min (xs.getD 0 0)

/-- Round x / d to the nearest integer, halfway to even, for x ≥ 0. -/
def roundEven (x : Int) (d : Nat) : Int :=
  let q := x / d
  let r := x % d
  if 2 * r < d then q else if 2 * r > d then q + 1 else if q % 2 = 0 then q else q + 1

/-- All 16 exchanges are done (R280, R281): `got` are link delays in 0.2 ns steps. -/
def Lane.rangingDone (n : Lane) (p node port : Nat) (cmd : Bool) (got : List Int) : Lane :=
  let mean := roundEven (got.foldl (· + ·) 0) 32
  let spread := (listMax got - listMin got + 1) / 2
  if spread > 8 then n.rangingFails p cmd
  else
    let n := n.setTport p { n.tport p with rng := none }
    let n := n.setFs [(F.TPE_PORTp_RANGE.VALID p, 1), (F.TPE_PORTp_RANGE.LINKDLY p, mean.toNat), (F.TPE_PORTp_RANGE.SPREAD p, spread.toNat),
      (F.TPE_PORTp_STAT.NBVAL p, 1), (F.TPE_PORTp_STAT.NBNODE p, node), (F.TPE_PORTp_STAT.NBPORT p, port)]
    if cmd then n else n.setF (F.TPE_PORTp_STAT.STATE p) pUP

/-- RANGING_REPLY_RECEIVE (R280, R281): an /RA/ `rtt` units after the /RQ/ with its token, within 2 µs, completes an exchange. -/
def rangingReply (p token node port : Nat) (rtt : Nat) (n : Lane) : Lane :=
  match (n.tport p).rng with
  | some r =>
    if r.sent.isSome && r.token == token && decide (rtt ≤ 5000) then
      let got := r.got ++ [(rtt : Int) - 512]
      let n := n.setTport p { n.tport p with rng := some { r with got := got, tries := 0, sent := none } }
      if got.length ≥ 16 then n.rangingDone p node port r.cmd got
      else if r.cmd then n else n.sendRq p
    else n
  | none => n

/-- RANGING_EXCHANGE_TIMEOUT (R281): 2 µs without a reply; four repeats per exchange. -/
def rangingTimeout (p : Nat) (n : Lane) : Lane :=
  match (n.tport p).rng with
  | some r =>
    match r.sent with
    | some t =>
      if t + 800 ≤ n.now then
        if r.tries ≥ 4 then n.rangingFails p r.cmd
        else
          let n := n.setTport p { n.tport p with rng := some { r with tries := r.tries + 1, sent := none } }
          if r.cmd then n else n.sendRq p
      else n
    | none => n
  | none => n

/-- RANGING_REQUEST_RECEIVE (R280, R281): the /RA/, with its token, this node's number and the port's index, leaves 64 symbols after the
K28.0 arrived at instant `ta`, unless it would fall inside a frame on the port. -/
def rangingRequest (p token ta : Nat) (n : Lane) : Lane :=
  if 2 ≤ n.portSt p then
    let x := n.tport p
    if x.tx.any fun f => f.meets (ta + 512) then n
    else n.setTport p { x with reply := some { token := token, node := n.node, port := p, at_ := ta + 512 } }
  else n

/-- PORT_TRAINED (R277): signal, equaliser at `eq` (2 dB steps) and synchronisation take a port to RANGING. -/
def portTrained (p eq : Nat) (n : Lane) : Lane :=
  if n.portSt p = pTRAIN then
    let n := n.setFs [(F.TPE_PORTp_STAT.SIGDET p, 1), (F.TPE_PORTp_STAT.STATE p, pRANGING),
      (F.TPE_PORTp_STAT.EQ p, if n.on (F.TPE_PORTp_CFG.EQMODE p) then n.f (F.TPE_PORTp_CFG.EQFIX p) else eq)]
    n.beginRanging p false
  else n

/-- PORT_SYNC_LOSS (R278): synchronisation or signal is lost. -/
def portSyncLoss (p : Nat) (sigLost : Bool) (n : Lane) : Lane :=
  let n := if sigLost then n.setF (F.TPE_PORTp_STAT.SIGDET p) 0 else n
  if 2 ≤ n.portSt p then n.portDrop p pTRAIN else n

/-- A write of TPE_LNKCMD (R281, R296): ranging is rejected unless every named port is UP; RETRAIN sends enabled ports to
TRAIN. -/
def lnkCmd (org : Nat) (v : W32) (n : Lane) : Lane :=
  let rg := F.TPE_LNKCMD.RANGE.val v
  let rt := F.TPE_LNKCMD.RETRAIN.val v
  if [0, 1, 2, 3].any fun p => rg.testBit p && !n.portUp p then n.rejectState org R.TPE_LNKCMD
  else
    let n := forEach [0, 1, 2, 3] (fun p n =>
      if rg.testBit p && (n.tport p).rng.isNone then n.beginRanging p true else n) n
    forEach [0, 1, 2, 3] (fun p n => if rt.testBit p && n.portSt p != pDARK then n.portDrop p pTRAIN else n) n

/-! ## Course time (R297) -/

/-- LCLK from the course boundary to the end of macrotick M − 1: the edge nearest M × (40 + RATE / 2^20). -/
def Lane.mt (n : Lane) (m : Nat) : Nat := (((m : Int) * (41943040 + n.sf F.TPE_RATE.RATE) + 524288) / 1048576).toNat

/-- The same in the present course, whose first macroticks may have ended at the rate before (R320). -/
def Lane.mtNow (n : Lane) (m : Nat) : Nat :=
  let k := min m n.tpe.rchM
  (((k : Int) * n.tpe.rchQ + ((m - k : Nat) : Int) * (41943040 + n.sf F.TPE_RATE.RATE) + 524288) / 1048576).toNat

/-- Macroticks since the boundary (TPE_TIME): those ended at the rate before, and those of the present rate after them. -/
def Lane.mticks (n : Lane) : Nat :=
  let d : Int := (n.now - n.tpe.bT : Nat)
  let q : Int := 41943040 + n.sf F.TPE_RATE.RATE
  (n.tpe.rchM + (((2 * d + 1) * 524288 - n.tpe.rchM * n.tpe.rchQ + q - 1) / q - 1)).toNat

def Lane.course (n : Lane) : Nat := n.f F.TPE_STAT.COURSE

/-- The cycle at which course number `c`, taken as the one nearest the present course, begins. -/
def Lane.courseStart (n : Lane) (c : Nat) : Int :=
  let d : Int := ((c + 96 - n.course) % 64 : Nat) - 32
  if d = 0 then n.tpe.bT
  else if d = -1 then n.tpe.prevT
  else if d = 1 then (match n.tpe.next with
    | some t => (t : Int)
    | none => n.tpe.bT + n.mt (n.f F.TPE_CLCOURSE.COURSE))
  else n.tpe.bT + d * n.mt (n.f F.TPE_CLCOURSE.COURSE)

/-! ## The schedule matrix (R300, R301) -/

/-- The entry of row `c` and slot `s`. -/
def Lane.entry (n : Lane) (c s : Nat) : W32 := n.rd (0x060000 + 4 * (256 * c + s))

/-- Fields of an entry. -/
def eVal (e : W32) : Bool := e.toNat.testBit 31
def eChan (e : W32) (ch : Nat) : Bool := e.toNat.testBit (30 - ch)
def eOwner (e : W32) : Nat := bits e 28 24
def eBuf (e : W32) : Nat := bits e 23 16
def eKind (e : W32) : Nat := bits e 15 12
def eRep (e : W32) : Nat := bits e 11 8

/-- The entry in force for slot `s` in course `k`, with its row. -/
def Lane.inForce (n : Lane) (k s : Nat) : Option (Nat × W32) :=
  ([0, 1, 2, 3, 4, 5, 6].map fun e => (k % 2 ^ e, n.entry (k % 2 ^ e) s, e)).findSome? fun q =>
    if eVal q.2.1 && eRep q.2.1 == q.2.2 then some (q.1, q.2.1) else none

/-- Every listed entry of the matrix: row, slot, word; rising. -/
def Lane.entries (n : Lane) : List (Nat × Nat × W32) :=
  (n.regs.filter fun c => decide (0x060000 ≤ c.1) && decide (c.1 < 0x070000) && eVal c.2).map fun c =>
    ((c.1 - 0x060000) / 1024, (c.1 - 0x060000) / 4 % 256, c.2)

/-! ## Buffers (R304 to R310) -/

/-- COMMIT (R305): the write copy becomes newest with age 0, WIDX moves to a copy neither newest nor being sent. -/
def Lane.commit (n : Lane) (b : Nat) : Lane :=
  let w := n.f (F.TPE_BUFb_STAT.WIDX b)
  let n := n.setFs [(F.TPE_BUFb_STAT.NEWEST b, w), (F.TPE_BUFb_STAT.AGE b, 0), (F.TPE_BUFb_STAT.VALID b, 1),
    (F.TPE_BUFb_STAT.WIDX b, freeCopy (w :: n.heldCopies b))]
  n.upTpe fun s => { s with once := s.once.filter (· != b) }

/-- A delivery is discarded (R307). -/
def Lane.lenErr (n : Lane) (b : Nat) : Lane :=
  let n := (n.stepSat (F.TPE_BUFb_CNT.LENERR b)).sqEventOnce F.TPE_EVT.BUF
  if n.tpe.bufRsd then n else (n.upTpe fun s => { s with bufRsd := true }).raise (tpeSrc 8) 8 b

/-- BUFFER_DELIVERY (R292, R307, R310): a payload becomes the newest copy of its RX buffer 32 LCLK after its /T/, or is discarded. -/
def Lane.deliverBuf (n : Lane) (b : Nat) (ws : List W32) : Lane × Option Nat :=
  if n.f (F.TPE_BUFb_CFG.DIR b) = 2 ∧ ws.length = 2 * n.f (F.TPE_BUFb_CFG.LEN b) then
    (n.upTpe fun s => { s with dlv := s.dlv ++ [{ due := n.now + 32, buf := b, ws := ws }] }, some b)
  else (n.lenErr b, none)

/-- A write of TPE_BUFb_CMD (R305, R308): COMMIT for TX buffers, ACQUIRE and RELEASE for RX buffers. -/
def bufCmd (org b : Nat) (v : W32) (n : Lane) : Lane :=
  let dir := n.f (F.TPE_BUFb_CFG.DIR b)
  let c := (F.TPE_BUFb_CMD.COMMIT b).val v == 1
  let a := (F.TPE_BUFb_CMD.ACQUIRE b).val v == 1
  let r := (F.TPE_BUFb_CMD.RELEASE b).val v == 1
  if (c && dir != 1) || ((a || r) && dir == 1) then n.rejectState org (R.TPE_BUFb_CMD b)
  else
    let n := if c then n.commit b else n
    let n := if r then n.setFs [(F.TPE_BUFb_STAT.PIN b, 3), (F.TPE_BUFb_STAT.PINAGE b, 0)] else n
    if a then n.setFs [(F.TPE_BUFb_STAT.PIN b, n.f (F.TPE_BUFb_STAT.NEWEST b)), (F.TPE_BUFb_STAT.PINAGE b, n.f (F.TPE_BUFb_STAT.AGE b))]
    else n

/-- A write to buffer memory (R305): a copy of a TX buffer other than its write copy rejects it. -/
def bufMemWrite (org off : Nat) (v : W32) (n : Lane) : Lane :=
  let b := (off - 0x100000) / 0x400
  let k := (off - 0x100000) % 0x400 / 0x100
  if k < 3 then
    let dir := n.f (F.TPE_BUFb_CFG.DIR b)
    if dir = 1 ∧ k ≠ n.f (F.TPE_BUFb_STAT.WIDX b) then n.rejectState org off
    else n.wr off v
  else n

/-- The newest copy of `b` may not be sent (R306). -/
def Lane.bufStale (n : Lane) (b : Nat) : Bool :=
  let mx := n.f (F.TPE_BUFb_CFG.MAXAGE b)
  !n.on (F.TPE_BUFb_STAT.VALID b) || (mx != 255 && decide (mx < n.f (F.TPE_BUFb_STAT.AGE b)))
    || (n.on (F.TPE_BUFb_CFG.SENDONCE b) && n.tpe.once.contains b)

/-! ## Claims (R311, R312) -/

/-- A write of TPE_CLAIMk (R311). -/
def claimWrite (org k : Nat) (v : W32) (n : Lane) : Lane :=
  let b := (F.TPE_CLAIMk.CBUF k).val v
  let ln := (F.TPE_CLAIMk.CLEN k).val v
  -- a relay in progress owns claim register 3 (R426)
  if k = 3 ∧ org = 0 ∧ !n.upd.queue.isEmpty then n.rejectState org (R.TPE_CLAIMk k)
  else if (F.TPE_CLAIMk.VAL k).val v = 1 ∧ ¬ (n.f (F.TPE_BUFb_CFG.DIR b) = 1 ∧ n.f (F.TPE_BUFb_CFG.LEN b) = ln) then
    n.rejectState org (R.TPE_CLAIMk k)
  else n.store (R.TPE_CLAIMk k) v

/-- Claims in the order of R312: PRIO descending, then ORIGIN, then SLOT ascending. -/
def claimLe (a b : Claim) : Bool :=
  if a.prio ≠ b.prio then decide (b.prio < a.prio)
  else if a.origin ≠ b.origin then decide (a.origin < b.origin)
  else decide (a.slot ≤ b.slot)

def insertClaim (c : Claim) : List Claim → List Claim
  | [] => [c]
  | d :: ds => if claimLe c d then c :: d :: ds else d :: insertClaim c ds

def sortClaims (cs : List Claim) : List Claim := cs.foldr insertClaim []

/-- Macroticks a grant of length `len` takes among `nodes` nodes: P of R312. -/
def grantTime (len nodes : Nat) : Nat := ((17 + 8 * len) * 32 + 999) / 1000 + 4 * nodes + 20

/-- GRANT_COMPUTE (R312): grants from `g` on, at most `room` of them, up to macrotick `lim`; from the first claim that does
not fit every later one lapses. -/
def grantList (nodes lim : Nat) : List Claim → Nat → Nat → List Claim
  | [], _, _ => []
  | c :: cs, g, room =>
    let e := g + grantTime c.len nodes
    if e ≤ lim ∧ 0 < room then { c with start := g } :: grantList nodes lim cs e (room - 1) else []

/-! ## Slot spacing (R303) -/

/-- The LEN of the longest frame an entry's owner can send (R302). -/
def Lane.longestLen (n : Lane) (e : W32) : Nat :=
  let l := n.f (F.TPE_BUFb_CFG.LEN (eBuf e))
  if eKind e = 1 then l else if eKind e = 4 then 1 else l + 1

/-- The spacing rule fails for slot `s` with entry `e` and span `sp` in 0.4 ns units. -/
def Lane.spacingBad (n : Lane) (s : Nat) (e : W32) (sp : Nat) : Bool :=
  let nx := if s + 1 < n.f F.TPE_CLSIZE.SLOTS then n.f (F.TPE_SLOTs.START (s + 1)) else n.f F.TPE_CLARB.VALUE
  decide (((nx : Int) - n.f (F.TPE_SLOTs.START s)) * 1000 < ((17 + 8 * n.longestLen e) * 32 + 200 * n.f F.TPE_ACCW.W + 4 * sp : Nat))

/-- SPACING_CHECK (R303): own slots against the span of channel `ch`; failing ones are suppressed. -/
def Lane.spacingCheck (n : Lane) (ch sp : Nat) : Lane :=
  let own := n.entries.filter fun q => eOwner q.2.2 == n.node && eKind q.2.2 != 2 && eChan q.2.2 ch && n.spacingBad q.2.1 q.2.2 sp
    && !n.tpe.supp.contains (ch, q.1, q.2.1)
  own.foldl (fun n q =>
    let n := n.upTpe fun s => { s with supp := (ch, q.1, q.2.1) :: s.supp }
    let n := if n.on F.TPE_SPACE.VAL then n
      else n.setFs [(F.TPE_SPACE.VAL, 1), (F.TPE_SPACE.CHAN, ch), (F.TPE_SPACE.COURSE, q.1), (F.TPE_SPACE.SLOT, q.2.1)]
    ((n.stepSat F.TPE_SPACE.COUNT).sqEventOnce F.TPE_EVT.SPACING).raise (tpeSrc 7) 7 q.2.1) n

/-- The spacing check against TPE_SPAN of channel `ch`, where it exceeds every value since EN (R303). -/
def Lane.spanSeen (n : Lane) (ch : Nat) : Lane :=
  let sp := if ch = 0 then n.f F.TPE_SPAN.SPANX else n.f F.TPE_SPAN.SPANY
  if ch = 0 then (if n.tpe.spanX < sp then (n.upTpe fun s => { s with spanX := sp }).spacingCheck 0 sp else n)
  else (if n.tpe.spanY < sp then (n.upTpe fun s => { s with spanY := sp }).spacingCheck 1 sp else n)

/-- OWN_FRAME_RETURN (R294): `tr` is the transit of an own frame back on port `p`. -/
def Lane.ownReturn (n : Lane) (p tr : Nat) : Lane :=
  let x := n.tport p
  let n := (n.setTport p { x with span := max x.span tr }).showSpan
  n.spanSeen (chanOf p)

/-! ## Sending (R285, R302, R305, R306, R313) -/

/-- The header of a frame (R283), byte i in bits [8i+7:8i]. -/
def header (ty : Nat) (claim : Bool) (ch origin slot course len dly hop : Nat) : BitVec 64 :=
  BitVec.ofNat 64 (16 + ty + 2 ^ 8 * (origin + 32 * ch + 64 * b1 claim) + 2 ^ 16 * slot + 2 ^ 24 * course + 2 ^ 32 * len
    + 2 ^ 40 * dly + 2 ^ 56 * hop)

def headBytes (h : BitVec 64) : List Nat := (List.range 8).map fun i => h.toNat / 2 ^ (8 * i) % 256

/-- HCRC and FCRC (R284). -/
def hcrcOf (h : BitVec 64) : Nat := crc16 (headBytes h)
def fcrcOf (h : BitVec 64) (ws : List W32) : Nat := crc32 ((headBytes h).take 5 ++ wordsBytes ws)

/-- The lowest-numbered pending claim register. -/
def Lane.claimReady (n : Lane) : Option Nat := [0, 1, 2, 3].find? fun k => n.on (F.TPE_CLAIMk.VAL k)

/-- The two's complement halfword of an integer. -/
def half16 (x : Int) : Nat := (x % 65536).toNat

/-- The sync word (R326). -/
def Lane.syncWord (n : Lane) : List W32 :=
  let ext := n.on F.TPE_EXTCFG.EN && n.f F.TPE_CLNODE.EXTNODE == n.node
  let nx := if ext then n.tpe.nextSt.getD 0 else 0
  let th := n.tpe.thisSt
  [BitVec.ofNat 32 (half16 nx + 65536 * half16 (th.getD 0)), BitVec.ofNat 32 (b1 (ext && n.tpe.nextSt.isSome) + 2 * b1 th.isSome)]

/-- A NULL is fetched for buffer `b` (R306). -/
def Lane.stepNull (n : Lane) (b : Nat) : Lane := n.stepSat (F.TPE_BUFb_CNT.NULLS b)

/-- Hold the newest copy of `b` until instant `u` (R305). -/
def Lane.holdNewest (n : Lane) (b u : Nat) : Lane :=
  let k := n.f (F.TPE_BUFb_STAT.NEWEST b)
  n.upTpe fun s => { s with hold := (b, k, u) :: s.hold.filter fun h => decide (n.units < h.2.2) }

/-- Instant at which a frame of length `len` begun in cycle `start` has left, with its latest start. -/
def leaves (start len : Nat) : Nat := start * 25 / 4 + 64 + (17 + 8 * len) * 8

/-- The frame fetched for an own slot (R302, R305, R306, R311). -/
def Lane.fetchSlot (n : Lane) (k s row : Nat) (e : W32) (start : Nat) : Lane :=
  let b := eBuf e
  let kind := eKind e
  let ok := fun ch => eChan e ch && !n.tpe.supp.contains (ch, row, s)
  let fr : Fetched := { arb := false, ix := s, course := k, kind := kind, buf := b, copy := n.f (F.TPE_BUFb_STAT.NEWEST b), x := ok 0, y := ok 1, start := start, ty := 1, claim := false, payload := [] }
  let put := fun (n : Lane) (f : Fetched) => n.upTpe fun x => { x with fet := x.fet ++ [f] }
  if !(fr.x || fr.y) then n
  else if kind = 4 then
    put n { fr with ty := 3, payload := [BitVec.ofNat 32 (n.f F.TPE_CLNODE.RANK + 256 * b1 (n.tpeSt == tACTIVE)), 0#32] }
  else if kind = 3 then
    let ws := if n.bufStale b then [] else n.bufCopy b (n.f (F.TPE_BUFb_STAT.NEWEST b))
    let n := if n.bufStale b then n else n.holdNewest b (leaves start (1 + n.f (F.TPE_BUFb_CFG.LEN b)))
    put n { fr with ty := 2, payload := n.syncWord ++ ws }
  else if n.bufStale b then put (n.stepNull b) fr
  else
    let ws := n.bufCopy b (n.f (F.TPE_BUFb_STAT.NEWEST b))
    let n := n.holdNewest b (leaves start (1 + n.f (F.TPE_BUFb_CFG.LEN b)))
    match (if kind = 5 then n.claimReady else none) with
    | some c =>
      let pr := n.f (F.TPE_CLAIMk.PRIO c)
      let ln := n.f (F.TPE_CLAIMk.CLEN c)
      let cb := n.f (F.TPE_CLAIMk.CBUF c)
      let n := (n.setF (F.TPE_CLAIMk.VAL c) 0).upTpe fun x => { x with
        claims := x.claims ++ [{ prio := pr, len := ln, buf := cb, origin := n.node, slot := s }] }
      put n { fr with ty := 0, claim := true, payload := ws ++ [BitVec.ofNat 32 (pr + 256 * ln + 65536 * cb), 0#32] }
    | none => put n { fr with ty := 0, payload := ws }

/-- The node may send the frame of an entry in its present state (R314, R315). -/
def Lane.maySend (n : Lane) (kind : Nat) : Bool := n.tpeSt == tACTIVE || (n.tpeSt == tCOLD && kind == 4)

/-- Course and start of the course whose frames are fetched now: after the start of the gap the next one's. -/
def Lane.fetchCourse (n : Lane) : Nat × Nat :=
  match n.tpe.next with
  | some t => ((n.course + 1) % 64, t)
  | none => (n.course, n.tpe.bT)

/-- BUFFER_FETCH (R305, R313): 64 LCLK before the start of slot or grant `ix`. -/
def bufferFetch (arb : Bool) (ix : Nat) (n : Lane) : Lane :=
  let c := n.fetchCourse
  if n.tpe.fetIx.contains (arb, ix) then n
  else if arb then
    match n.tpe.grants[ix]? with
    | some g =>
      let start := n.tpe.bT + n.mt g.start
      if g.origin = n.node ∧ n.tpeSt = tACTIVE ∧ n.tpe.next.isNone ∧ start ≤ n.now + 64 then
        let n := n.upTpe fun s => { s with fetIx := (true, ix) :: s.fetIx }
        if n.bufStale g.buf then n
        else
          let ws := n.bufCopy g.buf (n.f (F.TPE_BUFb_STAT.NEWEST g.buf))
          let n := n.holdNewest g.buf (leaves start (ws.length / 2))
          n.upTpe fun s => { s with fet := s.fet ++ [{ arb := true, ix := ix, course := n.course, kind := 0, buf := g.buf, copy := n.f (F.TPE_BUFb_STAT.NEWEST g.buf), x := true,
                                                       y := true, start := start, ty := 4, claim := false, payload := ws }] }
      else n
    | none => n
  else
    match n.inForce c.1 ix with
    | some (row, e) =>
      let start := c.2 + n.mt (n.f (F.TPE_SLOTs.START ix))
      if eOwner e = n.node ∧ eKind e ≠ 2 ∧ n.maySend (eKind e) ∧ start ≤ n.now + 64 ∧ ix < n.f F.TPE_CLSIZE.SLOTS then
        (n.upTpe fun s => { s with fetIx := (false, ix) :: s.fetIx }).fetchSlot c.1 ix row e start
      else n
    | none => n

/-- The instant from which port `p` may send a frame due at `u`: an even position with one /I/ after the /R/ of the frame before (R282),
the next even position behind the /V/ /T/ /R/ of a cut one. A forward in progress at `u` is cut (R286). -/
def Lane.txFree (n : Lane) (p u : Nat) : Nat :=
  (n.tport p).tx.foldl (fun a f =>
    if u < f.start then a
    else if !f.own && decide (u < f.stop) then max a (u + 32)
    else max a (f.stop + if f.cut then 32 else 24)) u

/-- An own frame occupies port `q` from `st` to `en`: a forward in progress at its due time `u` is cut there, and CUTS steps at `q`; one
that would start while it occupies the port is not forwarded, and REFUSED steps where the copy arrives (R286); one due just after it
starts no sooner than one /I/ behind it (R282). -/
def Lane.ownPrevails (n : Lane) (q u st en : Nat) : Lane :=
  let x := n.tport q
  let live := fun (f : TxFrame) => !f.own && decide (f.start ≤ u) && decide (u < f.stop)
  let late := fun (f : TxFrame) => !f.own && decide (u < f.start) && decide (f.start < en)
  let gone := (x.tx.filter fun f => live f || late f).map fun f => f.start
  let kept := (x.tx.filter fun f => !late f).map fun f =>
    if live f then { f with stop := u, cut := true }
    else if !f.own && decide (en ≤ f.start) && decide (f.start < en + 24) then
      { f with hop := f.hop + (en + 24 - f.start), start := en + 24, stop := f.stop + (en + 24 - f.start) } else f
  let y := n.tport (mate q)
  let n := (n.setTport q { x with tx := kept }).setTport (mate q) { y with
    rx := y.rx.map fun r => if r.fwd.any fun w => gone.contains w.1 then { r with fwd := none } else r }
  let n := if x.tx.any live then n.cutCount q else n
  if st < en ∧ x.tx.any late then n.stepSat (F.TPE_PORTp_FWD.REFUSED (mate q)) else n

/-- The own frame `f` goes out of port `p` at instant `st` with lateness `dly` (R285); `u` is the instant it was due there. -/
def Lane.sendOn (n : Lane) (p : Nat) (f : Fetched) (u st dly : Nat) : Lane :=
  if n.portUp p then
    let h := header f.ty f.claim (chanOf p) n.node f.ix f.course (f.payload.length / 2) dly 0
    let en := st + (17 + 4 * f.payload.length) * 8
    (n.ownPrevails p u st en).putTx p { own := true, head := h, hcrc := BitVec.ofNat 16 (hcrcOf h), payload := f.payload,
                                        fcrc := BitVec.ofNat 32 (fcrcOf h f.payload), start := st, stop := en }
  else n

/-- FRAME_SEND (R282, R285, R286): the frame fetched for slot or grant `ix` is sent, `late` units after its start time on free ports and
later behind a cut forward or without an /I/ after the frame before; /S/ leaves both ports of a channel in the same symbol. -/
def frameSend (arb : Bool) (ix late : Nat) (n : Lane) : Lane :=
  match n.tpe.fet.find? fun f => f.arb == arb && f.ix == ix with
  | some f =>
    if f.start ≤ n.now then
      let n := n.upTpe fun s => { s with fet := s.fet.erase f }
      if n.maySend f.kind || (arb && n.tpeSt == tACTIVE) then
        let chs := [0, 1].filter fun ch => if ch = 0 then f.x else f.y
        let n := forEach chs (fun ch n =>
          let u := f.start * 25 / 4 + late
          let from_ := fun p => if n.portUp p then n.txFree p u else u
          let st := max (from_ (2 * ch)) (from_ (2 * ch + 1))
          let d := st - f.start * 25 / 4
          (n.sendOn (2 * ch) f u st d).sendOn (2 * ch + 1) f u st d) n
        let data := f.ty = 0 ∨ f.ty = 4 ∨ (f.ty = 2 ∧ 2 < f.payload.length)
        if data then
          let n := n.stepWrap (F.TPE_BUFb_CNT.FRAMES f.buf)
          if n.f (F.TPE_BUFb_STAT.NEWEST f.buf) = f.copy then
            n.upTpe fun s => { s with once := if s.once.contains f.buf then s.once else f.buf :: s.once }
          else n
        else n
      else n
    else n
  | none => n

/-! ## Receiving headers (R287 to R291) -/

/-- The format checks of R287 on a header arriving on port `p`. -/
def headOk (p : Nat) (h : BitVec 64) : Bool :=
  let x := h.toNat
  let ty := x % 16
  x / 16 % 16 == 1 && decide (ty ≤ 4) && !x.testBit 15 && x / 2 ^ 30 % 4 == 0 && x / 2 ^ 38 % 4 == 0 && x / 2 ^ 61 % 8 == 0
    && x / 2 ^ 13 % 2 == chanOf p && (if ty = 1 then x / 2 ^ 32 % 64 == 0 else decide (x / 2 ^ 32 % 64 ≤ 32))

/-- Kind `k` of an entry admits TYPE `ty` (R287). -/
def admits (k ty : Nat) : Bool :=
  if k = 1 ∨ k = 5 then ty == 0 || ty == 1 else if k = 3 then ty == 2 || ty == 1 else if k = 4 then ty == 3 else false

/-- Where a copy's start is scheduled: macroticks, kind and buffer; none where R287 refuses it. -/
def Lane.scheduled (n : Lane) (ch ty origin slot course : Nat) : Option (Nat × Nat × Nat) :=
  if ty = 4 then
    match n.tpe.grants[slot]? with
    | some g => if g.origin = origin then some (g.start, 0, g.buf) else none
    | none => none
  else match n.inForce course slot with
    | some (_, e) =>
      if eChan e ch && eOwner e == origin && admits (eKind e) ty then some (n.f (F.TPE_SLOTs.START slot), eKind e, eBuf e) else none
    | none => none

/-- δ of R289 in tenths of a nanosecond. -/
def Lane.deviation (n : Lane) (course start ta transit : Nat) : Int :=
  4 * (ta : Int) - 4 * (transit : Int) - 25 * (n.courseStart course + if course = n.course then n.mtNow start else n.mt start)

/-- A copy to be forwarded out of `q` from port `p` meets an own frame there (R286), or goes on with its new header (R288), one /I/ at
least behind the frame before (R282). -/
def Lane.forward (n : Lane) (p : Nat) (r : RxCopy) (hop : Nat) : Lane :=
  let q := mate p
  let add (n : Lane) (r : RxCopy) : Lane := let x := n.tport p; n.setTport p { x with rx := x.rx ++ [r] }
  let u := r.ta + hop
  let st := n.txFree q u
  let hop := st - r.ta
  let en := st + (17 + 8 * r.len) * 8
  let nd := r.dly + n.f (F.TPE_PORTp_RANGE.LINKDLY p) + hop
  if nd > 65535 then add (n.stepSat (F.TPE_PORTp_FWD.REFUSED p)) r
  else if n.portUp q = false then add n r
  else
    if (n.tport q).tx.any fun f => f.own && !f.cut && decide (f.start ≤ u) && decide (u < f.stop) then add (n.stepSat (F.TPE_PORTp_FWD.REFUSED p)) r
    else
      let h := header r.ty r.claim (chanOf p) r.origin r.slot r.course r.len nd (r.head.toNat / 2 ^ 56 % 32 + 1)
      let n := add n { r with fwd := some (st, en) }
      (n.putTx q { own := false, head := h, hcrc := BitVec.ofNat 16 (hcrcOf h), start := st, stop := en, hop := hop, due := true }).fwdCount q

/-- HEADER_RECEIVE (R287 to R290): the header `h` of a copy whose /S/ reached the balls of port `p` at instant `ta`, at the end
of its HCRC; `ph` is the phase its elastic buffer adds to the hop delay, in symbols. -/
def headerReceive (p : Nat) (h : BitVec 64) (hcrc ta ph : Nat) (n : Lane) : Lane :=
  if n.portUp p && n.tpeSt != tOFF then
    let x := h.toNat
    let r : RxCopy := { ty := x % 16, claim := x.testBit 14, origin := x / 2 ^ 8 % 32, slot := x / 2 ^ 16 % 256, course := x / 2 ^ 24 % 64,
                        len := x / 2 ^ 32 % 64, dly := x / 2 ^ 40 % 65536, head := h, ta := ta }
    let add (n : Lane) (r : RxCopy) : Lane := let y := n.tport p; n.setTport p { y with rx := y.rx ++ [r] }
    let refuse (n : Lane) : Lane := add (n.stepSat (F.TPE_PORTp_FWD.REFUSED p)) { r with dead := true }
    if hcrcOf h ≠ hcrc ∨ n.injArmed (tpeSrc 3) p then
      add ((n.stepSat (F.TPE_PORTp_RXBAD.HCRC p)).lnkEvent F.TPE_LNKEVT.HCRC 3 p) { r with dead := true }
    else if headOk p h = false then refuse n
    else if r.origin = n.node then add n r
    else match n.scheduled (chanOf p) r.ty r.origin r.slot r.course with
      | none => refuse n
      | some (start, kind, buf) =>
        let d := n.deviation r.course start ta (r.dly + n.f (F.TPE_PORTp_RANGE.LINKDLY p))
        let w : Int := 100 * n.f F.TPE_ACCW.W
        if n.tpeSt == tACTIVE && decide (25 * n.tpe.actT ≤ 4 * ta) && (decide (d < -w) || decide (w < d)) then
          refuse (n.lnkEvent F.TPE_LNKEVT.WINDOW 4 p)
        else
          let r := { r with kind := kind, buf := buf, dev := d / 4 }
          if x / 2 ^ 56 % 32 + 1 < n.f F.TPE_CLSIZE.NODES then n.forward p r (304 + 8 * ph)
          else add (n.stepSat (F.TPE_PORTp_FWD.REFUSED p)) r
  else n

/-- The instant by which the /T/ of a copy must have arrived: when 17 + 8 × LEN symbols of it have been passed on, or would have been
received where it is not forwarded (R291). -/
def RxCopy.allowed (r : RxCopy) : Nat :=
  match r.fwd with
  | some (_, e) => e
  | none => r.ta + (17 + 8 * r.len) * 8

/-- FORWARD_OVERRUN_CUT (R275, R291): the newest copy on port `p` carries /V/ or a code violation, or has no /T/ by the end of its
declared length: it is not delivered, its forward is terminated with /V/ /T/ /R/, and CUTS steps at `p`. -/
def overrunCut (p : Nat) (viol : Bool) (n : Lane) : Lane :=
  if n.portSt p = pDARK then n
  else
    let n := if viol then n.stepSat (F.TPE_PORTp_CVCNT.COUNT p) else n
    match (n.tport p).rx.getLast? with
    | none => n
    | some r =>
      if viol = false ∧ n.units < r.allowed then n
      else
        let n := if r.fwd.isSome then
            let n := n.endForward p fun c => c == r
            -- a forward that has passed its symbols ends with /V/ in place of /T/
            let y := n.tport (mate p)
            (n.setTport (mate p) { y with tx := y.tx.map fun f => if !f.own && r.fwd.any fun w => w.1 == f.start then { f with cut := true } else f }).cutCount p
          else n
        n.setTport p { n.tport p with rx := (n.tport p).rx.dropLast }

/-! ## Startup (R314 to R317) -/

/-- The node enters INTEGRATE on copy `r` of which it knows the start in macroticks (R317). -/
def Lane.integrateOn (n : Lane) (r : RxCopy) (start transit : Nat) (beacon : Option (Bool × Nat × Nat)) : Lane :=
  let b := ((4 * (r.ta : Int) - 4 * transit) * 2 + 25) / 50 - n.mt start
  let n := n.setFs [(F.TPE_STAT.COURSE, r.course), (F.TPE_STAT.REFNODE, r.origin)]
  let n := n.upTpe fun s => { s with bT := b.toNat, next := none, obs := none, beacon := beacon, fet := [], noVal := 0, blkSum := 0, step := 0, rchM := 0,
                                      vals := [(r.kind, r.origin, 0)] }
  n.tpeTo tINTEG

/-- A BEACON (ACTIVE, rank, origin) prevails over another (R316). -/
def prevails (a b : Bool × Nat × Nat) : Bool :=
  if a.1 != b.1 then a.1 else if a.2.1 ≠ b.2.1 then decide (a.2.1 < b.2.1) else decide (a.2.2 < b.2.2)

/-- STARTUP_FRAME (R314 to R316): a valid SYNC or BEACON copy. -/
def Lane.startupFrame (n : Lane) (p : Nat) (r : RxCopy) (ws : List W32) : Lane :=
  let start := n.f (F.TPE_SLOTs.START r.slot)
  let tr := r.dly + n.f (F.TPE_PORTp_RANGE.LINKDLY p)
  let w0 := (ws.getD 0 0#32).toNat
  let bc : Bool × Nat × Nat := (w0.testBit 8, w0 % 256, r.origin)
  let st := n.tpeSt
  if r.ty = 3 then
    if st = tLISTEN then n.integrateOn r start tr (some bc)
    else if st = tCOLD then (if prevails bc (false, n.f F.TPE_CLNODE.RANK, n.node) then n.integrateOn r start tr (some bc) else n)
    else if st = tINTEG then
      match n.tpe.beacon with
      | some f =>
        if prevails bc f && decide (100 * n.f F.TPE_ACCW.W < 4 * r.dev.natAbs) then
          (n.stepSat F.TPE_STAT.INTEG).integrateOn r start tr (some bc)
        else n
      | none => n
    else n
  else if r.ty = 2 ∧ st = tLISTEN then n.integrateOn r start tr none
  else n

/-! ## Delivery (R292 to R294, R302, R311, R326) -/

/-- A received claim (R311). -/
def Lane.claimReceived (n : Lane) (r : RxCopy) (w0 w1 : W32) : Lane :=
  let len := bits w0 15 8
  if r.course ≠ n.course then n
  else if len = 0 ∨ 32 < len ∨ bits w0 31 24 ≠ 0 ∨ w1 ≠ 0#32 then
    ((n.stepSat F.TPE_ARBSTAT.LAPSED).sqEventOnce F.TPE_EVT.ARB).upTpe fun s => { s with ign := s.ign + 1 }
  else n.upTpe fun s => { s with claims := s.claims ++ [{ prio := bits w0 7 0, len := len, buf := bits w0 23 16, origin := r.origin, slot := r.slot }] }

/-- A received sync word (R325, R326): NEXT counts from the external node, THIS from any. -/
def Lane.syncReceived (n : Lane) (r : RxCopy) (w0 w1 : W32) : Lane :=
  let lo : Int := (w0.toNat % 65536 : Nat)
  let hi : Int := w0.toNat / 65536
  let sg := fun (x : Int) => if x < 32768 then x else x - 65536
  n.upTpe fun s => { s with
    nextSt := if r.origin = n.f F.TPE_CLNODE.EXTNODE ∧ w1.toNat.testBit 0 then some (sg lo) else s.nextSt,
    thisSt := if s.thisSt.isNone && w1.toNat.testBit 1 && s.next.isNone then some (sg hi) else s.thisSt }

/-- The payload of the first valid copy goes where its kind says (R302); answers the buffer that took it. -/
def Lane.deliverFrame (n : Lane) (r : RxCopy) (ws : List W32) : Lane × Option Nat :=
  let k := ws.length
  if r.ty = 0 ∧ r.kind = 5 ∧ r.claim ∧ 2 ≤ k then
    (n.claimReceived r (ws.getD (k - 2) 0#32) (ws.getD (k - 1) 0#32)).deliverBuf r.buf (ws.take (k - 2))
  else if r.ty = 0 ∨ r.ty = 4 then n.deliverBuf r.buf ws
  else if r.ty = 2 then
    let n := n.syncReceived r (ws.getD 0 0#32) (ws.getD 1 0#32)
    if k ≤ 2 then (n, none) else n.deliverBuf r.buf (ws.drop 2)
  else (n, none)

/-- The δ of the first valid copy from each origin in kind 3 or kind 4 slots is a timing value (R318). -/
def Lane.timingValue (n : Lane) (r : RxCopy) : Lane :=
  if (r.kind = 3 ∨ r.kind = 4) ∧ !(n.tpe.vals.any fun v => v.1 == r.kind && v.2.1 == r.origin) then
    n.upTpe fun s => { s with vals := s.vals ++ [(r.kind, r.origin, r.dev)] }
  else n

/-- A copy that ends with payload `ws` and FCRC `fcrc` is complete and its FCRC correct (R292). -/
def RxCopy.good (r : RxCopy) (ws : List W32) (fcrc : W32) : Bool := !r.dead && ws.length == 2 * r.len && fcrcOf r.head ws == fcrc.toNat

/-- Two copies are of one frame (R292). -/
def RxCopy.same (r q : RxCopy) : Bool := r.origin == q.origin && r.course == q.course && r.slot == q.slot && r.ty == q.ty

/-- FRAME_END_RECEIVE (R292 to R294): the oldest copy on port `p` completes with payload `ws` and FCRC `fcrc`. `rival` is the FCRC of a
valid copy of the same frame that completes in the same cycle on an earlier port of R293: that one is delivered, not this. -/
def frameEnd (p : Nat) (ws : List W32) (fcrc : W32) (rival : Option W32) (n : Lane) : Lane × Option Nat :=
  match (n.tport p).rx with
  | [] => (n, none)
  | r :: rest =>
    let n := n.setTport p { n.tport p with rx := rest }
    if r.dead then (n, none)
    else if r.good ws fcrc = false ∨ n.injArmed (tpeSrc 3) p then
      ((n.stepSat (F.TPE_PORTp_RXBAD.FCRC p)).lnkEvent F.TPE_LNKEVT.FCRC 3 p, none)
    else if r.origin = n.node then ((n.stepWrap (F.TPE_PORTp_RXOK.COUNT p)).ownReturn p (r.dly + n.f (F.TPE_PORTp_RANGE.LINKDLY p)), none)
    else
      let n := (n.stepWrap (F.TPE_PORTp_RXOK.COUNT p)).upTpe fun s => { s with listen := n.now }
      let before := (n.tpe.seen.find? fun f => f.origin == r.origin && f.course == r.course && f.slot == r.slot && f.ty == r.ty).map fun f => f.fcrc
      match before.orElse fun _ => rival with
      | some c =>
        let n := n.stepWrap F.TPE_COPYCNT.DUP
        (if c = fcrc then n else (n.stepSat F.TPE_COPYCNT.DIFF).lnkEvent F.TPE_LNKEVT.COPY 5 p, none)
      | none =>
        let n := n.upTpe fun s => { s with seen := { origin := r.origin, course := r.course, slot := r.slot, ty := r.ty, fcrc := fcrc } :: s.seen }
        ((n.timingValue r).startupFrame p r ws).deliverFrame r ws

/-! ## The mortar gap (R312, R318 to R321, R325) -/

def insertInt (x : Int) : List Int → List Int
  | [] => [x]
  | y :: ys => if x ≤ y then x :: y :: ys else y :: insertInt x ys

/-- The fault-tolerant midpoint (R319). -/
def midpoint (vs : List Int) : Int :=
  let s := vs.foldr insertInt []
  let k := s.length
  let f := (k - 1) / 3
  (s.getD f 0 + s.getD (k - 1 - f) 0) / 2

/-- The timing values of the course (R318). -/
def Lane.timingValues (n : Lane) : List Int :=
  let of := fun k => (n.tpe.vals.filter fun v => v.1 == k).map fun v => v.2.2
  let vs := if (of 3).isEmpty then of 4 else of 3
  if n.tpeSt == tACTIVE && n.bit F.TPE_CLSYNC.MASK n.node then vs ++ [0] else vs

/-- The bounds of the rate term (R320). -/
def rateMax : Int := 16384

/-- RATE_ADJUST (R320): the block's corrections are taken up. -/
def Lane.rateAdjust (n : Lane) : Lane :=
  let len : Int := max 1 (n.f F.TPE_CLCOURSE.COURSE : Nat)
  let r := clampInt (-rateMax) rateMax (n.sf F.TPE_RATE.RATE + Int.tdiv (n.tpe.blkSum * 1048576) (4 * len))
  let was := n.on F.TPE_RATE.SAT
  let sat := r = rateMax ∨ r = -rateMax
  -- macroticks that have ended keep the length they had (R297)
  let n := n.upTpe fun s => { s with rchM := n.mticks, rchQ := 41943040 + n.sf F.TPE_RATE.RATE, blkSum := 0 }
  let n := n.setFs [(F.TPE_RATE.RATE, half16 r), (F.TPE_RATE.SAT, b1 (decide sat))]
  if sat ∧ !was then (n.sqEventOnce F.TPE_EVT.RATE).raise (tpeSrc 10) 10 0 else n

/-- An integration fails (R317): back to LISTEN. -/
def Lane.integrationFails (n : Lane) : Lane :=
  let n := (n.stepSat F.TPE_STAT.INTEG).sqEventOnce F.TPE_EVT.INTEG
  (n.upTpe fun s => { s with listen := n.now, beacon := none, obs := none }).tpeTo tLISTEN

/-- The external node announces the step of the course after next (R325): at most STEPMAX, at most the fixed 400 LCLK, and within the
bond's 10,000. -/
def Lane.announce (n : Lane) : Lane :=
  if n.on F.TPE_EXTCFG.EN && n.f F.TPE_CLNODE.EXTNODE == n.node && n.tpeSt == tACTIVE then
    let q := (n.rd R.TPE_EXTREM).toInt
    let mx : Int := min 400 (n.f F.TPE_EXTCFG.STEPMAX)
    let want := clampInt (-mx) mx q
    let pend : Nat := (n.tpe.nextSt.getD 0).natAbs
    let c := (n.course + 2) % 64
    let used : Nat := if c = 0 then 0 else if c = 1 then pend else n.f F.TPE_EXTSTAT.BONDSUM + pend
    let room : Int := (10000 - used : Nat)
    let step := clampInt (-room) room want
    let n := n.setFs [(F.TPE_EXTSTAT.NEXT, half16 step)]
    let n := if step = want then n else n.setF F.TPE_EXTSTAT.BONDLIM 1
    (n.wr R.TPE_EXTREM (BitVec.ofInt 32 (q - step))).upTpe fun s => { s with ann := some step }
  else (n.setF F.TPE_EXTSTAT.NEXT 0).upTpe fun s => { s with ann := none }

/-- MORTAR_GAP_START (R297, R312, R319, R320, R321, R325, R281). -/
def mortarGap (n : Lane) : Lane :=
  let len := n.f F.TPE_CLCOURSE.COURSE
  let gap := n.f F.TPE_CLGAP.VALUE
  if n.tpeSt = tOFF ∨ n.tpe.next.isSome ∨ n.now < n.tpe.bT + n.mt (len - gap) then n
  else
    -- claims of the course
    let cs := sortClaims n.tpe.claims
    let gs := grantList (n.f F.TPE_CLSIZE.NODES) (len - gap) cs (n.f F.TPE_CLARB.VALUE) 256
    let lapsed := cs.length - gs.length
    let n := n.setF F.TPE_ARBSTAT.LAPSED (min 255 (lapsed + n.tpe.ign))
    let n := if 0 < lapsed then n.sqEventOnce F.TPE_EVT.ARB else n
    let n := n.upTpe fun s => { s with gnext := gs, claims := [], ign := 0 }
    -- offset correction
    let vs := n.timingValues
    let k := vs.length
    let m := midpoint vs
    let raw : Int := if k = 0 then 0 else (8 * m + 25) / 50
    let c := clampInt (-400) 400 raw
    let n := n.setFs [(F.TPE_SYNCSTAT.OFS, half16 c), (F.TPE_SYNCSTAT.NVAL, k), (F.TPE_SYNCSTAT.CLAMP, b1 (decide (c ≠ raw)))]
    let st := n.tpeSt
    let n := if st = tINTEG ∨ st = tACTIVE then n.upTpe fun s => { s with blkSum := s.blkSum + c, noVal := if n.tpe.vals.isEmpty then s.noVal + 1 else 0 } else n
    -- margin, and the observation of an integration
    let beyond := decide (100 * n.f F.TPE_SYNCCFG.MARGIN < 4 * m.natAbs) && k != 0
    let n :=
      if st = tACTIVE ∧ beyond then
        let n := (n.sqEventOnce F.TPE_EVT.MARGIN).raise (tpeSrc 9) 9 n.node
        (n.upTpe fun s => { s with obs := none, fet := [], beacon := none }).tpeTo tINTEG
      else match st == tINTEG, n.tpe.obs with
        | true, some o =>
          if k = 0 ∨ 100 * n.f F.TPE_ACCW.W < 4 * m.natAbs then n.integrationFails
          else n.upTpe fun s => { s with obs := some (o + 1) }
        | _, _ => n
    -- rate, with the length of this course as it was timed
    let dueLen := n.mt len
    let n := if n.course % 4 = 3 then n.rateAdjust else n
    -- external step
    let step := n.tpe.thisSt.getD 0
    let n := n.setF F.TPE_EXTSTAT.BONDSUM (n.f F.TPE_EXTSTAT.BONDSUM + step.natAbs)
    let n := (n.upTpe fun s => { s with thisSt := none, step := step,
                                        next := some ((s.bT + dueLen : Nat) + c + step).toNat }).announce
    -- commanded ranging: one exchange in each gap
    forEach [0, 1, 2, 3] (fun p n =>
      match (n.tport p).rng with
      | some r => if r.cmd && r.sent.isNone then n.sendRq p else n
      | none => n) n

/-! ## The course boundary (R299, R309, R314, R317, R322) -/

/-- The ages of every buffer step (R309). -/
def Lane.stepAges (n : Lane) : Lane :=
  forEach (List.range 256) (fun b n =>
    let st := n.rd (R.TPE_BUFb_STAT b)
    let n := if bits st 23 23 = 1 then n.stepSat (F.TPE_BUFb_STAT.AGE b) else n
    if bits st 17 16 = 3 then n else n.stepSat (F.TPE_BUFb_STAT.PINAGE b)) n

/-- A boundary in the present cycle, the first of course `c`. -/
def Lane.boundary (n : Lane) (c : Nat) : Lane :=
  let n := (n.setF F.TPE_STAT.COURSE c).stepAges
  let gs := n.tpe.gnext
  let n := n.upTpe fun s => { s with
    prevT := s.bT, bT := n.now, next := none, step := 0, rchM := 0, blkSum := if c % 4 = 0 then 0 else s.blkSum, vals := [], seen := [], bufRsd := false, grants := gs, gnext := [],
    fetIx := s.fet.map fun f => (f.arb, f.ix), thisSt := s.nextSt, nextSt := s.ann, ann := none }
  let n := n.setFs [(F.TPE_ARBSTAT.GRANTS, gs.length), (F.TPE_ARBSTAT.OWN, (gs.filter fun g => g.origin == n.node).length)]
  let n := if c = 0 then n.setFs [(F.TPE_EXTSTAT.BONDLIM, 0), (F.TPE_EXTSTAT.BONDSUM, 0)] else n
  n.eventW 1 (BitVec.ofNat 32 c)

/-- COURSE_BOUNDARY (R299, R314, R317, R322). -/
def courseBoundary (n : Lane) : Lane :=
  match n.tpe.next with
  | some due =>
    if due ≤ n.now ∧ n.tpeSt ≠ tOFF then
      let c := (n.course + 1) % 64
      let st := n.tpeSt
      let n := if c = 0 ∧ st = tACTIVE then n.stepWrap F.TPE_BONDCNT.COUNT else n
      let n := n.boundary c
      if c = 0 ∧ st = tCOLD then (n.upTpe fun s => { s with actT := n.now }).tpeTo tACTIVE
      else if c = 0 ∧ st = tINTEG then
        match n.tpe.obs with
        | some o => if 64 ≤ o then (n.upTpe fun s => { s with actT := n.now, obs := none }).tpeTo tACTIVE else n
        | none => n.upTpe fun s => { s with obs := some 0 }
      else if (st = tACTIVE ∨ st = tINTEG) ∧ !n.bit F.TPE_CLSYNC.MASK n.node ∧ 64 ≤ n.tpe.noVal then
        (n.upTpe fun s => { s with listen := n.now, noVal := 0, obs := none }).tpeTo tLISTEN
      else n
    else n
  | none => n

/-- COLDSTART_LISTEN_EXPIRY (R315). -/
def coldstartExpiry (n : Lane) : Lane :=
  let r := n.f F.TPE_CLNODE.RANK
  if n.tpeSt = tLISTEN ∧ n.bit F.TPE_CLCOLD.MASK n.node ∧ n.tpe.listen + n.mt ((128 + r) * n.f F.TPE_CLCOURSE.COURSE) ≤ n.now then
    (n.boundary 0).tpeTo tCOLD
  else n

/-! ## External synchronisation (R324, R327) -/

/-- SYNC_EDGE (R324, R327): a filtered rising edge, stamped in the present cycle. -/
def syncEdge (n : Lane) : Lane :=
  let ext := n.on F.TPE_EXTCFG.EN
  let fol := n.f F.TPE_EXTCFG.PWMFOL
  if n.tpeSt = tOFF ∨ (!ext ∧ fol = 0) then n
  else
    let per := n.f F.TPE_EXTCFG.PERMS
    let ok := match n.tpe.edge with
      | none => true
      | some t => decide (((n.now - t : Nat) - (per * 400000 : Nat) : Int).natAbs ≤ per * 4000)
    if ok then
      let n := (n.upTpe fun s => { s with edge := some n.now }).setF F.TPE_EXTSTAT.LOST 0
      let d : Int := (n.now - n.tpe.bT : Nat)
      -- in the mortar gap the next boundary is known, with the step being applied in it
      let len : Int := match n.tpe.next with
        | some b => (b : Int) - n.tpe.bT
        | none => n.mt (n.f F.TPE_CLCOURSE.COURSE)
      let e := if 2 * d ≤ len then d else d - len
      let un := (if 2 * d ≤ len then n.tpe.step else 0) + n.tpe.thisSt.getD 0 + n.tpe.nextSt.getD 0 + n.tpe.ann.getD 0
      let n := n.wr R.TPE_EXTERR (BitVec.ofInt 32 e)
      let n := if ext then n.wr R.TPE_EXTREM (BitVec.ofInt 32 (e - un)) else n
      forEach [0, 1, 2] (fun b n =>
        if fol.testBit b && n.on (F.PWM_TBb_CNT.RUN b) then
          let x := n.pwm.tbs.getD b {}
          let dv := 2 ^ n.f (F.PWM_TBb_CFG.DIV b)
          let full : Int := n.f (F.PWM_TBb_PERACT.PER b) * (if n.f (F.PWM_TBb_CFG.MODE b) = 1 then 2 else 1)
          let p : Int := ((n.now - x.perT) / dv : Nat)
          let p := if 2 * p > full then p - full else p
          n.upPwm fun s => { s with tbs := s.tbs.set b { x with follow := p } }
        else n) n
    else n.sqEventOnce F.TPE_EVT.EXT

/-- SYNC_LOST (R324): no accepted edge for 2 × PERMS, counted from EN while there has been none. -/
def syncLost (n : Lane) : Lane :=
  let t := n.tpe.edge.getD n.tpe.enT
  if n.tpeSt ≠ tOFF ∧ n.on F.TPE_EXTCFG.EN ∧ !n.on F.TPE_EXTSTAT.LOST
      ∧ (t + 2 * n.f F.TPE_EXTCFG.PERMS * 400000 ≤ n.now ∨ n.injArmed (tpeSrc 11) 0) then
    (((n.wr R.TPE_EXTREM 0#32).setF F.TPE_EXTSTAT.LOST 1).sqEventOnce F.TPE_EVT.EXT).raise (tpeSrc 11) 11 0
  else n

/-! ## Enable (R328) -/

/-- The courses entries of rows `c`, `d` and exponents `e`, `f` serve meet. -/
def coursesMeet (c e d f : Nat) : Bool := decide (c < 2 ^ e) && decide (d < 2 ^ f) && c % 2 ^ min e f == d % 2 ^ min e f

/-- A check of R328 on one entry. -/
def Lane.entryBad (n : Lane) (cause : Nat) (q : Nat × Nat × W32) : Bool :=
  let e := q.2.2
  let k := eKind e
  let b := eBuf e
  if cause = 1 then n.entries.any fun z => z.2.1 == q.2.1 && z.1 != q.1 && coursesMeet q.1 (eRep e) z.1 (eRep z.2.2)
  else if cause = 2 then decide (6 < eRep e) || decide (2 ^ eRep e ≤ q.1)
  else if cause = 3 then decide (n.f F.TPE_CLSIZE.SLOTS ≤ q.2.1)
  else if cause = 4 then decide (n.f F.TPE_CLSIZE.NODES ≤ eOwner e)
  else if cause = 5 then (k == 3 && !n.bit F.TPE_CLSYNC.MASK (eOwner e)) || (k == 4 && !n.bit F.TPE_CLCOLD.MASK (eOwner e)) || k == 0 || decide (5 < k)
  else if cause = 7 then eOwner e == n.node && (k == 1 || k == 3 || k == 5)
      && (n.f (F.TPE_BUFb_CFG.DIR b) != 1 || (k != 1 && decide (31 < n.f (F.TPE_BUFb_CFG.LEN b))))
  else if cause = 8 then k == 2 && b != 0
  else false

/-- The first failure of R328: cause, row, slot. -/
def Lane.scheduleFault (n : Lane) : Option (Nat × Nat × Nat) :=
  [1, 2, 3, 4, 5, 6, 7, 8, 9, 10].findSome? fun c =>
    if c = 6 then (if n.f F.TPE_CLCOLD.MASK &&& (0xFFFFFFFF - n.f F.TPE_CLSYNC.MASK) ≠ 0 then some (6, 0, 0) else none)
    else if c = 9 then (if n.f F.TPE_ACCW.W ≤ n.f F.TPE_SYNCCFG.MARGIN then some (9, 0, 0) else none)
    else if c = 10 then (if n.f F.TPE_CLGAP.VALUE < 40 then some (10, 0, 0) else none)
    else (n.entries.find? fun q => n.entryBad c q).map fun q => (c, q.1, q.2.1)

/-- The TPE returns to OFF (R314): frames in progress are abandoned under R279. -/
def Lane.tpeOff (n : Lane) : Lane :=
  let n := forEach [0, 1, 2, 3] (fun p n =>
    let n := (n.cutForward p).cutOwn p
    n.setTport p { n.tport p with rx := [] }) n
  (n.upTpe fun s => { s with fet := [], next := none }).tpeTo tOFF

/-- A write of TPE_CTRL (R328). -/
def tpeEnable (org : Nat) (v : W32) (n : Lane) : Lane :=
  let en := F.TPE_CTRL.EN.val v = 1
  if en ∧ !n.on F.TPE_CTRL.EN then
    if !n.on F.SYS_ASHLOCK.LOCK then n.rejectState org R.TPE_CTRL
    else match n.scheduleFault with
      | some (c, row, slot) =>
        (n.setFs [(F.TPE_CFGERR.CAUSE, c), (F.TPE_CFGERR.ROW, row), (F.TPE_CFGERR.SLOT, slot)]).rejectState org R.TPE_CTRL
      | none =>
        let n := (n.wr R.TPE_CFGERR 0#32).setFs [(F.TPE_CTRL.EN, 1), (F.TPE_RATE.RATE, 0), (F.TPE_RATE.SAT, 0), (F.TPE_STAT.COURSE, 0)]
        let n := n.upTpe fun s => { ports := s.ports, dlv := s.dlv, bT := n.now, prevT := n.now, listen := n.now, enT := n.now }
        -- spans measured before count as the largest since EN (R303)
        (forEach [0, 1] (fun ch n => n.spanSeen ch) n).tpeTo tLISTEN
  else if !en ∧ n.on F.TPE_CTRL.EN then (n.setF F.TPE_CTRL.EN 0).tpeOff
  else n

/-! ## Register writes without a row -/

/-- A plain write to a TPE register (R296, R324, R327, R330). -/
def tpeStore (org off : Nat) (v : W32) (n : Lane) : Lane :=
  if off = R.TPE_ACCW then
    (if F.TPE_ACCW.W.val v < 20 ∨ 100 < F.TPE_ACCW.W.val v then n.rejectState org off else n.store off v)
  else if off = R.TPE_EXTCFG then
    let fl := n.f F.TPE_CLNODE.FLAGS
    if (F.TPE_EXTCFG.EN.val v = 1 ∧ !fl.testBit 2) ∨ (F.TPE_EXTCFG.PWMFOL.val v ≠ 0 ∧ !fl.testBit 3) then n.rejectState org off
    else (n.store off v).upTpe fun s => { s with edge := none }
  else n.store off v

/-- TPE registers computed when read: a fixed equaliser shows its setting (R296). -/
def Lane.tpeView (n : Lane) (off : Nat) : W32 :=
  if off = R.TPE_TIME then (if n.tpeSt = tOFF then 0#32 else BitVec.ofNat 32 (n.mticks % 131072))
  else match [0, 1, 2, 3].find? fun p => off == R.TPE_PORTp_STAT p && n.on (F.TPE_PORTp_CFG.EQMODE p) && n.portSt p != pDARK with
    | some p => setBits (n.rd off) 11 8 (n.f (F.TPE_PORTp_CFG.EQFIX p))
    | none => n.rd off

/-! ## Commands -/

def execPortEnable (l : LaneId) (t : Nat) (org : Origin) (v : W32) (s : State) : Host.Outcome State Fault Refusal :=
  onLane l t s fun n => n.regWrite org.code R.TPE_LNKCTL v (penWrite org.code v)

def execPortTrained (l : LaneId) (t : Nat) (p : Fin 4) (eq : BitVec 4) (s : State) : Host.Outcome State Fault Refusal :=
  onDomain l t dTPE s (portTrained p.val eq.toNat)

def execPortSyncLoss (l : LaneId) (t : Nat) (p : Fin 4) (sig : Bool) (s : State) : Host.Outcome State Fault Refusal :=
  onDomain l t dTPE s (portSyncLoss p.val sig)

def execRange (l : LaneId) (t : Nat) (org : Origin) (v : W32) (s : State) : Host.Outcome State Fault Refusal :=
  onLane l t s fun n => n.regWrite org.code R.TPE_LNKCMD v (lnkCmd org.code v)

def execRetrain (l : LaneId) (t : Nat) (org : Origin) (v : W32) (s : State) : Host.Outcome State Fault Refusal :=
  onLane l t s fun n => n.regWrite org.code R.TPE_LNKCMD v (lnkCmd org.code v)

def execRangingRequestReceive (l : LaneId) (t : Nat) (p : Fin 4) (token : Byte) (ta : Nat) (s : State) :
    Host.Outcome State Fault Refusal :=
  onDomain l t dTPE s (rangingRequest p.val token.toNat ta)

def execRangingReplyReceive (l : LaneId) (t : Nat) (p : Fin 4) (token : Byte) (node : BitVec 5) (port : BitVec 2) (rtt : Nat) (s : State) :
    Host.Outcome State Fault Refusal :=
  onDomain l t dTPE s (rangingReply p.val token.toNat node.toNat port.toNat rtt)

def execRangingExchangeTimeout (l : LaneId) (t : Nat) (p : Fin 4) (s : State) : Host.Outcome State Fault Refusal :=
  onDomain l t dTPE s (rangingTimeout p.val)

def execFrameSend (l : LaneId) (t : Nat) (arb : Bool) (ix : Byte) (late : Fin 17) (s : State) : Host.Outcome State Fault Refusal :=
  onDomain l t dTPE s (frameSend arb ix.toNat late.val)

def execHeaderReceive (l : LaneId) (t : Nat) (p : Fin 4) (head : BitVec 64) (hcrc : BitVec 16) (ta : Nat) (ph : Fin 13) (s : State) :
    Host.Outcome State Fault Refusal :=
  onDomain l t dTPE s (headerReceive p.val head hcrc.toNat ta ph.val)

def execForwardOverrunCut (l : LaneId) (t : Nat) (p : Fin 4) (viol : Bool) (s : State) : Host.Outcome State Fault Refusal :=
  onDomain l t dTPE s (overrunCut p.val viol)

def execBufferCommit (l : LaneId) (t : Nat) (org : Origin) (b : Byte) (v : W32) (s : State) : Host.Outcome State Fault Refusal :=
  onLane l t s fun n => n.regWrite org.code (R.TPE_BUFb_CMD b.toNat) v (bufCmd org.code b.toNat v)

def execAcquire (l : LaneId) (t : Nat) (org : Origin) (b : Byte) (v : W32) (s : State) : Host.Outcome State Fault Refusal :=
  onLane l t s fun n => n.regWrite org.code (R.TPE_BUFb_CMD b.toNat) v (bufCmd org.code b.toNat v)

def execRelease (l : LaneId) (t : Nat) (org : Origin) (b : Byte) (v : W32) (s : State) : Host.Outcome State Fault Refusal :=
  onLane l t s fun n => n.regWrite org.code (R.TPE_BUFb_CMD b.toNat) v (bufCmd org.code b.toNat v)

def execClaimWrite (l : LaneId) (t : Nat) (org : Origin) (k : Fin 4) (v : W32) (s : State) : Host.Outcome State Fault Refusal :=
  onLane l t s fun n => n.regWrite org.code (R.TPE_CLAIMk k.val) v (claimWrite org.code k.val v)

def execSyncEdge (l : LaneId) (t : Nat) (s : State) : Host.Outcome State Fault Refusal := onDomain l t dTPE s syncEdge

def execSyncLost (l : LaneId) (t : Nat) (s : State) : Host.Outcome State Fault Refusal := onDomain l t dTPE s syncLost

end Sys2Proof.Machine
end

