-- ==== Sys2Proof/Machine/PowerCmd.lean ====
section
/-! DEFINITION. The commands of clocks and power domains (spec/18): entries, clocks, the Vetch port, wakes and supplies. The
completion of an exit is in Bus.lean, since stalled accesses then proceed. -/

namespace Sys2Proof.Machine

/-! ## Losing and restoring a domain (R447) -/

/-- A lane-space offset lies in domain `d`. -/
def inDomain (d off : Nat) : Bool := (domRanges d).any fun r => decide (r.1 ≤ off) && decide (off < r.2)

/-- A word with the field of a TUNING entry at its initial value (R57). -/
def Tune.apply (e : Tune) (w : W32) : W32 :=
  (w &&& ~~~e.mask) ||| (BitVec.ofNat 32 (e.init.toNat * 2 ^ lowBit e.mask.toNat) &&& e.mask)

/-- The mirrors and TUNING fields whose offsets satisfy `p` take the image's values (R57, R447); gate-die settings go on over the control
lane (R127). -/
def Lane.restoreWhere (n : Lane) (p : Nat → Bool) : Lane :=
  let n := n.sys.ash.mirrors.foldl (fun n m => if p m.1 then n.wr m.1 m.2 else n) n
  n.sys.ash.tunes.foldl (fun n e => if p e.off then (n.wr e.off (e.apply (n.rd e.off))).gateSend e.off else n) n

/-- What the lane keeps of domain `d` behind its registers is lost with its supply. The gate-drive die is no part of ACT. -/
def Lane.loseHidden (n : Lane) (d : Nat) : Lane :=
  if d = dCLE then { n with cle := {} }
  else if d = dCFE then { n with cfe := {} }
  else if d = dFBI then { n with fbi := {} }
  else if d = dACT then { n with pwm := {}, adc := {} }.upGdv fun g => { g with txLvl := 0, edges := [], check := none, ctl := [], upBad := 0 }
  else if d = dTPE then { n with tpe := {} }
  else if d = dAUX then { n with upd := {}, can := {} }
  else n

/-- Domain `d` comes back from OFF: registers at reset, mirrors and tuning restored (R447). -/
def Lane.domRestore (n : Lane) (d : Nat) : Lane :=
  let n := (domRanges d).foldl (fun n r => n.resetRange r.1 r.2) (n.loseHidden d)
  n.restoreWhere (inDomain d)

/-! ## Clocks that may stop (R450) -/

/-- Every switched domain is RET or OFF with LAT at least its exit time plus `extra` µs. -/
def Lane.restFor (n : Lane) (d extra : Nat) : Bool :=
  let st := n.domState d
  let x := if st = 2 then n.f (F.PWR_Dd_EXIT.XOFF d) else n.f (F.PWR_Dd_EXIT.XRET d)
  (st == 1 || st == 2) && decide (x + extra ≤ n.f (F.PWR_Dd_LAT.LAT d))

/-- The XO may stop. -/
def Lane.xoMayStop (n : Lane) : Bool :=
  !n.on F.CLK_XOCTL.KEEP && [4, 5, 6, 7, 8].all fun d => n.restFor d 1520

/-- The PLL may stop. -/
def Lane.pllMayStop (n : Lane) : Bool :=
  [0, 1, 2, 3, 4, 5, 6, 7, 8].all fun d => n.restFor d (if xoClass d && n.xoMayStop then 1520 else 42)

/-- Clocks stop where they may: the XO at once, which leaves a PLL that runs on the wake RC; the PLL 16 LCLK later. -/
def Lane.clocksStop (n : Lane) : Lane :=
  let n := n.upPwr fun x => { x with
    pllStop := if n.pllMayStop && n.on F.PWR_STAT.PLLON then some (x.pllStop.getD (n.now + 16)) else none }
  if n.xoMayStop && n.f F.CLK_STAT.XO != 0 then
    n.setFs [(F.CLK_STAT.XO, 0), (F.PWR_STAT.XOON, 0), (F.CLK_STAT.REFOUT, 0), (F.CLK_STAT.REF, 0), (F.PWR_STAT.XOREF, 0), (F.CLK_STAT.GLIDE, 0)]
  else n

/-- A write of CLK_XOCTL (R443, R450): KEEP runs the XO whatever the domains' states. -/
def xoctlWrite (v : W32) (n : Lane) : Lane :=
  let n := n.store R.CLK_XOCTL v
  if n.on F.CLK_XOCTL.KEEP && n.f F.CLK_STAT.XO == 0 then
    ((n.setF F.CLK_STAT.XO 1).setF F.PWR_STAT.XOON 1).upPwr fun x => { x with xoT := n.now }
  else n.clocksStop

/-! ## Entries (R450, R451, R454) -/

/-- The Oapiec PWR event: domain `d` has reached state `st` (R463). -/
def Lane.pwrNotify (n : Lane) (d st : Nat) : Lane :=
  if d = dCORE ∨ n.domState dCORE ≠ 0 then n else n.eventW 12 (BitVec.ofNat 32 (d * 256 + st))

/-- The latched request of domain `d` is applied as its transition completes, unless it names the state just reached (R454). -/
def Lane.applyPend (n : Lane) (d : Nat) : Lane :=
  if n.on (F.PWR_Dd_STAT.PVAL d) then
    let p := n.f (F.PWR_Dd_STAT.PEND d)
    let n := n.setFs [(F.PWR_Dd_STAT.PVAL d, 0), (F.PWR_Dd_STAT.PEND d, 0)]
    let st := n.domState d
    if p = st then n
    else if p = 0 ∨ st = 2 then n.beginExit d
    else n.beginEntry d p
  else n

/-- IDLE_COUNT_EXPIRY (R450): domain `d` has had no access for its idle time. -/
def idleExpiry (d : Nat) (n : Lane) : Lane :=
  (n.upPwr fun x => { x with idle := if x.idle.contains d then x.idle else d :: x.idle }).evalDom d

/-- DOMAIN_ENTRY_COMPLETE (R451, R453, R454): 400 LCLK after its request an entry completes; a late wake begins the exit. -/
def entryComplete (d : Nat) (n : Lane) : Lane :=
  if n.domState d = 3 ∧ Cells.get 0 n.pwr.entT d + 400 ≤ n.now then
    let st := n.f (F.PWR_Dd_STAT.TARGET d)
    let n := (n.setDom d st).portsFollow
    let n := n.pwrNotify d st
    let late := n.pwr.late.contains d
    let n := n.upPwr fun x => { x with late := x.late.filter (· != d) }
    let n := if late then n.beginExit d else n.applyPend d
    n.evalAll.clocksStop
  else n

/-- The switched domains 1 to 8 a test takes out of service (R471, R474, R491). -/
def SelfTest.domains (x : SelfTest) : List Nat :=
  let p := fun k => x.parts.testBit k
  let m := fun k => x.mems.testBit k
  [(p 7, dCLE), (p 8 || m 5, dCFE), (p 9, dFBI), (p 10 || p 11, dACT), (p 12 || m 3 || m 4, dTPE), (p 13 || p 15 || m 6, dAUX)].filterMap
    fun e => if e.1 then some e.2 else none

/-- DOMAIN_EXIT_TIMEOUT (R455): a domain not ON within its bound, and not in a test (R491); the exit is repeated. -/
def exitTimeout (d : Nat) (n : Lane) : Lane :=
  let tested := n.sys.selfTest.any fun t => t.domains.contains d
  if n.domState d = 4 ∧ tested = false ∧ (Cells.get 0 n.pwr.dueT d ≤ n.now ∨ n.injArmed 0x0C d) then
    let n := ((n.stepSat (F.PWR_Dd_CNT.FAILS d)).pwrEvt F.PWR_EVT.DOMFAIL d).raise 0x0C 1 d
    n.upPwr fun x => { x with
      exitT := Cells.set 0 x.exitT d n.now, dueT := Cells.set 0 x.dueT d (n.exitBound d (Cells.get 0 x.leaving d)) }
  else n

/-! ## Clock events (R444, R446) -/

/-- Exits that waited for a clock begin in the present cycle. -/
def Lane.exitsFrom (n : Lane) (p : Nat → Bool) : Lane :=
  forEach [0, 1, 2, 3, 4, 5, 6, 7, 8] (fun d n =>
    if n.domState d = 4 && p d then n.upPwr fun x => { x with exitT := Cells.set 0 x.exitT d n.now } else n) n

/-- XO_STABLE (R444): the glide to the XO begins once the PLL is locked. -/
def xoStable (n : Lane) : Lane :=
  if n.on F.PWR_STAT.XOON ∧ n.f F.CLK_STAT.XO ≠ 2 then
    let n := (n.setF F.CLK_STAT.XO 2).upPwr fun x => { x with xoFail := false }
    if n.on F.CLK_STAT.LOCK && !n.on F.CLK_STAT.REF then n.setF F.CLK_STAT.GLIDE 1 else n
  else n

/-- PLL_LOCK (R443, R446). -/
def pllLock (n : Lane) : Lane :=
  if n.on F.PWR_STAT.PLLON ∧ !n.on F.CLK_STAT.LOCK then
    let n := (n.setF F.CLK_STAT.LOCK 1).upPwr fun x => { x with pllFail := false }
    let n := n.exitsFrom fun d => !xoClass d
    if n.f F.CLK_STAT.XO = 2 ∧ !n.on F.CLK_STAT.REF then n.setF F.CLK_STAT.GLIDE 1 else n
  else n

/-- GLIDE_COMPLETE (R444): the reference is the XO. -/
def glideComplete (n : Lane) : Lane :=
  if n.on F.CLK_STAT.GLIDE then
    let n := n.setFs [(F.CLK_STAT.GLIDE, 0), (F.CLK_STAT.REF, 1), (F.PWR_STAT.XOREF, 1)]
    (if n.domState dACT = 0 then n.setF F.CLK_STAT.REFOUT 1 else n).exitsFrom xoClass
  else n

/-- CRYSTAL_FAIL (R446): not STABLE 3 ms after its start, or lost once STABLE. -/
def crystalFail (n : Lane) : Lane :=
  if (n.f F.CLK_STAT.XO = 1 ∧ (n.pwr.xoT + 1200000 ≤ n.now ∨ n.injArmed 0x09 0)) ∨ n.f F.CLK_STAT.XO = 2 then
    let n := n.setFs [(F.CLK_STAT.XO, 3), (F.CLK_STAT.REF, 0), (F.CLK_STAT.GLIDE, 0), (F.CLK_STAT.REFOUT, 0), (F.PWR_STAT.XOREF, 0)]
    let n := n.upPwr fun x => { x with xoFail := true }
    (n.sqEventOnce F.CLK_EVT.XOFAIL).raise 0x09 1 0
  else n

/-- PLL_UNLOCK (R446). -/
def pllUnlock (n : Lane) : Lane :=
  if n.on F.CLK_STAT.LOCK then
    let n := (n.setF F.CLK_STAT.LOCK 0).upPwr fun x => { x with pllFail := true }
    (n.sqEventOnce F.CLK_EVT.UNLOCK).raise 0x0A 2 0
  else n

/-- ACLK_CALIBRATION (R446, R465): LPT is measured on the XO every 32 ACLK ticks. -/
def aclkCal (lpt : Nat) (n : Lane) : Lane :=
  if n.f F.CLK_STAT.XO = 2 then
    let n := n.setFs [(F.CLK_ACLKCAL.LPT, lpt), (F.CLK_ACLKCAL.VALID, 1)]
    if ((lpt : Int) - 390625).natAbs * 100 > 390625 * 5 ∨ n.injArmed 0x0B 0 then (n.sqEventOnce F.CLK_EVT.ACLK).raise 0x0B 3 0 else n
  else n

/-! ## Wakes (R456 to R459) -/

/-- VETCH_LINE_CHANGE (R456): VW_CLK and VW_DAT take these levels. -/
def vetchLine (clk dat : Bool) (n : Lane) : Lane :=
  let v := n.pwr.vetch
  let en := n.on F.PWR_VWCFG.EN
  let hitNow := fun (byte : Nat) => byte == n.f F.PWR_VWCFG.ADDR || (byte == 0 && n.on F.PWR_VWCFG.BCAST)
  let v' : Vetch :=
    if !en then { clk := clk, dat := dat }
    else if v.clk && clk then
      if v.dat && !dat then { clk := clk, dat := dat, active := true }
      else if !v.dat && dat then { v with dat := dat, active := false, ack := false }
      else v
    else if !v.clk && clk then
      if v.active && decide (v.count < 8) then
        let sh := (v.shift * 2 + b1 dat) % 256
        { v with clk := clk, dat := dat, shift := sh, count := v.count + 1, hit := v.hit || (v.count == 7 && hitNow sh) }
      else { v with clk := clk, dat := dat }
    else if v.clk && !clk then
      if v.active && v.count == 8 && hitNow v.shift && !v.ack then { v with clk := clk, dat := dat, ack := true }
      else if v.ack then { v with clk := clk, dat := dat, ack := false, active := false }
      else { v with clk := clk, dat := dat }
    else { v with clk := clk, dat := dat }
  n.upPwr fun x => { x with vetch := v' }

/-- A wake with a cause for DOMS and CORE; in a lane already ON the cause is recorded at once (R457, R458). -/
def Lane.wakeAll (n : Lane) (doms : Nat) (flag : FRef) : Lane :=
  let n := if n.domState dCORE = 0 then n.sqEventOnce flag else n
  n.wakeDoms doms flag

/-- VETCH_MATCH (R457). -/
def vetchMatch (n : Lane) : Lane :=
  if n.pwr.vetch.hit && n.on F.PWR_VWCFG.EN then
    (n.upPwr fun x => { x with vetch := { x.vetch with hit := false } }).wakeAll (n.f F.PWR_VWCFG.DOMS) F.PWR_WCAUSE.VETCH
  else n

/-- LINTEL_WAKE_RECEIVE (R458). -/
def lintelWake (n : Lane) : Lane :=
  if n.on F.PWR_LWCFG.EN then n.wakeAll (n.f F.PWR_LWCFG.DOMS) F.PWR_WCAUSE.LINTEL else n

/-- The wake timer is loaded from PWR_WTMR (R459). -/
def Lane.wakeLoad (n : Lane) : Lane := n.upPwr fun x => { x with wtT := n.now, wtN := n.f F.PWR_WTMR.TICKS }

/-- What the wake timer still has to count, in ACLK ticks (R459). -/
def Lane.wakeCount (n : Lane) : Nat := n.pwr.wtN - Config.aclkTicks (n.now - n.pwr.wtT)

/-- WAKE_TIMER_EXPIRY (R459). -/
def wakeTimer (n : Lane) : Lane :=
  if n.on F.PWR_WTCTL.EN then
    let n := n.wakeLoad
    let n := if n.on F.PWR_WTCTL.PERIODIC then n else n.setF F.PWR_WTCTL.EN 0
    n.wakeDoms (n.f F.PWR_WTCTL.DOMS) F.PWR_WCAUSE.TIMER
  else n

/-- PEERWAKE (R458): the Lintel wake goes out. -/
def peerwake (v : W32) (n : Lane) : Lane :=
  if F.PWR_CMD.PEERWAKE.val v = 1 then n.send .wake else n

/-! ## Supplies (R460) -/

/-- The status bit of supply `k`: 0 VCORE, 1 VIO, 2 VANA. -/
def supplyF (k : Nat) : FRef := if k = 0 then F.PWR_STAT.VCOREOK else if k = 1 then F.PWR_STAT.VIOOK else F.PWR_STAT.VANAOK

/-- SUPPLY_OUT_OF_WINDOW (R460): supplies are monitored only while some switched domain is not OFF. -/
def supplyOut (k : Nat) (n : Lane) : Lane :=
  let m := n.upPwr fun x => { x with supOut := if x.supOut.contains k then x.supOut else k :: x.supOut }
  if [0, 1, 2, 3, 4, 5, 6, 7, 8].all fun d => n.domState d == 2 then m
  else if n.pwr.supOut.contains k && !n.on (supplyF k) && !n.foundAgain 0x0D k then n
  else ((m.setF (supplyF k) 0).pwrEvt F.PWR_EVT.SUPPLY 0).raise 0x0D 2 k

/-- SUPPLY_IN_WINDOW (R460, R503). -/
def supplyIn (k : Nat) (n : Lane) : Lane :=
  (n.setF (supplyF k) 1).upPwr fun x => { x with supOut := x.supOut.filter (· != k), supT := some n.now }

/-! ## Register writes and reads -/

/-- A plain write to a PWR register: a change of LAT is evaluated, and one that makes the target shallower wakes (R450, R452);
the clocks follow, and DOMS bit 0 reads 1. -/
def pwrStore (off : Nat) (v : W32) (n : Lane) : Lane :=
  let en := n.on F.PWR_WTCTL.EN
  let n := n.store off v
  if off = R.PWR_VWCFG then n.setBit F.PWR_VWCFG.DOMS 0 true
  else if off = R.PWR_LWCFG then n.setBit F.PWR_LWCFG.DOMS 0 true
  else if off = R.PWR_WTCTL then
    let n := n.setBit F.PWR_WTCTL.DOMS 0 true
    if n.on F.PWR_WTCTL.EN ∧ !en then n.wakeLoad else n
  else match [0, 1, 2, 3, 4, 5, 6, 7, 8].find? fun d => off == R.PWR_Dd_LAT d with
    | some d => (n.evalDom d).clocksStop
    | none => n

/-- Residency of domain `d` in state `k`, in ACLK ticks (R461). -/
def Lane.residency (n : Lane) (d k : Nat) : Nat :=
  let m := n.resMark d
  Config.aclkTicks (Cells.get 0 m.pwr.res (3 * d + k))

/-- PWR registers computed when read: HELD (R449) and residency (R461). -/
def Lane.pwrView (n : Lane) (off : Nat) : W32 :=
  match [0, 1, 2, 3, 4, 5, 6, 7, 8].find? fun d => off == R.PWR_Dd_STAT d with
  | some d => setBits (n.rd off) 8 8 (b1 (n.held d))
  | none =>
    let q := (off - 0x001100) / 0x40
    let r := (off - 0x001100) % 0x40
    if 0x001100 ≤ off ∧ q < 9 ∧ 0x20 ≤ r ∧ r < 0x38 then
      let t := n.residency q ((r - 0x20) / 8)
      BitVec.ofNat 32 (if r % 8 = 0 then t else t / 2 ^ 32)
    else n.rd off

/-! ## Commands -/

def execIdleCountExpiry (l : LaneId) (t : Nat) (d : Fin 9) (s : State) : Host.Outcome State Fault Refusal := onAon l t s (idleExpiry d.val)
def execDomainEntryComplete (l : LaneId) (t : Nat) (d : Fin 9) (s : State) : Host.Outcome State Fault Refusal :=
  onAon l t s (entryComplete d.val)
def execDomainExitTimeout (l : LaneId) (t : Nat) (d : Fin 9) (s : State) : Host.Outcome State Fault Refusal := onAon l t s (exitTimeout d.val)
def execXoStable (l : LaneId) (t : Nat) (s : State) : Host.Outcome State Fault Refusal := onAon l t s xoStable
def execPllLock (l : LaneId) (t : Nat) (s : State) : Host.Outcome State Fault Refusal := onAon l t s pllLock
def execGlideComplete (l : LaneId) (t : Nat) (s : State) : Host.Outcome State Fault Refusal := onAon l t s glideComplete
def execCrystalFail (l : LaneId) (t : Nat) (s : State) : Host.Outcome State Fault Refusal := onAon l t s crystalFail
def execPllUnlock (l : LaneId) (t : Nat) (s : State) : Host.Outcome State Fault Refusal := onAon l t s pllUnlock
def execAclkCalibration (l : LaneId) (t : Nat) (lpt : BitVec 20) (s : State) : Host.Outcome State Fault Refusal := onAon l t s (aclkCal lpt.toNat)
def execVetchLineChange (l : LaneId) (t : Nat) (clk dat : Bool) (s : State) : Host.Outcome State Fault Refusal := onAon l t s (vetchLine clk dat)
def execVetchMatch (l : LaneId) (t : Nat) (s : State) : Host.Outcome State Fault Refusal := onAon l t s vetchMatch
def execLintelWakeReceive (l : LaneId) (t : Nat) (s : State) : Host.Outcome State Fault Refusal := onAon l t s lintelWake
def execWakeTimerExpiry (l : LaneId) (t : Nat) (s : State) : Host.Outcome State Fault Refusal := onAon l t s wakeTimer
def execPeerwake (l : LaneId) (t : Nat) (org : Origin) (v : W32) (s : State) : Host.Outcome State Fault Refusal :=
  onLane l t s fun n => n.regWrite org.code R.PWR_CMD v (peerwake v)
def execSupplyOutOfWindow (l : LaneId) (t : Nat) (k : Fin 3) (s : State) : Host.Outcome State Fault Refusal := onAon l t s (supplyOut k.val)
def execSupplyInWindow (l : LaneId) (t : Nat) (k : Fin 3) (s : State) : Host.Outcome State Fault Refusal := onAon l t s (supplyIn k.val)

end Sys2Proof.Machine
end

