-- ==== Sys2Proof/Machine/Lnt.lean ====
section
/-! DEFINITION. Lanes and roles (spec/16): the role of the lane, its heartbeat word and claim, takeover and yield, gateway
checkpoints in the Cairn region and their mirror. The end of a takeover is in Bus.lean, since it writes registers. -/

namespace Sys2Proof.Machine

/-! ## Lintel frames (R398) -/

/-- A frame arrives: the data path receives while CORE is ON; a frame whose CRC fails is discarded and counted. -/
def Lane.lintelRx (n : Lane) (crc : Bool) (f : Lane → Lane) : Lane :=
  if !n.domOn dCORE then n else if crc then f n else n.stepSat F.LNT_LINKCNT.CRCERR

/-! ## Roles (R395, R396, R410) -/

def roleNONE : Nat := 0
def roleSTANDBY : Nat := 1
def roleTAKING : Nat := 2
def roleACTIVE : Nat := 3
def roleYIELDING : Nat := 4

def Lane.role (n : Lane) : Nat := n.f F.LNT_ROLE.ROLE

/-- The lane is isolated (R410). -/
def Lane.isolated (n : Lane) : Bool := decide (2 ≤ n.f F.LNT_GWSTAT.QUIET)

/-- The lane is eligible for the gateway role (R396). -/
def Lane.eligible (n : Lane) : Bool :=
  n.on F.LNT_CTRL.EN && n.tpeSt == tACTIVE && !n.isolated && !n.on F.KST_STAT.LANESAFE && !n.oap.stopped

/-- The heartbeat word (R399). -/
def Lane.hbWord (n : Lane) : W32 :=
  BitVec.ofNat 32 (n.role * 2 ^ 29 + b1 n.eligible * 2 ^ 28 + b1 n.oap.frozen.isSome * 2 ^ 27 + n.f F.KST_STAT.LANESAFE * 2 ^ 26
    + b1 (n.domOn dAUX) * 2 ^ 25 + b1 n.isolated * 2 ^ 24 + n.f F.LNT_ROLE.EPOCH * 2 ^ 16 + n.f F.LNT_CKSEQ.SEQ % 2 ^ 16)

/-- Fields of the peer's heartbeat word. -/
def hbRole (w : W32) : Nat := bits w 31 29
def hbElig (w : W32) : Bool := bits w 28 28 == 1
def hbEpoch (w : W32) : Nat := bits w 23 16
def hbSeq (w : W32) : Nat := bits w 15 0

def Lane.peerHb (n : Lane) : W32 := n.rd R.LNT_PEERHB

/-- The peer's heartbeat is present and shows role `r`. -/
def Lane.peerShows (n : Lane) (r : Nat) : Bool := n.on F.LNT_ROLE.PEERHB && hbRole n.peerHb == r

/-- The peer can take the role (R409). -/
def Lane.peerCanTake (n : Lane) : Bool := n.peerShows roleSTANDBY && hbElig n.peerHb

/-- CLAIM_COMMIT (R400): the claim goes into the own claim buffer. -/
def Lane.claimCommit (n : Lane) : Lane :=
  let b := n.f F.LNT_GWCFG.OWNBUF
  if n.domOn dTPE ∧ n.f (F.TPE_BUFb_CFG.DIR b) = 1 then
    (n.bufPut b (n.f (F.TPE_BUFb_STAT.WIDX b)) [n.hbWord, n.rd R.LNT_CKSEQ]).commit b
  else n

/-- The Oapiec LINTEL event, with LNT_PEERHB as its data word (R399). -/
def Lane.lintelEvent (n : Lane) : Lane := n.eventW 7 n.peerHb

/-- The role changes (R397): the Lintel role source with cause, old and new role, the LINTEL event, the claim. A lane that leaves
ACTIVE takes its controllers out of NORMAL at their next bus idle (R334); one that returns to ACTIVE before that keeps them. -/
def Lane.setRole (n : Lane) (r cause : Nat) : Lane :=
  let old := n.role
  if old = r then n
  else
    let n := ((n.setF F.LNT_ROLE.ROLE r).sqEventOnce F.LNT_EVT.ROLE).raise 0x24 5 (cause * 256 + old * 16 + r)
    let n := if old = roleACTIVE then
        n.upCan fun c => { c with leave := [0, 1].filter fun k => n.f (F.CAN_Cc_MODE.MODE k) == 2 }
      else if r = roleACTIVE then n.upCan fun c => { c with leave := [] }
      else n
    (n.lintelEvent.claimCommit).checkHolds

/-- ROLE_ENTRY (R397): the first role once EN is set and the TPE is ACTIVE. -/
def Lane.roleEntry (n : Lane) : Lane :=
  if n.on F.LNT_CTRL.EN ∧ n.role = roleNONE ∧ n.tpeSt = tACTIVE then
    if n.id.num = n.f F.LNT_PERMIT.GWLANE ∧ ¬ n.lnt.claimed then n.setRole roleACTIVE 0 else n.setRole roleSTANDBY 0
  else n

/-- TAKEOVER_START (R406) and the move to YIELDING of an ACTIVE lane that is not eligible (R409). -/
def Lane.lntCheck (n : Lane) : Lane :=
  if n.role = roleACTIVE then
    if !n.eligible && n.peerCanTake then n.setRole roleYIELDING 2 else n
  else if n.role = roleSTANDBY ∧ n.eligible then
    let timeout := n.on F.LNT_HBSTAT.LOST && decide (2 ≤ n.f F.LNT_GWSTAT.PEERAGE)
    let match_ := n.peerShows roleYIELDING && hbSeq n.peerHb == n.f F.LNT_CKSEQ.SEQ % 2 ^ 16
    if timeout || match_ then
      let n := (n.stepSat F.LNT_TKSTAT.COUNT).upLnt fun x => { x with takT := n.now, takC := if timeout then 1 else 2 }
      n.setRole roleTAKING (if timeout then 1 else 2)
    else n
  else n

/-- A lane 2 in ACTIVE yields to lane 1 (R411). -/
def Lane.rankYield (n : Lane) : Lane :=
  if n.id = .lane2 ∧ n.role = roleACTIVE then (n.sqEventOnce F.LNT_EVT.DUAL).setRole roleSTANDBY 3 else n

/-! ## The Cairn region (R402 to R405) -/

/-- Word at byte offset `o` of gateway slot `k`. -/
def Lane.slotWord (n : Lane) (k o : Nat) : W32 := Cells.get 0#32 n.mram.cairn (0x10000 * k + o)

/-- Write the word at window offset `o`. -/
def Lane.cairnPut (n : Lane) (o : Nat) (v : W32) : Lane := n.upMram fun m => { m with cairn := Cells.set 0#32 m.cairn o v }

/-- The current slot and the other. -/
def Lane.curSlot (n : Lane) : Nat := n.f F.LNT_CKSTAT.CUR
def Lane.otherSlot (n : Lane) : Nat := 1 - n.curSlot

/-- Writes being gathered leave as a MIRROR frame; a single word leaves with the other word of its eight bytes, the least a frame
carries (R398). -/
def Lane.mirrorFlush (n : Lane) : Lane :=
  match n.lnt.gather with
  | some (k, o, ws) =>
    let f := if ws.length = 1 then LFrame.mirror k (o / 8 * 8) [n.slotWord k (o / 8 * 8), n.slotWord k (o / 8 * 8 + 4)] else .mirror k o ws
    (n.send f).upLnt fun x => { x with gather := none }
  | none => n

/-- A store of policy firmware to a gateway slot goes to the peer (R405). -/
def Lane.mirrorWrite (n : Lane) (k o : Nat) (v : W32) : Lane :=
  match n.lnt.gather with
  | some (j, p, ws) =>
    if j = k ∧ o = p + 4 * ws.length ∧ ws.length < 64 then n.upLnt fun x => { x with gather := some (j, p, ws ++ [v]) }
    else n.mirrorFlush.upLnt fun x => { x with gather := some (k, o, [v]) }
  | none => n.upLnt fun x => { x with gather := some (k, o, [v]) }

/-- A slot's header allows its commit as `seq` (R404). -/
def Lane.headerOk (n : Lane) (k : Nat) (seq : W32) : Bool :=
  let w := fun o => (n.slotWord k o).toNat
  let len := w 8
  w 0 == 0x4E524143 && n.slotWord k 4 == seq && len % 8 == 0 && decide (32 ≤ len) && decide (len ≤ 32768) && decide (w 0x0C ≤ 1024)
    && decide (32 + 8 * w 0x0C ≤ w 0x10) && decide (w 0x10 < len)

/-- Slot `k` becomes current with sequence `seq`. -/
def Lane.makeCurrent (n : Lane) (k : Nat) (seq : W32) (mirrored : Bool) : Lane :=
  (n.setFs [(F.LNT_CKSTAT.VALID, 1), (F.LNT_CKSTAT.ORIGIN, b1 mirrored), (F.LNT_CKSTAT.CUR, k)]).wr R.LNT_CKSEQ seq

/-- A commit or COMMIT is refused (R404, R405). -/
def Lane.mirrorRefused (n : Lane) (word : Nat) : Lane :=
  ((n.stepSat F.LNT_CKCNT.MFAIL).sqEventOnce F.LNT_EVT.MIRROR).raise 0x23 4 word

/-- CHECKPOINT_COMMIT (R404): the non-current slot, at a course boundary. -/
def Lane.checkpoint (n : Lane) : Lane :=
  if n.role = roleACTIVE ∨ n.role = roleYIELDING then
    let k := n.otherSlot
    let seq := n.rd R.LNT_CKSEQ + 1#32
    let wrote := n.lnt.hdr
    let n := n.upLnt fun x => { x with hdr := false }
    if n.headerOk k seq then ((n.makeCurrent k seq false).mirrorFlush).send (.commit k seq false)
    else
      let n := (n.stepSat F.LNT_CKCNT.SKIP).sqEventOnce F.LNT_EVT.CKSKIP
      if wrote then n.mirrorRefused 0 else n
  else n

/-- CHECKPOINT_RESYNC (R405): the whole current slot and a COMMIT of the same SEQ are sent. -/
def Lane.resync (n : Lane) : Lane :=
  if n.role = roleACTIVE ∧ n.peerShows roleSTANDBY ∧ hbSeq n.peerHb ≠ n.f F.LNT_CKSEQ.SEQ % 2 ^ 16 ∧ !n.on F.LNT_CKSTAT.RESYNC then
    let k := n.curSlot
    let n := n.mirrorFlush
    let whole := (List.range 256).map fun i => LFrame.mirror k (256 * i) ((List.range 64).map fun j => n.slotWord k (256 * i + 4 * j)) true
    let n := n.upSys fun s => { s with tx := s.tx ++ whole }
    (n.send (.commit k (n.rd R.LNT_CKSEQ) true)).setF F.LNT_CKSTAT.RESYNC 1
  else n

/-- MIRROR_RECEIVE (R405): a standby writes the frame into the slot it names. -/
def mirrorReceive (k o : Nat) (ws : List W32) (n : Lane) : Lane :=
  if n.role = roleSTANDBY then
    (ws.foldl (fun (a : Lane × Nat) w => (if a.2 < 0x10000 then a.1.cairnPut (0x10000 * k + a.2) w else a.1, a.2 + 4)) (n, o / 4 * 4)).1
  else n

/-- MIRROR_COMMIT_RECEIVE (R405): in sequence, or the end of a resync. -/
def mirrorCommit (k : Nat) (seq : W32) (resync : Bool) (n : Lane) : Lane :=
  if n.role = roleSTANDBY then
    if seq = n.rd R.LNT_CKSEQ + 1#32 ∨ resync then (n.makeCurrent k seq true).lntCheck else n.mirrorRefused 1
  else n

/-! ## Heartbeats (R399) -/

/-- HEARTBEAT_SEND (R399): every 4 µs while CORE is ON. -/
def heartbeatSend (n : Lane) : Lane :=
  if n.lnt.sentT + 1600 ≤ n.now then
    let n := n.mirrorFlush.upLnt fun x => { x with sentT := n.now }
    n.send (.heartbeat n.hbWord)
  else n

/-- HEARTBEAT_RECEIVE (R399, R405, R409, R411). -/
def heartbeatReceive (w : W32) (n : Lane) : Lane :=
  let old := n.peerHb
  let back := n.on F.LNT_HBSTAT.LOST
  let n := (n.wr R.LNT_PEERHB w).setFs [(F.LNT_ROLE.PEERROLE, hbRole w), (F.LNT_ROLE.PEERELIG, b1 (hbElig w)), (F.LNT_ROLE.PEERHB, 1),
    (F.LNT_HBSTAT.LOST, 0)]
  let n := n.upLnt fun x => { x with hbT := n.now }
  let n := if back || bits old 31 26 != bits w 31 26 then n.lintelEvent else n
  let n := if n.id = .lane2 ∧ hbRole w = roleACTIVE then n.rankYield else n
  let n := if n.role = roleYIELDING ∧ hbRole w = roleACTIVE then n.setRole roleSTANDBY 2 else n
  n.resync.lntCheck

/-- HEARTBEAT_MISSING (R399, R409). -/
def heartbeatMissing (n : Lane) : Lane :=
  if (n.lnt.hbT + 20000 ≤ n.now ∨ n.injArmed 0x21 0) ∧ (!n.on F.LNT_HBSTAT.LOST ∨ n.foundAgain 0x21 0) then
    let n := ((n.setFs [(F.LNT_HBSTAT.LOST, 1), (F.LNT_ROLE.PEERHB, 0)]).sqEventOnce F.LNT_EVT.HBLOST).raise 0x21 2 0
    let n := n.lintelEvent
    let n := if n.role = roleYIELDING then n.setRole roleACTIVE 2 else n
    n.lntCheck
  else n

/-- LINTEL_SYNC_LOSS (R398). -/
def syncLoss (n : Lane) : Lane :=
  if n.on F.LNT_HBSTAT.LINKUP then
    (((n.setF F.LNT_HBSTAT.LINKUP 0).stepSat F.LNT_LINKCNT.LOCKLOSS).sqEventOnce F.LNT_EVT.LINK).raise 0x22 3 0
  else n

/-- LINTEL_SYNC_ACQUIRED (R398). -/
def syncAcquired (n : Lane) : Lane := n.setF F.LNT_HBSTAT.LINKUP 1

/-! ## Course boundaries and deliveries (R401, R404, R410, R411) -/

/-- A valid frame of node `origin` was delivered, into buffer `b` if some (R401, R410). -/
def Lane.lntDelivered (n : Lane) (origin : Nat) (b : Option Nat) : Lane :=
  let n := if origin = n.node then n else n.setF F.LNT_GWSTAT.QUIET 0
  if b = some (n.f F.LNT_GWCFG.PEERBUF) then
    let r := hbRole ((n.bufNew (n.f F.LNT_GWCFG.PEERBUF)).getD 0 0#32)
    let n := if r = roleACTIVE ∨ r = roleYIELDING then n.setF F.LNT_GWSTAT.PEERAGE 0 else n
    if r = roleACTIVE then n.upLnt fun x => { x with claim := true } else n
  else n

/-- What the LNT does in a boundary cycle; `fresh`: the TPE enters ACTIVE in it (R401). -/
def Lane.lntBoundary (n : Lane) (fresh : Bool) : Lane :=
  let n := (n.stepSat F.LNT_GWSTAT.PEERAGE).stepSat F.LNT_GWSTAT.QUIET
  let n := if fresh then n.setF F.LNT_GWSTAT.PEERAGE 0 else n
  let n := n.upLnt fun x => { x with claimed := x.claim, claim := false }
  if n.on F.LNT_CTRL.EN then
    let n := if n.lnt.claimed then n.rankYield else n
    (n.checkpoint.roleEntry.lntCheck).claimCommit
  else n

/-! ## Commands of the LNT (R400, R409, R417) -/

/-- LNT_BLOCK_ENABLE: a write of LNT_CTRL. -/
def lntEnable (org : Nat) (v : W32) (n : Lane) : Lane :=
  let en := F.LNT_CTRL.EN.val v == 1
  let buf := fun (b dir : Nat) => n.f (F.TPE_BUFb_CFG.DIR b) == dir && n.f (F.TPE_BUFb_CFG.LEN b) != 0
  let peer := n.f F.SYS_ASHPEER.STATE
  if en && !n.on F.LNT_CTRL.EN then
    if buf (n.f F.LNT_GWCFG.OWNBUF) 1 && buf (n.f F.LNT_GWCFG.PEERBUF) 2 && (peer == 1 || peer == 3 || peer == 4) then
      (n.setF F.LNT_CTRL.EN 1).roleEntry.lntCheck
    else n.rejectState org R.LNT_CTRL
  else if !en && n.on F.LNT_CTRL.EN then
    if n.role = roleTAKING ∨ n.role = roleACTIVE ∨ n.role = roleYIELDING then n.rejectState org R.LNT_CTRL
    else (n.setF F.LNT_CTRL.EN 0).setRole roleNONE 4
  else n

/-- HANDOVER: a write of LNT_ROLECMD. -/
def handover (org : Nat) (v : W32) (n : Lane) : Lane :=
  if F.LNT_ROLECMD.HANDOVER.val v = 0 then n
  else if n.role = roleACTIVE ∧ n.peerCanTake then n.setRole roleYIELDING 2
  else n.rejectState org R.LNT_ROLECMD

/-- LNT registers computed when read. -/
def Lane.lntView (n : Lane) (off : Nat) : W32 :=
  if off = R.LNT_ROLE then setBits (setBits (n.rd off) 28 28 (b1 n.eligible)) 27 27 (b1 n.isolated)
  else if off = R.LNT_HBSTAT then setBits (n.rd off) 15 0 (min 65535 ((n.now - n.lnt.hbT) / 400))
  else if off = R.LNT_CKSTAT then setBits (n.rd off) 10 0 (min 1024 n.mirrorLen)
  else n.rd off

/-! ## Commands -/

def execHeartbeatReceive (l : LaneId) (t : Nat) (crc : Bool) (w : W32) (s : State) : Host.Outcome State Fault Refusal :=
  onLane l t s fun n => n.lintelRx crc (heartbeatReceive w)
def execHeartbeatMissing (l : LaneId) (t : Nat) (s : State) : Host.Outcome State Fault Refusal := onDomain l t dCORE s heartbeatMissing
def execLintelSyncLoss (l : LaneId) (t : Nat) (s : State) : Host.Outcome State Fault Refusal := onDomain l t dCORE s syncLoss
def execLintelSyncAcquired (l : LaneId) (t : Nat) (s : State) : Host.Outcome State Fault Refusal := onDomain l t dCORE s syncAcquired
def execMirrorReceive (l : LaneId) (t : Nat) (crc : Bool) (slot : Fin 2) (off : BitVec 16) (data : List W32) (s : State) :
    Host.Outcome State Fault Refusal :=
  wellFormedOnly (mirrorOk data) (onLane l t s fun n => n.lintelRx crc (mirrorReceive slot.val off.toNat data))
def execMirrorCommitReceive (l : LaneId) (t : Nat) (crc : Bool) (slot : Fin 2) (seq : W32) (resync : Bool) (s : State) :
    Host.Outcome State Fault Refusal :=
  onLane l t s fun n => n.lintelRx crc (mirrorCommit slot.val seq resync)
def execLntBlockEnable (l : LaneId) (t : Nat) (org : Origin) (v : W32) (s : State) : Host.Outcome State Fault Refusal :=
  onLane l t s fun n => n.regWrite org.code R.LNT_CTRL v (lntEnable org.code v)
def execHandover (l : LaneId) (t : Nat) (org : Origin) (v : W32) (s : State) : Host.Outcome State Fault Refusal :=
  onLane l t s fun n => n.regWrite org.code R.LNT_ROLECMD v (handover org.code v)

end Sys2Proof.Machine
end

