-- ==== Sys2Proof/Machine/Saf.lean ====
section
/-! DEFINITION. Machine safety functions (spec/15): contact pairs, test pulses, torque permits, brake outputs, seal straps and
the lane status outputs. ACLK sequences the block (R374): its timers and samples are commands, and a kick carries the ACLK
ticks passed since the last accepted one. -/

namespace Sys2Proof.Machine

/-- Pair states (R377). -/
def sOFF : Nat := 0
def sSTARTING : Nat := 1
def sINACTIVE : Nat := 2
def sACTIVE : Nat := 3
def sDISC : Nat := 4
def sTESTFAIL : Nat := 5

def Lane.pair (n : Lane) (p : Nat) : SafPair := n.saf.pairs.getD p {}
def Lane.setPair (n : Lane) (p : Nat) (x : SafPair) : Lane := n.upSaf fun s => { s with pairs := s.pairs.set p x }
def Lane.pairSt (n : Lane) (p : Nat) : Nat := n.f (F.SAF_SINp_STAT.STATE p)
def Lane.setPairSt (n : Lane) (p st : Nat) : Lane := n.setF (F.SAF_SINp_STAT.STATE p) st

/-- Contacts a and b at their active levels (R376). -/
def Lane.actA (n : Lane) (p : Nat) : Bool := !(n.pair p).a
def Lane.actB (n : Lane) (p : Nat) : Bool := (n.pair p).b == n.on (F.SAF_SINp_CFG.TYPE p)

/-- Pair `p` is demanding (R379): it is in use, and STARTING, ACTIVE, DISC or TESTFAIL. -/
def Lane.demanding (n : Lane) (p : Nat) : Bool := n.on (F.SAF_SINp_CFG.USE p) && n.pairSt p != sINACTIVE

/-- The torque permit of group `g` (R382). -/
def Lane.permitNow (n : Lane) (g : Nat) : Bool :=
  n.on F.SAF_CTRL.EN && !n.bit F.SAF_STOCMD.STO g && n.on F.SAF_STAT.SEALOK
    && [0, 1, 2, 3].all fun p => !(n.demanding p && n.bit (F.SAF_SINp_CFG.STO p) g)

/-- OKH (R390). -/
def Lane.okhNow (n : Lane) : Bool :=
  n.on F.SAF_CTRL.EN && n.on F.SYS_ARMSTAT.RELEASED && n.on F.SAF_STAT.SEALOK && !n.on F.KST_STAT.LANESAFE

/-- The conditions of R385 for output `k` other than its request and its off-test. -/
def Lane.brakeOk (n : Lane) (k : Nat) : Bool :=
  n.okhNow && !n.bit F.SAF_SBOSTAT.SBOF k && [0, 1, 2, 3].all fun p => !(n.demanding p && n.bit (F.SAF_SINp_CFG.BRK p) k)

/-- Pair `p` begins anew, in STARTING if it is in use and OFF otherwise (R375, R377); a failed contact still owes its two passing
pulses (R380). -/
def Lane.pairRestart (n : Lane) (p : Nat) : Lane :=
  let n := n.setPair p { n.pair p with ok0 := false, ok1 := false, timer := none, stage := 0, disc := false }
  n.setPairSt p (if n.on (F.SAF_SINp_CFG.USE p) then sSTARTING else sOFF)

/-- A and B show the filtered contacts of pair `p` at their active levels (R394). -/
def Lane.pairShow (n : Lane) (p : Nat) : Lane :=
  n.setFs [(F.SAF_SINp_STAT.A p, b1 (n.actA p)), (F.SAF_SINp_STAT.B p, b1 (n.actB p))]

/-- Pair `p` follows its configuration and EN: OFF while USE is 0, STARTING while EN is 0 (R375, R377); DEDUCED: a pair that a load
brings into use with EN kept begins as at the enable (log entry 105). -/
def Lane.pairFollow (n : Lane) (p : Nat) : Lane :=
  let use := n.on (F.SAF_SINp_CFG.USE p)
  let st := n.pairSt p
  let n := if (if use then !n.on F.SAF_CTRL.EN || st == sOFF else st != sOFF) then n.pairRestart p else n
  n.pairShow p

/-- The block's outputs follow its state (R379, R382, R385, R386, R390): DEMAND, SERVICE, PERMIT, OKH and SBOON are formed
anew, a permit that becomes withheld acts on its group, and a change of SAF_STAT raises the Oapiec event (R393). -/
def Lane.safUpdate (n : Lane) : Lane :=
  let was := n.f F.SAF_STAT.PERMIT
  let bitsOf := fun (xs : List Nat) (f : Nat → Bool) => xs.foldl (fun m i => m + b1 (f i) * 2 ^ i) 0
  let n := forEach [0, 1, 2, 3] (fun p n => n.pairFollow p) n
  let n := forEach [0, 1] (fun k n => if n.brakeOk k then n else n.setBit F.SAF_SBOCMD.REL k false) n
  let permit := bitsOf [0, 1] n.permitNow
  let n := n.setFs [
    (F.SAF_STAT.DEMAND, bitsOf [0, 1, 2, 3] n.demanding),
    (F.SAF_STAT.SERVICE, b1 ([0, 1, 2, 3].any fun p => n.on (F.SAF_SINp_CFG.SERVICE p) && n.pairSt p == sACTIVE)),
    (F.SAF_STAT.PERMIT, permit),
    (F.SAF_STAT.OKH, b1 n.okhNow),
    (F.SAF_STAT.SBOON, bitsOf [0, 1] fun k => n.bit F.SAF_SBOCMD.REL k && !n.bit F.SAF_SBOSTAT.TEST k)]
  let n := forEach [0, 1] (fun g n =>
    if was.testBit g && !permit.testBit g then
      let n := if n.grp g = gPENDING ∨ n.grp g = gRUN then n.raise (0x39 + g) 4 g else n
      n.catchEnd g rABORTED 0
    else n) n
  let w := n.rd R.SAF_STAT
  if w = n.saf.shown then n else (n.upSaf fun s => { s with shown := w }).eventW 11 w

/-- Every pair begins anew at the block's enable (R375, R377). -/
def Lane.pairsStart (n : Lane) : Lane := forEach [0, 1, 2, 3] (fun p n => n.pairRestart p) n

/-! ## Pair states (R377, R378) -/

/-- A pair whose reset sequence is complete, with its failed contact proved good, enters INACTIVE (R378). -/
def Lane.pairReset (n : Lane) (p : Nat) : Lane :=
  let x := n.pair p
  if x.stage = 2 ∧ ¬ n.actA p ∧ ¬ n.actB p ∧ ¬ (n.pairSt p = sTESTFAIL ∧ (x.failA ∨ x.failB)) then
    (n.setPair p { x with stage := 0, disc := false, timer := none }).setPairSt p sINACTIVE
  else n

/-- STARTING ends when each output has completed a passing pulse and both contacts agree (R377). -/
def Lane.pairStarted (n : Lane) (p : Nat) : Lane :=
  let x := n.pair p
  if n.pairSt p = sSTARTING ∧ n.on F.SAF_CTRL.EN ∧ x.ok0 ∧ x.ok1 ∧ n.actA p = n.actB p then
    n.setPairSt p (if n.actA p then sACTIVE else sINACTIVE)
  else n

/-- The state of a pair after its filtered contacts changed; `a0`, `b0`: at their active levels before (R377, R378). -/
def Lane.pairMove (n : Lane) (p : Nat) (a0 b0 : Bool) : Lane :=
  let x := n.pair p
  let a := n.actA p
  let b := n.actB p
  let st := n.pairSt p
  let both := a && b
  let none_ := !a && !b
  -- the timer runs while one contact has changed and the other has not followed
  let timer : Option Bool := if both || none_ then none else if a0 == b0 then some (!a0) else x.timer
  if st = sSTARTING then (n.setPair p { x with timer := timer }).pairStarted p
  else if st = sINACTIVE then
    if none_ then n
    else
      let n := (n.setPair p { x with timer := timer }).setPairSt p sACTIVE
      (n.stepWrap (F.SAF_SINp_CNT.ACTIVATIONS p)).sqEventOnce F.SAF_EVT.DEMAND
  else if st = sACTIVE then
    let n := n.setPair p { x with timer := timer }
    if none_ then n.setPairSt p sINACTIVE else n
  else if st = sDISC ∨ st = sTESTFAIL then
    let stage := if both then 1 else if x.stage = 1 ∧ none_ then 2 else if x.stage = 2 ∧ ¬ none_ then 0 else x.stage
    (n.setPair p { x with timer := timer, stage := stage }).pairReset p
  else n

/-- The test-pulse output that feeds contact a (or b) of pair `p` (R394). -/
def Lane.fedBy (n : Lane) (p : Nat) (b : Bool) : Nat := n.f (if b then F.SAF_SINp_CFG.STPB p else F.SAF_SINp_CFG.STPA p)

/-- The index of contact a (or b) of pair `p` in the operands of the test-pulse rows. -/
def contactIx (p : Nat) (b : Bool) : Nat := 2 * p + b1 b

/-- The level contact a (or b) of pair `p` is held at: that of the tick before its output's pulse, from the pulse's first tick until two
ticks after its last (R381). -/
def Lane.heldLevel (n : Lane) (p : Nat) (b : Bool) : Option Bool :=
  match n.saf.pulse.find? fun q => q.1 == n.fedBy p b with
  | some q => some (q.2.testBit (contactIx p b))
  | none => (n.saf.hold.find? fun h => h.1 == contactIx p b && decide (Config.aclkTicks (n.now - h.2.2) < 2)).map fun h => h.2.1

/-- The filtered level of a contact after a change to `lv` from `old`: a held contact's filter sees its held level alone (R381). -/
def Lane.taken (n : Lane) (p : Nat) (b lv old : Bool) : Bool :=
  match n.heldLevel p b with
  | some h => if lv = h then lv else old
  | none => lv

/-- CONTACT_CHANGE (R377, R381): the filtered levels of pair `p` become `a` and `b`. -/
def contactChange (p : Nat) (a b : Bool) (n : Lane) : Lane :=
  let a0 := n.actA p
  let b0 := n.actB p
  let x := n.pair p
  let n := (n.setPair p { x with a := n.taken p false a x.a, b := n.taken p true b x.b }).pairShow p
  if n.on F.SAF_CTRL.EN then (n.pairMove p a0 b0).safUpdate else n

/-- DISCREPANCY_TIMEOUT (R377, R378): the second contact of pair `p` did not follow within DISC × 32 ticks. -/
def discrepancyTimeout (p : Nat) (n : Lane) : Lane :=
  let x := n.pair p
  let st := n.pairSt p
  if (x.timer.isNone && !n.injArmed (0x30 + 2 * p) p) || !n.on F.SAF_CTRL.EN then n
  else if st = sACTIVE then
    let n := (n.setPair p { x with timer := none, stage := 0, disc := true }).setPairSt p sDISC
    let n := (n.stepSat (F.SAF_SINp_CNT.DISCS p)).sqEventOnce F.SAF_EVT.DISC
    (n.raise (0x30 + 2 * p) 1 p).safUpdate
  else if st = sDISC ∨ st = sTESTFAIL then n.setPair p { x with timer := none, stage := 0 }
  else n.setPair p { x with timer := none }

/-! ## Test pulses (R380) -/

/-- TEST_PULSE_START (R380): output `k` goes low; `pre` are the contacts that read high in the tick before, bit 2p for
SINpa and bit 2p + 1 for SINpb. -/
def testPulseStart (k pre : Nat) (n : Lane) : Lane :=
  if n.on F.SAF_CTRL.EN then n.upSaf fun s => { s with pulse := Cells.put s.pulse k pre } else n

/-- A judged contact of pair `p` (b if `b`) passes or fails a pulse (R380). -/
def Lane.judgeContact (n : Lane) (p : Nat) (b fail : Bool) : Lane :=
  let x := n.pair p
  let n := n.setF (if b then F.SAF_SINp_STAT.TPFB p else F.SAF_SINp_STAT.TPFA p) (b1 fail)
  if fail then
    let stage := if n.actA p && n.actB p then 1 else 0
    let n := n.setPair p (if b then { x with failB := true, passB := 0, stage := stage }
      else { x with failA := true, passA := 0, stage := stage })
    let n := (n.stepSat (F.SAF_SINp_CNT.TPFAILS p)).sqEventOnce F.SAF_EVT.TESTP
    (n.setPairSt p sTESTFAIL).raise (0x31 + 2 * p) 2 p
  else
    let x := if b then { x with passB := x.passB + 1 } else { x with passA := x.passA + 1 }
    let x := if b then { x with failB := x.failB && decide (x.passB < 2) } else { x with failA := x.failA && decide (x.passA < 2) }
    (n.setPair p x).pairReset p

/-- TEST_PULSE_END (R380): at the last tick of output `k`'s pulse the contacts `high` read high. -/
def testPulseEnd (k high : Nat) (n : Lane) : Lane :=
  match n.saf.pulse.find? fun q => q.1 == k with
  | none => n
  | some (_, pre) =>
    let fedIx := ([0, 1, 2, 3].flatMap fun p => [false, true].filterMap fun b =>
      if n.fedBy p b = k then some (contactIx p b) else none)
    let n := n.upSaf fun s => { s with
      pulse := Cells.erase s.pulse k
      hold := (fedIx.map fun i => (i, pre.testBit i, n.now)) ++ s.hold.filter fun h => !fedIx.contains h.1 }
    let n := forEach [0, 1, 2, 3] (fun p n =>
      if n.on (F.SAF_SINp_CFG.USE p) && n.on F.SAF_CTRL.EN then
        let judged := fun b => n.fedBy p b == k && pre.testBit (contactIx p b)
        let failed := fun (n : Lane) b => high.testBit (contactIx p b) || n.injArmed (0x31 + 2 * p) p
        let bad := [false, true].any fun b => judged b && failed n b
        let n := forEach [false, true] (fun b n => if judged b then n.judgeContact p b (failed n b) else n) n
        let x := n.pair p
        let n := if bad then n else n.setPair p (if k = 0 then { x with ok0 := true } else { x with ok1 := true })
        n.pairStarted p
      else n) n
    n.safUpdate

/-! ## Firmware commands -/

/-- A write of SAF_CTRL (R375). -/
def safEnable (org : Nat) (v : W32) (n : Lane) : Lane :=
  let en := F.SAF_CTRL.EN.val v = 1
  if en ∧ !n.on F.SAF_CTRL.EN then
    if !n.on F.SYS_ASHLOCK.LOCK then n.rejectState org R.SAF_CTRL
    else
      let n := (n.setF F.SAF_CTRL.EN 1).upSaf fun s => { s with keyAlt := false, pulse := [], hold := [] }
      n.pairsStart.safUpdate
  else if !en ∧ n.on F.SAF_CTRL.EN then
    if ([0, 1, 2].any fun g => n.grp g == gPENDING || n.grp g == gRUN || n.grp g == gSAFE) || n.f F.SAF_STAT.SBOON != 0 then
      n.rejectState org R.SAF_CTRL
    else
      let n := (n.setF F.SAF_CTRL.EN 0).upSaf fun s => { s with pulse := [], hold := [] }
      (n.setF F.SAF_SBOSTAT.TEST 0).pairsStart.safUpdate
  else n

/-- A write of SAF_STOCMD (R382). -/
def stoWrite (v : W32) (n : Lane) : Lane := (n.store R.SAF_STOCMD v).safUpdate

/-- A write of SAF_SBOCMD (R386): setting a request is rejected while a condition of R385 other than the off-test fails. -/
def sboWrite (org : Nat) (v : W32) (n : Lane) : Lane :=
  let rel := F.SAF_SBOCMD.REL.val v
  if [0, 1].any fun k => rel.testBit k && !n.brakeOk k then n.rejectState org R.SAF_SBOCMD
  else (n.store R.SAF_SBOCMD v).safUpdate

/-- A write of SAF_KICK (R391), `ticks` ACLK ticks after the last accepted kick. -/
def kickWrite (v : W32) (ticks : Nat) (n : Lane) : Lane :=
  let key := if n.saf.keyAlt then 0xA55A else 0x5AA5
  if F.SAF_KICK.KEY.val v = key ∧ n.on F.SAF_STAT.OKH ∧ (!n.saf.kicked ∨ n.f F.SAF_ALIVECFG.MINT ≤ ticks) then
    let late := n.saf.kicked && decide (n.f F.SAF_ALIVECFG.MAXT < ticks)
    let n := if late then n.sqEventOnce F.SAF_EVT.KICK else n
    let n := n.upSaf fun s => { s with keyAlt := !s.keyAlt, kicked := true, kickT := n.now }
    (n.setF F.SAF_STAT.ALIVE (1 - n.f F.SAF_STAT.ALIVE)).safUpdate
  else n.sqEventOnce F.SAF_EVT.KICK

/-! ## Brake outputs (R387, R388) -/

/-- CAUSE of output `k`. -/
def causeF (k : Nat) : FRef := if k = 0 then F.SAF_SBOSTAT.CAUSE0 else F.SAF_SBOSTAT.CAUSE1

/-- A check of output `k` fails (R388), a first time or again. -/
def Lane.brakeFails (n : Lane) (k cause : Nat) : Lane :=
  let n := ((n.setBit F.SAF_SBOSTAT.SBOF k true).setF (causeF k) cause).sqEventOnce F.SAF_EVT.SBOF
  (n.raise (0x3B + k) 5 k).safUpdate

/-- OFF_TEST_START (R387). -/
def offTestStart (k : Nat) (n : Lane) : Lane :=
  if n.bit F.SAF_STAT.SBOON k then (n.setBit F.SAF_SBOSTAT.TEST k true).safUpdate else n

/-- OFF_TEST_END (R387, R388): `below`: the readback is below the off threshold. -/
def offTestEnd (k : Nat) (below : Bool) (n : Lane) : Lane :=
  if n.bit F.SAF_SBOSTAT.TEST k then
    let n := n.setBit F.SAF_SBOSTAT.TEST k false
    if below then n.safUpdate else (n.brakeFails k 3).safUpdate
  else n

/-- BRAKE_OUTPUT_FAIL (R388): OPEN and OVERCURRENT while on, STUCK while off. -/
def brakeFail (k cause : Nat) (n : Lane) : Lane :=
  let on := n.bit F.SAF_STAT.SBOON k
  if cause = 1 ∧ on ∨ cause = 2 ∧ on ∨ cause = 3 ∧ !on ∧ !n.bit F.SAF_SBOSTAT.TEST k then n.brakeFails k cause else n

/-! ## Seal straps and readback (R389, R392) -/

/-- The straps read `up` with the pull-ups and `dn` with the pull-downs (R389); answers whether they equal EXP. -/
def Lane.sealRead (n : Lane) (up dn : Nat) : Lane × Bool :=
  let opn := up ^^^ dn
  let rd := up &&& dn
  (n.setFs [(F.SAF_SEAL.OPEN, opn), (F.SAF_SEAL.READ, rd)], opn == 0 && rd == n.f F.SAF_SEALEXP.EXP)

/-- SEAL_SAMPLE (R389): before the release to actuation SEALOK follows each sample once step 11 of the load has set it; after
it, two consecutive samples that disagree clear it and raise "seal". -/
def sealSample (up dn : Nat) (n : Lane) : Lane :=
  if !n.domOn dCORE || n.bit F.YAR_UNUSABLE.PARTS 2 then n
  else
    let r := n.sealRead up dn
    let n := r.1
    if !n.saf.sealRun then n
    else if r.2 then ((n.setF F.SAF_STAT.SEALOK 1).upSaf fun s => { s with sealBad := 0 }).safUpdate
    else if !n.on F.SYS_ARMSTAT.RELEASED then (n.setF F.SAF_STAT.SEALOK 0).safUpdate
    else
      let k := n.saf.sealBad + 1
      let n := n.upSaf fun s => { s with sealBad := k }
      if k = 2 then
        let n := (n.sqEventOnce F.SAF_EVT.SEAL).raise 0x38 3 (n.f F.SAF_SEAL.READ)
        (n.setF F.SAF_STAT.SEALOK 0).safUpdate
      else n

/-- STATUS_READBACK_FAIL (R392): OKH (0) or ALIVE (1) differs at its ball for 2 ticks. -/
def statusReadback (w : Nat) (n : Lane) : Lane := (n.sqEventOnce F.SAF_EVT.STATUS).raise 0x3D 6 w

/-! ## Commands -/

def execSafBlockEnable (l : LaneId) (t : Nat) (org : Origin) (v : W32) (s : State) : Host.Outcome State Fault Refusal :=
  onLane l t s fun n => n.regWrite org.code R.SAF_CTRL v (safEnable org.code v)

def execContactChange (l : LaneId) (t : Nat) (p : Fin 4) (a b : Bool) (s : State) : Host.Outcome State Fault Refusal :=
  onAon l t s (contactChange p.val a b)

def execDiscrepancyTimeout (l : LaneId) (t : Nat) (p : Fin 4) (s : State) : Host.Outcome State Fault Refusal :=
  onAon l t s (discrepancyTimeout p.val)

def execTestPulseStart (l : LaneId) (t : Nat) (k : Fin 2) (pre : BitVec 8) (s : State) : Host.Outcome State Fault Refusal :=
  onAon l t s (testPulseStart k.val pre.toNat)

def execTestPulseEnd (l : LaneId) (t : Nat) (k : Fin 2) (high : BitVec 8) (s : State) : Host.Outcome State Fault Refusal :=
  onAon l t s (testPulseEnd k.val high.toNat)

def execTorqueRemovalCommand (l : LaneId) (t : Nat) (org : Origin) (v : W32) (s : State) : Host.Outcome State Fault Refusal :=
  onLane l t s fun n => n.regWrite org.code R.SAF_STOCMD v (stoWrite v)

def execBrakeReleaseRequest (l : LaneId) (t : Nat) (org : Origin) (v : W32) (s : State) : Host.Outcome State Fault Refusal :=
  onLane l t s fun n => n.regWrite org.code R.SAF_SBOCMD v (sboWrite org.code v)

def execOffTestStart (l : LaneId) (t : Nat) (k : Fin 2) (s : State) : Host.Outcome State Fault Refusal :=
  onAon l t s (offTestStart k.val)

def execOffTestEnd (l : LaneId) (t : Nat) (k : Fin 2) (below : Bool) (s : State) : Host.Outcome State Fault Refusal :=
  onAon l t s (offTestEnd k.val below)

def execBrakeOutputFail (l : LaneId) (t : Nat) (k : Fin 2) (cause : BitVec 2) (s : State) : Host.Outcome State Fault Refusal :=
  onAon l t s (brakeFail k.val cause.toNat)

def execSealSample (l : LaneId) (t : Nat) (up dn : BitVec 6) (s : State) : Host.Outcome State Fault Refusal :=
  onAon l t s (sealSample up.toNat dn.toNat)

def execAliveKick (l : LaneId) (t : Nat) (org : Origin) (v : W32) (ticks : Nat) (s : State) : Host.Outcome State Fault Refusal :=
  onLane l t s fun n => n.regWrite org.code R.SAF_KICK v (kickWrite v ticks)

def execStatusReadbackFail (l : LaneId) (t : Nat) (alive : Bool) (s : State) : Host.Outcome State Fault Refusal :=
  onAon l t s (statusReadback (b1 alive))

end Sys2Proof.Machine
end

