-- ==== Sys2Proof/Machine/Keystone.lean ====
section
/-! DEFINITION. Keystone (spec/14): messages accepted into records, their reactions, releases, firmware messages, severities,
injections and the fault log. -/

namespace Sys2Proof.Machine

/-! ## Records -/

/-- Severities (R354). -/
def vRECORD : Nat := 0
def vNOTIFY : Nat := 1
def vLIMIT : Nat := 2
def vSAFEGROUP : Nat := 3
def vSAFELANE : Nat := 4

def records : List Nat := List.range 64

def Lane.recOpen (n : Lane) (r : Nat) : Bool := n.on (F.KST_RECr_INFO.OPEN r)

/-- The word of a message (R350). -/
def Msg.bits (m : Msg) : W32 := BitVec.ofNat 32 (m.src * 2 ^ 24 + m.kind * 2 ^ 20 + b1 m.xl * 2 ^ 19 + m.word)

/-- The group set of a source (R352); the empty set acts on all three groups. -/
def Lane.groupsOf (n : Lane) (src : Nat) : Nat :=
  let g := n.f (F.KST_FLRn.GROUPS src)
  if g = 0 then 7 else g

/-- The level condition of a source at the instance its message names (R351). -/
def Lane.levelHolds (n : Lane) (src word : Nat) : Bool :=
  if src = 0x04 then (List.range 63).all fun r => n.recOpen r
  else if src = 0x09 then n.pwr.xoFail
  else if src = 0x0A then n.pwr.pllFail
  else if src = 0x0D then n.pwr.supOut.contains word
  else if src = 0x21 then n.on F.LNT_HBSTAT.LOST
  else if src = 0x22 then !n.on F.LNT_HBSTAT.LINKUP
  else if 0x30 ≤ src ∧ src ≤ 0x37 then
    let x := n.pair ((src - 0x30) / 2)
    if src % 2 = 0 then x.disc else x.failA || x.failB
  else if src = 0x38 then decide (2 ≤ n.saf.sealBad)
  else if 0x40 ≤ src ∧ src ≤ 0x43 then n.bit F.PWM_TRIPIN.FILT (src - 0x40)
  else if 0x53 ≤ src ∧ src ≤ 0x55 then switches.any fun s => legGroup (swLeg s) == src - 0x53 && n.bit F.GDV_UVLO.LIVE s
  else if src = 0x59 ∨ src = 0x5A then
    n.bit F.GDV_RBCTL.EN (src - 0x59) && !n.bit (if src = 0x59 then F.GDV_RBSTAT.FEED1 else F.GDV_RBSTAT.FEED2) 0
  else if src = 0x5C then n.f F.GDV_STAT.LINK != 2
  else if src = 0x5D then !n.on F.GDV_STAT.CPOK
  else if 0x72 ≤ src ∧ src ≤ 0x78 then n.bit F.ADC_CMPSTAT.POS (src - 0x72) || n.bit F.ADC_CMPSTAT.NEG (src - 0x72)
  else if 0x79 ≤ src ∧ src ≤ 0x80 then n.bit F.ADC_CMPSTAT.MON (src - 0x79)
  else if 0x90 ≤ src ∧ src ≤ 0xAF ∧ src % 8 = 5 then
    n.on (F.FBI_CHn_STAT.ATMIN ((src - 0x90) / 8)) || n.on (F.FBI_CHn_STAT.ATMAX ((src - 0x90) / 8))
  else if src = 0xB2 ∨ src = 0xB7 then n.on F.CFE_STAT.LIMACT
  else if src = 0xB4 ∨ src = 0xB9 then n.on F.CFE_STAT.OVP
  else if src = 0xBB then !n.on F.CFE_CMDMEAS.VALID
  else if src = 0xC2 then n.on (F.CLE_Ln_STAT.STALE word)
  else if src = 0xC8 then !(n.f (F.TPE_PORTp_STAT.STATE word) == 4)
  else if src = 0xD4 then n.f (F.CAN_Cc_STAT.ESTATE word) == 2
  else false

/-- A held message by source and word, marked if it came from the other lane. -/
def Msg.code (m : Msg) : Nat := b1 m.xl * 2 ^ 24 + m.src * 65536 + m.word

/-- The messages a record holds. -/
def Lane.recSources (n : Lane) (r : Nat) : List Nat := Cells.get [] n.kst.recSrcs r

/-- INFO.ACTIVE of record `r` (R362): this lane holds no level for messages of the other lane. -/
def Lane.recActive (n : Lane) (r : Nat) : Bool :=
  n.recOpen r && (n.recSources r).any fun c => decide (c < 2 ^ 24) && n.levelHolds (c / 65536) (c % 65536)

/-! ## The fault log (R366, R367) -/

/-- Queue a log entry for record `r`; `ev`: 0 open, 1 raise, 2 release. -/
def Lane.logEntry (n : Lane) (r ev : Nat) : Lane :=
  if n.kst.logQ.length ≥ 32 then
    let n := (n.stepSat F.KST_LOGSTAT.DROP).sqEventOnce F.KST_EVT.DROP
    if n.kst.dropEp then n else (n.upKst fun s => { s with dropEp := true }).raise 0x05 2 (n.f F.KST_LOGSTAT.DROP)
  else
    let t := n.laneTime
    let w2 := ev * 2 ^ 30 + n.f (F.KST_RECr_INFO.SEV r) * 2 ^ 27 + n.f (F.KST_RECr_INFO.XL r) * 2 ^ 26 + n.f (F.KST_RECr_INFO.INJ r) * 2 ^ 25
      + r * 2 ^ 18 + n.f (F.KST_RECr_INFO.COUNT r) * 2 ^ 8
    let ws : List W32 := [n.rd (R.KST_RECr_MSG r), n.rd (R.KST_RECr_LAST r), BitVec.ofNat 32 w2, BitVec.ofNat 32 n.mram.startCnt,
      BitVec.ofNat 32 t, BitVec.ofNat 32 (t / 2 ^ 32), BitVec.ofNat 32 n.kst.logSeq]
    let n := n.upKst fun s => { s with
      logQ := s.logQ ++ [ws ++ [BitVec.ofNat 32 (crc32 (wordsBytes ws))]], logSeq := (s.logSeq + 1) % 2 ^ 32, dropEp := false }
    n.setF F.KST_LOGSTAT.QLEN n.kst.logQ.length

/-- LOG_ENTRY_WRITE (R367): the head of the queue is written into the ring. -/
def logEntryWrite (n : Lane) : Lane :=
  match n.kst.logQ with
  | [] => n
  | e :: rest =>
    if n.domOn dCORE then
      let h := n.f F.KST_LOGSTAT.HEAD
      let n := n.upMram fun m => { m with faultLog := Cells.put m.faultLog h e }
      let n := n.upKst fun s => { s with logQ := rest }
      let n := n.setFs [(F.KST_LOGSTAT.QLEN, rest.length), (F.KST_LOGSTAT.HEAD, (h + 1) % 8192)]
      if h = 8191 then n.setF F.KST_LOGSTAT.WRAP 1 else n
    else n

/-- LOG_INDEX_WRITE (R368): the entry is loaded into KST_LOGD0 to KST_LOGD7. -/
def logIndex (v : W32) (n : Lane) : Lane :=
  let i := F.KST_LOGIDX.IDX.val v
  let e := Cells.get [] n.mram.faultLog i
  let n := forEach (List.range 8) (fun w n => n.wr (R.KST_LOGDw w) (e.getD w 0#32)) n
  let ok := crc32 (wordsBytes ((List.range 7).map fun w => e.getD w 0#32)) == (e.getD 7 0#32).toNat
  n.setFs [(F.KST_LOGIDX.IDX, i), (F.KST_LOGIDX.CRCOK, b1 ok)]

/-! ## Reactions (R354) -/

/-- The groups open records hold SAFE. -/
def Lane.heldSafe (n : Lane) : Nat :=
  records.foldl (fun m r =>
    if n.recOpen r then
      let sev := n.f (F.KST_RECr_INFO.SEV r)
      if sev = vSAFELANE then 7 else if sev = vSAFEGROUP then m ||| n.f (F.KST_RECr_INFO.GROUPS r) else m
    else m) 0

/-- KST_STAT and KST_OPENk follow the open records. -/
def Lane.kstShow (n : Lane) : Lane :=
  let opens := records.filter fun r => n.recOpen r
  let sev := fun r => n.f (F.KST_RECr_INFO.SEV r)
  let mask := fun k => opens.foldl (fun m r => if r / 32 = k then m + 2 ^ (r % 32) else m) 0
  n.setFs [(F.KST_STAT.LANESAFE, b1 (opens.any fun r => sev r == vSAFELANE)),
    (F.KST_STAT.LIMIT, b1 (opens.any fun r => sev r == vLIMIT || sev r == vSAFELANE)),
    (F.KST_STAT.GSAFE, n.heldSafe), (F.KST_STAT.OPEN, opens.length),
    (F.KST_OPENk.OPEN 0, mask 0), (F.KST_OPENk.OPEN 1, mask 1)]

/-- The reaction of the open records (R354, R355): held groups that are not UNARMED enter SAFE, others leave it for IDLE or
TRIPPED (R113, R363), and the SFB's outputs follow. -/
def Lane.kstReact (n : Lane) : Lane :=
  let n := n.kstShow
  let n := forEach [0, 1, 2] (fun g n =>
    if n.bit F.KST_STAT.GSAFE g then (if n.grp g = gUNARMED then n else (n.setBit F.PWM_GRPSTAT.CYC g false).moveGrp g gSAFE)
    else if n.grp g = gSAFE then
      n.moveGrp g (if [0, 1, 2, 3].any fun t => n.tripRoutes t g && n.bit F.PWM_TRIPIN.LATCH t then gTRIPPED else gIDLE)
    else n) n
  n.safUpdate.checkHolds

/-! ## Accepting messages (R358 to R361) -/

/-- The severity a message is accepted with (R353, R359, R370). -/
def Lane.msgSev (n : Lane) (m : Msg) : Nat :=
  if m.xl then vNOTIFY
  else if m.inj && (match n.kst.inj with
    | some j => j.dry
    | none => false) then vRECORD
  else n.f (F.KST_SEVn.SEV m.src)

/-- The record message `m` merges into (R360): records 0 to 62; record 63 serves R361 alone, and takes the overflow message. -/
def Lane.mergeTarget (n : Lane) (m : Msg) : Option Nat :=
  (List.range 63).find? fun r =>
    n.recOpen r && n.on (F.KST_RECr_INFO.XL r) == m.xl && n.on (F.KST_RECr_INFO.INJ r) == m.inj
      && (bits (n.rd (R.KST_RECr_MSG r)) 31 24 == m.src
        || (decide (n.now ≤ Cells.get 0 n.kst.recTime r + 400) && n.f (F.KST_RECr_INFO.GROUPS r) &&& n.groupsOf m.src != 0))

/-- Record `r` holds message `m`. -/
def Lane.holdSource (n : Lane) (r : Nat) (m : Msg) : Lane :=
  let c := m.code
  let xs := n.recSources r
  n.upKst fun s => { s with recSrcs := Cells.put s.recSrcs r (if xs.contains c then xs else c :: xs) }

/-- INFO.NOREL (R362): SAFE-LANE, or LSC single core held. -/
def Lane.showNorel (n : Lane) (r : Nat) : Lane :=
  n.setF (F.KST_RECr_INFO.NOREL r)
    (b1 (n.f (F.KST_RECr_INFO.SEV r) == vSAFELANE || (n.recSources r).any fun c => c / 65536 % 256 == 0x19))

/-- RECORD_MERGE (R360). -/
def Lane.mergeInto (n : Lane) (r : Nat) (m : Msg) (sev : Nat) : Lane :=
  let gs := n.f (F.KST_RECr_INFO.GROUPS r)
  let up := gs ||| n.groupsOf m.src
  let old := n.f (F.KST_RECr_INFO.SEV r)
  let n := ((n.stepSat (F.KST_RECr_INFO.COUNT r)).wr (R.KST_RECr_LAST r) m.bits).holdSource r m
  let n := if old < sev ∨ up ≠ gs then
      ((n.setFs [(F.KST_RECr_INFO.SEV r, max old sev), (F.KST_RECr_INFO.GROUPS r, up)]).sqEventOnce F.KST_EVT.RAISE).logEntry r 1
    else n
  n.showNorel r

/-- The message opens record `r` (R359). -/
def Lane.openRecord (n : Lane) (r : Nat) (m : Msg) (sev : Nat) : Lane :=
  let n := ((n.wr (R.KST_RECr_MSG r) m.bits).wr (R.KST_RECr_LAST r) 0#32).wr (R.KST_RECr_TIME r) (BitVec.ofNat 32 n.laneTime)
  let n := n.wr (R.KST_RECr_INFO r) 0#32
  let n := n.setFs [(F.KST_RECr_INFO.OPEN r, 1), (F.KST_RECr_INFO.SEV r, sev), (F.KST_RECr_INFO.XL r, b1 m.xl),
    (F.KST_RECr_INFO.INJ r, b1 m.inj), (F.KST_RECr_INFO.GROUPS r, n.groupsOf m.src)]
  let n := n.upKst fun s => { s with recSrcs := Cells.put s.recSrcs r [m.code], recTime := Cells.put s.recTime r n.now }
  ((n.showNorel r).sqEventOnce F.KST_EVT.OPENED).logEntry r 0

/-- INJECTION_DETECTED (R371): the armed injection ends with result `res`. -/
def Lane.injEnd (n : Lane) (res : Nat) : Lane :=
  match n.kst.inj with
  | some j =>
    let n := n.upKst fun s => { s with inj := none }
    let n := n.setFs [(F.KST_INJSTAT.RESULT, res), (F.KST_INJSTAT.SOURCE, j.src)]
    (n.sqEvent F.KST_INJSTAT.DONE).sqEventOnce F.KST_EVT.INJ
  | none => n

/-- One message is accepted (R359 to R361), with its event and its copy to the other lane (R18, R354). -/
def Lane.accept (n : Lane) (m : Msg) : Lane :=
  let m := { m with inj := m.inj && n.kst.inj.isSome && !m.xl }
  let sev := n.msgSev m
  let n := if m.inj then n.injEnd 1 else n
  let n := match (if m.src = 0x04 ∧ n.recOpen 63 then some 63 else n.mergeTarget m) with
    | some r => n.mergeInto r m sev
    | none =>
      match (List.range 63).find? fun r => !n.recOpen r with
      | some r => n.openRecord r m sev
      | none =>
        let n := n.sqEventOnce F.KST_EVT.OVF
        if n.recOpen 63 then n.mergeInto 63 m sev else (n.openRecord 63 m sev).raise 0x04 1 0
  if vNOTIFY ≤ sev then
    let n := n.eventW 4 m.bits
    if m.xl then n else n.send (.kmsg m.bits)
  else n

/-- Messages in ascending source code (R358). -/
def insertMsg (m : Msg) : List Msg → List Msg
  | [] => [m]
  | x :: xs => if m.src < x.src then m :: x :: xs else x :: insertMsg m xs

/-- A source and kind that a detector without a command of its own may register. -/
def extOk (w : W32) : Bool := srcImpl (bits w 31 24) && bits w 23 20 != 0 && decide (bits w 31 24 < 0xF0)

/-- The registered messages are accepted in ascending source code. -/
def Lane.acceptAll (n : Lane) : Lane :=
  let ms := n.kst.msgs.foldl (fun a m => insertMsg m a) []
  let n := n.upKst fun s => { s with msgs := [] }
  ms.foldl (fun n m => n.accept m) n

/-- KEYSTONE_MESSAGE_ACCEPT (R358): the messages registered so far, and those of detectors that no command carries (`ext`: ECC
and other checks), are accepted in ascending source code, then those the collector raised itself in doing so (R361, R367); the
reaction follows. -/
def keystoneAccept (ext : List W32) (n : Lane) : Lane :=
  let n := ext.foldl (fun n w => if extOk w then n.raise (bits w 31 24) (bits w 23 20) (bits w 15 0) else n) n
  n.acceptAll.acceptAll.kstReact.lntCheck

/-- KMSG_RECEIVE (R19): a Keystone message of the other lane is registered with XL set. -/
def kmsgReceive (w : W32) (n : Lane) : Lane :=
  n.upKst fun s => { s with msgs := s.msgs ++ [{ src := bits w 31 24, kind := bits w 23 20, word := bits w 15 0, xl := true }] }

/-! ## Releases and firmware (R363, R365, R353) -/

/-- A record closes: its contents stay (R363). -/
def Lane.closeRecord (n : Lane) (r : Nat) : Lane :=
  let n := n.logEntry r 2
  (n.setFs [(F.KST_RECr_INFO.OPEN r, 0), (F.KST_RECr_INFO.ACTIVE r, 0)]).upKst fun s => { s with
    recSrcs := Cells.erase s.recSrcs r, recTime := Cells.erase s.recTime r }

/-- RECORD_RELEASE (R363). -/
def recordRelease (org : Nat) (v : W32) (n : Lane) : Lane :=
  let r := F.KST_RELEASE.REC.val v
  if n.recOpen r && !n.on (F.KST_RECr_INFO.NOREL r) && !n.recActive r then (n.closeRecord r).kstReact.lntCheck
  else n.rejectState org R.KST_RELEASE

/-- FIRMWARE_RAISE (R365). -/
def firmwareRaise (org : Nat) (v : W32) (n : Lane) : Lane :=
  let src := F.KST_RAISE.SOURCE.val v
  if org = 0 ∧ 0xF0 ≤ src ∧ src ≤ 0xF7 ∧ F.KST_RAISE.KIND.val v ≠ 0 then n.raise src (F.KST_RAISE.KIND.val v) (F.KST_RAISE.WORD.val v)
  else n.rejectState org R.KST_RAISE

/-- SEVERITY_WRITE (R353). -/
def severityWrite (org c : Nat) (v : W32) (n : Lane) : Lane :=
  let s := (F.KST_SEVn.SEV c).val v
  if s < n.f (F.KST_FLRn.FLOOR c) ∨ vSAFELANE < s ∨ (c = 0x15 ∧ s ≠ 0) then n.rejectState org (R.KST_SEVn c)
  else n.setF (F.KST_SEVn.SEV c) s

/-! ## Injection (R369 to R371) -/

/-- A source that may not be injected (R369). -/
def noInject (c : Nat) : Bool := (0x04 ≤ c && c ≤ 0x06) || (0x15 ≤ c && c ≤ 0x19) || 0xF0 ≤ c || !srcImpl c

/-- INJECTION_ARM (R369, R370). -/
def injectionArm (org : Nat) (v : W32) (n : Lane) : Lane :=
  let c := F.KST_INJ.SOURCE.val v
  let dry := F.KST_INJ.DRY.val v == 1
  let wait := F.KST_INJ.WAIT.val v
  let st := n.f F.SYS_LCS.STATE
  let enforced := (st == 2 || st == 3) && n.on F.SYS_LCS.ENF
  let quiet := [0, 1, 2].all fun g => !(n.groupsOf c).testBit g || n.grp g == gUNARMED || n.grp g == gIDLE || n.grp g == gTRIPPED
  if noInject c || n.kst.inj.isSome || wait == 0 || (enforced && (!dry || !quiet)) then n.rejectState org R.KST_INJ
  else n.upKst fun s => { s with inj := some { src := c, target := F.KST_INJ.TARGET.val v, due := n.now + wait * 400000, dry := dry } }

/-- INJECTION_MISSED (R371). -/
def injectionMissed (n : Lane) : Lane :=
  match n.kst.inj with
  | some j => if j.due ≤ n.now ∧ j.hit = false then (n.injEnd 2).raise 0x06 3 j.src else n
  | none => n

/-! ## The start of the lane (R518) -/

/-- Messages not accepted and an armed injection end without a result; every open record closes with its release entry, and severities
and floors return to the least floors. -/
def Lane.kstStart (n : Lane) : Lane :=
  let n := n.upKst fun s => { s with msgs := [], inj := none, redo := [] }
  let n := forEach records (fun r n => if n.recOpen r then n.closeRecord r else n) n
  (n.resetRange 0x003800 0x004000).kstShow

/-- KST registers computed when read: INFO.ACTIVE (R362). -/
def Lane.kstView (n : Lane) (off : Nat) : W32 :=
  match records.find? fun r => off == R.KST_RECr_INFO r with
  | some r => setBits (n.rd off) 25 25 (b1 (n.recActive r))
  | none => n.rd off

/-! ## Commands -/

def execKeystoneMessageAccept (l : LaneId) (t : Nat) (ext : List W32) (s : State) : Host.Outcome State Fault Refusal :=
  onAon l t s (keystoneAccept ext)

def execRecordRelease (l : LaneId) (t : Nat) (org : Origin) (v : W32) (s : State) : Host.Outcome State Fault Refusal :=
  onLane l t s fun n => n.regWrite org.code R.KST_RELEASE v (recordRelease org.code v)

def execFirmwareRaise (l : LaneId) (t : Nat) (org : Origin) (v : W32) (s : State) : Host.Outcome State Fault Refusal :=
  onLane l t s fun n => n.regWrite org.code R.KST_RAISE v (firmwareRaise org.code v)

def execSeverityWrite (l : LaneId) (t : Nat) (org : Origin) (c : Byte) (v : W32) (s : State) : Host.Outcome State Fault Refusal :=
  onLane l t s fun n => n.regWrite org.code (R.KST_SEVn c.toNat) v (severityWrite org.code c.toNat v)

def execInjectionArm (l : LaneId) (t : Nat) (org : Origin) (v : W32) (s : State) : Host.Outcome State Fault Refusal :=
  onLane l t s fun n => n.regWrite org.code R.KST_INJ v (injectionArm org.code v)

def execInjectionMissed (l : LaneId) (t : Nat) (s : State) : Host.Outcome State Fault Refusal := onAon l t s injectionMissed

def execLogEntryWrite (l : LaneId) (t : Nat) (s : State) : Host.Outcome State Fault Refusal := onAon l t s logEntryWrite

def execLogIndexWrite (l : LaneId) (t : Nat) (org : Origin) (v : W32) (s : State) : Host.Outcome State Fault Refusal :=
  onLane l t s fun n => n.regWrite org.code R.KST_LOGIDX v (logIndex v)

def execKmsgReceive (l : LaneId) (t : Nat) (crc : Bool) (msg : W32) (s : State) : Host.Outcome State Fault Refusal :=
  onLane l t s fun n => n.lintelRx crc (kmsgReceive msg)

end Sys2Proof.Machine
end

