-- ==== Sys2Proof/Machine/Image.lean ====
section
/-! DEFINITION. Images in MRAM (spec/17, R418 to R423) and steps 1 to 4 of R58, which every image passes. -/

namespace Sys2Proof.Machine

/-! ## Bytes -/

/-- Little-endian fields of a byte list (R8, R40). -/
def u8 (bs : List Nat) (i : Nat) : Nat := bs.getD i 0
def u16 (bs : List Nat) (i : Nat) : Nat := u8 bs i + 256 * u8 bs (i + 1)
def u32 (bs : List Nat) (i : Nat) : Nat := u16 bs i + 65536 * u16 bs (i + 2)

/-- `k` bytes from offset `i`. -/
def slice (bs : List Nat) (i k : Nat) : List Nat := (bs.drop i).take k

/-- The `k` bytes from offset `i` are zero. -/
def zeros (bs : List Nat) (i k : Nat) : Bool := (slice bs i k).all fun b => b == 0

/-- Bits [hi:lo] of a number. -/
def nb (v hi lo : Nat) : Nat := v / 2 ^ lo % 2 ^ (hi + 1 - lo)

/-- The offset of the first check that fails. -/
def firstBad : List (Bool × Nat) → Option Nat
  | [] => none
  | (b, o) :: cs => if b then some o else firstBad cs

/-! ## Slots (R421) -/

/-- Slot states. -/
def lEMPTY : Nat := 0
def lRECEIVING : Nat := 1
def lSTORED : Nat := 2
def lREFUSED : Nat := 3
def lPENDING : Nat := 4
def lTRIAL : Nat := 5
def lACTIVE : Nat := 6
def lACCEPTED : Nat := 7

/-- Image types. -/
def tPOLICY : Nat := 1
def tASHLAR : Nat := 2
def tTABLES : Nat := 3

def Lane.slotSt (n : Lane) (s : Nat) : Nat := Cells.get 0 n.mram.slotSt s
def Lane.setSlot (n : Lane) (s st : Nat) : Lane := n.upMram fun m => { m with slotSt := Cells.set 0 m.slotSt s st }

/-- The bytes of slot `s`. -/
def Lane.slotImg (n : Lane) (s : Nat) : List Nat := (Cells.get [] n.mram.slots s).map fun b => b.toNat

/-- The two slots of a type, and the other slot of a slot's type. -/
def typeSlots (ty : Nat) : List Nat := [2 * (ty - 1), 2 * (ty - 1) + 1]
def partner (s : Nat) : Nat := if s % 2 = 0 then s + 1 else s - 1

/-- The active slot of a type: the one reading TRIAL or ACTIVE. -/
def Lane.activeSlot (n : Lane) (ty : Nat) : Option Nat :=
  (typeSlots ty).find? fun s => n.slotSt s == lTRIAL || n.slotSt s == lACTIVE

/-- The inactive slot of a type. -/
def Lane.inactiveSlot (n : Lane) (ty : Nat) : Nat :=
  match n.activeSlot ty with
  | some s => partner s
  | none => 2 * (ty - 1)

/-! ## The header (R418) -/

def imgType (img : List Nat) : Nat := u16 img 6
def imgVersion (img : List Nat) : Nat := u32 img 8
def imgBodyLen (img : List Nat) : Nat := u32 img 0x20
def imgBody (img : List Nat) : List Nat := slice img 128 (imgBodyLen img)
def imgKeySlot (img : List Nat) : Nat := u8 img 0x28
def imgBound (img : List Nat) : Bool := u16 img 0x0E % 2 == 1

/-- The largest BODYLEN of a type. -/
def maxBody (ty : Nat) : Nat := if ty = 1 then 262144 else if ty = 2 then 98304 else 12560

/-- Step 1: magic, version and type, and the header's own limits (log entry 22). -/
def headerBad (ty : Nat) (img : List Nat) : Option Nat :=
  firstBad [(u32 img 0 != 0x5658494D, 0), (u16 img 4 != 1, 4), (imgType img != ty, 6), (u16 img 0x0E / 2 != 0, 0x0E),
    (u32 img 0x14 != 0, 0x14), (imgBodyLen img % 4 != 0 || decide (maxBody ty < imgBodyLen img), 0x20),
    (decide (u16 img 0x26 < u16 img 0x24), 0x24), (!zeros img 0x29 3, 0x29), (!zeros img 0x6D 19, 0x6D)]

/-- The stepping of this lane die is covered (R422). -/
def Lane.covered (n : Lane) (img : List Nat) : Bool := (u32 img 0x10).testBit (n.f F.SYS_STEP.LANESTEP)

/-- The image is not bound, or is bound to this unit (R422). -/
def Lane.unitOk (n : Lane) (img : List Nat) : Bool :=
  !imgBound img || (u32 img 0x18 == (n.rd R.SYS_UIDL).toNat && u32 img 0x1C == (n.rd R.SYS_UIDH).toNat)

/-- Step 2. -/
def Lane.hardwareBad (n : Lane) (img : List Nat) : Option Nat :=
  firstBad [(u16 img 0x0C != 0x8624, 0x0C), (!n.covered img, 0x10), (!n.unitOk img, 0x18)]

/-! ## Keys (R485, R486) -/

/-- The hash bytes of key slot `k`. -/
def Lane.keyHash (n : Lane) (k : Nat) : List Nat := wordsBytes ((List.range 8).map fun w => Cells.get 0#32 n.mram.keys (8 * k + w))

def Lane.keySet (n : Lane) (k : Nat) : Bool := (n.keyHash k).any fun b => b != 0

/-- The slot is neither empty nor revoked. -/
def Lane.keyGood (n : Lane) (k : Nat) : Bool := decide (k < 4) && n.keySet k && !n.mram.revoked.testBit k

/-- SYS_KEYSTAT and SYS_KEYk_w show the slots. -/
def Lane.showKeys (n : Lane) : Lane :=
  let m := [0, 1, 2, 3].foldl (fun a k => a + b1 (n.keySet k) * 2 ^ k) 0
  let n := n.setFs [(F.SYS_KEYSTAT.SET, m), (F.SYS_KEYSTAT.REVOKED, n.mram.revoked)]
  forEach (List.range 32) (fun i n => n.wr (R.SYS_KEYk_w (i / 8) (i % 8)) (Cells.get 0#32 n.mram.keys i)) n

/-- Step 4: key slot, public key and signature; in BLANK the signature only. -/
def Lane.signatureBad (n : Lane) (img : List Nat) : Option Nat :=
  let k := imgKeySlot img
  let key := slice img 0x4C 33
  let len := 128 + imgBodyLen img
  let blank := n.f F.SYS_LCS.STATE == 1
  firstBad [(!blank && !n.keyGood k, 0x28), (!blank && sha256 key != n.keyHash k, 0x4C),
    (!ecdsaOk key (img.take len) (slice img len 64), len)]

/-- Steps 1 to 4 of R58 for an image of type `ty`: the first step that fails, with its offset in the image. -/
def Lane.imageBad (n : Lane) (ty : Nat) (img : List Nat) : Option (Nat × Nat) :=
  match headerBad ty img with
  | some o => some (1, o)
  | none =>
    match n.hardwareBad img with
    | some o => some (2, o)
    | none =>
      if sha256 (imgBody img) != slice img 0x2C 32 then some (3, 0x2C)
      else (n.signatureBad img).map fun o => (4, o)

/-! ## Table images (R420) -/

/-- The group mask of a TABLES body. -/
def tablesMask (body : List Nat) : Nat := u8 body 0

/-- The layout of R420 fails. -/
def tablesBad (body : List Nat) : Bool :=
  let m := tablesMask body
  m == 0 || decide (3 < m) || !zeros body 1 15 || body.length != 16 + 6272 * (m % 2 + m / 2)

/-- R423: an image of type `ty` is verified. -/
def Lane.verified (n : Lane) (ty : Nat) (img : List Nat) : Bool :=
  (n.imageBad ty img).isNone && !(ty == tTABLES && tablesBad (imgBody img))

/-- The mask of the groups the active TABLES slot covers. -/
def Lane.tablesActive (n : Lane) : Nat :=
  match n.activeSlot tTABLES with
  | some s => tablesMask (imgBody (n.slotImg s))
  | none => 0

/-- The 3,136 table words of group `g` in a TABLES body, with their lane offsets in bank `k` (R420, R433). -/
def tableWords (body : List Nat) (g k : Nat) : List (Nat × W32) :=
  let base := 16 + (if g = 1 ∧ tablesMask body % 2 = 1 then 6272 else 0)
  let word := fun (i : Nat) => (BitVec.ofNat 32 (u16 body (base + 2 * i)) : W32)
  (List.range 3072).map (fun i => (commBase g k + 4 * i, (((word i).setWidth 14).signExtend 16).setWidth 32)) ++ (List.range 64).map fun i => (advBase g k + 4 * i, word (3072 + i))

/-- Copy the tables of group `g` into bank `k`. -/
def Lane.copyTables (n : Lane) (body : List Nat) (g k : Nat) : Lane :=
  n.upCfe fun c => { c with tab := (tableWords body g k).foldl (fun m e => Cells.set 0#32 m e.1 e.2) c.tab }

/-- Copy the active TABLES slot into bank 0 of each group of its mask (R433). -/
def Lane.copyActiveTables (n : Lane) : Lane :=
  match n.activeSlot tTABLES with
  | some s =>
    let body := imgBody (n.slotImg s)
    forEach [0, 1] (fun g n => if (tablesMask body).testBit g then n.copyTables body g 0 else n) n
  | none => n

end Sys2Proof.Machine
end

