-- ==== Sys2Proof/Machine/Ashlar.lean ====
section
/-! DEFINITION. The Ashlar load (spec/02, R38 to R62, R519): the body's sections, the checks of steps 5 to 10 of R58, the writing
of the mirrors in step 11, and the removal of routes through unusable partitions (R39). A failure is (section type, offset). -/

namespace Sys2Proof.Machine

/-! ## The body (R41, R42) -/

/-- Directory entries: type, offset, length, CRC. -/
def dirEntries (body : List Nat) : List (Nat × Nat × Nat × Nat) :=
  (List.range (u16 body 6)).map fun i =>
    let o := 0x40 + 16 * i
    (u16 body o, u32 body (o + 4), u32 body (o + 8), u32 body (o + 12))

def hasSec (body : List Nat) (ty : Nat) : Bool := (dirEntries body).any fun e => e.1 == ty

/-- The bytes of section `ty`. -/
def secOf (body : List Nat) (ty : Nat) : List Nat :=
  match (dirEntries body).find? fun e => e.1 == ty with
  | some e => slice body e.2.1 e.2.2.1
  | none => []

/-- Section types (R43). -/
def zCOMPOSITION : Nat := 1
def zPINS : Nat := 2
def zROUTING : Nat := 3
def zLIMITS : Nat := 4
def zFLOORS : Nat := 5
def zTLASYN : Nat := 6
def zSCHEDULE : Nat := 7
def zNODE : Nat := 8
def zSAFETY : Nat := 9
def zPOWER : Nat := 10
def zREDUNDANCY : Nat := 11
def zDEPGRAPH : Nat := 12
def zTUNING : Nat := 13

/-- Step 5: the body header, for lane number `lane`; offsets in the body. -/
def bodyBad (lane : Nat) (body : List Nat) : Option Nat :=
  firstBad [(u32 body 0 != 0x4C485341, 0), (u16 body 4 != 1, 4), (u16 body 6 != 12 && u16 body 6 != 13, 6), (u8 body 8 != lane, 8),
    (u8 body 9 != 0, 9), (u16 body 0x0A % 2 == 1, 0x0A), (!zeros body 0x2C 20, 0x2C)]

/-- The length of a section of its type (R43). -/
def lenOk (ty len slots : Nat) : Bool :=
  if ty = 1 then len == 32
  else if ty = 2 ∨ ty = 4 ∨ ty = 10 then len % 8 == 0
  else if ty = 3 then len % 8 == 0 && decide (len ≤ 8192)
  else if ty = 5 then len == 256
  else if ty = 6 then len == 32 + 4 * slots
  else if ty = 7 then len % 1024 == 0 && decide (1024 ≤ len) && decide (len ≤ 65536)
  else if ty = 8 then len == 8
  else if ty = 9 then decide (8 ≤ len) && len % 8 == 0
  else if ty = 11 then len == 16
  else if ty = 12 then len % 4 == 0
  else len % 20 == 0

/-- R42 on each directory entry in order, after type `prev` and body offset `fin`; offsets in the body. -/
def dirScan (body : List Nat) : List (Nat × Nat × Nat × Nat) → Nat → Nat → Nat → Option (Nat × Nat)
  | [], _, _, _ => none
  | (ty, off, len, crc) :: es, i, prev, fin =>
    let o := 0x40 + 16 * i
    if u16 body (o + 2) ≠ 0 then some (ty, o + 2)
    else if ty ≤ prev ∨ 13 < ty then some (ty, o)
    else if off % 8 ≠ 0 ∨ off < fin ∨ body.length < off + len then some (ty, o + 4)
    else if i ≠ 0 ∧ !zeros body fin (off - fin) then some (ty, fin)
    else if !lenOk ty len (u16 body (off + 4)) then some (ty, o + 8)
    else if crc32 (slice body off len) ≠ crc then some (ty, o + 12)
    else dirScan body es (i + 1) ty (off + len)

/-- Step 6 (R42, R43). DESIGN CHOICE (log entry 98): a missing required section reports its type and the start of the directory, 0x40 of
the body; a SHARED bit that R43 refuses, of an absent TUNING section or one of the bits 14 and 15 that name no type included, reports
section 0 and the SHARED field, 0x0A of the body. -/
def directoryBad (body : List Nat) : Option (Nat × Nat) :=
  match dirScan body (dirEntries body) 0 0 (0x40 + 16 * u16 body 6) with
  | some e => some e
  | none =>
    match (List.range 12).find? fun i => !hasSec body (i + 1) with
    | some i => some (i + 1, 0x40)
    | none =>
      let m := u16 body 0x0A
      let ok := m.testBit 6 && m.testBit 7 && m.testBit 11 && !m.testBit 8
        && (List.range 16).all fun i => !m.testBit i || hasSec body i
      if ok then none else some (0, 0x0A)

/-- The shared-section digest (R63). -/
def sharedDigest (body : List Nat) : List Nat :=
  let m := u16 body 0x0A
  sha256 (slice body 0x0A 2 ++ ((dirEntries body).filter fun e => m.testBit e.1).flatMap fun e =>
    [e.1 % 256, e.1 / 256] ++ wordBytes (BitVec.ofNat 32 e.2.2.1) ++ slice body e.2.1 e.2.2.1)

/-! ## Register records (R45) -/

/-- The records of a section from byte `base`: position, first word, value. -/
def recsOf (sec : List Nat) (base : Nat) : List (Nat × Nat × Nat) :=
  (List.range ((sec.length - base) / 8)).map fun i => (base + 8 * i, u32 sec (base + 8 * i), u32 sec (base + 8 * i + 4))

/-- The records of every record section. -/
def secRecs (body : List Nat) (ty : Nat) : List (Nat × Nat × Nat) := recsOf (secOf body ty) (if ty = 9 then 8 else 0)

/-- The value a register has after the records `rs`. -/
def recVal (rs : List (Nat × Nat × Nat)) (off : Nat) : Nat :=
  match rs.find? fun r => r.2.1 == off with
  | some r => r.2.2
  | none => (mapReset off).toNat

def recNamed (rs : List (Nat × Nat × Nat)) (off : Nat) : Bool := rs.any fun r => r.2.1 == off

/-- The targets a section allows (R45). -/
def recTarget (ty off : Nat) : Bool :=
  if ty = 2 then decide (0x000400 ≤ off) && decide (off < 0x000800)
  else if ty = 4 then decide (0x018000 ≤ off) && decide (off < 0x040000)
  else if ty = 9 then decide (0x006000 ≤ off) && decide (off < 0x007000)
  else decide (0x001000 ≤ off) && decide (off < 0x002000)

/-- Two's complement values. -/
def s14 (x : Nat) : Int := if x < 8192 then x else (x : Int) - 16384
def s32 (x : Nat) : Int := if x < 2 ^ 31 then x else (x : Int) - 2 ^ 32

/-- A value a PINS record may not carry (R499). -/
def pinBad (rs : List (Nat × Nat × Nat)) (i off v : Nat) : Bool :=
  let pin := (off - 0x000400) / 4
  let fn := v % 8
  fn == 7 || nb v 7 6 == 3 || ((fn == 5 || fn == 6) && (!(pin == 6 || pin == 7) || nb v 7 6 != 1))
    || (fn != 0 && (rs.take i).any fun r => r.2.2 % 8 == fn)

/-- The bus thresholds of R214 as they stand after the records. -/
def busNamed_ (rs : List (Nat × Nat × Nat)) : Bool := (recVal rs R.CFE_BUSCFG).testBit 7 || (recVal rs R.CFE_BUSCFG).testBit 15
def ovBad (rs : List (Nat × Nat × Nat)) : Bool :=
  let v := recVal rs R.CFE_OVLIM
  decide (nb v 29 16 < nb v 13 0) || decide (7700 < nb v 29 16)
def chBad (rs : List (Nat × Nat × Nat)) : Bool :=
  let v := recVal rs R.CFE_CHTHR
  decide (nb v 29 16 ≤ nb v 13 0) || decide (nb (recVal rs R.CFE_OVLIM) 29 16 < nb v 29 16)

/-- Bounds of loop slot `n` out of order (R229, R236): OMIN > OMAX, IMIN > IMAX, SPMIN > SPMAX, SPMINL > SPMAXL, ranges apart. -/
def outBad (rs : List (Nat × Nat × Nat)) (n : Nat) : Bool := decide (s32 (recVal rs (R.CLE_Ln_OMAX n)) < s32 (recVal rs (R.CLE_Ln_OMIN n)))
def intBad (rs : List (Nat × Nat × Nat)) (n : Nat) : Bool := decide (s32 (recVal rs (R.CLE_Ln_IMAX n)) < s32 (recVal rs (R.CLE_Ln_IMIN n)))
def spBad (rs : List (Nat × Nat × Nat)) (n : Nat) : Bool :=
  let a := s32 (recVal rs (R.CLE_Ln_SPMIN n))
  let b := s32 (recVal rs (R.CLE_Ln_SPMAX n))
  let c := s32 (recVal rs (R.CLE_Ln_SPMINL n))
  let d := s32 (recVal rs (R.CLE_Ln_SPMAXL n))
  decide (b < a) || decide (d < c) || decide (min b d < max a c)

/-- A value a LIMITS record may not carry, in its own fields or beside the other records. -/
def limitBad (rs : List (Nat × Nat × Nat)) (off v : Nat) : Bool :=
  if off < 0x020000 then
    if 0x018060 ≤ off ∧ off < 0x01807C then v % 256 == 0
    else if 0x018100 ≤ off ∧ off < 0x018180 then decide (16 < nb v 20 16)
    else if 0x018200 ≤ off ∧ off < 0x018400 then decide (19 < v % 32) || (v.testBit 5 && v % 32 != 15)
    else if 0x018600 ≤ off ∧ off < 0x018680 ∧ off % 16 = 4 then decide (s14 (nb v 29 16) < s14 (nb v 13 0))
    else false
  else if off < 0x028000 then
    let n := (off - 0x020100) / 0x100
    decide (s32 (recVal rs (R.FBI_CHn_SLMAX n)) < s32 (recVal rs (R.FBI_CHn_SLMIN n))) && (off == R.FBI_CHn_SLMIN n || off == R.FBI_CHn_SLMAX n)
  else if off < 0x030000 then
    if off = R.CFE_OVLIM then busNamed_ rs && ovBad rs
    else if off = R.CFE_CHTHR then busNamed_ rs && chBad rs
    else if off = R.CFE_BUSCFG then
      busNamed_ rs && ((!recNamed rs R.CFE_OVLIM && ovBad rs) || (!recNamed rs R.CFE_CHTHR && chBad rs))
    else if [0, 1].any fun g => off == R.CFE_Gg_CFG g then nb v 31 7 == 0 || decide (2 ^ 24 < nb v 31 7)
    else if [0, 1].any fun g => off == R.CFE_Gg_AMPMAX g || off == R.CFE_Gg_SLEW g || off == R.CFE_Gg_AMPLIMP g || off == R.CFE_Gg_SLEWLIMP g then
      v.testBit 31
    else false
  else
    let n := (off - 0x030100) / 0x100
    let r := off % 0x100
    if off < 0x030100 then false
    else if r = 0 then decide (4 < v % 8)
    else if 4 ≤ r ∧ r < 0x18 then v.testBit 31 && (decide (nb v 26 24 < 2) || decide (5 < nb v 26 24))
    else if r = 0x28 ∨ r = 0x34 then v.testBit 31
    else if 0x20 ≤ r ∧ r < 0x34 then spBad rs n
    else if r = 0x38 ∨ r = 0x3C then outBad rs n
    else if r = 0x40 ∨ r = 0x44 then intBad rs n
    else false

/-- A value a SAFETY record may not carry (R376, R380). -/
def safetyBad (rs : List (Nat × Nat × Nat)) (i off v : Nat) : Bool :=
  if off = R.SAF_STPCFG then
    let w := nb v 13 8
    let p := v % 256
    w == 0 || p == 0 || decide (16 * p ≤ w)
  else if off = R.SAF_SBOCFG then nb v 10 8 == 0 || v % 256 == 0
  else if 0x006100 ≤ off then
    v.testBit 31 && ((v.testBit 29 == v.testBit 28) || nb v 27 24 == 0 || nb v 23 16 == 0)
      || v.testBit 10 && (nb v 9 8 != 0 || v % 4 != 0 || (rs.take i).any fun r => decide (0x006100 ≤ r.2.1) && r.2.2.testBit 10)
  else false

/-- The bits a record of section `ty` may set: the register's own, and ON of PWR_Dd_ALLOW, which is always 1 (R45, R464). -/
def recMask (ty : Nat) (r : RegRow) : Nat := if ty = 10 then r.wmask ||| 1 else r.wmask

/-- Record `i` of section `ty` is refused (R44, R45). -/
def recBad (ty : Nat) (rs : List (Nat × Nat × Nat)) (i : Nat) (r : Nat × Nat × Nat) : Bool :=
  let off := r.2.1
  let v := r.2.2
  match regRow off with
  | none => true
  | some row =>
    !recTarget ty off || row.cls != .l || (v &&& (0xFFFFFFFF - recMask ty row)) != 0 || ((rs.take i).any fun q => q.2.1 == off)
      || (if ty = 2 then pinBad rs i off v else if ty = 4 then limitBad rs off v else if ty = 9 then safetyBad rs i off v else !v.testBit 0)

/-- The first refused record of a section. -/
def recsBad (ty : Nat) (rs : List (Nat × Nat × Nat)) : Option Nat :=
  firstBad ((List.range rs.length).map fun i => (recBad ty rs i (rs.getD i (0, 0, 0)), (rs.getD i (0, 0, 0)).1))

/-! ## The other sections on their own (R46 to R56) -/

/-- COMPOSITION (R46, R47). DESIGN CHOICE: a non-zero reserved field of several bytes reports the field's first byte, here as in every
section (log entry 69). -/
def compBad (s : List Nat) : Option Nat :=
  let grp := fun (i : Nat) => [(decide (2 < u8 s i), i)]
  let poles := fun (i : Nat) =>
    [(if u8 s i = 1 then u8 s (4 + i) == 0 || decide (32 < u8 s (4 + i)) else u8 s (4 + i) != 0, 4 + i)]
  let tb := fun (i : Nat) => [(decide (16 ≤ u8 s i) || nb (u8 s i) 3 2 == 3, i)]
  firstBad (grp 0 ++ grp 1 ++ [(decide (3 < u8 s 2), 2), (u8 s 3 != 0, 3)] ++ poles 0 ++ poles 1 ++ tb 6 ++ tb 7 ++ tb 8
    ++ [(u8 s 9 == 0 || decide (3 < u8 s 9), 9), (u8 s 10 == 0 || decide (3 < u8 s 10), 10), (!zeros s 11 21, 11)])

/-- The routes of the ROUTING section. -/
def routesOf (s : List Nat) : List Route :=
  (List.range (s.length / 8)).map fun i =>
    { kind := u8 s (8 * i), word := u8 s (8 * i + 1), source := u16 s (8 * i + 2), sink := u16 s (8 * i + 4), input := u8 s (8 * i + 6) }

/-- A field of a route outside the ranges of R48 and R49. -/
def routeBad (r : Route) : Bool :=
  let inp := decide (r.input ≤ 3) || r.input == 0xFF
  let loopSink := decide (r.sink < 32) && inp
  (r.kind != 4 && r.word != 0) || decide (63 < r.word) ||
  !(if r.kind = 1 then decide (r.source < 4) && decide (r.sink < 2) && r.input == 0
    else if r.kind = 2 then decide (r.source < 8) && loopSink
    else if r.kind = 3 then decide (r.source < 128) && loopSink
    else if r.kind = 4 then decide (r.source < 256) && loopSink
    else if r.kind = 5 then decide (r.source < 32) && loopSink
    else if r.kind = 6 then decide (r.source < 32) && decide (r.sink < 2) && r.input == 0
    else if r.kind = 7 then decide (r.source < 24) && decide (r.input ≤ 2) && decide (r.sink < 8)
    else if r.kind = 8 then decide (r.source < 4) && decide (r.sink < 8) && r.input == 0
    else false)

def routingBad (s : List Nat) : Option Nat :=
  firstBad ((List.range (s.length / 8)).map fun i =>
    (routeBad ((routesOf s).getD i { kind := 0, word := 0, source := 0, sink := 0, input := 0 }) || u8 s (8 * i + 7) != 0, 8 * i))

/-- FLOORS (R50, R351, R353). -/
def floorsBad (s : List Nat) : Option Nat :=
  firstBad ((List.range 256).map fun c =>
    (decide (4 < u8 s c) || decide (u8 s c < leastFloor c) || ((!srcImpl c || c == 0x15) && u8 s c != 0), c))

/-- The number of set bits of a mask. -/
def ones (m : Nat) : Nat := (List.range 32).countP fun i => m.testBit i

def tlasynBad (s : List Nat) : Option Nat :=
  let course := u32 s 0
  let slots := u16 s 4
  let nodes := u8 s 6
  let gap := u32 s 0x0C
  let arb := u32 s 8
  let cold := u32 s 0x10
  let sync := u32 s 0x14
  firstBad ([(decide (course < 250) || decide (100000 < course), 0), (decide (256 < slots), 4), (decide (nodes < 2) || decide (32 < nodes), 6),
      (decide (u8 s 7 < 3) || decide (8 < u8 s 7), 7), (decide (course ≤ arb + gap), 8), (decide (gap < 40), 0x0C),
      (ones cold == 0 || decide (4 < ones cold) || decide (2 ^ nodes ≤ cold), 0x10),
      (ones sync != u8 s 7 || decide (2 ^ nodes ≤ sync), 0x14), (u8 s 0x18 != 0xFF && decide (nodes ≤ u8 s 0x18), 0x18), (!zeros s 0x19 7, 0x19)]
    ++ (List.range slots).map fun i =>
      let st := u32 s (0x20 + 4 * i)
      (decide (arb ≤ st) || (i != 0 && decide (st ≤ u32 s (0x20 + 4 * (i - 1)))), 0x20 + 4 * i))

def nodeBad (s : List Nat) : Option Nat :=
  firstBad [(decide (31 < u8 s 0), 0), (decide (15 < u8 s 1) || ((u8 s 1).testBit 3 && !(u8 s 1).testBit 2), 1), (!zeros s 3 5, 3)]

def redundancyBad (s : List Nat) : Option Nat :=
  firstBad [(u8 s 0 != 1 && u8 s 0 != 2, 0), (decide (3 < u8 s 1), 1), (decide (3 < u8 s 2), 2), (decide (3 < u8 s 3), 3),
    (decide (u16 s 4 < 10) || decide (2000 < u16 s 4), 4), (u16 s 6 != 0, 6), (decide (31 < u8 s 8), 8),
    (decide (31 < u8 s 9) || u8 s 8 == u8 s 9, 9), (!zeros s 10 6, 10)]

/-- The TUNING entries (R56). -/
def tunesOf (s : List Nat) : List Tune :=
  (List.range (s.length / 20)).map fun i =>
    let o := 20 * i
    { off := u32 s o % 2 ^ 24, signed := (u32 s o).testBit 24, mask := BitVec.ofNat 32 (u32 s (o + 4)), min := BitVec.ofNat 32 (u32 s (o + 8)),
      max := BitVec.ofNat 32 (u32 s (o + 12)), init := BitVec.ofNat 32 (u32 s (o + 16)) }

/-- An initial value outside the range its chapter states for the field (R44): the offsets of R188. -/
def tuneRange (e : Tune) : Bool :=
  let x := ((e.apply (mapReset e.off)).setWidth 16).toInt
  ([1, 2, 3, 4, 5, 6, 7].any fun i => e.off == R.ADC_OFSn i) && (decide (x < -511) || decide (511 < x))

/-- A TUNING entry is refused (R56). DESIGN CHOICE: the initial value of a signed entry is read as a signed 32-bit value, as R56 says of
the minimum and the maximum (log entry 98). -/
def tuneBad (e : Tune) : Bool :=
  let m := e.mask.toNat
  let w := popBits m
  let run := m != 0 && m == (2 ^ w - 1) * 2 ^ lowBit m
  let reg := match regRow e.off with
    | some r => (r.cls == .rt || r.cls == .c) && !(decide (e.off < 0x001000) || (decide (0x003000 ≤ e.off) && decide (e.off < 0x006000))
        || (decide (0x007000 ≤ e.off) && decide (e.off < 0x008000)))
    | none => false
  let iv := e.bound e.init
  let fits := if e.signed then decide (-(2 ^ (w - 1) : Int) ≤ iv) && decide (iv < 2 ^ (w - 1)) else decide (e.init.toNat < 2 ^ w)
  !run || !reg || tuneRange e || decide (e.bound e.max < e.bound e.min) || !fits || decide (iv < e.bound e.min) || decide (e.bound e.max < iv)

def tuningBad (s : List Nat) : Option Nat :=
  firstBad ((List.range (s.length / 20)).map fun i =>
    (decide (2 ^ 25 ≤ u32 s (20 * i)) || (match (tunesOf s)[i]? with
      | some e => tuneBad e
      | none => true), 20 * i))

/-- SAFETY: header and records. -/
def safetySecBad (s : List Nat) : Option Nat :=
  match firstBad [(decide (63 < u8 s 0), 0), (!zeros s 1 7, 1)] with
  | some o => some o
  | none => recsBad 9 (recsOf s 8)

/-- Step 8 for one section. -/
def sectionBad (body : List Nat) (ty : Nat) : Option (Nat × Nat) :=
  let s := secOf body ty
  (if ty = 1 then compBad s
   else if ty = 3 then routingBad s
   else if ty = 2 ∨ ty = 4 ∨ ty = 10 then recsBad ty (recsOf s 0)
   else if ty = 5 then floorsBad s
   else if ty = 6 then tlasynBad s
   else if ty = 8 then nodeBad s
   else if ty = 9 then safetySecBad s
   else if ty = 11 then redundancyBad s
   else if ty = 13 then tuningBad s
   else none).map fun o => (ty, o)

/-! ## Across sections (step 9) -/

/-- The trigger source of a sink (class, index) among the routes. -/
def trigOf (rs : List Route) (cls ix : Nat) : Option Nat :=
  (rs.find? fun r => r.kind == 7 && r.input == cls && r.sink == ix).map fun r => r.source

/-- Route `r` drives a sink that accepts one source and that an earlier route drives (R49). -/
def sameSink (a r : Route) : Bool :=
  let toLoop := fun (x : Route) => decide (2 ≤ x.kind) && decide (x.kind ≤ 5)
  (toLoop a && toLoop r && a.sink == r.sink && a.input == r.input)
    || (a.kind == r.kind && ((r.kind == 1 || r.kind == 6) && a.sink == r.sink || r.kind == 7 && a.sink == r.sink && a.input == r.input))

/-- Channel `ch` has a latch set triggered by `src` (R170). -/
def latched (rs : List Route) (ch : Nat) (src : Option Nat) : Bool :=
  match src with
  | some x => [0, 1].any fun k => trigOf rs 2 (2 * ch + k) == some x
  | none => false

/-- A route that step 9 refuses (R38, R47, R170, R225): `cfg` gives CLE_Ln_CFG, `modes` the composition. A slot whose LAW is NONE or whose
chain has no trigger does not exist for routing. -/
def routeCross (rs : List Route) (cfg : Nat → Nat) (modes : List Nat) (i : Nat) (r : Route) : Bool :=
  let chain := fun (n : Nat) => trigOf rs 1 (nb (cfg n) 6 4)
  let loop := fun (n : Nat) => cfg n % 8 != 0 && (chain n).isSome
  ((rs.take i).any fun a => sameSink a r)
    || (decide (2 ≤ r.kind) && decide (r.kind ≤ 5) && !loop r.sink)
    || ((r.kind == 5 || r.kind == 6) && !loop r.source)
    || (r.kind == 5 && decide (r.sink ≤ r.source))
    || ((r.kind == 1 || r.kind == 6) && modes.getD r.sink 0 == 0)
    || (r.kind == 8 && [0, 1, 2].any fun g => r.sink.testBit g && modes.getD g 0 == 0)
    || (r.kind == 2 && !latched rs (r.source / 2) (chain r.sink))
    || (r.kind == 1 && !latched rs r.source (match rs.find? fun a => a.kind == 6 && a.sink == r.sink with
        | some a => chain a.source
        | none => none))

/-- Step 9. -/
def crossBad (lane : Nat) (body : List Nat) : Option (Nat × Nat) :=
  let rs := routesOf (secOf body 3)
  let lim := secRecs body 4
  let comp := secOf body 1
  let tl := secOf body 6
  let nd := secOf body 8
  let rd := secOf body 11
  let modes := [u8 comp 0, u8 comp 1, u8 comp 2]
  let cfg := fun n => recVal lim (R.CLE_Ln_CFG n)
  let node := u8 nd 0
  let fl := u8 nd 1
  let at_ := fun ty (o : Option Nat) => o.map fun x => ((ty, x) : Nat × Nat)
  let routing := at_ 3 (firstBad ((List.range rs.length).map fun i =>
    (routeCross rs cfg modes i (rs.getD i { kind := 0, word := 0, source := 0, sink := 0, input := 0 }), 8 * i)))
  let chop := if u8 comp 2 = 1 ∧ !busNamed_ lim then some (1, 2) else none
  let nodes := at_ 8 (firstBad [(decide (u8 tl 6 ≤ node), 0), (fl.testBit 0 != (u32 tl 0x14).testBit node || fl.testBit 1 != (u32 tl 0x10).testBit node
      || (fl.testBit 2 && u8 tl 0x18 != node), 1)])
  let red := if u8 rd (7 + lane) != node then some (11, 7 + lane) else none
  let poles := at_ 4 (firstBad (lim.map fun r =>
    ([0, 1].any fun g => r.2.1 == R.CFE_Gg_CFG g && r.2.2 % 64 != u8 comp (4 + g), r.1)))
  let noCfg := at_ 1 (firstBad ([0, 1].map fun g => (u8 comp g == 1 && !recNamed lim (R.CFE_Gg_CFG g), g)))
  let proj := at_ 4 (firstBad (lim.map fun r =>
    ((List.range 32).any fun n => r.2.1 == R.CLE_Ln_CFG n && r.2.2.testBit 8 && modes.getD (nb r.2.2 9 9) 0 != 1, r.1)))
  [routing, chop, nodes, red, poles, noCfg, proj].findSome? fun x => x

/-! ## The dependency graph (step 10, R55) -/

/-- The graph's entries: item, route. -/
def depsOf (s : List Nat) : List (Nat × Nat) := (List.range (s.length / 4)).map fun i => (u16 s (4 * i), u16 s (4 * i + 2))

/-- Routes reached from the items `xs` in at most `k` steps. -/
def reachDeps (deps : List (Nat × Nat)) : Nat → List Nat → List Nat → List Nat
  | 0, _, seen => seen
  | k + 1, xs, seen =>
    let new := ((deps.filter fun d => xs.contains d.1 && !seen.contains d.2).map fun d => d.2).eraseDups
    if new.isEmpty then seen else reachDeps deps k new (seen ++ new)

/-- The routes an item depends on, directly or through other routes. -/
def dependsOn (deps : List (Nat × Nat)) (item : Nat) : List Nat := reachDeps deps (deps.length + 1) [item] []

/-- The item of group `g`. -/
def groupItem (g : Nat) : Nat := 0xFF00 + g

/-- Step 10. -/
def graphBad (body : List Nat) : Option (Nat × Nat) :=
  let rs := routesOf (secOf body 3)
  let deps := depsOf (secOf body 12)
  let comp := secOf body 1
  let k := rs.length
  let entry := (List.range deps.length).map fun i =>
    let d := deps.getD i (0, 0)
    (!(decide (d.1 < k) || (decide (0xFF00 ≤ d.1) && decide (d.1 ≤ 0xFF02))) || decide (k ≤ d.2) || (dependsOn deps d.2).contains d.1, 4 * i)
  let kinds := fun g => (dependsOn deps (groupItem g)).map fun i => (rs[i]?.map fun r => r.kind).getD 0
  let groups := [0, 1].map fun g => (u8 comp g == 1 && [1, 6, 7].any fun x => !(kinds g).contains x, deps.length * 4)
  (firstBad (entry ++ groups)).map fun o => (12, o)

/-! ## The load's checks -/

/-- Steps 1 to 10 of R58 for an Ashlar image: step, section, offset as SYS_ASHERR shows them. -/
def Lane.ashlarBad (n : Lane) (img : List Nat) : Option (Nat × Nat × Nat) :=
  match n.imageBad tASHLAR img with
  | some (st, o) => some (st, 0, o)
  | none =>
    let body := imgBody img
    match bodyBad n.id.num body with
    | some o => some (5, 0, 128 + o)
    | none =>
      match directoryBad body with
      | some (ty, o) => some (6, ty, 128 + o)
      | none =>
        if sharedDigest body != slice body 0x0C 32 then some (7, 0, 128 + 0x0C)
        else match (List.range 13).findSome? fun i => sectionBad body (i + 1) with
          | some (ty, o) => some (8, ty, o)
          | none =>
            match crossBad n.id.num body with
            | some (ty, o) => some (9, ty, o)
            | none => (graphBad body).map fun e => (10, e.1, e.2)

/-! ## Removal of routes (R39) -/

/-- The partitions a route's source and sink lie in (R37, R471). -/
def Route.parts (r : Route) : List Nat :=
  if r.kind = 1 then [9, 8] else if r.kind = 2 then [9, 7] else if r.kind = 3 then [11, 7] else if r.kind = 4 then [12, 7]
  else if r.kind = 5 then [7] else if r.kind = 6 then [7, 8]
  else if r.kind = 7 then [10, if r.input = 0 then 11 else if r.input = 1 then 7 else 9]
  else [10]

/-- The routes by index that the partitions of `mask` take out, with those that depend on them. -/
def removedRoutes (rs : List Route) (deps : List (Nat × Nat)) (mask : Nat) : List Nat :=
  let hit := (List.range rs.length).filter fun i => match rs[i]? with
    | some r => r.parts.any fun p => mask.testBit p
    | none => false
  (List.range rs.length).filter fun i => hit.contains i || (dependsOn deps i).any fun j => hit.contains j

/-- Group `g` of a composition mode other than 0 cannot be armed with the partitions of `mask` out of service. -/
def groupOut (a : Ashlar) (mask g : Nat) : Bool :=
  a.modes.getD g 0 != 0 && (mask.testBit 10 || mask.testBit 11 || (g == 2 && a.modes.getD 2 0 == 1 && mask.testBit 8)
    || (dependsOn a.deps (groupItem g)).any fun i => a.removed.contains i)

/-- The routes group `g` depends on. -/
def Ashlar.groupRoutes (a : Ashlar) (g : Nat) : List Route := (dependsOn a.deps (groupItem g)).filterMap fun i => a.all[i]?

/-! ## Writing the mirrors (step 11, R70) -/

/-- The group set of source `c` (R351, R352). -/
def groupSet (a : Ashlar) (trip : Nat → Nat) (monRes : Nat → Nat) (c : Nat) : Nat :=
  let uses := fun (p : Route → Bool) => [0, 1, 2].foldl (fun m g => m + b1 ((a.groupRoutes g).any p) * 2 ^ g) 0
  if c = 0x39 ∨ c = 0x50 ∨ c = 0x53 ∨ c = 0x56 ∨ (0x72 ≤ c ∧ c ≤ 0x74) ∨ (0xB0 ≤ c ∧ c ≤ 0xB4) ∨ c = 0xF0 then 1
  else if c = 0x3A ∨ c = 0x51 ∨ c = 0x54 ∨ c = 0x57 ∨ (0x75 ≤ c ∧ c ≤ 0x77) ∨ (0xB5 ≤ c ∧ c ≤ 0xB9) ∨ c = 0xF1 then 2
  else if c = 0x52 ∨ c = 0x55 ∨ c = 0x58 ∨ c = 0x78 ∨ c = 0xBA ∨ c = 0xF2 then 4
  else if 0x40 ≤ c ∧ c ≤ 0x43 then trip (c - 0x40)
  else if 0x79 ≤ c ∧ c ≤ 0x80 then uses fun r => r.kind == 3 && r.source == monRes (c - 0x79)
  else if 0x90 ≤ c ∧ c ≤ 0xAF then
    let ch := (c - 0x90) / 8
    uses fun r => (r.kind == 1 && r.source == ch) || (r.kind == 2 && r.source / 2 == ch)
  else 0

/-- The mirror of a route: offset and value merged into it. -/
def Lane.writeRoute (n : Lane) (r : Route) : Lane :=
  let sel := r.kind * 2 ^ 24 + r.word * 2 ^ 16 + r.source + 2 ^ 31
  if 2 ≤ r.kind ∧ r.kind ≤ 5 then
    n.wr (if r.input = 0xFF then R.CLE_Ln_SPSRC r.sink else R.CLE_Ln_INi r.sink r.input) (BitVec.ofNat 32 sel)
  else if r.kind = 7 ∧ r.input = 0 then n.setFs [(F.ADC_SQq_CFG.VAL r.sink, 1), (F.ADC_SQq_CFG.TRIG r.sink, r.source)]
  else if r.kind = 7 ∧ r.input = 1 then n.setFs [(F.CLE_CHc_TRIG.VAL r.sink, 1), (F.CLE_CHc_TRIG.TRIG r.sink, r.source)]
  else if r.kind = 7 then
    let ch := r.sink / 2
    if r.sink % 2 = 0 then n.setFs [(F.FBI_CHn_LATCFG.VAL_0 ch, 1), (F.FBI_CHn_LATCFG.TRIG_0 ch, r.source)]
    else n.setFs [(F.FBI_CHn_LATCFG.VAL_1 ch, 1), (F.FBI_CHn_LATCFG.TRIG_1 ch, r.source)]
  else if r.kind = 8 then n.setF (F.PWM_TRIPt_ROUTE.GROUPS r.source) (n.f (F.PWM_TRIPt_ROUTE.GROUPS r.source) ||| r.sink)
  else n

/-- The offset of a route's mirror. -/
def Route.mirror (r : Route) : List Nat :=
  if 2 ≤ r.kind ∧ r.kind ≤ 5 then [if r.input = 0xFF then R.CLE_Ln_SPSRC r.sink else R.CLE_Ln_INi r.sink r.input]
  else if r.kind = 7 then [if r.input = 0 then R.ADC_SQq_CFG r.sink else if r.input = 1 then R.CLE_CHc_TRIG r.sink else R.FBI_CHn_LATCFG (r.sink / 2)]
  else if r.kind = 8 then [R.PWM_TRIPt_ROUTE r.source]
  else []

/-- The mirrors of TLASYN, NODE and SCHEDULE (R51 to R53, R330). -/
def Lane.writeTlasyn (n : Lane) (tl nd sched : List Nat) : Lane :=
  let n := n.resetRange 0x060000 0x070000
  let n := n.setFs [(F.TPE_CLCOURSE.COURSE, u32 tl 0), (F.TPE_CLSIZE.SLOTS, u16 tl 4), (F.TPE_CLSIZE.NODES, u8 tl 6), (F.TPE_CLSIZE.NSYNC, u8 tl 7),
    (F.TPE_CLARB.VALUE, u32 tl 8), (F.TPE_CLGAP.VALUE, u32 tl 0x0C), (F.TPE_CLCOLD.MASK, u32 tl 0x10), (F.TPE_CLSYNC.MASK, u32 tl 0x14),
    (F.TPE_CLNODE.EXTNODE, u8 tl 0x18), (F.TPE_CLNODE.NODE, u8 nd 0), (F.TPE_CLNODE.FLAGS, u8 nd 1), (F.TPE_CLNODE.RANK, u8 nd 2)]
  let n := forEach (List.range (u16 tl 4)) (fun s n => n.setF (F.TPE_SLOTs.START s) (u32 tl (0x20 + 4 * s))) n
  forEach (List.range (sched.length / 4)) (fun i n => n.wr (0x060000 + 4 * i) (BitVec.ofNat 32 (u32 sched (4 * i)))) n

/-- The mirrors of REDUNDANCY (R54, R417). -/
def Lane.writeRedundancy (n : Lane) (rd : List Nat) : Lane :=
  let own := fun (i : Nat) => b1 ((u8 rd i).testBit (n.id.num - 1))
  n.setFs [(F.LNT_PERMIT.GWLANE, u8 rd 0), (F.LNT_PERMIT.SINGLECORE, own 1), (F.LNT_PERMIT.DIRECTPINS, own 2), (F.LNT_PERMIT.SOLO, own 3),
    (F.LNT_PERMIT.PEERWAIT, u16 rd 4), (F.LNT_PERMIT.NODE1, u8 rd 8), (F.LNT_PERMIT.NODE2, u8 rd 9)]

/-- The distinct lane offsets the image writes. -/
def touched (body : List Nat) : List Nat :=
  (([2, 4, 9, 10].flatMap fun ty => (secRecs body ty).map fun r => r.2.1) ++ (routesOf (secOf body 3)).flatMap Route.mirror
    ++ [R.PWM_TBb_CFG 0, R.PWM_TBb_CFG 1, R.PWM_TBb_CFG 2, R.GDV_FEEDCFG, R.TPE_CLCOURSE, R.TPE_CLSIZE, R.TPE_CLARB, R.TPE_CLGAP, R.TPE_CLCOLD,
      R.TPE_CLSYNC, R.TPE_CLNODE]
    ++ (List.range (u16 (secOf body 6) 4)).map R.TPE_SLOTs).eraseDups

/-- Step 11: every mirror, the floors with severities, the tuning values; `mask` are the unusable partitions (R39). -/
def Lane.writeMirrors (n : Lane) (body : List Nat) (mask : Nat) : Lane :=
  let comp := secOf body 1
  let rs := routesOf (secOf body 3)
  let deps := depsOf (secOf body 12)
  let gone := removedRoutes rs deps mask
  let ash : Ashlar := { modes := [u8 comp 0, u8 comp 1, u8 comp 2], all := rs, deps := deps, removed := gone,
                        tunes := tunesOf (secOf body 13),
                        routes := ((List.range rs.length).filter fun i => !gone.contains i).filterMap fun i => rs[i]? }
  let n := n.upSys fun s => { s with ash := ash }
  let n := ([2, 4, 9, 10].flatMap fun ty => secRecs body ty).foldl (fun n r => n.wr r.2.1 (BitVec.ofNat 32 r.2.2)) n
  let n := forEach [0, 1, 2] (fun b n =>
    let t := u8 comp (6 + b)
    n.setFs [(F.PWM_TBb_CFG.DIV b, t % 4), (F.PWM_TBb_CFG.MODE b, t / 4 % 4), (F.PWM_TBb_CFG.SRC b, b1 (u8 comp b == 1))]) n
  let n := n.setFs [(F.GDV_FEEDCFG.FEEDS, u8 comp 9), (F.GDV_FEEDCFG.SYSV, u8 comp 10), (F.SAF_SEALEXP.EXP, u8 (secOf body 9) 0)]
  let n := ash.routes.foldl Lane.writeRoute n
  let n := (n.writeTlasyn (secOf body 6) (secOf body 8) (secOf body 7)).writeRedundancy (secOf body 11)
  let fl := secOf body 5
  let n := forEach (List.range 256) (fun c n =>
    n.setFs [(F.KST_FLRn.FLOOR c, u8 fl c), (F.KST_SEVn.SEV c, u8 fl c),
      (F.KST_FLRn.GROUPS c, groupSet ash (fun t => n.f (F.PWM_TRIPt_ROUTE.GROUPS t)) (fun m => n.f (F.ADC_MONm_CFG.RES m)) c)]) n
  let n := ash.tunes.foldl (fun n e => (n.wr e.off (e.apply (n.rd e.off))).gateSend e.off) n
  let cells := ((touched body).map fun o => (o, n.rd o)) ++ n.regs.filter fun c => decide (0x060000 ≤ c.1) && decide (c.1 < 0x070000)
  n.upSys fun s => { s with ash := { ash with mirrors := cells } }

/-- Words restored on exit of domain `d` from OFF (R448): its mirrors, its tuned registers, the whole matrix, its tables. -/
def Lane.restoredWords (n : Lane) (d : Nat) (offs : List Nat) (loaded : Bool) : Nat :=
  let all := (offs ++ n.sys.ash.tunes.map fun e => e.off).eraseDups
  let k := (all.filter fun o => inDomain d o && !(decide (0x060000 ≤ o) && decide (o < 0x070000))).length
  k + (if d = dTPE ∧ loaded then 16384 else 0)
    + (if d = dCFE then 3136 * (n.tablesActive % 2 + n.tablesActive / 2 % 2) else 0)

/-- PWR_Dd_EXIT (R448), computed when the load ends. -/
def Lane.showExits (n : Lane) (offs : List Nat) (loaded : Bool) : Lane :=
  forEach [0, 1, 2, 3, 4, 5, 6, 7, 8] (fun d n =>
    let tup := [0, 6, 6, 4, 10, 10, 20, 20, 20].getD d 0
    let xoff := if d = 0 then 30000 else tup + (8 * n.restoredWords d offs loaded + 399) / 400
    n.setFs [(F.PWR_Dd_EXIT.XRET d, [4, 2, 2, 2, 4, 4, 10, 10, 4].getD d 0), (F.PWR_Dd_EXIT.XOFF d, xoff)]) n

end Sys2Proof.Machine
end

