-- ==== Sys2Proof/Machine/Cfe.lean ====
section
/-! DEFINITION. Commutation and field control (spec/08): the command pin, the catch, the bus value with limiter, chopper and
over-voltage, the tables and the enable. The steps of an execution are in Sample.lean, its end in Chain.lean. -/

namespace Sys2Proof.Machine

/-! ## The command pin (R211) -/

/-- The command becomes valid or invalid; a change to invalid raises "command", as does an invalid value found again after an injected
detection (R370). -/
def Lane.cmdSetValid (n : Lane) (ok : Bool) : Lane :=
  let was := n.on F.CFE_STAT.CMDVALID
  let n := n.setFs [(F.CFE_STAT.CMDVALID, b1 ok), (F.CFE_CMDMEAS.VALID, b1 ok)]
  if (was || n.foundAgain 0xBB 0) && !ok then n.cfeEvent F.CFE_EVT.COMMAND 0 cCommand else n

/-- A measured value `m` arrives. -/
def Lane.cmdUpdate (n : Lane) (m : Nat) : Lane :=
  let n := n.setF F.CFE_CMDMEAS.VALUE m
  let n := n.upCfe fun c => { c with cmdT := n.now }
  n.cmdSetValid (decide (n.f F.CFE_CMDVAL.LO ≤ m) && decide (m ≤ n.f F.CFE_CMDVAL.HI))

/-- COMMAND_PIN_EDGE (R211): a rising edge of the filtered CMD pin; `high` is the high time since the rising edge before. -/
def commandEdge (high : Nat) (n : Lane) : Lane :=
  let r := n.cfe.cmdRise
  let n := n.upCfe fun c => { c with cmdRise := some n.now }
  match r with
  | some t₀ =>
    let per := max 1 (n.now - t₀)
    let mode := n.f F.CFE_CMDCFG.MODE
    if mode = 1 then n.cmdUpdate (min 65535 (high * 65536 / per))
    else if mode = 2 then n.cmdUpdate (min 65535 (400000000 / per))
    else n
  | none => n

def execCommandPinEdge (l : LaneId) (t : Nat) (high : W32) (s : State) : Host.Outcome State Fault Refusal :=
  onDomain l t dCFE s (commandEdge high.toNat)

/-- COMMAND_TIMEOUT (R211): no update for TIMEOUT × 100 µs. -/
def commandTimeout (n : Lane) : Lane :=
  if n.cfe.cmdT + 40000 * n.f F.CFE_CMDCFG.TIMEOUT ≤ n.now ∨ n.injArmed 0xBB 0 then n.cmdSetValid false else n

def execCommandTimeout (l : LaneId) (t : Nat) (s : State) : Host.Outcome State Fault Refusal :=
  onDomain l t dCFE s commandTimeout

/-! ## Group commands (R212, R213, R221) -/

def cfeCmdOf (v : W32) (g : Nat) : Nat := if g = 0 then F.CFE_GRPCMD.CMD_M0.val v else F.CFE_GRPCMD.CMD_M1.val v

/-- CATCH may begin (R212, R383). -/
def Lane.catchMay (n : Lane) (g : Nat) : Bool :=
  n.bit F.SAF_STAT.PERMIT g && n.grp g == gIDLE && n.tbRun g && n.on (F.CFE_Gg_BEMF.VAL g) && (n.cg g).catch_.isNone

/-- One group's command: CATCH begins a catch, ABORT ends one, SWAP marks a swap pending. -/
def Lane.cfeCmd (n : Lane) (g cmd : Nat) : Lane :=
  if cmd = 1 then (n.setCg g { n.cg g with catch_ := some { t0 := n.now } }).setF (F.CFE_Gg_STAT.CATCHING g) 1
  else if cmd = 2 then n.catchEnd g rABORTED 0
  else if cmd = 3 then n.setBit F.CFE_TBLSTAT.PEND g true
  else n

/-- A write of CFE_GRPCMD: each group's command is judged on its own, one STATE record covers the write. -/
def cfeGrpCmd (org : Nat) (v : W32) (n : Lane) : Lane :=
  let bad := fun g => cfeCmdOf v g == 1 && !n.catchMay g
  let m := forEach [0, 1] (fun g m => if bad g then m else m.cfeCmd g (cfeCmdOf v g)) n
  if bad 0 || bad 1 then m.rejectState org R.CFE_GRPCMD else m

/-- CATCH: a write of CFE_GRPCMD that carries CATCH. -/
def execCatchGroup (l : LaneId) (t : Nat) (org : Origin) (v : W32) (s : State) : Host.Outcome State Fault Refusal :=
  onLane l t s fun n => n.regWrite org.code R.CFE_GRPCMD v (cfeGrpCmd org.code v)

/-- CATCH_ABORT: a write of CFE_GRPCMD that carries ABORT. -/
def execCatchAbort (l : LaneId) (t : Nat) (org : Origin) (v : W32) (s : State) : Host.Outcome State Fault Refusal :=
  onLane l t s fun n => n.regWrite org.code R.CFE_GRPCMD v (cfeGrpCmd org.code v)

/-- SWAP: a write of CFE_GRPCMD that carries SWAP. -/
def execSwap (l : LaneId) (t : Nat) (org : Origin) (v : W32) (s : State) : Host.Outcome State Fault Refusal :=
  onLane l t s fun n => n.regWrite org.code R.CFE_GRPCMD v (cfeGrpCmd org.code v)

/-! ## The catch (R213) -/

/-- The side a line voltage is on: at or beyond H = BEMFMIN / 4 either way, or still the side it was on. -/
def lineSide (bemf : Nat) (was : Option Bool) (v : Int) : Option Bool :=
  if (bemf : Int) ≤ 4 * v then some true else if 4 * v ≤ -(bemf : Int) then some false else was

/-- The order number of a crossing of line `i` (0 vab, 1 vbc, 2 vca), rising or falling. -/
def crossingJ (i : Nat) (rising : Bool) : Nat :=
  if i = 0 then (if rising then 0 else 3) else if i = 1 then (if rising then 2 else 5) else (if rising then 4 else 1)

/-- A crossing with order number `j` at cycle `t` continues or starts a run. -/
def CatchSt.cross (k : CatchSt) (j t : Nat) : CatchSt :=
  let next := j == (k.j + 1) % 6
  let prev := k.j == (j + 1) % 6
  if k.ts.isEmpty then { k with ts := [t], j := j, fwd := none }
  else if next && k.fwd != some false then { k with ts := k.ts ++ [t], j := j, fwd := some true }
  else if prev && k.fwd != some true then { k with ts := k.ts ++ [t], j := j, fwd := some false }
  else { k with ts := [t], j := j, fwd := none }

/-- The catch amplitude in Q1.31: 2 × Vpk / (√3 × bus), at most AMPMAX. -/
def catchAmp (vpk bus amax : Nat) : Nat :=
  if bus = 0 then amax else min amax (isqrtUp ((2 ^ 32 * vpk) ^ 2 / (3 * bus ^ 2)) 48 0)

/-- A run of four crossings decides the catch. -/
def Lane.catchDecide (n : Lane) (g : Nat) (k : CatchSt) : Lane :=
  let x := n.cg g
  let thj := ((n.f (F.CFE_Gg_CATOFS.OFS g) : Int) + (2 * k.j * 2 ^ 32 + 6 : Nat) / 12) % 2 ^ 32
  let d := ((x.tf : Int) - thj) % 2 ^ 32
  let far := decide ((n.f (F.CFE_Gg_CATCH.ANGTOL g) : Int) * 2 ^ 24 < min d (2 ^ 32 - d))
  let fwd := k.fwd == some true
  let agree := if fwd then decide (0 < x.spd) else decide (x.spd < 0)
  if far then n.catchEnd g rFAILANGLE 0
  else if !agree then n.catchEnd g rFAILDIR 0
  else
    let a : Int := catchAmp k.vpk (n.f F.CFE_BUS.BUS) (n.f (F.CFE_Gg_AMPMAX.LIMIT g))
    n.catchEnd g rSPINNING (if fwd then a else -a)

/-- CATCH_CROSSING (R213): the third phase-voltage result of group `g` has been written. -/
def Lane.catchSee (n : Lane) (g : Nat) : Lane :=
  let x := n.cg g
  match x.catch_ with
  | none => n
  | some k =>
    let a := n.adcRes (n.f (F.CFE_Gg_BEMF.RESA g))
    let b := n.adcRes (n.f (F.CFE_Gg_BEMF.RESB g))
    let c := n.adcRes (n.f (F.CFE_Gg_BEMF.RESC g))
    let bm := n.f (F.CFE_Gg_CATCH.BEMFMIN g)
    let sab := lineSide bm k.vab (a - b)
    let sbc := lineSide bm k.vbc (b - c)
    let sca := lineSide bm k.vca (c - a)
    let hit := fun (was now_ : Option Bool) (i : Nat) (k : CatchSt) =>
      match was, now_ with
      | some w, some v => if w = v then k else k.cross (crossingJ i v) n.now
      | _, _ => k
    let vpk := max k.vpk (max (a - b).natAbs (max (b - c).natAbs (c - a).natAbs))
    let k' := hit k.vca sca 2 (hit k.vbc sbc 1 (hit k.vab sab 0 { k with vpk := vpk }))
    let k' := { k' with vab := sab, vbc := sbc, vca := sca }
    let n := n.setCg g { x with catch_ := some k' }
    if 4 ≤ k'.ts.length then n.catchDecide g k' else n

/-- CATCH_WINDOW_EXPIRY (R213): WINDOW ms have passed without a run of four crossings. -/
def catchWindow (g : Nat) (n : Lane) : Lane :=
  match (n.cg g).catch_ with
  | some k =>
    if k.t0 + 400000 * n.f (F.CFE_Gg_CATCH.WINDOW g) ≤ n.now then
      n.catchEnd g (if k.vpk < n.f (F.CFE_Gg_CATCH.BEMFMIN g) then rSTILL else rFAILSLOW) 0
    else n
  | none => n

def execCatchWindowExpiry (l : LaneId) (t : Nat) (g : Fin 2) (s : State) : Host.Outcome State Fault Refusal :=
  onDomain l t dCFE s (catchWindow g.val)

/-! ## The bus (R214 to R218) -/

/-- The named bus results. -/
def Lane.busResults (n : Lane) : List Nat :=
  (if n.on F.CFE_BUSCFG.VAL0 then [n.f F.CFE_BUSCFG.RES0] else []) ++ (if n.on F.CFE_BUSCFG.VAL1 then [n.f F.CFE_BUSCFG.RES1] else [])

/-- OVERVOLTAGE (R218): two bus values in a row at VOVP or above begin an episode; the source is raised for the groups then in PENDING or
RUN, at the first such value that finds one, and once until the bus falls to VLIM. An armed injection forces the comparator for its
group (R369). -/
def Lane.overvoltage (n : Lane) (bus : Nat) : Lane :=
  let k := if n.f F.CFE_OVLIM.VOVP ≤ bus then n.cfe.ovc + 1 else 0
  let n := n.upCfe fun c => { c with ovc := min k 2 }
  let gs := [0, 1].filter fun g => n.grp g == gPENDING || n.grp g == gRUN
  let forced := gs.any fun g => n.injArmed (0xB4 + 5 * g) g
  if 2 ≤ k ∨ forced then
    let n := n.setF F.CFE_STAT.OVP 1
    let gs := gs.filter fun g => decide (2 ≤ k) || n.injArmed (0xB4 + 5 * g) g
    let again := gs.any fun g => n.foundAgain (0xB4 + 5 * g) g
    if (n.cfe.ovRaised && !again) || gs.isEmpty then n
    else forEach gs (fun g n => n.cfeEvent F.CFE_EVT.OVERVOLT g cOvervolt) (n.upCfe fun c => { c with ovRaised := true })
  else n

/-- BUS_VALUE_UPDATE (R214 to R218): a bus result has been written. -/
def Lane.busUpdate (n : Lane) : Lane :=
  let bus := (n.busResults.foldl (fun m r => max m (n.adcRes r)) 0).toNat
  let n := n.setF F.CFE_BUS.BUS bus
  let lim := decide (n.f F.CFE_OVLIM.VLIM < bus)
  let n := n.setF F.CFE_STAT.LIMACT (b1 lim)
  let n := if lim then n
    else (n.setF F.CFE_STAT.OVP 0).upCfe fun c => { c with ovRaised := false, grps := c.grps.map fun x => { x with limEp := false } }
  let on := if n.f F.CFE_CHTHR.CHON ≤ bus then true else if bus ≤ n.f F.CFE_CHTHR.CHOFF then false else n.cfe.chOn
  let n := n.upCfe fun c => { c with chOn := on }
  n.chopCheck.overvoltage bus

/-- A result of SH7 is judged (R217): only of a sequence triggered by AUX event code 0. -/
def Lane.chopJudge (n : Lane) (q : Nat) (v : Int) : Lane :=
  if n.on (F.ADC_SQq_CFG.VAL q) && n.f (F.ADC_SQq_CFG.TRIG q) == 16 then
    let st := n.f F.CFE_STAT.CHSTATE
    let lo := if st = 1 ∧ (n.f F.CFE_CHMON.LOMAX : Int) < v then n.cfe.chLo + 1 else 0
    let hi := if st = 0 ∧ v < n.f F.CFE_CHMON.HIMIN ∧ n.f F.CFE_CHMON.HIMIN < n.f F.CFE_BUS.BUS then n.cfe.chHi + 1 else 0
    let n := n.upCfe fun c => { c with chLo := min lo 2, chHi := min hi 2 }
    if 2 ≤ lo ∨ 2 ≤ hi then (n.setF F.CFE_STAT.CHFAIL 1).chopCheck else n
  else n

/-- What a written ADC result `r` of value `v` means to the CFE. -/
def Lane.cfeResult (n : Lane) (r : Nat) (v : Int) : Lane :=
  let n := if n.busResults.contains r then n.busUpdate else n
  let n := if n.on F.CFE_BUSCFG.VAL7 && n.f F.CFE_BUSCFG.RES7 == r then n.chopJudge (r / 16) v else n
  let n := if n.f F.CFE_CMDCFG.MODE == 0 && n.f F.CFE_CMDCFG.RES == r then n.cmdUpdate v.toNat else n
  forEach [0, 1] (fun g n => if n.on (F.CFE_Gg_BEMF.VAL g) && n.f (F.CFE_Gg_BEMF.RESC g) == r then n.catchSee g else n) n

/-! ## Tables (R220, R221) -/

/-- The retired bank of group `g` is still in use by an execution. -/
def Lane.tabBusy (n : Lane) (g : Nat) : Bool := n.cfe.exes.any fun e => e.g == g && e.bank != (if n.bit F.CFE_TBLSTAT.BANK g then 1 else 0)

/-- A word write of the table space (R221). -/
def tabWrite (org off : Nat) (v : W32) (n : Lane) : Lane :=
  match tabWhere off with
  | none => n
  | some (g, k) =>
    let active := decide (k = 1) == n.bit F.CFE_TBLSTAT.BANK g
    if active || n.bit F.CFE_TBLSTAT.PEND g || n.tabBusy g then n.rejectState org off
    else
      let w : W32 := if off < 0x09C000 then ((v.setWidth 14).signExtend 16).setWidth 32 else (v.setWidth 16).setWidth 32
      n.upCfe fun c => { c with tab := Cells.set 0#32 c.tab off w }

/-- TABLE_SWAP (R221): an armed reload of group `g`'s time base carries a pending swap out. -/
def Lane.tabSwap (n : Lane) (g : Nat) : Lane :=
  if decide (g < 2) && n.bit F.CFE_TBLSTAT.PEND g then
    (n.setBit F.CFE_TBLSTAT.BANK g (!n.bit F.CFE_TBLSTAT.BANK g)).setBit F.CFE_TBLSTAT.PEND g false
  else n

/-! ## Enable and the block's other registers -/

/-- CFE_CTRL.EN (R223); CHFAIL clears when it sets (R217). -/
def cfeEnable (org : Nat) (v : W32) (n : Lane) : Lane :=
  let en := F.CFE_CTRL.EN.val v == 1
  let was := n.on F.CFE_CTRL.EN
  let held := [0, 1, 2].any fun g => n.on (F.PWM_TBb_CFG.SRC g) && (n.grp g == gPENDING || n.grp g == gRUN || n.grp g == gSAFE)
  if en && !n.on F.SYS_ASHLOCK.LOCK then n.rejectState org R.CFE_CTRL
  else if !en && was && held then n.rejectState org R.CFE_CTRL
  else
    let n := n.store R.CFE_CTRL v
    if en && !was then (n.setF F.CFE_STAT.CHFAIL 0).chopCheck else n

def execCfeBlockEnable (l : LaneId) (t : Nat) (org : Origin) (v : W32) (s : State) : Host.Outcome State Fault Refusal :=
  onLane l t s fun n => n.regWrite org.code R.CFE_CTRL v (cfeEnable org.code v)

/-- The effect of an accepted write to a CFE register without a row of its own (R211, R224). -/
def cfeStore (org off : Nat) (v : W32) (n : Lane) : Lane :=
  let bad := (off == R.CFE_CMDSPAN && F.CFE_CMDSPAN.SPAN.val v == 0)
    || ([0, 1].any fun g => off == R.CFE_Gg_PER g && decide ((F.CFE_Gg_PER.PER g).val v < 400))
  if bad then n.rejectState org off else n.store off v

/-- What a read of a CFE register returns: TBLSTAT.BUSY shows executions on a retired bank. -/
def cfeView (off : Nat) (n : Lane) : W32 :=
  if off = R.CFE_TBLSTAT then setBits (n.rd off) 5 4 (b1 (n.tabBusy 0) + 2 * b1 (n.tabBusy 1)) else n.rd off

end Sys2Proof.Machine
end

