-- ==== Sys2Proof/Machine/Cle.lean ====
section
/-! DEFINITION. The control law engine (spec/09): arithmetic, input stages, laws, setpoint limiters, modes and forced
tracking, and one loop execution. The commands that move chains are in Chain.lean. -/

namespace Sys2Proof.Machine

/-- MODE values (R237). -/
def lOFF : Nat := 0
def lRUN : Nat := 1
def lHOLD : Nat := 2
def lTRACK : Nat := 3

/-- A word as a signed number. -/
def Lane.s (n : Lane) (off : Nat) : Int := (n.rd off).toInt

/-- Saturate to 32 bits: sat() of R226. -/
def satI (x : Int) : Int := clampInt (-2147483648) 2147483647 x

/-- c ⊗ v with shift s (R226). -/
def gain (c : Int) (s : Nat) (v : Int) : Int := satI (c * v / 2 ^ (24 + s))

/-! ## Structure -/

/-- Slots 0 to 31. -/
def slots : List Nat := List.range 32

/-- The loops of chain `c`: a law, that chain, and the chain has a trigger (R225). -/
def Lane.chainLoops (n : Lane) (c : Nat) : List Nat :=
  slots.filter fun m => n.f (F.CLE_Ln_CFG.LAW m) != 0 && n.f (F.CLE_Ln_CFG.CHAIN m) == c && (n.chainTrig c).isSome

/-- The slots whose setpoint is routed from loop `m`, lowest first. -/
def Lane.spConsumers (n : Lane) (m : Nat) : List Nat :=
  slots.filter fun k => n.on (F.CLE_Ln_SPSRC.VAL k) && n.f (F.CLE_Ln_SPSRC.KIND k) == 5 && n.f (F.CLE_Ln_SPSRC.SOURCE k) == m

/-! ## Events (R243) -/

/-- "limited" or "stale" of a slot: LOOP keeps the first recorded. -/
def Lane.cleLoopEvent (n : Lane) (flag : FRef) (src kind slot : Nat) : Lane :=
  let first := !(n.on F.CLE_EVT.LIMITED || n.on F.CLE_EVT.STALE)
  let n := if n.on flag then n else (if first then n.setF F.CLE_EVT.LOOP slot else n).sqEvent flag
  n.raise src kind slot

def Lane.limited (n : Lane) (slot : Nat) : Lane := n.cleLoopEvent F.CLE_EVT.LIMITED 0xC1 2 slot

/-! ## Setpoint limiters (R236) -/

/-- MIN, MAX and SLEW of a limiter, with the limp set when it is in force. -/
def Lane.spLimits (n : Lane) (m : Nat) (limp : Bool) : Int × Int × Int :=
  let mn := n.s (R.CLE_Ln_SPMIN m)
  let mx := n.s (R.CLE_Ln_SPMAX m)
  let sl : Int := (n.rd (R.CLE_Ln_SPSLEW m)).toNat
  if limp then (max mn (n.s (R.CLE_Ln_SPMINL m)), min mx (n.s (R.CLE_Ln_SPMAXL m)), min sl (n.rd (R.CLE_Ln_SPSLEWL m)).toNat)
  else (mn, mx, sl)

/-- SETPOINT_LATCH (R236): the limiter of slot `m` latches target `tgt`; a routed target beyond the limits raises "limited"
at the first latch of an episode. -/
def Lane.spLatch (n : Lane) (m : Nat) (tgt : Int) (limp : Bool) : Lane :=
  let (mn, mx, sl) := n.spLimits m limp
  let prev := n.s (R.CLE_Ln_SPL m)
  let a := clampInt (prev - sl) (prev + sl) tgt
  let v := clampInt mn mx a
  let beyond := decide (tgt < mn) || decide (mx < tgt)
  let routed := n.on (F.CLE_Ln_SPSRC.VAL m)
  let was := n.cle.spEp.contains m
  let n := n.wr (R.CLE_Ln_SPL m) (BitVec.ofInt 32 v)
  let n := n.setFs [(F.CLE_Ln_STAT.LIMP m, b1 limp), (F.CLE_Ln_STAT.SPSLEWA m, b1 (decide (a ≠ tgt))), (F.CLE_Ln_STAT.SPCLAMP m, b1 beyond)]
  let n := n.upCle fun c => { c with
    latch := Cells.put c.latch m (v, tgt)
    spEp := if routed && beyond then (if was then c.spEp else m :: c.spEp) else c.spEp.filter (· != m) }
  if routed && beyond && !was then n.limited m else n

/-! ## Inputs (R227, R230) -/

/-- A route of kind `kind` from `src` is awaited by a loop of chain `c` (R230); `isSp` for a setpoint. -/
def Lane.awaits (n : Lane) (c kind src : Nat) (isSp : Bool) : Bool :=
  if kind = 2 then true
  else if kind = 3 then n.on (F.ADC_SQq_CFG.VAL (src / 16)) && some (n.f (F.ADC_SQq_CFG.TRIG (src / 16))) == n.chainTrig c
  else if kind = 5 then !isSp && n.f (F.CLE_Ln_CFG.CHAIN src) == c
  else false

/-- The value at the sample instant of a route that is not awaited. -/
def Lane.instValue (n : Lane) (kind word src : Nat) : Int :=
  if kind = 3 then n.adcRes src * 2 ^ 18
  else if kind = 4 then
    n.s (0x100000 + 0x400 * src + 0x100 * n.f (F.TPE_BUFb_STAT.NEWEST src) + 4 * word)
  else if kind = 5 then n.s (R.CLE_Ln_OUT src)
  else 0

/-- The feedback value y of the input stage (R227). -/
def Lane.inputStage (n : Lane) (m : Nat) (xs : List Int) : Int :=
  let x := fun i => xs.getD i 0
  let sh := n.f ⟨R.CLE_Ln_SHW m, 19, 0⟩
  let w := fun i v => gain (n.s (R.CLE_Ln_Wi m i)) (sh / 32 ^ i % 32) v
  if n.on (F.CLE_Ln_CFG.INMODE m) then
    let g := n.f (F.CLE_Ln_CFG.PGRP m)
    let ts := n.commEntries g (if n.bit F.CFE_TBLSTAT.BANK g then 1 else 0) (n.f (F.CFE_Gg_ANGLE.ANGLE g))
    let p := fun i => x i * ts.getD i 0 / 2 ^ 13
    satI (w 0 (p 0) + w 1 (p 1) + w 2 (p 2) + w 3 (x 3))
  else satI (w 0 (x 0) + w 1 (x 1) + w 2 (x 2) + w 3 (x 3))

/-- The routed inputs of a slot. -/
def Lane.routedInputs (n : Lane) (m : Nat) : List Nat := [0, 1, 2, 3].filter fun i => n.on (F.CLE_Ln_INi.VAL m i)

/-! ## One execution (R228, R229, R232, R238) -/

/-- What the consumers applied against the loop's output (R229): less, more. -/
def Lane.consumerJudge (n : Lane) (m : Nat) : Bool × Bool :=
  let grp := (n.loopGroups m).foldl (fun p g =>
    let a := n.s (R.CFE_Gg_AMP g)
    let r := (n.cg g).req
    (p.1 || decide (a < r), p.2 || decide (r < a))) (false, false)
  (n.spConsumers m).foldl (fun p k =>
    match n.cle.latch.find? fun e => e.1 == k with
    | some (_, v, tgt) => (p.1 || decide (v < tgt), p.2 || decide (tgt < v))
    | none => p) grp

/-- The track value T (R238, R239), with TSRC and what it names as they stand at dispatch (R233). -/
def Lane.trackValue (n : Lane) (x : LoopEx) : Int :=
  match x.forced with
  | some (.caught g) => n.s (R.CFE_Gg_CATAMP g)
  | some .zero => 0
  | some (.amp g) => n.s (R.CFE_Gg_AMP g)
  | some (.cons k) => Cells.get 0 n.cle.y k
  | none =>
    if n.on (F.CLE_Ln_MODE.TSRC x.slot) then n.s (R.CLE_Ln_PRESET x.slot)
    else match n.loopGroup x.slot, n.spConsumers x.slot with
      | some g, _ => n.s (R.CFE_Gg_AMP g)
      | none, k :: _ => n.s (R.CLE_Ln_SPL k)
      | none, [] => n.s (R.CLE_Ln_PRESET x.slot)

/-- The mode an execution runs in: TRACK when forced, HOLD on stale inputs. -/
def LoopEx.act (x : LoopEx) : Nat :=
  if x.forced.isSome then lTRACK else x.mode

/-- The length of an execution (R232). -/
def Lane.execLen (n : Lane) (x : LoopEx) : Nat :=
  let m := x.slot
  if x.act = lOFF ∨ x.act = lHOLD ∨ x.stale then 16
  else
    let law := n.f (F.CLE_Ln_CFG.LAW m)
    let ins := if n.on (F.CLE_Ln_CFG.INMODE m) then 32 + (if (n.routedInputs m).contains 3 then 4 else 0)
      else 4 + 4 * (n.routedInputs m).length
    8 + ins + (if law = 2 then 32 else if law = 3 then 40 else 24) + 8

/-- What an execution forms from the values of its dispatch cycle (R233). -/
structure LawResult where
  uo     : Int
  st     : List Int
  first  : Bool
  y      : Option Int
  e      : Int
  hiU    : Bool
  loU    : Bool
  limHi  : Bool
  limLo  : Bool
  oclamp : Bool
  deriving DecidableEq, Repr

/-- The law state registers of a slot. -/
def Lane.lawState (n : Lane) (m : Nat) : List Int := [0, 1, 2, 3].map fun i => n.s (R.CLE_Ln_Sm m i)

/-- A full execution in RUN or TRACK (R228, R229, R238). -/
def Lane.lawRun (n : Lane) (x : LoopEx) : LawResult :=
  let m := x.slot
  let cs := fun j => n.s (R.CLE_Ln_Cj m j)
  let sh := fun j => n.f ⟨R.CLE_Ln_SHC m, 24, 0⟩ / 32 ^ j % 32
  let k := fun j v => gain (cs j) (sh j) v
  let st := n.lawState m
  let s := fun i => st.getD i 0
  let law := n.f (F.CLE_Ln_CFG.LAW m)
  let omin := n.s (R.CLE_Ln_OMIN m)
  let omax := n.s (R.CLE_Ln_OMAX m)
  let imin := n.s (R.CLE_Ln_IMIN m)
  let imax := n.s (R.CLE_Ln_IMAX m)
  let y := n.inputStage m x.xs
  let e := satI (x.spL - y)
  let track := x.act == lTRACK
  let t := n.trackValue x
  let tc := clampInt omin omax t
  let first := n.on (F.CLE_Ln_STAT.FIRST m)
  let fin := fun (u : Int) (st : List Int) (hi lo : Bool) =>
    let uo := if track then tc else clampInt omin omax u
    { uo := uo, st := st, first := false, y := some y, e := e
      hiU := !track && decide (omax < u), loU := !track && decide (u < omin), limHi := hi, limLo := lo
      oclamp := if track then decide (tc ≠ t) else decide (uo ≠ u) : LawResult }
  if law = 1 ∨ law = 2 then
    let (less, more) := n.consumerJudge m
    let hi := n.cle.hiU.contains m || less
    let lo := n.cle.loU.contains m || more
    let p := k 0 e
    let di := k 1 e
    let di := if hi && decide (0 < di) then 0 else if lo && decide (di < 0) then 0 else di
    let y1 := if first then y else s 1
    let d := k 2 (satI (y1 - y))
    let df := if law = 2 then satI (s 2 + k 3 (satI (d - s 2))) else 0
    let i := if track then clampInt imin imax (t - p - df) else clampInt imin imax (s 0 + di)
    fin (satI (p + i + df)) (if law = 2 then [i, y, df, 0] else [i, 0, 0, 0]) hi lo
  else if law = 3 then
    let u := satI (k 0 e + k 1 (s 0) + k 2 (s 1) - k 3 (s 2) - k 4 (s 3))
    let uo := if track then tc else clampInt omin omax u
    fin u (if track then [e, e, uo, uo] else [e, s 0, uo, s 2]) false false
  else
    let u := satI (k 0 e + k 1 (s 0) - k 2 (s 1))
    let uo := if track then tc else clampInt omin omax u
    fin u [e, uo, 0, 0] false false

/-- What an execution forms in its mode (R231, R237). -/
def Lane.lawResult (n : Lane) (x : LoopEx) : LawResult :=
  let m := x.slot
  if x.act = lOFF then
    { uo := 0, st := [0, 0, 0, 0], first := true, y := none, e := n.s (R.CLE_Ln_ERR m), hiU := false, loU := false
      limHi := false, limLo := false, oclamp := false }
  else if x.act = lHOLD ∨ x.stale then
    { uo := n.s (R.CLE_Ln_CUR m), st := n.lawState m, first := n.on (F.CLE_Ln_STAT.FIRST m), y := none
      e := n.s (R.CLE_Ln_ERR m), hiU := n.cle.hiU.contains m, loU := n.cle.loU.contains m
      limHi := n.on (F.CLE_Ln_STAT.LIMHI m), limLo := n.on (F.CLE_Ln_STAT.LIMLO m), oclamp := n.on (F.CLE_Ln_STAT.OCLAMP m) }
  else n.lawRun x

/-- A loop is ready (R232). -/
def LoopEx.ready (x : LoopEx) : Bool :=
  !x.sent && x.waits.isEmpty && (!x.spWait || x.act == lOFF || x.act == lHOLD)

/-! ## Enable and the block's other registers -/

/-- CLE_CTRL.EN (R244). -/
def cleEnable (org : Nat) (v : W32) (n : Lane) : Lane :=
  let en := F.CLE_CTRL.EN.val v == 1
  let was := n.on F.CLE_CTRL.EN
  if en && !n.on F.SYS_ASHLOCK.LOCK then n.rejectState org R.CLE_CTRL
  else if !en && was && n.anyDriving then n.rejectState org R.CLE_CTRL
  else if en = was then n.store R.CLE_CTRL v
  else
    let n := n.store R.CLE_CTRL v
    let n := n.upCle fun _ => {}
    let n := n.upCfe fun c => { c with exes := c.exes.filter fun e => e.asked }
    let n := n.wr R.CLE_STAT 0#32
    let n := forEach [0, 1, 2, 3, 4, 5, 6, 7] (fun c n => n.setF (F.CLE_CHc_STAT.BUSY c) 0) n
    if en then
      let n := n.wr R.CLE_MAXLAT 0#32
      let n := n.wr R.CLE_OVRCNT 0#32
      forEach slots (fun m n =>
        let n := forEach [R.CLE_Ln_CUR m, R.CLE_Ln_OUT m, R.CLE_Ln_SPL m, R.CLE_Ln_Sm m 0, R.CLE_Ln_Sm m 1, R.CLE_Ln_Sm m 2, R.CLE_Ln_Sm m 3]
          (fun r n => n.wr r 0#32) n
        n.setF (F.CLE_Ln_STAT.FIRST m) 1) n
    else n

def execCleBlockEnable (l : LaneId) (t : Nat) (org : Origin) (v : W32) (s : State) : Host.Outcome State Fault Refusal :=
  onLane l t s fun n => n.regWrite org.code R.CLE_CTRL v (cleEnable org.code v)

/-- The effect of an accepted write to a CLE register without a row of its own: CLE_Ln_SP while its setpoint is routed is
rejected; beyond the limits it raises "limited" and the limiter clamps it (R35, R236). -/
def cleStore (org off : Nat) (v : W32) (n : Lane) : Lane :=
  match slots.find? fun m => off == R.CLE_Ln_SP m with
  | some m =>
    if n.on (F.CLE_Ln_SPSRC.VAL m) then n.rejectState org off
    else
      let (mn, mx, _) := n.spLimits m (n.on (F.CLE_Ln_STAT.LIMP m))
      let n := n.store off v
      if v.toInt < mn ∨ mx < v.toInt then n.limited m else n
  | none => n.store off v

end Sys2Proof.Machine
end

