-- ==== Sys2Proof/Machine/Fbi.lean ====
section
/-! DEFINITION. Position and speed feedback (spec/06): counting, the index check, Hall, SENT and SSI sensors, soft limits,
latch sets and speed, position compare and the pulse divider. -/

namespace Sys2Proof.Machine

/-- The speed and age of latch set `k` of channel `ch` become valid, 24 LCLK after the sample instant (R172); a saturated
speed records OVF (R178). -/
def latchSpeedValid (ch k : Nat) (n : Lane) : Lane :=
  let x := n.fch ch
  let ls := x.lats.getD k {}
  match ls.pend with
  | some p =>
    if p.due ≤ n.now then
      let n := n.setFch ch { x with lats := x.lats.set k { ls with pend := none } }
      let n := n.wr (R.FBI_CHn_LATk_SPD ch k) p.spd
      let n := n.setF (F.FBI_CHn_LATk_AGE.AGE ch k) p.age
      if p.ovf then n.fbiEvent ch (F.FBI_CHn_EVT.OVF ch) kOvf else n
    else n
  | none => n

/-! ## Position, soft limits (R169) -/

def Lane.fpos (n : Lane) (ch : Nat) : Int := (n.rd (R.FBI_CHn_POS ch)).toInt

/-- POS and EXCESS take the position `total` under the soft limits; `home` for a load that records LIMIT whenever EXCESS is
left non-zero (R161, R169). -/
def Lane.fbiPlace (n : Lane) (ch : Nat) (total : Int) (home : Bool) : Lane :=
  let lo := (n.rd (R.FBI_CHn_SLMIN ch)).toInt
  let hi := (n.rd (R.FBI_CHn_SLMAX ch)).toInt
  let pos := clampInt lo hi total
  let ex := total - pos
  let exs := clampInt (-32767) 32767 ex
  let was := n.sf (F.FBI_CHn_EXCESS.EXCESS ch)
  let n := n.wr (R.FBI_CHn_POS ch) (BitVec.ofInt 32 pos)
  let n := n.setF (F.FBI_CHn_EXCESS.EXCESS ch) (BitVec.ofInt 16 exs).toNat
  let n := n.setF (F.FBI_CHn_STAT.ATMAX ch) (b1 (decide (pos = hi) && decide (0 < exs)))
  let n := n.setF (F.FBI_CHn_STAT.ATMIN ch) (b1 (decide (pos = lo) && decide (exs < 0)))
  let n := if ex = exs then n
    else (n.setF (F.FBI_CHn_EXCESS.LOST ch) 1).fbiEvent ch (F.FBI_CHn_EVT.LOST ch) kLimit
  if exs ≠ 0 ∧ (was = 0 ∨ home) then n.fbiEvent ch (F.FBI_CHn_EVT.LIMIT ch) kLimit else n

/-- `d` counts are applied to POS and EXCESS, all in one direction (R169): POS + EXCESS is the position without limits. -/
def Lane.fbiMove (n : Lane) (ch : Nat) (d : Int) : Lane :=
  n.fbiPlace ch (n.fpos ch + n.sf (F.FBI_CHn_EXCESS.EXCESS ch) + d) false

/-! ## Position compare (R179, R180) -/

/-- The entry after entry `e` of the list, or none when the list has ended. -/
def Lane.pcNext (n : Lane) (ch e : Nat) : Option Nat :=
  if n.on (F.FBI_CHn_PCe_ACT.LAST ch e) then
    (if n.on (F.FBI_CHn_PCCTL.LOOP ch) then some (n.f (F.FBI_CHn_PCCTL.START ch)) else none)
  else some ((e + 1) % 64)

/-- The pointer moves past entry `e`; at the end of the list DONE sets and hardware clears EN. -/
def Lane.pcAdvance (n : Lane) (ch e : Nat) : Lane :=
  match n.pcNext ch e with
  | some e' => n.setF (F.FBI_CHn_PCSTAT.PTR ch) e'
  | none => (n.setF (F.FBI_CHn_PCSTAT.DONE ch) 1).setF (F.FBI_CHn_PCCTL.EN ch) 0

/-- Entries with DIR 3 under the pointer are skipped, at one entry per cycle. -/
def Lane.pcSkip (n : Lane) (ch : Nat) : Nat → Lane
  | 0 => n
  | k + 1 =>
    let e := n.f (F.FBI_CHn_PCSTAT.PTR ch)
    if n.on (F.FBI_CHn_PCCTL.EN ch) && n.f (F.FBI_CHn_PCe_ACT.DIR ch e) == 3 then (n.pcAdvance ch e).pcSkip ch k else n

/-- Entries from START to the first with LAST, or the whole list. -/
def Lane.pcLen (n : Lane) (ch : Nat) : Nat :=
  let st := n.f (F.FBI_CHn_PCCTL.START ch)
  match (List.range 64).find? fun i => n.on (F.FBI_CHn_PCe_ACT.LAST ch ((st + i) % 64)) with
  | some i => i + 1
  | none => 64

/-- The pointer as it stands in the present cycle; a list of skipped entries only goes round for ever. -/
def Lane.pcSync (n : Lane) (ch : Nat) : Lane :=
  let x := n.fch ch
  let k := n.now - x.pcT
  let k := if k ≤ 128 then k else 64 + (k - 64) % n.pcLen ch
  (n.setFch ch { x with pcT := n.now }).pcSkip ch k

/-- Channel `ch` drives pin PCOk (R180). -/
def Lane.pcOwns (n : Lane) (ch k : Nat) : Bool := n.f F.FBI_PCOSEL.OWNER / 4 ^ k % 4 == ch

/-- The levels of the compare pins with the pulses that have ended by the present cycle low. -/
def Lane.pcoNow (n : Lane) : Nat :=
  n.fbi.pulse.foldl (fun a q => if q.2 ≤ n.now then natSetBit a q.1 false else a) n.fbi.pco

/-- The action of entry `e` on its pin, in the cycle after the match (R180): up to it the pin shows what it showed before. -/
def Lane.pcAct (n : Lane) (ch e : Nat) : Lane :=
  let k := n.f (F.FBI_CHn_PCe_ACT.PIN ch e)
  let n := if n.pcOwns ch k then
      let act := n.f (F.FBI_CHn_PCe_ACT.ACTION ch e)
      let was := n.pcoNow
      let lvl := if act = 0 ∨ act = 1 then true else if act = 2 then false else !was.testBit k
      n.upFbi fun g => { g with
        pcoOld := if g.pcoT = n.now then g.pcoOld else was
        pcoT := n.now
        pco := natSetBit was k lvl
        pulse := if act = 0 then Cells.put g.pulse k (n.now + 1 + n.f (F.FBI_CHn_PCPW.PW ch)) else Cells.erase g.pulse k }
    else n
  if n.on (F.FBI_CHn_PCe_ACT.EVENT ch e) then n.fbiEvent ch (F.FBI_CHn_EVT.PCEVT ch) 0 else n

/-- Count edges have brought POS from `p₀` to its present value: the entry under the pointer matches if its position lies
on the way and its direction allows it (R179). -/
def Lane.pcMatch (n : Lane) (ch : Nat) (p₀ : Int) : Lane :=
  let n := n.pcSync ch
  let e := n.f (F.FBI_CHn_PCSTAT.PTR ch)
  let p := (n.rd (R.FBI_CHn_PCe_POS ch e)).toInt
  let p₁ := n.fpos ch
  let d := n.f (F.FBI_CHn_PCe_ACT.DIR ch e)
  let fwd := decide (p₀ < p) && decide (p ≤ p₁) && (d == 0 || d == 1)
  let rev := decide (p₁ ≤ p) && decide (p < p₀) && (d == 0 || d == 2)
  if n.on (F.FBI_CHn_PCCTL.EN ch) && (fwd || rev) then
    ((n.pcAct ch e).stepSat (F.FBI_CHn_PCSTAT.MATCHES ch)).pcAdvance ch e
  else n

/-! ## Pulse divider (R181) -/

/-- `d` counts of channel `ch` reach the divider: whole steps are queued against the backlog, which holds at most 255. -/
def Lane.pdCount (n : Lane) (ch : Nat) (d : Int) : Lane :=
  if n.on F.FBI_PDCFG.PDEN && n.f F.FBI_PDCFG.SRC == ch then
    let den : Int := n.f F.FBI_PDRATIO.DEN
    let acc := n.fbi.pdAcc + d * (n.f F.FBI_PDRATIO.NUM : Nat)
    let q := n.fbi.pdQ + Int.tdiv acc den
    let qs := clampInt (-255) 255 q
    let n := n.upFbi fun g => { g with pdAcc := Int.tmod acc den, pdQ := qs }
    if q = qs ∨ n.on F.FBI_PDSTAT.OVF then n
    else (n.sqEvent F.FBI_PDSTAT.OVF).raise (0x90 + 8 * ch + kDivider - 1) kDivider ch
  else n

/-! ## Count edges -/

/-- `d` counts move POS: soft limits, compare list, divider (R169, R179, R181). Where a HOME load falls into the same cycle
(`home`), POS takes the load alone (R161). -/
def Lane.fbiCounts (n : Lane) (ch : Nat) (d : Int) (home : Bool) : Lane :=
  let p₀ := n.fpos ch
  let n := if home then n else n.fbiMove ch d
  let n := n.setF (F.FBI_CHn_STAT.DIR ch) (b1 (decide (d < 0)))
  let n := n.setF (F.FBI_CHn_STAT.STILL ch) 0
  let n := n.setFch ch { n.fch ch with edgeT := n.now }
  (n.pcMatch ch p₀).pdCount ch d

/-- The index number nearest to a RAW count, and its distance d from it (R158). -/
def idxNear (nom : Nat) (pref raw : W32) : Int × Int :=
  let rel := (raw - pref).toInt
  let m := rel % (nom : Int)
  let d := if 2 * m < nom then m else m - nom
  ((rel - d) / (nom : Int), d)

/-- The window holds the count at distance `rel` from the reference count (R159). -/
def IdxWindow.holds (w : IdxWindow) (nom tol : Nat) (rel : Int) : Bool := decide ((rel - w.k * (nom : Int)).natAbs ≤ tol)

/-- A count edge has moved RAW by `s`: windows, which overlap where 2 × TOL reaches NOM, are entered and left, and one crossed without
an index records MISS (R159). -/
def Lane.idxWindow (n : Lane) (ch : Nat) (s : Int) : Lane :=
  let nom := n.f (F.FBI_CHn_IDX.NOM ch)
  let tol := n.f (F.FBI_CHn_IDX.TOL ch)
  match (n.fch ch).pref with
  | none => n
  | some pr =>
    if nom = 0 then n
    else
      let rel := (n.rd (R.FBI_CHn_RAW ch) - pr).toInt
      let x := n.fch ch
      let up := decide (0 < s)
      -- the expected position whose near edge the count has come to
      let e := rel + s * (tol : Int)
      let kept := x.wins.filter fun w => w.holds nom tol rel
      let kept := if e % (nom : Int) = 0 ∧ !kept.any fun w => w.k == e / (nom : Int) then
          kept ++ [{ k := e / (nom : Int), low := up, seen := false }] else kept
      let missed := x.wins.any fun w => !w.holds nom tol rel && w.low == up && !w.seen
      let n := n.setFch ch { x with wins := kept }
      if missed then n.fbiEvent ch (F.FBI_CHn_EVT.MISS ch) kIndex else n

/-- A registered count edge of a quadrature or Hall channel, `s` = ±1 (R156, R162, R173, R174). -/
def Lane.fbiEdge (n : Lane) (ch : Nat) (s : Int) (home : Bool) : Lane :=
  let raw := n.rd (R.FBI_CHn_RAW ch) + BitVec.ofInt 32 s
  let n := n.wr (R.FBI_CHn_RAW ch) raw
  let x := n.fch ch
  let e : Edge := { t := n.now, raw := raw }
  let fresh := x.e1.isNone || (n.on (F.FBI_CHn_STAT.DIR ch) != decide (s < 0))
  let x := if fresh then { x.barrier with e1 := some e, first := some e } else { x with e0 := x.e1, e1 := some e }
  let n := (n.setFch ch { x with stampT := n.now }).wr (R.FBI_CHn_TSTAMP ch) (n.fbiTimeAt n.now)
  let n := n.setF (F.FBI_CHn_STAT.NOREF ch) (b1 x.e0.isNone)
  (n.fbiCounts ch s home).idxWindow ch s

/-- A forward step counts +1, or −1 with DIRINV. -/
def Lane.fbiStep (n : Lane) (ch : Nat) (fwd home : Bool) : Lane :=
  n.fbiEdge ch (if fwd != n.on (F.FBI_CHn_CFG.DIRINV ch) then 1 else -1) home

/-! ## The index (R157 to R161) -/

/-- The index condition (R157): I2 at its active level and, with the gate, q as required. -/
def Lane.idxCond (n : Lane) (ch i : Nat) : Bool :=
  let g := n.f (F.FBI_CHn_IDX.GATE ch)
  (i.testBit 2 != n.on (F.FBI_CHn_IDX.IPOL ch)) && (!g.testBit 2 || i % 4 == g % 4)

/-- SLIP_CORRECTION (R160): RAW, POS and the stored counts shift by −d. A window the shift leaves is left without MISS, and one the
count comes into by the shift was entered from no side (log entry 102). -/
def Lane.slipShift (n : Lane) (ch : Nat) (d : Int) : Lane :=
  let rel := match (n.fch ch).pref with
    | some pr => (n.rd (R.FBI_CHn_RAW ch) - pr).toInt - d
    | none => 0
  let sh := fun (w : W32) => w - BitVec.ofInt 32 d
  let she := fun (o : Option Edge) => o.map fun e => { e with raw := sh e.raw }
  let x := n.fch ch
  let n := n.setFch ch { x with
    e0 := she x.e0, e1 := she x.e1, first := she x.first
    wins := x.wins.filter fun w => w.holds (n.f (F.FBI_CHn_IDX.NOM ch)) (n.f (F.FBI_CHn_IDX.TOL ch)) rel
    lats := x.lats.map fun s => { s with prev := s.prev.map fun p => (p.1, sh p.2), mt := she s.mt } }
  (n.wr (R.FBI_CHn_RAW ch) (sh (n.rd (R.FBI_CHn_RAW ch)))).fbiMove ch (-d)

/-- A qualified index (R157, R158, R161). -/
def Lane.idxQualified (n : Lane) (ch : Nat) : Lane :=
  let raw := n.rd (R.FBI_CHn_RAW ch)
  let n := n.wr (R.FBI_CHn_IDXPOS ch) raw
  let nom := n.f (F.FBI_CHn_IDX.NOM ch)
  if nom = 0 then n
  else match (n.fch ch).pref with
  | none =>
    let n := n.setFch ch { n.fch ch with pref := some raw, wins := [] }
    let n := n.setF (F.FBI_CHn_STAT.IDXREF ch) 1
    if n.on (F.FBI_CHn_IDX.HOME ch) then
      let n := n.fbiPlace ch (n.rd (R.FBI_CHn_IDXVAL ch)).toInt true
      (n.setF (F.FBI_CHn_STAT.HOMED ch) 1).fbiEvent ch (F.FBI_CHn_EVT.HOME ch) 0
    else n
  | some pr =>
    let (_, d) := idxNear nom pr raw
    let x := n.fch ch
    let n := n.setFch ch { x with wins := x.wins.map fun w => { w with seen := true } }
    let fwd := !n.on (F.FBI_CHn_STAT.DIR ch)
    if d = 0 then n
    else if d.natAbs ≤ n.f (F.FBI_CHn_IDX.TOL ch) then
      let n := n.fbiEvent ch (F.FBI_CHn_EVT.SLIP ch) kIndex
      if n.on (F.FBI_CHn_IDX.CORR ch) then n.slipShift ch d else n
    else if fwd = decide (d < 0) then n.fbiEvent ch (F.FBI_CHn_EVT.EARLY ch) kIndex
    else n.fbiEvent ch (F.FBI_CHn_EVT.LATE ch) kIndex

/-! ## Quadrature and Hall (R156, R162) -/

/-- The place of a quadrature state in the forward sequence 0, 1, 3, 2. -/
def quadIx (q : Nat) : Nat := if q = 0 then 0 else if q = 1 then 1 else if q = 3 then 2 else 3

/-- A mode 1 input change from `i₀` to `i`. -/
def Lane.quadInput (n : Lane) (ch i₀ i : Nat) : Lane :=
  let k := (quadIx (i % 4) + 4 - quadIx (i₀ % 4)) % 4
  let home := n.idxCond ch i && !(n.fch ch).idx && n.f (F.FBI_CHn_IDX.NOM ch) != 0 && (n.fch ch).pref.isNone
    && n.on (F.FBI_CHn_IDX.HOME ch)
  let n := if k = 1 then n.fbiStep ch true home
    else if k = 3 then n.fbiStep ch false home
    else if k = 2 then (n.fbiEvent ch (F.FBI_CHn_EVT.QERR ch) kQuad).fbiBarrier ch
    else n
  let c := n.idxCond ch i
  let was := (n.fch ch).idx
  let n := n.setFch ch { n.fch ch with idx := c }
  if c && !was then n.idxQualified ch else n

/-- Entry `i` of HALLSEQ. -/
def hallEntry (seq i : Nat) : Nat := seq / 8 ^ i % 8

/-- The place of a valid Hall state in HALLSEQ. -/
def hallIx (seq h : Nat) : Nat := ((List.range 6).find? fun i => hallEntry seq i == h).getD 6

/-- A mode 2 input change from `h₀` to `h`. -/
def Lane.hallInput (n : Lane) (ch h₀ h : Nat) : Lane :=
  let seq := n.f (F.FBI_CHn_HALLSEQ.SEQ ch)
  if h = h₀ then n
  else if h = 0 ∨ h = 7 then
    ((n.setF (F.FBI_CHn_STAT.VALID ch) 0).catchChecks.fbiEvent ch (F.FBI_CHn_EVT.HALLST ch) kHall).fbiBarrier ch
  else if h₀ = 0 ∨ h₀ = 7 then (n.setF (F.FBI_CHn_STAT.VALID ch) 1).fbiBarrier ch
  else
    let k := (hallIx seq h + 6 - hallIx seq h₀) % 6
    if k = 1 then n.fbiStep ch true false
    else if k = 5 then n.fbiStep ch false false
    else (n.fbiEvent ch (F.FBI_CHn_EVT.QERR ch) kHall).fbiBarrier ch

/-! ## Absolute values (R163 to R168, R177) -/

/-- The Keystone kind of a channel's FRAME and TIMEOUT. -/
def Lane.absKind (n : Lane) (ch : Nat) : Nat := if n.fmode ch = 3 then kSent else kSsi

/-- TIMEOUT is recorded: the value is no longer valid, the speed is 0 and a new reference is needed (R164, R177). -/
def Lane.absTimeout (n : Lane) (ch : Nat) : Lane :=
  let n := n.setFch ch { n.fch ch with timed := true, absSpd := 0#32, vT := none }
  let n := (n.setFs [(F.FBI_CHn_STAT.VALID ch, 0), (F.FBI_CHn_STAT.NOREF ch, 1)]).catchChecks
  n.fbiEvent ch (F.FBI_CHn_EVT.TIMEOUT ch) (n.absKind ch)

/-- An injection is armed into the SENT or SSI check of channel `ch` (R369). -/
def Lane.absInj (n : Lane) (ch : Nat) : Bool := n.injArmed (0x90 + 8 * ch + n.absKind ch - 1) ch

/-- A frame or transfer is discarded; the BADN-th in a row is a TIMEOUT. -/
def Lane.absBad (n : Lane) (ch : Nat) : Lane :=
  let n := n.fbiEvent ch (F.FBI_CHn_EVT.FRAME ch) (n.absKind ch)
  let x := n.fch ch
  let n := n.setFch ch { x with bad := x.bad + 1, sent := { x.sent with ser := [] } }
  if x.bad + 1 = n.f (F.FBI_CHn_ABS.BADN ch) then n.absTimeout ch else n

/-- ABSOLUTE_VALUE_UPDATE (R168, R177): a valid value `v` with its stamp. -/
def Lane.absValue (n : Lane) (ch v stamp : Nat) : Lane :=
  let x := n.fch ch
  let n := n.setF (F.FBI_CHn_STAT.VALID ch) 1
  let n := n.wr (R.FBI_CHn_TSTAMP ch) (n.fbiTimeAt stamp)
  let keep := fun (x : FbiCh) (spd : Int) =>
    { x with vPrev := some v, vT := some stamp, stampT := stamp, bad := 0, lastOk := n.now, timed := false
             absSpd := BitVec.ofInt 32 spd }
  match x.vPrev with
  | none =>
    let n := n.setFch ch (keep x 0)
    (n.wr (R.FBI_CHn_RAW ch) (BitVec.ofNat 32 v)).fbiPlace ch v false
  | some p =>
    let w := n.f (F.FBI_CHn_ABS.POSW ch)
    let m := ((v : Int) - p) % (2 ^ w : Nat)
    let d := if m < (2 ^ (w - 1) : Nat) then m else m - (2 ^ w : Nat)
    let d := if n.on (F.FBI_CHn_CFG.DIRINV ch) then -d else d
    let (spd, ovf) := match x.vT with
      | some t₀ => spdRate d (stamp - t₀)
      | none => (0, false)
    let n := n.setFch ch (keep x spd)
    let n := if x.vT.isSome then n.setF (F.FBI_CHn_STAT.NOREF ch) 0 else n
    let n := n.wr (R.FBI_CHn_RAW ch) (n.rd (R.FBI_CHn_RAW ch) + BitVec.ofInt 32 d)
    let n := if ovf then n.fbiEvent ch (F.FBI_CHn_EVT.OVF ch) kOvf else n
    if d = 0 then n else n.fbiCounts ch d false

/-- The sensor value in a received field (R165). -/
def Lane.absExtract (n : Lane) (ch field : Nat) : Nat :=
  field / 2 ^ n.f (F.FBI_CHn_ABS.POSSHIFT ch) % 2 ^ n.f (F.FBI_CHn_ABS.POSW ch)

/-! ### SENT -/

/-- A 4-bit CRC step: multiply by x^4 modulo x^4 + x^3 + x^2 + 1 (R164). -/
def sentCrcStep (c : Nat) : Nat :=
  (List.range 4).foldl (fun c _ => let t := c * 2; (if t ≥ 16 then t ^^^ 0x1D else t) % 16) (c % 16)

/-- The J2716 CRC of the data nibbles: with an appended zero nibble in the recommended form (log entry 20). -/
def sentCrc (legacy : Bool) (data : List Nat) : Nat :=
  let c := data.foldl (fun c d => Nat.xor (sentCrcStep c) d) 5
  if legacy then c else sentCrcStep c

/-- A pulse length is a sync: within ±20 % of 56 ticks (R163). -/
def Lane.sentIsSync (n : Lane) (ch len : Nat) : Bool :=
  let s := 56 * n.f (F.FBI_CHn_SENT.TICK ch)
  decide (4 * s ≤ 5 * len) && decide (5 * len ≤ 6 * s)

/-- The value of a pulse measured with a sync of `sync` cycles: floor(L / tm + 0.5) − 12 (R163). -/
def sentNibble (sync len : Nat) : Int := ((2 * 56 * len + sync) / (2 * sync) : Nat) - 12

/-- CRC-6 of an enhanced serial message: x^6 + x^4 + x^3 + 1, seed 0b010101, six zero bits appended (log entry 20). -/
def crc6 (bs : List Bool) : Nat :=
  (bs ++ List.replicate 6 false).foldl (fun c b =>
    let t := c * 2 + b1 b
    (if t ≥ 64 then Nat.xor t 0x59 else t) % 64) 0x15

/-- The bits of a list as a number, first bit most significant. -/
def bitsNum (bs : List Bool) : Nat := bs.foldl (fun a b => 2 * a + b1 b) 0

/-- An enhanced serial message in the bits 3 and 2 of 18 status nibbles, if they carry one that passes its CRC: format, ID,
data (R165; log entry 20). -/
def serialMsg (ss : List Nat) : Option (Nat × Nat × Nat) :=
  let b3 := ss.map fun x => x.testBit 1
  let b2 := ss.map fun x => x.testBit 0
  let at3 := fun i => b3.getD i false
  let frame := decide (ss.length = 18) && (b3.take 6).all id && !at3 6 && !at3 12 && !at3 17
  let crc := bitsNum (b2.take 6)
  let body := (List.range 12).flatMap fun i => [b2.getD (6 + i) false, at3 (6 + i)]
  if frame && crc == crc6 body then
    let lowData := bitsNum (b2.drop 6)
    let idHi := bitsNum ((b3.drop 8).take 4)
    let idLo := bitsNum ((b3.drop 13).take 4)
    if at3 7 then some (1, idHi, idLo * 4096 + lowData) else some (0, idHi * 16 + idLo, lowData)
  else none

/-- A valid frame's status nibble takes part in a serial message (R165). -/
def Lane.sentSerial (n : Lane) (ch status : Nat) : Lane :=
  let x := n.fch ch
  let ss := (x.sent.ser ++ [status / 4])
  let ss := ss.drop (ss.length - 18)
  let n := n.setFch ch { x with sent := { x.sent with ser := ss } }
  if n.on (F.FBI_CHn_SENT.SMSGEN ch) then
    match serialMsg ss with
    | some (fmt, mid, data) =>
      let n := n.setFs [(F.FBI_CHn_SMSG.FMT ch, fmt), (F.FBI_CHn_SMSG.ID ch, mid), (F.FBI_CHn_SMSG.DATA ch, data)]
      n.fbiEvent ch (F.FBI_CHn_EVT.SMSG ch) 0
    | none => n
  else n

/-- SENT_FRAME (R164, R165): the falling edge that ends the CRC nibble completes a frame. -/
def Lane.sentFrame (n : Lane) (ch sync : Nat) (nibs : List Nat) : Lane :=
  let nd := n.f (F.FBI_CHn_SENT.NDATA ch)
  let data := (nibs.drop 1).take nd
  let x := n.fch ch
  let crcOk := sentCrc (n.on (F.FBI_CHn_SENT.CRCMODE ch)) data == nibs.getD (nd + 1) 0 && !n.absInj ch
  let p := x.sent.prev
  let drift := decide (0 < p) && (decide (p < (sync - p) * 64) || decide (p < (p - sync) * 64))
  let n := n.setFch ch { x with sent := { x.sent with sync := 0, nibs := [], after := sync, prev := if crcOk && !drift then sync else p } }
  if crcOk && !drift then
    (n.sentSerial ch (nibs.getD 0 0)).absValue ch (n.absExtract ch (data.foldl (fun a d => 16 * a + d) 0)) n.now
  else n.absBad ch

/-- A falling edge on a SENT input ends a pulse of `len` cycles (R163, R164). -/
def Lane.sentPulse (n : Lane) (ch len : Nat) : Lane :=
  let x := n.fch ch
  let sx := x.sent
  let begin_ := fun (n : Lane) =>
    let x := n.fch ch
    n.setFch ch { x with sent := { x.sent with sync := if n.sentIsSync ch len then len else 0, nibs := [], after := 0 } }
  if 0 < sx.sync then
    let v := sentNibble sx.sync len
    if v < 0 ∨ 15 < v then begin_ (n.absBad ch)
    else
      let nibs := sx.nibs ++ [v.toNat]
      if nibs.length < n.f (F.FBI_CHn_SENT.NDATA ch) + 2 then n.setFch ch { x with sent := { sx with nibs := nibs } }
      else n.sentFrame ch sx.sync nibs
  else if 0 < sx.after ∧ n.sentIsSync ch len = false then
    let n := n.setFch ch { x with sent := { sx with after := 0 } }
    if 12 * sx.after ≤ 56 * len ∧ 56 * len ≤ 768 * sx.after then n else n.absBad ch
  else begin_ n

/-- A mode 3 input change: pulses are measured between falling edges of I0. -/
def Lane.sentInput (n : Lane) (ch i₀ i : Nat) : Lane :=
  if i₀.testBit 0 && !i.testBit 0 then
    let x := n.fch ch
    let n := n.setFch ch { x with sent := { x.sent with fall := some n.now } }
    match x.sent.fall with
    | some t₀ => n.sentPulse ch (n.now - t₀)
    | none => n
  else n

/-! ## Commands of the FBI -/

/-- The filter of input `j` of channel `ch` may change its output: the mode uses the input (R154), and FILT samples at the new level
have followed its last change (R155). -/
def Lane.fbiSettled (n : Lane) (ch j : Nat) : Bool :=
  let m := n.fmode ch
  (m == 1 || m == 2 || (m == 3 && j == 0)) && decide ((n.fch ch).inT.getD j 0 + n.f (F.FBI_CHn_CFG.FILT ch) ≤ n.now)

/-- FEEDBACK_INPUT_CHANGE (R155): the filter outputs I2, I1, I0 of a channel change to `i`; inputs its mode does not use are
ignored (R154), a filter changes no sooner than FILT cycles after its last change, and counts are held while the block is disabled
(R183). -/
def feedbackInput (ch i : Nat) (n : Lane) : Lane :=
  let m := n.fmode ch
  let i₀ := n.f (F.FBI_CHn_STAT.INPUTS ch)
  let i := [0, 1, 2].foldl (fun a j => if n.fbiSettled ch j then natSetBit a j (i.testBit j) else a) i₀
  let n := n.setFch ch { n.fch ch with
    inT := [0, 1, 2].map fun j => if i.testBit j == i₀.testBit j then (n.fch ch).inT.getD j 0 else n.now }
  let n := n.setF (F.FBI_CHn_STAT.INPUTS ch) i
  if n.on F.FBI_CTRL.EN = false then n
  else if m = 1 then n.quadInput ch i₀ i
  else if m = 2 then n.hallInput ch i₀ i
  else if m = 3 then n.sentInput ch i₀ i
  else n

def execFeedbackInputChange (l : LaneId) (t : Nat) (ch : Fin 4) (i : BitVec 3) (s : State) :
    Host.Outcome State Fault Refusal :=
  onDomain l t dFBI s (feedbackInput ch.val i.toNat)

/-- ABSOLUTE_TIMEOUT (R164, R167): TIMEOUT has passed without a valid value. -/
def absoluteTimeout (ch : Nat) (n : Lane) : Lane :=
  let x := n.fch ch
  if n.fbiRuns ch ∧ 3 ≤ n.fmode ch ∧ x.timed = false
      ∧ (x.lastOk + 40000 * n.f (F.FBI_CHn_ABS.TIMEOUT ch) ≤ n.now ∨ n.absInj ch) then
    n.absTimeout ch
  else n

def execAbsoluteTimeout (l : LaneId) (t : Nat) (ch : Fin 4) (s : State) : Host.Outcome State Fault Refusal :=
  onDomain l t dFBI s (absoluteTimeout ch.val)

/-- Gray code to binary. -/
def grayDecode (g : Nat) : Nat := (List.range 32).foldl (fun a i => Nat.xor a (g / 2 ^ i)) 0

/-- SSI_TRANSFER_COMPLETE (R166, R167): a transfer in progress has sampled its word; `pre` is FBn_I0 in the cycle before the
first falling edge, `tail` its level at the first sample after the last bit. -/
def ssiComplete (ch word : Nat) (pre tail : Bool) (n : Lane) : Lane :=
  let x := n.fch ch
  match x.ssi with
  | some t₀ =>
    let nb := n.f (F.FBI_CHn_SSI.NBITS ch)
    let last := t₀ + nb * (2 * (n.f (F.FBI_CHn_SSI.DIV ch) + 1)) + n.f (F.FBI_CHn_SSI2.DLY ch)
    if n.fbiRuns ch ∧ n.fmode ch = 4 ∧ last ≤ n.now then
      let n := n.setFch ch { x with ssi := none, ssiEnd := n.now + n.f (F.FBI_CHn_SSI2.MONO ch) }
      let word := word % 2 ^ nb
      let err := n.on (F.FBI_CHn_SSI.ERRCHK ch)
        && (word.testBit (n.f (F.FBI_CHn_SSI.ERRBIT ch)) == n.on (F.FBI_CHn_SSI.ERRPOL ch))
      if !pre || tail || err || n.absInj ch then n.absBad ch
      else
        let v := n.absExtract ch word
        n.absValue ch (if n.on (F.FBI_CHn_SSI.GRAY ch) then grayDecode v else v) t₀
    else n
  | none => n

def execSsiTransferComplete (l : LaneId) (t : Nat) (ch : Fin 4) (word : W32) (pre tail : Bool) (s : State) :
    Host.Outcome State Fault Refusal :=
  onDomain l t dFBI s (ssiComplete ch.val word.toNat pre tail)

/-- STANDSTILL_ENTRY (R176): no count edge for STILL × 4,000 LCLK. -/
def standstillEntry (ch : Nat) (n : Lane) : Lane :=
  if n.fbiRuns ch ∧ n.on (F.FBI_CHn_STAT.STILL ch) = false
      ∧ (n.fch ch).edgeT + 4000 * n.f (F.FBI_CHn_SPD.STILL ch) ≤ n.now then
    let n := n.setF (F.FBI_CHn_STAT.STILL ch) 1
    if n.fmode ch ≤ 2 then n.fbiBarrier ch else n
  else n

def execStandstillEntry (l : LaneId) (t : Nat) (ch : Fin 4) (s : State) : Host.Outcome State Fault Refusal :=
  onDomain l t dFBI s (standstillEntry ch.val)

/-- SPEED_REFRESH (R178): every channel's FBI_CHn_SPEED takes the value set 0 would latch now, or that of set 1 or PERIOD
where set 0, or neither, has a trigger. -/
def speedRefresh (n : Lane) : Lane :=
  forEach [0, 1, 2, 3] (fun ch n =>
    if n.fbiRuns ch then
      let v0 := n.on (F.FBI_CHn_LATCFG.VAL_0 ch)
      let v1 := n.on (F.FBI_CHn_LATCFG.VAL_1 ch)
      let (v, ovf) := n.speedAt ch (if v0 then 0 else 1) (if v0 || v1 then n.f (F.FBI_CHn_SPD.SMODE ch) else 0) n.now
      let n := n.wr (R.FBI_CHn_SPEED ch) (BitVec.ofInt 32 v)
      if ovf then n.fbiEvent ch (F.FBI_CHn_EVT.OVF ch) kOvf else n
    else n) n

def execSpeedRefresh (l : LaneId) (t : Nat) (s : State) : Host.Outcome State Fault Refusal :=
  onDomain l t dFBI s speedRefresh

/-- COMPARE_LIST_WRITE (R179): a write of FBI_CHn_PCCTL; EN going from 0 to 1 loads the pointer from START. -/
def compareListWrite (ch : Nat) (v : W32) (n : Lane) : Lane :=
  let n := n.pcSync ch
  let was := n.on (F.FBI_CHn_PCCTL.EN ch)
  let n := n.store (R.FBI_CHn_PCCTL ch) v
  if !was && n.on (F.FBI_CHn_PCCTL.EN ch) then
    n.setFs [(F.FBI_CHn_PCSTAT.PTR ch, n.f (F.FBI_CHn_PCCTL.START ch)), (F.FBI_CHn_PCSTAT.DONE ch, 0),
      (F.FBI_CHn_PCSTAT.MATCHES ch, 0)]
  else n

def execCompareListWrite (l : LaneId) (t : Nat) (org : Origin) (ch : Fin 4) (v : W32) (s : State) :
    Host.Outcome State Fault Refusal :=
  onLane l t s fun n => n.regWrite org.code (R.FBI_CHn_PCCTL ch.val) v (compareListWrite ch.val v)

/-- COMPARE_PULSE_END (R180): a pulse's width has run. -/
def comparePulseEnd (k : Nat) (n : Lane) : Lane :=
  let e := Cells.get 0 n.fbi.pulse k
  if 0 < e ∧ e ≤ n.now then n.upFbi fun g => { g with
    pco := natSetBit g.pco k false, pcoOld := natSetBit g.pcoOld k false, pulse := Cells.erase g.pulse k } else n

def execComparePulseEnd (l : LaneId) (t : Nat) (k : Fin 4) (s : State) : Host.Outcome State Fault Refusal :=
  onDomain l t dFBI s (comparePulseEnd k.val)

/-- PULSE_DIVIDER_STEP (R181): a queued step leaves, at most one per PDMIN cycles; the phase runs A, both, B, none for
forward. -/
def pulseDividerStep (n : Lane) : Lane :=
  let ready := match n.fbi.pdLast with
    | some t₀ => decide (t₀ + n.f F.FBI_PDCFG.PDMIN ≤ n.now)
    | none => true
  if n.on F.FBI_CTRL.EN && ready && n.fbi.pdQ != 0 then
    let fwd := decide (0 < n.fbi.pdQ)
    n.upFbi fun g => { g with
      pdQ := if fwd then g.pdQ - 1 else g.pdQ + 1
      pdLast := some n.now
      pdPhase := (g.pdPhase + if fwd then 1 else 3) % 4 }
  else n

def execPulseDividerStep (l : LaneId) (t : Nat) (s : State) : Host.Outcome State Fault Refusal :=
  onDomain l t dFBI s pulseDividerStep

/-- A channel starts (R183); a change of POS to a soft limit records as R169 says. -/
def Lane.fbiStart (n : Lane) (ch : Nat) : Lane :=
  let m := n.fmode ch
  if m = 0 ∨ 4 < m then n
  else
    let i := n.f (F.FBI_CHn_STAT.INPUTS ch)
    let valid := if m = 1 then true else if m = 2 then i != 0 && i != 7 else false
    let x : FbiCh := { stampT := n.now, edgeT := n.now, lastOk := n.now, idx := n.idxCond ch i, pcT := (n.fch ch).pcT, inT := (n.fch ch).inT
                       sent := { fall := none } }
    let n := n.setFch ch x
    let n := forEach [R.FBI_CHn_RAW ch, R.FBI_CHn_POS ch, R.FBI_CHn_EXCESS ch, R.FBI_CHn_TSTAMP ch, R.FBI_CHn_ERRCNT ch]
      (fun r n => n.wr r 0#32) n
    let n := n.wr (R.FBI_CHn_STAT ch) 0#32
    let n := n.setFs [(F.FBI_CHn_STAT.INPUTS ch, i), (F.FBI_CHn_STAT.STILL ch, 1), (F.FBI_CHn_STAT.NOREF ch, 1),
      (F.FBI_CHn_STAT.VALID ch, b1 valid)]
    n.fbiPlace ch 0 false

/-- FBI_CTRL.EN (R183): set only with the structure locked, when every channel starts and the CFE's modular counts take
RAW mod CPT (R203); cleared only while no group is PENDING or RUN, when counts hold and outputs go low. -/
def fbiEnable (org : Nat) (v : W32) (n : Lane) : Lane :=
  let en := F.FBI_CTRL.EN.val v == 1
  let was := n.on F.FBI_CTRL.EN
  if en && !n.on F.SYS_ASHLOCK.LOCK then n.rejectState org R.FBI_CTRL
  else if !en && was && n.anyDriving then n.rejectState org R.FBI_CTRL
  else
    let n := n.store R.FBI_CTRL v
    if en && !was then
      let n := n.upFbi fun g => { g with en0 := n.now, samp := [] }
      let n := forEach [0, 1, 2, 3] (fun ch n => n.fbiStart ch) n
      n.upCfe fun g => { g with grps := g.grps.map fun x => { x with m := 0, rawPrev := 0#32 } }
    else if !en && was then
      let n := n.wr R.FBI_TIME (n.fbiTimeAt n.now)
      n.upFbi fun g => { g with
        pco := 0, pcoOld := 0, pulse := [], pdPhase := 0, samp := []
        chs := g.chs.map fun x => { x with ssi := none } }
    else n

def execFbiBlockEnable (l : LaneId) (t : Nat) (org : Origin) (v : W32) (s : State) : Host.Outcome State Fault Refusal :=
  onLane l t s fun n => n.regWrite org.code R.FBI_CTRL v (fbiEnable org.code v)

/-- HALLSEQ names each of 1 to 6 once (R162). -/
def hallSeqOk (v : Nat) : Bool := [1, 2, 3, 4, 5, 6].all fun h => (List.range 6).any fun i => hallEntry v i == h

/-- The effect of an accepted write to an FBI register without a row of its own (R154, R162, R173, R184). -/
def fbiStore (org off : Nat) (v : W32) (n : Lane) : Lane :=
  let bad := [0, 1, 2, 3].any fun ch =>
    (off == R.FBI_CHn_CFG ch && (decide (4 < (F.FBI_CHn_CFG.MODE ch).val v) || (F.FBI_CHn_CFG.FILT ch).val v == 0))
      || (off == R.FBI_CHn_SPD ch && ((F.FBI_CHn_SPD.SMODE ch).val v == 3 || (F.FBI_CHn_SPD.STILL ch).val v == 0))
      || (off == R.FBI_CHn_HALLSEQ ch && !hallSeqOk ((F.FBI_CHn_HALLSEQ.SEQ ch).val v))
  let badRatio := off == R.FBI_PDRATIO
    && (F.FBI_PDRATIO.NUM.val v == 0 || decide (F.FBI_PDRATIO.DEN.val v < F.FBI_PDRATIO.NUM.val v))
  if bad || badRatio then n.rejectState org off
  else
    let n := if 0x021000 ≤ off then n.pcSync ((off - 0x021000) / 0x200 % 4) else n
    n.store off v

/-- The lane with the sample instants of the present cycle captured as well: a latched position is valid in that cycle (R172). -/
def Lane.fbiShown (n : Lane) : Lane :=
  forEach (n.fbi.samp.filter fun p => decide (p.2 ≤ n.now)) (fun p n => n.fbiCapture p.1 p.2) n

/-- What a read of an FBI register returns: FBI_TIME counts, BACKLOG shows the queue, and the compare pointer and latch
sets are brought up to the present cycle. -/
def fbiView (off : Nat) (n : Lane) : W32 :=
  if off = R.FBI_TIME then (if n.on F.FBI_CTRL.EN then n.fbiTimeAt n.now else n.rd off)
  else if off = R.FBI_PDSTAT then setBits (n.rd off) 23 16 n.fbi.pdQ.natAbs
  else match [0, 1, 2, 3].find? fun ch => off == R.FBI_CHn_PCSTAT ch || off == R.FBI_CHn_PCCTL ch with
    | some ch => (n.pcSync ch).rd off
    | none => n.fbiShown.rd off

/-- FBn_CK of an enabled SSI channel is high (R154, R166): low only for the half clock from each of the NBITS + 1 falling edges, the
first in the transfer's start cycle. -/
def Lane.ssiClock (n : Lane) (ch : Nat) : Bool :=
  match (n.fbiShown.fch ch).ssi with
  | some t₀ =>
    let h := n.f (F.FBI_CHn_SSI.DIV ch) + 1
    let d := n.now - t₀
    decide (n.f (F.FBI_CHn_SSI.NBITS ch) < d / (2 * h)) || decide (h ≤ d % (2 * h))
  | none => true

end Sys2Proof.Machine
end

