-- ==== Sys2Proof/Machine/Chain.lean ====
section
/-! DEFINITION. The actuation chain (R24 to R29): PWM events with their reloads and triggers, chain triggers, loop dispatch and
output, CFE executions, conversions and latch sets as they reach loops. -/

namespace Sys2Proof.Machine

/-! ## Chain executions (R28) -/

def Lane.chainEx (n : Lane) (c : Nat) : Option ChainEx := (n.cle.ex.find? fun p => p.1 == c).map fun p => p.2

def Lane.setChainEx (n : Lane) (c : Nat) (x : ChainEx) : Lane := n.upCle fun s => { s with ex := Cells.put s.ex c x }

/-- The execution of chain `c` is over, whatever ended it; a loop of it that is running delivers nothing (R235). A limiter whose routed
target has not come still latches it (R232, R236). -/
def Lane.endChain (n : Lane) (c : Nat) : Lane :=
  let n : Lane := match n.chainEx c with
    | some x =>
      let rest : List LoopEx := x.loops.filter fun y => y.spWait
      if rest.isEmpty then n else n.upCle fun s => { s with late := Cells.put s.late c { x with loops := rest } }
    | none => n
  let n := n.upCle fun s => { s with
    ex := Cells.erase s.ex c
    run := s.run.map fun r => if r.chain = c then { r with dead := true } else r }
  n.setF (F.CLE_CHc_STAT.BUSY c) 0

/-- The execution of chain `c` has completed when every loop has written and every CFE execution has armed (R28). -/
def Lane.checkChain (n : Lane) (c : Nat) : Lane :=
  match n.chainEx c with
  | some x =>
    if x.cfe.isEmpty && x.loops.all fun y => y.wrote then
      (n.endChain c).stepWrap (F.CLE_CHc_STAT.RUNS c)
    else n
  | none => n

/-- CHAIN_OVERRUN (R28, R235): the execution in progress is abandoned by the next trigger. -/
def Lane.chainOverrun (n : Lane) (c : Nat) : Lane :=
  let n := n.endChain c
  let n := (n.stepSat (F.CLE_CHc_STAT.ABANDON c)).stepSat F.CLE_OVRCNT.COUNT
  let n := if n.on F.CLE_EVT.OVERRUN then n else (n.setF F.CLE_EVT.CHAIN c).sqEvent F.CLE_EVT.OVERRUN
  n.raise 0xC0 1 c

/-- LOOP_PUBLICATION (R234): CUR is copied to OUT for every loop of the chain. -/
def Lane.publish (n : Lane) (c : Nat) : Lane :=
  forEach (n.chainLoops c) (fun m n => n.wr (R.CLE_Ln_OUT m) (n.rd (R.CLE_Ln_CUR m))) n

/-! ## Sample instants of a chain (R25, R29, R230, R236, R239) -/

/-- The forcing that holds for loop `m` at this sample instant: the first row of R239 that holds for a group it drives or a consumer. -/
def Lane.forcedNow (n : Lane) (m mode : Nat) : Option Forced :=
  if mode = lRUN ∨ mode = lTRACK then
    let gs := n.loopGroups m
    let stopped := fun g => n.grp g == gUNARMED || n.grp g == gIDLE || n.grp g == gTRIPPED || n.grp g == gSAFE
    match gs.find? fun g => n.cle.caught.contains g, gs.any stopped, gs.find? fun g => (n.cg g).src == 1 with
    | some g, _, _ => some (Forced.caught g)
    | none, true, _ => some Forced.zero
    | none, false, some g => some (Forced.amp g)
    | none, false, none => ((n.spConsumers m).find? fun k => n.f (F.CLE_Ln_STAT.MODEACT k) == lTRACK).map Forced.cons
  else none

/-- One loop's part of a new execution: mode, forcing, setpoint (as written before the sample instant, R29), limp set and inputs as of the
sample instant. -/
def Lane.sampleLoop (n : Lane) (c m : Nat) : Lane × LoopEx :=
  let mode := n.f (F.CLE_Ln_MODE.MODE m)
  let limp := n.on F.KST_STAT.LIMIT
  let forced := n.forcedNow m mode
  let act := if forced.isSome then lTRACK else mode
  let n := n.setFs [(F.CLE_Ln_STAT.MODEACT m, act), (F.CLE_Ln_STAT.FTRACK m, b1 forced.isSome)]
  -- a catch that ended before this execution counts for no later one
  let gs := n.loopGroups m
  let n := if gs.any fun g => n.cle.caught.contains g then n.upCle fun s => { s with caught := s.caught.filter fun g => !gs.contains g } else n
  let spK := n.f (F.CLE_Ln_SPSRC.KIND m)
  let spS := n.f (F.CLE_Ln_SPSRC.SOURCE m)
  let spR := n.on (F.CLE_Ln_SPSRC.VAL m)
  let spW := spR && n.awaits c spK spS true
  let own := ((n.cle.sps.find? fun p => p.1 == m).map fun p => p.2).getD (n.rd (R.CLE_Ln_SP m))
  let n := if spW then n.setF (F.CLE_Ln_STAT.LIMP m) (b1 limp)
    else n.spLatch m (if spR then n.instValue spK (n.f (F.CLE_Ln_SPSRC.WORD m)) spS else own.toInt) limp
  let quiet := act == lOFF || act == lHOLD
  let ins := if quiet then [] else n.routedInputs m
  let kind : Nat → Nat := fun i => n.f (F.CLE_Ln_INi.KIND m i)
  let src : Nat → Nat := fun i => n.f (F.CLE_Ln_INi.SOURCE m i)
  let waits := ins.filter fun i => n.awaits c (kind i) (src i) false
  let xs := [0, 1, 2, 3].map fun i =>
    if ins.contains i && !waits.contains i then n.instValue (kind i) (n.f (F.CLE_Ln_INi.WORD m i)) (src i) else 0
  let maxAge : Nat := n.f (F.CLE_Ln_CFG.MAXAGE m)
  let stale := maxAge != 0 && ins.any fun (i : Nat) => kind i == 4 && decide (maxAge < n.f (F.TPE_BUFb_STAT.AGE (src i)))
  (n, { slot := m, mode := mode, forced := forced, xs := xs, waits := waits
        spWait := spW, spL := n.s (R.CLE_Ln_SPL m), limp := limp, stale := stale })

/-- The CFE execution of group `g` bound to sample instant `inst` (R201, R206, R208, R221). -/
def Lane.cfeSample (n : Lane) (g inst : Nat) : Lane :=
  if n.on (F.PWM_TBb_CFG.SRC g) && n.domOn dCFE then
    let src := n.f (F.CFE_Gg_MODE.SRC g)
    let n := n.setCg g { n.cg g with src := src }
    let e : CfeExe := { g := g, inst := inst, bank := (if n.bit F.CFE_TBLSTAT.BANK g then 1 else 0), limp := n.on F.KST_STAT.LIMIT
                        pin := decide (src = 1), w := inst + 24 }
    let n := n.upCfe fun c => { c with exes := (c.exes.filter fun x => x.g != g || x.asked) ++ [e] }
    if n.fbi.samp.any fun p => p.2 == inst then n
    else match n.groupTrig g with
      | some t => n.cfeFill t inst
      | none => n
  else n

/-- What trigger `d` does in its own cycle (R28, R234, R235): the chain's loops publish, or the execution in progress is abandoned. -/
def Lane.trigEffect (n : Lane) (d : Nat × Nat × Nat) : Lane :=
  if n.cle.pub.contains (d.1, d.2.1) then n
  else
    let n := n.upCle fun s => { s with pub := (d.1, d.2.1) :: s.pub }
    if (n.chainEx d.1).isSome then n.chainOverrun d.1 else n.publish d.1

/-- CHAIN_TRIGGER (R28, R230, R234, R236): the sample instant of a trigger of chain `c` registered the cycle before. What every trigger
registered up to the sample instant does comes first, so that the capture sees every publication registered by then. Loops are taken from the
highest slot down, so that a consumer's mode in force is known before its source's (R239). -/
def chainTrigger (c : Nat) (n : Lane) : Lane :=
  match n.cle.due.find? fun d => d.1 == c with
  | some d =>
    let t := d.2.1
    if t + 1 ≤ n.now then
      let same := n.cle.due.filter fun e => decide (e.2.1 ≤ t + 1) && decide (e.1 < 8) && (e.1 != c || e == d)
      let ls := n.chainLoops c
      let gs := [0, 1].filter fun g => match n.groupLoop g with
        | some m => ls.contains m
        | none => false
      if n.on F.CLE_CTRL.EN then
        let n := forEach same (fun e n => n.trigEffect e) n
        let n := n.upCle fun s => { s with due := s.due.erase d, pub := s.pub.erase (c, t), late := Cells.erase s.late c }
        let n := forEach gs (fun g n => n.cfeSample g (t + 1)) n
        if ls.isEmpty then n
        else
          let r := ls.foldr (fun m p => let q := p.1.sampleLoop c m; (q.1, q.2 :: p.2)) (n, [])
          let n := (r.1.spDrop [c]).setF (F.CLE_CHc_STAT.BUSY c) 1
          n.setChainEx c { trigT := t, src := d.2.2, loops := r.2 }
      else
        let n := n.upCle fun s => { s with due := s.due.erase d }
        forEach gs (fun g n => if n.f (F.CFE_Gg_MODE.SRC g) = 1 then n.cfeSample g (t + 1) else n) n
    else n
  | none => n

def execChainTrigger (l : LaneId) (t : Nat) (c : Fin 8) (s : State) : Host.Outcome State Fault Refusal :=
  onDomain l t dCLE s (chainTrigger c.val)

/-! ## Delivery (R230) -/

/-- A value of route (kind, source) reaches the loops of one execution that wait for it. -/
def Lane.deliverTo (n : Lane) (c kind src : Nat) (v : Int) : Lane :=
  match n.chainEx c with
  | none => n
  | some x =>
    let r := x.loops.foldr (fun y p =>
      let n := p.1
      let m := y.slot
      let hit := y.waits.filter fun i => n.f (F.CLE_Ln_INi.KIND m i) == kind && n.f (F.CLE_Ln_INi.SOURCE m i) == src
      let y := { y with waits := y.waits.filter fun i => !hit.contains i, xs := hit.foldl (fun xs i => xs.set i v) y.xs }
      if y.spWait && kind != 5 && n.f (F.CLE_Ln_SPSRC.KIND m) == kind && n.f (F.CLE_Ln_SPSRC.SOURCE m) == src then
        let n := n.spLatch m v y.limp
        (n, { y with spWait := false, spL := n.s (R.CLE_Ln_SPL m) } :: p.2)
      else (n, y :: p.2)) (n, [])
    r.1.setChainEx c { x with loops := r.2 }

/-- A value of route (kind, source) reaches the limiters of chain `c` that still have it to latch after their execution (R236). -/
def Lane.deliverLate (n : Lane) (c kind src : Nat) (v : Int) : Lane :=
  match n.cle.late.find? fun p => p.1 == c with
  | none => n
  | some (_, x) =>
    let hit := fun (y : LoopEx) => n.f (F.CLE_Ln_SPSRC.KIND y.slot) == kind && n.f (F.CLE_Ln_SPSRC.SOURCE y.slot) == src
    let m := forEach (x.loops.filter hit) (fun y n => n.spLatch y.slot v y.limp) n
    m.upCle fun s => { s with late := Cells.put s.late c { x with loops := x.loops.filter fun y => !hit y } }

/-- Deliver to every execution that `sel` selects. -/
def Lane.deliverAll (n : Lane) (sel : ChainEx → Bool) (kind src : Nat) (v : Int) : Lane :=
  forEach [0, 1, 2, 3, 4, 5, 6, 7] (fun c n =>
    let n := match n.chainEx c with
      | some x => if sel x then n.deliverTo c kind src v else n
      | none => n
    match n.cle.late.find? fun p => p.1 == c with
    | some (_, x) => if sel x then n.deliverLate c kind src v else n
    | none => n) n

/-- LATCH_SPEED_VALID (R170, R172, R230): 24 LCLK after its sample instant a latch set's speed and age are valid, and the set
is delivered to the loops that wait for it. -/
def latchValid (ch k : Nat) (n : Lane) : Lane :=
  let ls := (n.fch ch).lats.getD k {}
  let due := match ls.pend with
    | some p => decide (p.due ≤ n.now)
    | none => false
  let n := latchSpeedValid ch k n
  if due then
    let trig := if k = 0 then n.f (F.FBI_CHn_LATCFG.TRIG_0 ch) else n.f (F.FBI_CHn_LATCFG.TRIG_1 ch)
    let mine := fun (x : ChainEx) => decide (x.trigT + 1 = ls.t) && decide (x.src = trig)
    (n.deliverAll mine 2 (2 * ch) (n.s (R.FBI_CHn_LATk_POS ch k))).deliverAll mine 2 (2 * ch + 1) (n.s (R.FBI_CHn_LATk_SPD ch k))
  else n

def execLatchSpeedValid (l : LaneId) (t : Nat) (ch : Fin 4) (k : Fin 2) (s : State) : Host.Outcome State Fault Refusal :=
  onDomain l t dFBI s (latchValid ch.val k.val)

/-- CONVERSION_COMPLETE (R188, R190): the oldest due conversion of converter `k` ends with code `code`; its result is
written, judged by monitors and the CFE, and delivered to waiting loops; a discarded one changes nothing else. -/
def conversionComplete (k : Nat) (code : Int) (n : Lane) : Lane :=
  match n.convDue k with
  | none => n
  | some r =>
    let n := n.convPop k
    if r.drop || !n.on F.ADC_CTRL.EN then n
    else
      let v := n.adcResult (n.entInput r.c.q r.c.e) code
      let ix := 16 * r.c.q + r.c.e
      ((n.resWrite r.c v).cfeResult ix v).deliverAll (fun x => decide (x.trigT = r.c.trig)) 3 ix (v * 2 ^ 18)

def execConversionComplete (l : LaneId) (t : Nat) (k : Fin 2) (code : BitVec 16) (s : State) :
    Host.Outcome State Fault Refusal :=
  onDomain l t dACT s (conversionComplete k.val code.toInt)

/-! ## Loops -/

/-- STALE_EXECUTION (R231): a stale execution sets STAT.STALE and raises at the first of an episode; one whose Tlasyn inputs
are fresh ends it. -/
def Lane.staleMark (n : Lane) (x : LoopEx) : Lane :=
  let m := x.slot
  if x.stale then
    let was := n.on (F.CLE_Ln_STAT.STALE m)
    let n := n.setF (F.CLE_Ln_STAT.STALE m) 1
    if was then n else n.cleLoopEvent F.CLE_EVT.STALE 0xC2 3 m
  else if x.act = lOFF ∨ x.act = lHOLD then n
  else n.setF (F.CLE_Ln_STAT.STALE m) 0

/-- LOOP_DISPATCH (R232, R233): the free engine takes the ready loop with the lowest slot and forms its results from the
values of this cycle. -/
def loopDispatch (n : Lane) : Lane :=
  if n.cle.run.isSome || !n.on F.CLE_CTRL.EN then n
  else
    let cands := n.cle.ex.flatMap fun p => (p.2.loops.filter LoopEx.ready).map fun x => (p.1, p.2.trigT, x)
    match cands.foldl (fun o q => match o with
      | none => some q
      | some b => if q.2.2.slot < b.2.2.slot then some q else some b) none with
    | none => n
    | some (c, t, x) =>
      let r := n.lawResult x
      let n := n.staleMark x
      let n := n.upCle fun s => { s with
        ex := s.ex.map fun p => if p.1 = c then
            (c, { p.2 with loops := p.2.loops.map fun y => if y.slot = x.slot then { y with sent := true } else y }) else p
        run := some { slot := x.slot, chain := c, trigT := t, start := n.now, due := n.now + n.execLen x, uo := r.uo, st := r.st
                      first := r.first, y := r.y, e := r.e, hiU := r.hiU, loU := r.loU, limHi := r.limHi, limLo := r.limLo
                      oclamp := r.oclamp } }
      n.setFs [(F.CLE_STAT.BUSY, 1), (F.CLE_STAT.LOOP, x.slot)]

def execLoopDispatch (l : LaneId) (t : Nat) (s : State) : Host.Outcome State Fault Refusal :=
  onDomain l t dCLE s loopDispatch

/-- Mark slot `m` in a list of slots, or take it out. -/
def markSlot (m : Nat) (b : Bool) (xs : List Nat) : List Nat :=
  let ys := xs.filter (· != m)
  if b then m :: ys else ys

/-- The uo of loop `m` asks for the CFE execution of each group it drives (R201, R234), unless the group's source in force is
the command pin. -/
def Lane.askCfe (n : Lane) (c m : Nat) (inst : Nat) (uo : Int) : Lane :=
  forEach (n.loopGroups m) (fun g n =>
    if n.cfe.exes.any fun e => e.g == g && e.inst == inst && !e.pin && e.req.isNone then
      let n := n.upCfe fun s => { s with exes := s.exes.map fun e =>
        if e.g = g ∧ e.inst = inst then { e with req := some uo, w := n.now } else e }
      match n.chainEx c with
      | some x => n.setChainEx c { x with cfe := g :: x.cfe }
      | none => n
    else n) n

/-- LOOP_OUTPUT (R229, R234, R235): the running execution writes uo and its state; unless its chain execution was
abandoned, uo goes to the loops of the chain that wait for it and to its group. -/
def loopOutput (n : Lane) : Lane :=
  match n.cle.run with
  | none => n
  | some r =>
    if n.now < r.due then n
    else
      let m := r.slot
      let n := n.upCle fun s => { s with
        run := none
        hiU := markSlot m r.hiU s.hiU
        loU := markSlot m r.loU s.loU
        y := match r.y with
          | some y => Cells.put s.y m y
          | none => s.y }
      let n := n.wr R.CLE_STAT 0#32
      let n := n.wr (R.CLE_Ln_CUR m) (BitVec.ofInt 32 r.uo)
      let n := forEach [0, 1, 2, 3] (fun i n => n.wr (R.CLE_Ln_Sm m i) (BitVec.ofInt 32 (r.st.getD i 0))) n
      let n := n.wr (R.CLE_Ln_ERR m) (BitVec.ofInt 32 r.e)
      let n := (n.setFs [(F.CLE_Ln_STAT.FIRST m, b1 r.first), (F.CLE_Ln_STAT.OCLAMP m, b1 r.oclamp), (F.CLE_Ln_STAT.LIMHI m, b1 r.limHi),
        (F.CLE_Ln_STAT.LIMLO m, b1 r.limLo)]).stepWrap (F.CLE_Ln_STAT.EXECS m)
      if r.dead then n
      else
        let lat := min 0xFFFF (n.now - r.trigT)
        let n := if n.f F.CLE_MAXLAT.LAT < lat then n.setFs [(F.CLE_MAXLAT.LAT, lat), (F.CLE_MAXLAT.CHAIN, r.chain)] else n
        let n := match n.chainEx r.chain with
          | some x => n.setChainEx r.chain { x with loops := x.loops.map fun (y : LoopEx) => if y.slot = m then { y with wrote := true } else y }
          | none => n
        let n := n.deliverTo r.chain 5 m r.uo
        (n.askCfe r.chain m (r.trigT + 1) r.uo).checkChain r.chain

def execLoopOutput (l : LaneId) (t : Nat) (s : State) : Host.Outcome State Fault Refusal :=
  onDomain l t dCLE s loopOutput

/-! ## CFE executions -/

/-- A CFE execution bound to sample instant `inst` of group `g` no longer holds its chain. -/
def Lane.cfeDone (n : Lane) (g inst : Nat) : Lane :=
  forEach [0, 1, 2, 3, 4, 5, 6, 7] (fun c n =>
    match n.chainEx c with
    | some x => if x.trigT + 1 = inst ∧ x.cfe.contains g then
        (n.setChainEx c { x with cfe := x.cfe.filter (· != g) }).checkChain c else n
    | none => n) n

/-- CFE_EXECUTION (R201, R213, R223): the execution of group `g` writes the last compare shadow and arms the time base, 74 cycles after
its start; one that follows a catch issues RUN. -/
def cfeExecution (g : Nat) (n : Lane) : Lane :=
  match n.cfe.head with
  | none => n
  | some e =>
    match e.start with
    | none => n
    | some s =>
      if e.g = g ∧ e.stage = 6 ∧ s + 74 ≤ n.now then
        let n := n.upCfe fun c => { c with
          free := s + 75
          exes := c.exes.filter fun x => !(x.g == e.g && x.inst == e.inst) }
        let n := n.cfeShadow e 2
        let n := if n.on F.CFE_CTRL.EN then
            let n := n.setBit F.PWM_STAT.ARMED g true
            if (n.cg g).runDue then
              let n := n.setCg g { n.cg g with runDue := false }
              if n.grpCmdBad g 1 then n else n.grpCmd g 1
            else n
          else n
        n.cfeDone g e.inst
      else n

def execCfeExecution (l : LaneId) (t : Nat) (g : Fin 2) (s : State) : Host.Outcome State Fault Refusal :=
  onDomain l t dCFE s (cfeExecution g.val)

/-- CFE_OVERRUN (R27, R112): an unarmed reload of a CFE-sourced time base in this cycle finds an execution due; it is
abandoned with the execution of the chain that drives the group. Due is an execution sampled before, at the reload that coincides with
the next occurrence of its trigger (R24): `trig` says whether the group's trigger occurs in this cycle. -/
def Lane.cfeOverrun (n : Lane) (g : Nat) (trig : Bool) : Lane :=
  let late := if trig then n.cfe.exes.filter fun e => e.g == g && decide (e.inst < n.now) else []
  if late.isEmpty || !n.on F.CFE_CTRL.EN then n
  else
    let n := n.upCfe fun c => { c with
      exes := c.exes.filter fun e => !(e.g == g && decide (e.inst < n.now))
      free := if late.any fun e => e.start.isSome then n.now + 1 else c.free }
    let n := match n.groupChain g with
      | some c => (match n.chainEx c with
        | some x => if late.any fun e => e.inst == x.trigT + 1 then n.endChain c else n
        | none => n)
      | none => n
    n.cfeEvent F.CFE_EVT.OVERRUN g cOverrun

/-! ## PWM events (R106 to R112) -/

/-- The legs of time base `b` (R97). -/
def tbLegs (b : Nat) : List Nat := groupLegs b

/-- PER shadow to active. -/
def Lane.xferPer (n : Lane) (b : Nat) : Lane := n.setF (F.PWM_TBb_PERACT.PER b) (n.f (F.PWM_TBb_PER.PER b))

/-- CMP and DT shadows to active. -/
def Lane.xferLegs (n : Lane) (b : Nat) : Lane :=
  forEach (tbLegs b) (fun leg n =>
    let n := n.setF (F.PWM_LEGn_ACT.CMP leg) (n.f (F.PWM_LEGn_CMP.CMP leg))
    n.setLeg leg { n.leg leg with rise := n.f (F.PWM_LEGn_DT.RISE leg), fall := n.f (F.PWM_LEGn_DT.FALL leg) }) n

/-- Every shadow of a CFE-sourced time base takes its active value (R112). -/
def Lane.shadowsBack (n : Lane) (b : Nat) : Lane :=
  let n := n.setF (F.PWM_TBb_PER.PER b) (n.f (F.PWM_TBb_PERACT.PER b))
  forEach (tbLegs b) (fun leg n =>
    let x := n.leg leg
    n.setFs [(F.PWM_LEGn_CMP.CMP leg, n.f (F.PWM_LEGn_ACT.CMP leg)), (F.PWM_LEGn_DT.RISE leg, x.rise), (F.PWM_LEGn_DT.FALL leg, x.fall)]) n

/-- CYCLE_HOLD_END (R119): no CYCLE-mode trip routed to the group is asserted. -/
def Lane.cycleClear (n : Lane) (g : Nat) : Bool :=
  [0, 1, 2, 3].all fun t => !(n.tripRoutes t g && n.on (F.PWM_TRIPt_CFG.MODE t) && n.bit F.PWM_TRIPIN.FILT t)

/-- What every reload does to its group (R113, R114, R119): PENDING ends in RUN, a CYCLE hold whose trip is deasserted ends,
and the legs follow REF from this cycle. -/
def Lane.reloadGroup (n : Lane) (g : Nat) : Lane :=
  let pend := n.grp g == gPENDING
  let n := if pend then n.setGrp g gRUN else n
  if n.grp g = gRUN then
    let clear := n.cycleClear g
    let held := n.bit F.PWM_GRPSTAT.CYC g
    let n := n.setBit F.PWM_GRPSTAT.CYC g (if clear then false else held || pend)
    -- an override of before that has not reached the legs has ended with its cause
    if clear && (pend || held) then forEach (groupLegs g) (fun leg n => (n.setLeg leg { n.leg leg with ovrDue := [] }).govern leg .ref) n else n
  else n

/-- A reload point of time base `b` (R109 to R112, R221): `start` at a period start, otherwise a mid-point; `trig`: the trigger of the
group on it occurs in this cycle. -/
def Lane.reload (n : Lane) (b : Nat) (start trig : Bool) : Lane :=
  let lp := n.f (F.PWM_TBb_LDCFG.LOADPT b)
  if !start && lp == 0 then n
  else
    let x := n.tb b
    let armed := n.bit F.PWM_STAT.ARMED b
    let cont := n.loadCont b
    -- under LOADPT 1, an armed period start before its mid-point is no reload
    if start && lp == 1 && armed && !x.midDone && !cont then n
    else
      let go := cont || armed
      let n :=
        if go then
          let n := if start then n.xferPer b else n
          let n := if !start || lp != 1 then n.xferLegs b else n
          let n := if armed then n.tabSwap b else n
          if lp == 1 && !start then n.setTb b { n.tb b with midDone := armed }
          else (n.setBit F.PWM_STAT.ARMED b false).setTb b { n.tb b with midDone := false }
        else if n.on (F.PWM_TBb_CFG.SRC b) then (n.shadowsBack b).cfeOverrun b trig
        else n
      n.reloadGroup b

/-- PWM_FOLLOW_TRIM (R327): at a period start of a following time base TRIM takes up what it can of the phase. -/
def Lane.followTrim (n : Lane) (b : Nat) : Lane :=
  let x := n.tb b
  let n := n.setTb b { x with perT := n.now }
  if n.bit F.TPE_EXTCFG.PWMFOL b && x.follow != 0 || n.sf (F.PWM_TBb_PERACT.TRIM b) != 0 then
    let f : Int := if n.f (F.PWM_TBb_CFG.MODE b) = mUPDOWN then 2 else 1
    let trim := n.nextTrim b
    let w := (F.PWM_TBb_PERACT.TRIM b).hi + 1 - (F.PWM_TBb_PERACT.TRIM b).lo
    let n := n.setF (F.PWM_TBb_PERACT.TRIM b) (trim % (2 ^ w : Nat)).toNat
    n.setTb b { n.tb b with follow := x.follow - f * trim }
  else n

/-- PRESCALER_EVENT (R108): prescaler `p` sees `k` base events. -/
def TbStage.ps (x : TbStage) (p : Nat) : Nat := if p = 0 then x.ps0 else if p = 1 then x.ps1 else x.ps2
def TbStage.setPs (x : TbStage) (p v : Nat) : TbStage :=
  if p = 0 then { x with ps0 := v } else if p = 1 then { x with ps1 := v } else { x with ps2 := v }

/-- An event compare fires (R107). -/
def ecmpFires (mode qual value cnt : Nat) (down : Bool) : Bool :=
  value == cnt && (if mode = mUPDOWN then (if down then qual.testBit 1 else qual.testBit 0) else qual != 0)

/-- The base events (codes 0 to 4) of the counter taking `cnt` (R106). -/
def Lane.baseEvents (n : Lane) (b cnt per : Nat) (down : Bool) : List Nat :=
  let mode := n.f (F.PWM_TBb_CFG.MODE b)
  let z := cnt == 0
  let p := cnt == (if mode = mUPDOWN then per else per - 1)
  (if z then [0] else []) ++ (if p then [1] else []) ++ (if z || p then [2] else [])
    ++ (if ecmpFires mode (n.f (F.PWM_TBb_ECMPA.QUAL b)) (n.f (F.PWM_TBb_ECMPA.VALUE b)) cnt down then [3] else [])
    ++ (if ecmpFires mode (n.f (F.PWM_TBb_ECMPB.QUAL b)) (n.f (F.PWM_TBb_ECMPB.VALUE b)) cnt down then [4] else [])

/-- The prescalers count the base events, and the codes 5 to 7 they produce. -/
def Lane.prescale (n : Lane) (b : Nat) (evs : List Nat) : Lane × List Nat :=
  [0, 1, 2].foldl (fun a p =>
    let n := a.1
    if evs.contains (n.f (F.PWM_TBb_PSp.BASE b p)) then
      let x := n.tb b
      if x.ps p = n.f (F.PWM_TBb_PSp.RATIO b p) then (n.setTb b (x.setPs p 0), a.2 ++ [5 + p])
      else (n.setTb b (x.setPs p (x.ps p + 1)), a.2)
    else a) (n, [])

/-- Trigger sources registered in this cycle start sequences (R189), mark sample instants for the latch sets (R170), and
leave chains due (R225). -/
def Lane.fire (n : Lane) (srcs : List Nat) : Lane :=
  let n := n.seqTrigger srcs
  let chains := [0, 1, 2, 3, 4, 5, 6, 7].filterMap fun c =>
    match n.chainTrig c with
    | some t => if srcs.contains t then some (c, n.now, t) else none
    | none => none
  let lat := srcs.filter fun t => ([0, 1, 2, 3].any fun ch => n.latTrig ch 0 t || n.latTrig ch 1 t) || (chains.any fun d => d.2.2 == t)
  let n := n.upFbi fun g => { g with samp := g.samp ++ lat.map fun t => (t, n.now + 1) }
  let n := if chains.isEmpty then n else n.spDrop (chains.map fun e => e.1)
  n.upCle fun s => { s with due := (s.due.filter fun d => !(chains.any fun e => e.1 == d.1)) ++ chains }

/-- The counter of time base `b` starts a period at `cnt` (R98): at 0, or in DOWN mode at PER − 1 after 0. -/
def Lane.tbWraps (n : Lane) (b cnt : Nat) : Bool :=
  if n.f (F.PWM_TBb_CFG.MODE b) = mDOWN then (n.tb b).zero && cnt + 1 == n.perNext b else cnt == 0

/-- The period whose sequence the value `cnt` belongs to. -/
def Lane.perAt (n : Lane) (b cnt : Nat) : Nat :=
  if n.f (F.PWM_TBb_CFG.MODE b) = mDOWN ∧ n.tbWraps b cnt then n.perNext b else n.perAct b

/-- The codes the prescalers of time base `b` produce from the base events (R108). -/
def Lane.psCodes (n : Lane) (b : Nat) (evs : List Nat) : List Nat :=
  ([0, 1, 2].filter fun p => evs.contains (n.f (F.PWM_TBb_PSp.BASE b p)) && (n.tb b).ps p == n.f (F.PWM_TBb_PSp.RATIO b p)).map (5 + ·)

/-- Trigger source `src` occurs in this cycle: its time base takes a value that registers the event, or has taken it in this cycle and
left a chain due. -/
def Lane.occurs (n : Lane) (src : Nat) : Bool :=
  let b := src / 8
  (n.cle.due.any fun d => d.2.1 == n.now && d.2.2 == src) ||
    (n.tbSteps b &&
      let (cnt, down) := n.tbNow b
      let evs := n.baseEvents b cnt (n.perAt b cnt) down
      (evs ++ n.psCodes b evs).contains (src % 8))

/-- The trigger of the chain that drives group `g` occurs in this cycle. -/
def Lane.groupOccurs (n : Lane) (g : Nat) : Bool :=
  match n.groupTrig g with
  | some t => n.occurs t
  | none => false

/-- Time base `b` takes counter value `cnt`: its events, and its reload if the value is a reload point. -/
def Lane.tbTake (n : Lane) (b cnt : Nat) (down : Bool) : Lane × List Nat :=
  let mode := n.f (F.PWM_TBb_CFG.MODE b)
  let per := n.perAt b cnt
  let evs := n.baseEvents b cnt per down
  let start := n.tbWraps b cnt
  let mid := mode == mUPDOWN && cnt == per
  let trig := n.groupOccurs b
  let n := (n.setFs [(F.PWM_TBb_CNT.CNT b, cnt), (F.PWM_TBb_CNT.DIR b, b1 down)]).setTb b { n.tb b with zero := cnt == 0, cntT := n.now }
  let n := if start then n.followTrim b else n
  let n := if start then n.reload b true trig else if mid then n.reload b false trig else n
  let n := forEach (tbLegs b) (fun leg n => n.updateRef leg) n
  let n := if b = 2 ∧ start ∧ n.auxFunc = 1 ∧ n.on F.CFE_CTRL.EN then n.upCfe fun c => { c with chDue := some (n.now + 1) } else n
  let r := n.prescale b evs
  (r.1, (evs ++ r.2).map fun c => 8 * b + c)

/-- PWM_EVENT (R98, R106): the counter of a running time base takes the value it steps to in this cycle. -/
def pwmEvent (b cnt : Nat) (down : Bool) (n : Lane) : Lane :=
  if n.tbSteps b && n.tbAt b cnt down then
    let r := n.tbTake b cnt (n.tbNow b).2
    r.1.fire r.2
  else n

def execPwmEvent (l : LaneId) (t : Nat) (b : Fin 3) (cnt : BitVec 16) (down : Bool) (s : State) :
    Host.Outcome State Fault Refusal :=
  onDomain l t dACT s (pwmEvent b.val cnt.toNat down)

/-- A start of time base `b` is rejected (R100). -/
def Lane.startBad (n : Lane) (b : Nat) : Bool :=
  !n.on F.PWM_CTRL.EN || (!n.tbRun b && !inSeq (n.f (F.PWM_TBb_CFG.MODE b)) (n.f (F.PWM_TBb_PER.PER b)) (n.f (F.PWM_TBb_PHASE.VALUE b)))

/-- Time base `b` starts in the present cycle (R100, R108): every shadow transfers, the counter takes its phase, and the
event of that value is registered; no synchronisation trim is left from before. A start at the value of the period start is one (R216). -/
def Lane.tbStart (n : Lane) (b : Nat) : Lane × List Nat :=
  let n := (n.xferPer b).xferLegs b
  let n := n.setFs [(F.PWM_TBb_CNT.RUN b, 1), (F.PWM_TBb_PERACT.TRIM b, 0)]
  let n := n.setTb b { n.tb b with
    ps0 := n.f (F.PWM_TBb_PSp.PHASE b 0), ps1 := n.f (F.PWM_TBb_PSp.PHASE b 1), ps2 := n.f (F.PWM_TBb_PSp.PHASE b 2)
    perT := n.now, follow := 0, zero := n.f (F.PWM_TBb_PHASE.VALUE b) == 0, cntT := n.now }
  let mode := n.f (F.PWM_TBb_CFG.MODE b)
  let cnt := n.f (F.PWM_TBb_PHASE.VALUE b)
  let per := n.perAct b
  let down := cntDir mode per cnt (n.on (F.PWM_TBb_PHASE.DIR b))
  let evs := n.baseEvents b cnt per down
  let first := if mode = mDOWN then cnt + 1 == per else cnt == 0
  let n := n.setFs [(F.PWM_TBb_CNT.CNT b, cnt), (F.PWM_TBb_CNT.DIR b, b1 down)]
  let n := forEach (tbLegs b) (fun leg n => n.updateRef leg) n
  let n := if b = 2 ∧ first ∧ n.auxFunc = 1 ∧ n.on F.CFE_CTRL.EN then n.upCfe fun c => { c with chDue := some (n.now + 1) } else n
  let r := n.prescale b evs
  (r.1, (evs ++ r.2).map fun c => 8 * b + c)

/-- A write of PWM_START: stops (R101) and starts (R100), each judged on the state before the write; a start takes place in
the next cycle, to which the lane's clock moves on. DESIGN CHOICE (log entry 99): where some bits are rejected, the others act and one
STATE record covers the write; START and STOP of one running time base stop it, and its start has no effect. -/
def pwmStartWrite (org : Nat) (v : W32) (n : Lane) : Lane :=
  let asked := fun b => (F.PWM_START.START.val v).testBit b
  let bads := [0, 1, 2].filter fun b => asked b && n.startBad b
  let go := [0, 1, 2].filter fun b => asked b && !n.startBad b && !n.tbRun b
  let stops := [0, 1, 2].filter fun b => (F.PWM_START.STOP.val v).testBit b && n.stopBad b
  let m := pwmStop v n
  let m := if bads.isEmpty && stops.isEmpty then m else m.rejectState org R.PWM_START
  if go.isEmpty then m
  else
    let m := { m with now := m.now + 1 }
    let r := go.foldl (fun a b => let q := a.1.tbStart b; (q.1, a.2 ++ q.2)) (m, [])
    r.1.fire r.2

/-- PWM_START: a write of PWM_START with START bits. -/
def execPwmStart (l : LaneId) (t : Nat) (org : Origin) (v : W32) (s : State) : Host.Outcome State Fault Refusal :=
  onLane l t s fun n => n.regWrite org.code R.PWM_START v (pwmStartWrite org.code v)

/-- PWM_STOP: a write of PWM_START with STOP bits. -/
def execPwmStop (l : LaneId) (t : Nat) (org : Origin) (v : W32) (s : State) : Host.Outcome State Fault Refusal :=
  onLane l t s fun n => n.regWrite org.code R.PWM_START v (pwmStartWrite org.code v)

end Sys2Proof.Machine
end

