-- ==== Sys2Proof/Machine/OapOps.lean ====
section
/-! DEFINITION. The Oapiec engine's shared operations (spec/10): code banks and data memory, restarts, abandoned handlers. -/

namespace Sys2Proof.Machine

/-! ## Memories (R248) -/

/-- The cells of a code bank that holds `bytes` from address 0. -/
def bankOf (bytes : List Byte) : List Host.Cell := (bytes.zipIdx.map fun p => (p.2, p.1)).filter fun c => c.2 != 0#8

/-- The active and the shadow code bank. -/
def OapState.active (o : OapState) : List Host.Cell := if o.bank = 0 then o.code0 else o.code1
def OapState.shadow (o : OapState) : List Host.Cell := if o.bank = 0 then o.code1 else o.code0
def OapState.setActive (o : OapState) (m : List Host.Cell) : OapState := if o.bank = 0 then { o with code0 := m } else { o with code1 := m }
def OapState.setShadow (o : OapState) (m : List Host.Cell) : OapState := if o.bank = 0 then { o with code1 := m } else { o with code0 := m }

/-- `k` bytes from address `a`, the lowest in the low bits (R8); a byte nothing has written reads 0. -/
def cellsWord (m : List Host.Cell) (a : Nat) : Nat → Nat
  | 0 => 0
  | k + 1 => (Cells.get (0#8 : Byte) m a).toNat + 256 * cellsWord m (a + 1) k

/-- Write the low `k` bytes of `v` from address `a`. -/
def cellsPut (m : List Host.Cell) (a v : Nat) : Nat → List Host.Cell
  | 0 => m
  | k + 1 => cellsPut (Cells.set (0#8 : Byte) m a (BitVec.ofNat 8 v)) (a + 1) (v / 256) k

/-! ## Control registers -/

def cCORE : Nat := 0x001
def cEVNUM : Nat := 0x002
def cEVDATA : Nat := 0x003
def cBUSERR : Nat := 0x020
def cFAULT : Nat := 0x021
def cFAULTADR : Nat := 0x022
def cLOCK : Nat := 0x030
def cECC : Nat := 0x040

/-- CSR_CORE.RESTARTS and MODE, with their copies in LSC_STAT (R494). -/
def Lane.setMode (n : Lane) (mode : Nat) : Lane := (n.setCsrF cCORE 1 0 mode).setF F.LSC_STAT.MODE mode
def Lane.setRestarts (n : Lane) (k : Nat) : Lane := (n.setCsrF cCORE 15 8 k).setF F.LSC_STAT.RESTARTS k

/-! ## Restart (R247, R250, R261, R264) -/

/-- The engine restarts: registers, PC and CSRs at reset but CSR_CORE, data memory cleared, RESTART pending with its cause.
Stores already issued complete. -/
def Lane.engineRestart (n : Lane) (cause : Nat) : Lane :=
  let core := n.csr cCORE
  let n := n.upOap fun o => { o with
    gpr := [], pc := 0#32, csr := [], evData := [], lostRaised := [], handler := none, loads := [], fence := false, stall := false, held := [], tmr := [],
    data := [], frozen := none, scrub := none, locked := false, running := true }
  ((n.setCsr cCORE core).setCsrF 0xC0 0 0 1).upOap fun o => { o with evData := Cells.set 0#32 o.evData 0 (BitVec.ofNat 32 cause) }

/-- The engine runs and no handler does. -/
def OapState.idle (o : OapState) : Bool := o.running && !o.stopped && o.frozen.isNone && o.handler.isNone

/-! ## Abandonment (R260) -/

/-- Causes of CSR_FAULT. -/
def aINSTR : Nat := 1
def aACCESS : Nat := 2
def aECC : Nat := 3
def aBUDGET : Nat := 4

/-- The Oapiec kind an abandonment is raised with (R351). -/
def abandonKind (cause : Nat) : Nat := if cause = aINSTR then 3 else if cause = aACCESS then 4 else if cause = aECC then 1 else 5

/-- Bits [17:2] of the PC. -/
def Lane.pcWord (n : Lane) : Nat := n.oap.pc.toNat / 4 % 2 ^ 16

/-- The running handler is abandoned: cause and data address recorded, the source raised, the engine idle. -/
def Lane.abandonRaw (n : Lane) (cause : Nat) (adr : Option W32) : Lane :=
  match n.oap.handler with
  | none => n
  | some e =>
    let n := n.setCsr cFAULT (BitVec.ofNat 32 (cause * 2 ^ 28 + e * 2 ^ 18 + n.oap.pc.toNat % 2 ^ 18))
    let n := match adr with
      | some a => n.setCsr cFAULTADR a
      | none => n
    let n := if cause = aBUDGET then
        let c := n.csr (csrEvCnt e)
        if bits c 7 0 < 255 then n.setCsrF (csrEvCnt e) 7 0 (bits c 7 0 + 1) else n
      else n
    let k := abandonKind cause
    let n := n.raise (0x0F + k) k n.pcWord
    (n.upOap fun o => { o with handler := none }).checkHolds

end Sys2Proof.Machine
end

