-- ==== Sys2Proof/Machine/Start.lean ====
section
/-! DEFINITION. Reset and the start sequence (spec/19): starts, self-test results, the Ashlar load (spec/02, R58 to R62), the digest
agreement (R64 to R68), the start-up image copies, and warm start requests. The decision of step 9 ends in Bus.lean, where the
accesses that waited for it proceed. -/

namespace Sys2Proof.Machine

/-! ## Settings areas (R436 to R439) -/

/-- Word `w` of settings area `k` (0 A, 1 B). -/
def Lane.setWord (n : Lane) (k w : Nat) : W32 := Cells.get 0#32 (if k = 0 then n.mram.setA else n.mram.setB) w

/-- Write word `w` of settings area `k`. -/
def Lane.putSetWord (n : Lane) (k w : Nat) (v : W32) : Lane :=
  n.upMram fun m => if k = 0 then { m with setA := Cells.set 0#32 m.setA w v } else { m with setB := Cells.set 0#32 m.setB w v }

/-- The area the live window shows and the other one. -/
def Lane.liveArea (n : Lane) : Nat := n.mram.setLive % 2
def Lane.workArea (n : Lane) : Nat := 1 - n.mram.setLive % 2

/-- VERSION and STATE of an area. -/
def Lane.setVer (n : Lane) (k : Nat) : Nat := bits (n.setWord k 1) 15 0
def Lane.setSt (n : Lane) (k : Nat) : Nat := bits (n.setWord k 1) 31 16
def Lane.putSetSt (n : Lane) (k st : Nat) : Lane := n.putSetWord k 1 (setBits (n.setWord k 1) 31 16 st)

/-- A live record exists; a retired one does. -/
def Lane.liveVal (n : Lane) : Bool := n.setSt n.liveArea == 1
def Lane.retVal (n : Lane) : Bool := n.setSt n.workArea == 2

/-- The settings versions the active policy image reads (R418). -/
def Lane.setRange (n : Lane) : Option (Nat × Nat) :=
  (n.activeSlot tPOLICY).map fun s => (u16 (n.slotImg s) 0x24, u16 (n.slotImg s) 0x26)

/-- A version lies in the active policy image's range. -/
def Lane.verIn (n : Lane) (v : Nat) : Bool :=
  match n.setRange with
  | some (lo, hi) => decide (lo ≤ v) && decide (v ≤ hi)
  | none => false

/-- The areas exchange windows; the one now live is LIVE, the other RETIRED. -/
def Lane.exchangeAreas (n : Lane) : Lane :=
  let n := n.upMram fun m => { m with setLive := 1 - m.setLive % 2 }
  (n.putSetSt n.liveArea 1).putSetSt n.workArea 2

/-- R439: a rollback to an image that reads the retired record and not the live one exchanges the areas. -/
def Lane.settingsRollback (n : Lane) : Lane :=
  if n.liveVal && n.retVal && !n.verIn (n.setVer n.liveArea) && n.verIn (n.setVer n.workArea) then n.exchangeAreas else n

/-- An event of UPD with its Keystone message (R441). -/
def Lane.updRaise (n : Lane) (kind word : Nat) : Lane := n.raise (0xDF + kind) kind word

/-- A rollback is raised and recorded. -/
def Lane.updRollback (n : Lane) (slot : Nat) : Lane := (n.sqEventOnce F.UPD_EVT.ROLLBACK).updRaise 5 slot

/-! ## Lintel status (R64, R478) -/

/-- Bytes of the words at `off`, `off + 4`, …: `k` words. -/
def Lane.regBytes (n : Lane) (off k : Nat) : List Byte :=
  (wordsBytes ((List.range k).map fun i => n.rd (off + 4 * i))).map fun b => BitVec.ofNat 8 b

/-- Write bytes to the words at `off`, `off + 4`, …: `k` words. -/
def Lane.putBytes (n : Lane) (off k : Nat) (bs : List Nat) : Lane :=
  forEach (List.range k) (fun i n => n.wr (off + 4 * i) (BitVec.ofNat 32 (u32 bs (4 * i)))) n

/-- The lane's current status message. -/
def Lane.statusNow (n : Lane) : LFrame :=
  if n.halted || n.f F.SYS_ASHSTAT.STATE == 3 then .refused
  else if n.f F.SYS_ASHSTAT.STATE = 2 then .digest (n.regBytes (R.SYS_ASHDIGn 0) 8)
  else .loading

def Lane.sendStatus (n : Lane) : Lane := (n.send n.statusNow).upSys fun s => { s with sentT := n.now }

/-! ## Starts (R466, R468, R463, R518) -/

/-- The register stands in an AON block (R23, R93). -/
def inAon (off : Nat) : Bool := (domainOf off).isNone

/-- A transition being written to MRAM when the start comes leaves the old state or the new one (R484): a free value says which. -/
def Lane.lcSettle (n : Lane) : Lane :=
  match n.sys.lc with
  | none => n
  | some p =>
    let first := (n.free n.sys.draws).toNat % 2 == 1
    let n := (n.drawn 1).upSys fun s => { s with lc := none }
    if first then
      let q := max n.mram.lcA.seq n.mram.lcB.seq
      let c : LcCopy := { seq := q + 1, state := p.toBase }
      n.upMram fun m => if m.lcB.seq < m.lcA.seq then { m with lcB := c, erasing := m.erasing || p.ret } else { m with lcA := c, erasing := m.erasing || p.ret }
    else n

/-- The identity registers and what every start shows (R95, R466, R485, R488). -/
def Lane.showIdentity (n : Lane) (cold : Bool) (cause : Nat) : Lane :=
  let n := n.setFs [(F.SYS_STEP.GATESTEP, n.sys.gateStep), (F.SYS_STEP.LANESTEP, n.sys.laneStep), (F.SYS_STEP.CODE, n.sys.code),
    (F.SYS_LANE.LANE, n.id.num), (F.SYS_RSTCAUSE.AON, b1 cold), (F.SYS_RSTCAUSE.CAUSE, cause)]
  let n := (n.wr R.SYS_UIDL (n.sys.uid.setWidth 32)).wr R.SYS_UIDH ((n.sys.uid >>> 32).setWidth 32)
  n.showKeys.setF F.LSC_STARTCNT.COUNT n.mram.startCnt

/-- Detectors of the kept AON blocks find a condition that persists across a warm start again (R518): a failed crystal, a supply out of
its window while the supplies are monitored, a discrepant pair, a failed contact. -/
def Lane.raiseAfresh (n : Lane) : Lane :=
  let n := if n.pwr.xoFail then n.raise 0x09 1 0 else n
  let n := forEach n.pwr.supOut (fun k n => ((n.setF (supplyF k) 0).pwrEvt F.PWR_EVT.SUPPLY 0).raise 0x0D 2 k) n
  forEach [0, 1, 2, 3] (fun p n =>
    let x := n.pair p
    let n := if x.disc then n.raise (0x30 + 2 * p) 1 p else n
    if x.failA || x.failB then n.raise (0x31 + 2 * p) 2 p else n) n

/-- What a warm start does to the AON blocks it keeps: Keystone closes its records, the power controller's policy registers and
states return to reset, the seal waits for its sample, the outputs are off. -/
def Lane.aonStart (n : Lane) : Lane :=
  let n := n.kstStart
  let n := forEach [0, 1, 2, 3, 4, 5, 6, 7, 8] (fun d n =>
    let n := n.resMark d
    let n := ((n.resetRange (R.PWR_Dd_LAT d) (R.PWR_Dd_LAT d + 4)).resetRange (R.PWR_Dd_CFG d) (R.PWR_Dd_CFG d + 4)).resetRange
      (R.PWR_Dd_ALLOW d) (R.PWR_Dd_ALLOW d + 4)
    n.setFs [(F.PWR_Dd_STAT.STATE d, 0), (F.PWR_Dd_STAT.TARGET d, 0), (F.PWR_Dd_STAT.PVAL d, 0), (F.PWR_Dd_STAT.PEND d, 0)]) n
  let n := n.upPwr fun p => { p with
    entT := [], exitT := [], dueT := [], leaving := [], late := [], idle := [], stalled := p.stalled.filter fun a => a.org == 1, pllStop := none }
  let n := n.setFs [(F.SAF_STAT.SEALOK, 0), (F.SAF_SBOSTAT.SBOF, 0)]
  (n.upSaf fun s => { s with sealRun := false, sealBad := 0 }).raiseAfresh

/-- The first cycle of a start (R468). A cold start keeps MRAM and what manufacture fixed; a warm one also AON. Every switch is
off, since the gate-drive die is reset; the safe-brake outputs, OKH and the ports are off with the registers that drive them. -/
def Lane.start (n : Lane) (cold : Bool) (cause : Nat) : Lane :=
  let n := n.lcSettle
  let keep := n.rd R.YAR_CMDRES
  let n := if cold then n else n.aonStart
  let old := n
  let sys : SysState := {
    startT := old.now, cold := cold, aonFail := if cold then 0 else old.sys.aonFail, aonSig := if cold then [] else old.sys.aonSig,
    draws := old.sys.draws, tap := old.sys.tap, laneStep := old.sys.laneStep, gateStep := old.sys.gateStep,
    code := old.sys.code, uid := old.sys.uid }
  let n : Lane := {
    id := old.id, now := old.now, mram := old.mram, sys := sys,
    regs := if cold then [] else old.regs.filter fun c => inAon c.1,
    kst := if cold then {} else old.kst, pwr := if cold then { vetch := { clk := old.pwr.vetch.clk, dat := old.pwr.vetch.dat }, supOut := old.pwr.supOut, supT := old.pwr.supT }
      else old.pwr,
    saf := if cold then {} else old.saf, hst := if cold then {} else { old.hst with run := [], ra := [], tagged := [] },
    gdv := { dgpin := old.gdv.dgpin, vgdok := old.gdv.vgdok }, lnt := { hbT := old.now, sentT := old.now } }
  let n := n.upPwr fun p => { p with lane0 := 0, laneT := n.now, laneFr := 0, laneHold := none }
  let n := n.newNonce.showIdentity cold cause
  let n := if cold && decide (n.id = .lane2) then n.wr R.PWR_VWCFG 0xC0000132#32 else n
  let n := if cause = 5 then n.wr R.YAR_CMDRES keep else n
  n.safUpdate

/-- VAON_POWER_ON (R466). -/
def vaonPowerOn (n : Lane) : Lane := Lane.start { n with sys := { n.sys with powered := true, vaon := true } } true 1

/-- PORN_RESET (R466): as a VAON power-on. -/
def pornReset (n : Lane) : Lane := if n.sys.vaon then n.start true 2 else n

/-- VAON_POWER_LOSS (R22, R501): the lane is unpowered; MRAM keeps, and whatever was in volatile state is gone. -/
def vaonPowerLoss (n : Lane) : Lane :=
  let n := n.start true 1
  n.upSys fun s => { s with powered := false, vaon := false }

/-- TRSTN_RESET (R466): the test access port only. -/
def trstnReset (n : Lane) : Lane := n.upSys fun s => { s with tap := 0 }

/-- No group reads PENDING, RUN or SAFE, and both safe-brake outputs are off (R467, R489, R491). -/
def Lane.atRest (n : Lane) : Bool :=
  ([0, 1, 2].all fun g => n.grp g != gPENDING && n.grp g != gRUN && n.grp g != gSAFE) && n.f F.SAF_STAT.SBOON == 0

/-- Policy firmware or the SPI host (R467, R483). -/
def fromHost (org : Nat) : Bool := org == 0 || org == 1

/-- WARM_START_REQUEST (R467). -/
def warmStart (org : Nat) (v : W32) (n : Lane) : Lane :=
  if F.SYS_RSTCMD.KEY.val v ≠ 0x5354 ∨ F.SYS_RSTCMD.START.val v ≠ 1 then n
  else if fromHost org && (n.on F.KST_STAT.LANESAFE || n.atRest) then n.start false 3
  else n.rejectState org R.SYS_RSTCMD

/-! ## Steps 1 to 8 (R469 to R475) -/

/-- The cycle in which step 2 of the start sequence is passed: 2 µs after step 1, and not before the supplies have stayed inside their
windows for 50 µs (R469, R503). -/
def Lane.step2 (n : Lane) : Nat :=
  max (n.sys.startT + 800) (match n.pwr.supT with
    | some t => t + 20000
    | none => 0)

/-- START_SEQUENCE: steps 1 to 8 begin, the start core's check of step 4 included; a CORE leaving OFF starts here (R447). -/
def startSequence (coreOk : Bool) (n : Lane) : Lane :=
  let n := if n.domState dCORE = 4 ∧ Cells.get 0 n.pwr.leaving dCORE = 2 ∧ 9 ≤ n.sys.step then
      (n.start false 4).upSys fun s => { s with startT := Cells.get 0 n.pwr.exitT dCORE }
    else n
  if n.sys.step = 1 ∧ n.pwr.supOut = [] ∧ n.step2 + 20000 ≤ n.now then
    let n := n.setFs [(F.CLK_STAT.XO, if n.f F.CLK_STAT.XO = 0 then 1 else n.f F.CLK_STAT.XO), (F.PWR_STAT.XOON, 1), (F.PWR_STAT.PLLON, 1),
      (F.CLK_STAT.LOCK, 1), (F.PWR_STAT.XOREF, 0)]
    let n := n.upPwr fun p => { p with xoT := n.sys.startT, pllFail := false }
    let n := n.setFs [(F.PWR_STAT.VCOREOK, b1 (!n.pwr.supOut.contains 0)), (F.PWR_STAT.VIOOK, b1 (!n.pwr.supOut.contains 1)),
      (F.PWR_STAT.VANAOK, b1 (!n.pwr.supOut.contains 2)), (F.YAR_STAT.STATE, 1), (F.YAR_STAT.PHASE, 8), (F.YAR_STAT.BUSY, 1)]
    let n := n.upSys fun s => { s with step := 8, coreFail := !coreOk }
    if coreOk then n else n.raise 0x1C 3 0
  else n

/-! ## Self-test results (R471 to R477) -/

/-- The partitions that own array `m` (R474). -/
def memOwners (m : Nat) : List Nat := if m ≤ 2 then [4, 5] else if m ≤ 4 then [12] else if m = 5 then [8] else [13]

/-- The partitions failed by their logic test or through an array they own. -/
def failedParts (parts mems : Nat) : Nat :=
  (List.range 16).foldl (fun a p =>
    a + b1 (parts.testBit p || (List.range 7).any fun m => mems.testBit m && (memOwners m).contains p) * 2 ^ p) 0

/-- Raise Yarrow logic per failed partition and Yarrow memory per failed array (R473, R474). -/
def Lane.yarrowRaise (n : Lane) (parts mems : Nat) : Lane :=
  let n := forEach (List.range 16) (fun p n => if parts.testBit p then n.raise 0x1A 1 p else n) n
  forEach (List.range 7) (fun m n => if mems.testBit m then n.raise 0x1B 2 m else n) n

/-- YAR_Mm_FAIL shows the first failing word of each failed array. -/
def Lane.showMems (n : Lane) (tested mems : Nat) (words : List (BitVec 16)) : Lane :=
  forEach (List.range 7) (fun m n => if tested.testBit m then
    n.setFs [(F.YAR_Mm_FAIL.FAIL m, b1 (mems.testBit m)), (F.YAR_Mm_FAIL.WORD m, if mems.testBit m then (words.getD m 0#16).toNat else 0)]
    else n) n

/-- The signature of partition `p`: the expected one when it passed; another one when it failed, which the spec does not give. -/
def Lane.signature (n : Lane) (p : Nat) (failed : Bool) : W32 :=
  let e := Config.expSig n.sys.laneStep p
  if failed then e + 1#32 + BitVec.ofNat 32 ((n.free (n.sys.draws + p)).toNat % (2 ^ 32 - 1)) else e

/-- YAR_Pp_SIG and YAR_Pp_EXP of the tested partitions (R473). -/
def Lane.showSigs (n : Lane) (tested failed : Nat) : Lane :=
  let m := n
  (forEach (List.range 16) (fun p n =>
    let n := n.wr (R.YAR_Pp_EXP p) (Config.expSig m.sys.laneStep p)
    if tested.testBit p then n.wr (R.YAR_Pp_SIG p) (m.signature p (failed.testBit p)) else n) n).drawn 16

/-- The signatures of partitions 0 to 2 are kept from the cold start that tested them, and shown by every later one (R475). -/
def Lane.aonSigs (n : Lane) : Lane :=
  if n.sys.cold then n.upSys fun s => { s with aonSig := [0, 1, 2].map fun p => (p, n.rd (R.YAR_Pp_SIG p)) }
  else forEach [0, 1, 2] (fun p n => n.wr (R.YAR_Pp_SIG p) (Cells.get 0#32 n.sys.aonSig p)) n

/-- The lane halts (R478) with this HALT code. -/
def Lane.halt (n : Lane) (code : Nat) : Lane := n.setFs [(F.SYS_START.STATE, 3), (F.SYS_START.HALT, code)]

/-- SYS partition is raised for each unusable partition (R39). -/
def Lane.partsRaise (n : Lane) : Lane :=
  let u := n.f F.YAR_UNUSABLE.PARTS
  forEach (List.range 16) (fun p n => if u.testBit p then n.raise 0x02 3 p else n) n

/-- SYS_LCS.PARTS_OUT counts the unusable partitions (R477), once the Ashlar load has ended (R96). -/
def Lane.partsCount (n : Lane) : Lane :=
  n.setF F.SYS_LCS.PARTS_OUT ((List.range 16).countP fun p => n.bit F.YAR_UNUSABLE.PARTS p)

/-- What MRAM holds before the images load: the erasure of an entry into RETURNED is completed (R489), the start count steps
(R470), SYS_LCS takes the valid copy with the higher sequence number (R484). -/
def Lane.mramStart (n : Lane) : Lane :=
  let n := if n.mram.erasing then
      n.upMram fun m => { m with slots := [], slotSt := [], setA := [], setB := [], setLive := 0, cairn := [], keys := [], erasing := false }
    else n
  let n := n.showKeys.upMram fun m => { m with startCnt := (m.startCnt + 1) % 2 ^ 32 }
  let a := n.mram.lcA
  let b := n.mram.lcB
  let st := if !a.ok || (b.ok && decide (a.seq < b.seq)) then b.state else a.state
  n.setFs [(F.LSC_STARTCNT.COUNT, n.mram.startCnt), (F.SYS_LCS.STATE, st), (F.SYS_LCS.BASE, st), (F.SYS_LCS.ENF, b1 (n.sys.code == 1))]

/-- The slots at a start (R421, R429, R435): an unfinished transfer is EMPTY; a POLICY or TABLES TRIAL is STORED and its ACCEPTED
partner active; a PENDING ASHLAR slot is TRIAL and the slot active before ACCEPTED. -/
def Lane.slotsStart (n : Lane) : Lane :=
  let n := forEach (List.range 6) (fun s n => if n.slotSt s = lRECEIVING then n.setSlot s lEMPTY else n) n
  let n := forEach [0, 1, 4, 5] (fun s n =>
    if n.slotSt s = lTRIAL then
      let n := n.setSlot s lSTORED
      let n := if n.slotSt (partner s) = lACCEPTED then n.setSlot (partner s) lACTIVE else n
      let n := n.updRollback s
      if s < 2 then n.settingsRollback else n
    else n) n
  forEach [2, 3] (fun s n =>
    if n.slotSt s = lPENDING then
      let n := if n.slotSt (partner s) = lACTIVE ∨ n.slotSt (partner s) = lTRIAL then n.setSlot (partner s) lACCEPTED else n
      n.setSlot s lTRIAL
    else n) n

/-- SELFTEST_RESULTS (R476): step 9. `parts` and `mems` failed, `words` are the first failing words. -/
def selftestResults (parts mems : Nat) (words : List (BitVec 16)) (n : Lane) : Lane :=
  if n.sys.step = 8 ∧ n.sys.startT + (if n.sys.cold then 1188160 else 1140160) ≤ n.now ∧ ¬ n.sys.coreFail then
    let logic := if n.sys.cold then parts else n.sys.aonFail + parts / 8 * 8
    let n := n.upSys fun s => { s with aonFail := logic % 8 }
    let failed := failedParts logic mems
    let n := (n.yarrowRaise logic mems).mramStart
    let n := ((n.showMems 127 mems words).showSigs (if n.sys.cold then 0xFFFF else 0xFFF8) logic).aonSigs
    let n := n.setFs [(F.YAR_STARTRES.VALID, 1), (F.YAR_STARTRES.MEMS, mems), (F.YAR_STARTRES.PARTS, failed),
      (F.YAR_UNUSABLE.VALID, 1), (F.YAR_UNUSABLE.MEMS, mems), (F.YAR_UNUSABLE.PARTS, failed),
      (F.YAR_STAT.STATE, 0), (F.YAR_STAT.PHASE, 0), (F.YAR_STAT.BUSY, 0)]
    let n := n.upSys fun s => { s with step := 9, rston := true }
    let n := forEach [0, 1, 2, 3, 4, 5, 6, 7, 8] (fun d n =>
      if n.domUnusable d then n.setDom d 2
      else if xoClass d && !n.on F.CLK_STAT.REF then
        (n.setDom d 4).upPwr fun p => { p with
          leaving := Cells.set 0 p.leaving d 2, exitT := Cells.set 0 p.exitT d n.now, dueT := Cells.set 0 p.dueT d (n.exitBound d 2) }
      else n) n
    let n := n.slotsStart
    let n := (List.range 16).foldl (fun n b => if n.f F.SYS_RSTCAUSE.CAUSE = 4 && n.pwr.cause.testBit b then n.sqEventOnce ⟨R.PWR_WCAUSE, b, b⟩ else n) n
    let n := n.upPwr fun p => { p with cause := 0 }
    if failed.testBit 0 || failed.testBit 1 || failed.testBit 3 then ((n.halt 2).partsRaise).sendStatus
    else
      let n := n.setFs [(F.SYS_START.STATE, 1), (F.SYS_ASHSTAT.STATE, 1)]
      n.sendStatus.upSys fun s => { s with injDue := !(failed.testBit 4 || failed.testBit 5) }
  else n

/-! ## The injection test (R267, R268) -/

/-- The bit of an item of this width that the test of this start inverts (R267). -/
def Lane.injectBit (n : Lane) (width : Nat) : Nat := n.mram.startCnt % width

/-- INJECTION_TEST_END: `runs` behaved as required; `item` and `core` of the first that did not. Run 18 is the last injected one, which
raises "test" where its mismatch is registered, whatever an earlier run did. -/
def injectionTestEnd (runs item core : Nat) (n : Lane) : Lane :=
  if n.sys.injDue ∧ n.sys.startT + (if n.sys.cold then 1188160 else 1140160) + 16000 ≤ n.now then
    let ok := runs == 2 ^ 19 - 1
    let n := n.upSys fun s => { s with injDue := false }
    let n := n.setFs [(F.LSC_INJSTAT.VALID, 1), (F.LSC_INJSTAT.RUNS, runs), (F.LSC_INJSTAT.FAILITEM, if ok then 0 else item),
      (F.LSC_INJSTAT.FAILCORE, if ok then 0 else core)]
    let n := if runs.testBit 18 then n.raise 0x15 1 9 else n
    if ok then n.setF F.LSC_STAT.INJOK 1
    else
      let n := (n.sqEventOnce F.LSC_EVT.INJFAIL).raise 0x16 2 0
      let n := ((n.setBit F.YAR_UNUSABLE.PARTS 3 true).halt 4).portsFollow
      (if n.sys.step = 9 then n else n.partsCount.raise 0x02 3 3).sendStatus
  else n

/-! ## The Ashlar load (R58 to R63, R39) -/

/-- The image of a slot, empty when there is none. -/
def Lane.ashImg (n : Lane) (s : Option Nat) : List Nat :=
  match s with
  | some k => n.slotImg k
  | none => []

/-- A step fails (R62): SYS structure with bits [17:2] of the offset. -/
def Lane.structureRaise (n : Lane) (off : Nat) : Lane := n.raise 0x01 2 (off / 4)

/-- The image in slot `s` loads: mirrors, identity of the image, the digest and the wait for the peer. -/
def Lane.loadImage (n : Lane) (s : Nat) (fallback : Bool) (up dn : Nat) : Lane :=
  let img := n.slotImg s
  let body := imgBody img
  let u := n.f F.YAR_UNUSABLE.PARTS
  let n := n.writeMirrors body u
  let n := n.setFs [(F.SYS_ASHSTAT.STATE, 2), (F.SYS_ASHSTAT.SLOT, s % 2), (F.SYS_ASHSTAT.FALLBACK, b1 fallback),
    (F.SYS_ASHVER.VERSION, imgVersion img), (F.SYS_ASHSHARE.MASK, u16 body 0x0A)]
  let n := n.putBytes (R.SYS_ASHDIGn 0) 8 (sharedDigest body)
  let n := n.setFs [(F.SYS_LCS.OUT_M0, b1 (groupOut n.sys.ash u 0)), (F.SYS_LCS.OUT_M1, b1 (groupOut n.sys.ash u 1)),
    (F.SYS_LCS.OUT_L7, b1 (groupOut n.sys.ash u 2))]
  let r := n.sealRead up dn
  let n := if u.testBit 2 then r.1 else (r.1.setF F.SAF_STAT.SEALOK (b1 r.2)).upSaf fun x => { x with sealRun := true, sealBad := if r.2 then 0 else x.sealBad }
  n.upSys fun x => { x with peerDue := some (n.now + n.f F.LNT_PERMIT.PEERWAIT * 400000) }

/-- The result of the checks of the active slot and, if it fails, of an ACCEPTED other slot. DESIGN CHOICE: with no active slot, the
other slot of R62 is slot A (log entry 98). -/
def Lane.loadResult (n : Lane) (up dn : Nat) : Lane :=
  let s := n.activeSlot tASHLAR
  match n.ashlarBad (n.ashImg s), s with
  | none, some k => n.loadImage k false up dn
  | bad, _ =>
    let e := bad.getD (1, 0, 0)
    let n := n.setFs [(F.SYS_ASHERR.STEP, e.1), (F.SYS_ASHERR.SECTION, e.2.1), (F.SYS_ASHERR.OFFSET, e.2.2)]
    let n := n.structureRaise e.2.2
    let other := match s with
      | some k => partner k
      | none => 2
    let n := match s with
      | some k => if n.slotSt k = lTRIAL then n.setSlot k lSTORED else n
      | none => n
    let refused := fun (n : Lane) => n.setFs [(F.SYS_ASHSTAT.STATE, 3), (F.SYS_ASHPEER.STATE, 5)]
    if n.slotSt other = lACCEPTED then
      match n.ashlarBad (n.slotImg other) with
      | none =>
        let n := if (s.map fun k => n.slotSt k == lSTORED).getD false then n.setSlot other lACTIVE else n
        n.loadImage other true up dn
      | some e => refused (n.structureRaise e.2.2)
    else refused n

/-- ASHLAR_LOAD_END: the load ends, the structure locks (R61), and what self-test found of the cores decides (R476). -/
def ashlarLoadEnd (up dn : Nat) (n : Lane) : Lane :=
  if n.sys.step = 9 ∧ n.f F.SYS_ASHSTAT.STATE = 1 then
    let n := n.loadResult up dn
    let loaded := n.f F.SYS_ASHSTAT.STATE == 2
    let n := (n.setF F.SYS_ASHLOCK.LOCK 1).partsCount.partsRaise
    let n := n.showExits (n.sys.ash.mirrors.map fun m => m.1) loaded
    let n := n.upSys fun s => { s with step := 10 }
    let main := n.bit F.YAR_UNUSABLE.PARTS 4
    let chk := n.bit F.YAR_UNUSABLE.PARTS 5
    let n := if !main && !chk then n
      else if (main && chk) || !n.on F.LNT_PERMIT.SINGLECORE then n.halt 3
      else ((n.setMode (if main then 2 else 1)).setF F.LSC_STAT.INJSKIP 1).raise 0x19 5 0
    n.sendStatus.safUpdate.checkHolds
  else n

/-! ## The digest agreement (R64 to R68, R435) -/

/-- A TRIAL ASHLAR slot becomes ACTIVE (R435). -/
def Lane.ashAccept (n : Lane) : Lane :=
  forEach [2, 3] (fun s n => if n.slotSt s = lTRIAL then n.setSlot s lACTIVE else n) n

/-- SYS digest (R65). -/
def Lane.digestRaise (n : Lane) : Lane := n.raise 0x03 4 0

/-- STATUS_MESSAGE_RECEIVE (R64, R65, R67): the message decides where it may, and a lane not in WAIT answers. -/
def statusReceive (m : StatusMsg) (n : Lane) : Lane :=
    let st := n.f F.SYS_ASHPEER.STATE
    let waiting := st == 0 && n.f F.SYS_ASHSTAT.STATE == 2
    let n := match m with
      | .loading => n
      | .refused =>
        if waiting && n.sys.peerDue.isSome then
          ((n.setF F.SYS_ASHPEER.STATE 4).upSys fun s => { s with peerDue := none }).digestRaise
        else n
      | .digest d =>
        let same := d == n.regBytes (R.SYS_ASHDIGn 0) 8
        let n := n.putBytes (R.SYS_ASHPDIGn 0) 8 (d.map fun b => b.toNat)
        if waiting then
          let n := n.upSys fun s => { s with peerDue := none }
          if same then (n.setF F.SYS_ASHPEER.STATE 1).ashAccept
          else ((n.setF F.SYS_ASHPEER.STATE 2).sqEvent F.SYS_ASHEVT.DIFFER).digestRaise
        else if st = 3 then
          if same then n.sqEvent F.SYS_ASHEVT.LATE_MATCH else (n.sqEvent F.SYS_ASHEVT.LATE_DIFFER).digestRaise
        else n
    if st = 0 then n else n.sendStatus

/-- STATUS_RESEND (R64): every 100 µs in WAIT. -/
def statusResend (n : Lane) : Lane :=
  if n.domOn dCORE ∧ n.f F.SYS_ASHPEER.STATE = 0 ∧ n.sys.sentT + 40000 ≤ n.now then n.sendStatus else n

/-- A DIGEST or REFUSED message for lane `l` registered by cycle `now` waits in the queue: it is decided before an expiry of that cycle
(R66). -/
def peerFirst (l : LaneId) (now : Nat) (q : List Instr) : Bool :=
  q.any fun c => match c with
    | .statusMessageReceive l' t crc m => l' == l && decide (t ≤ now) && crc && m != .loading
    | _ => false

/-- PEER_WAIT_EXPIRY (R65). -/
def peerWaitExpiry (n : Lane) : Lane :=
  match n.sys.peerDue with
  | some d =>
    if d ≤ n.now ∧ n.f F.SYS_ASHPEER.STATE = 0 then
      let n := ((n.upSys fun s => { s with peerDue := none }).sqEvent F.SYS_ASHEVT.TIMEOUT).digestRaise
      if n.on F.LNT_PERMIT.SOLO then (n.setF F.SYS_ASHPEER.STATE 3).ashAccept else n
    else n
  | none => n

/-! ## Steps 11 to 13 (R469, R423, R433) -/

/-- UPD verify (R423). -/
def Lane.verifyRaise (n : Lane) (s : Nat) : Lane := n.updRaise 2 s

/-- Step 11: the POLICY slot to run, verified, or its ACCEPTED partner (R440). -/
def Lane.policyStart (n : Lane) : Lane × Option Nat :=
  match n.activeSlot tPOLICY with
  | none => (n, none)
  | some s =>
    if n.verified tPOLICY (n.slotImg s) then (n, some s)
    else
      let n := (n.setSlot s lREFUSED).verifyRaise s
      let p := partner s
      if n.slotSt p = lACCEPTED then
        let n := ((n.setSlot p lACTIVE).updRollback s).settingsRollback
        if n.verified tPOLICY (n.slotImg p) then (n, some p) else ((n.setSlot p lREFUSED).verifyRaise p, none)
      else (n, none)

/-- Step 12: the TABLES slot, verified. -/
def Lane.tablesStart (n : Lane) : Lane :=
  match n.activeSlot tTABLES with
  | none => n
  | some s =>
    if n.verified tTABLES (n.slotImg s) then (n.setF F.SYS_START.TABLES 1).copyActiveTables
    else (n.setSlot s lREFUSED).verifyRaise s

/-- STARTUP_IMAGE_COPY_END: the images are copied, the lane is RUNNING and RESTART pending. -/
def imageCopyEnd (n : Lane) : Lane :=
  if n.sys.step = 10 ∧ ¬ n.halted ∧ ¬ n.sys.injDue then
    let r := n.policyStart
    let n := r.1.tablesStart
    let n := n.setFs [(F.SYS_START.STATE, 2), (F.SYS_START.TIME, min 65535 ((n.now + 6 - n.sys.startT) / 400))]
    let n := n.upSys fun s => { s with step := 13 }
    match r.2 with
    | some s =>
      let body := (Cells.get [] n.mram.slots s).drop 128 |>.take (imgBodyLen (n.slotImg s))
      let n := (n.setF F.SYS_START.POLICY 1).upOap fun o => o.setActive (bankOf body)
      n.engineRestart 0
    | none => n
  else n

/-! ## Commands -/

def execVaonPowerOn (l : LaneId) (t : Nat) (s : State) : Host.Outcome State Fault Refusal := onLane l t s vaonPowerOn
def execPornReset (l : LaneId) (t : Nat) (s : State) : Host.Outcome State Fault Refusal := onLane l t s pornReset
def execVaonPowerLoss (l : LaneId) (t : Nat) (s : State) : Host.Outcome State Fault Refusal := onLane l t s vaonPowerLoss
def execTrstnReset (l : LaneId) (t : Nat) (s : State) : Host.Outcome State Fault Refusal := onLane l t s trstnReset
def execWarmStartRequest (l : LaneId) (t : Nat) (org : Origin) (v : W32) (s : State) : Host.Outcome State Fault Refusal :=
  onLane l t s fun n => n.regWrite org.code R.SYS_RSTCMD v (warmStart org.code v)
def execStartSequence (l : LaneId) (t : Nat) (coreOk : Bool) (s : State) : Host.Outcome State Fault Refusal := onAon l t s (startSequence coreOk)
def execInjectionTestEnd (l : LaneId) (t : Nat) (runs : BitVec 19) (item : BitVec 4) (core : Bool) (s : State) : Host.Outcome State Fault Refusal :=
  onDomain l t dCORE s (injectionTestEnd runs.toNat item.toNat (b1 core))
def execAshlarLoadEnd (l : LaneId) (t : Nat) (up dn : BitVec 6) (s : State) : Host.Outcome State Fault Refusal :=
  onDomain l t dCORE s (ashlarLoadEnd up.toNat dn.toNat)
def execStartupImageCopyEnd (l : LaneId) (t : Nat) (s : State) : Host.Outcome State Fault Refusal := onDomain l t dCORE s imageCopyEnd
def execStatusMessageReceive (l : LaneId) (t : Nat) (crc : Bool) (m : StatusMsg) (s : State) : Host.Outcome State Fault Refusal :=
  wellFormedOnly (statusOk m) (onLane l t s fun n => n.lintelRx crc (statusReceive m))
def execStatusResend (l : LaneId) (t : Nat) (s : State) : Host.Outcome State Fault Refusal := onDomain l t dCORE s statusResend
def execPeerWaitExpiry (l : LaneId) (t : Nat) (s : State) : Host.Outcome State Fault Refusal :=
  onDomain l t dCORE s fun n => if peerFirst l n.now s.pending then n else peerWaitExpiry n

end Sys2Proof.Machine
end

