-- ==== Sys2Proof/Machine/LifeCycle.lean ====
section
/-! DEFINITION. Release and arming (R479 to R481), the life cycle and its tokens (R482 to R489), and the self-test on command
(R490, R491). The end of a command self-test is in Bus.lean, where stalled accesses then proceed. -/

namespace Sys2Proof.Machine

/-! ## Release and arming (R479 to R481) -/

/-- SYS_ASHPEER reads a state in which the lane may be armed (R65). -/
def Lane.peerOk (n : Lane) : Bool :=
  let st := n.f F.SYS_ASHPEER.STATE
  st == 1 || st == 3 || (st == 4 && n.on F.LNT_PERMIT.SOLO)

/-- SYS_ARMSTAT.WHY: the conditions of R479 that fail. -/
def Lane.whyNot (n : Lane) : Nat :=
  b1 (n.f F.SYS_ASHSTAT.STATE != 2) + 2 * b1 (!n.peerOk) + 4 * b1 (n.f F.SYS_START.STATE != 2) + 8 * b1 (!n.on F.SAF_CTRL.EN)
    + 16 * b1 (!n.on F.SAF_STAT.SEALOK) + 32 * b1 (n.on F.KST_STAT.LANESAFE) + 64 * b1 (n.f F.SYS_LCS.STATE == 5)

/-- Group `g` may be armed in a lane that is released (R480, R481). -/
def Lane.mayArm (n : Lane) (g : Nat) : Bool :=
  let mode := n.sys.ash.modes.getD g 0
  let out := if g = 0 then F.SYS_LCS.OUT_M0 else if g = 1 then F.SYS_LCS.OUT_M1 else F.SYS_LCS.OUT_L7
  n.grp g == gUNARMED && mode != 0 && !n.on out && !n.on F.KST_STAT.LANESAFE
    && (!(decide (g < 2) && mode == 1) || (n.tablesActive.testBit g && n.on F.CFE_CTRL.EN))
    && n.on F.PWM_CTRL.EN && n.on F.GDV_CTRL.EN && n.on F.ADC_CTRL.EN && n.on F.CLE_CTRL.EN && n.on F.ADC_STAT.READY
    && n.f F.GDV_STAT.LINK == 2
    && (!((n.sys.ash.groupRoutes g).any fun r => r.kind == 1 || r.kind == 2) || n.on F.FBI_CTRL.EN)

/-- LANE_RELEASE and GROUP_ARM: a write of SYS_ARMCMD; each bit is judged on its own, one STATE record covers the write. -/
def armCmd (org : Nat) (v : W32) (n : Lane) : Lane :=
  let lane := F.SYS_ARMCMD.LANE.val v == 1
  let groups := F.SYS_ARMCMD.GROUPS.val v
  let relOk := lane && n.whyNot == 0
  let m := if relOk then (n.setF F.SYS_ARMSTAT.RELEASED 1).safUpdate else n
  let rel := m.on F.SYS_ARMSTAT.RELEASED
  let ok := fun g => rel && n.mayArm g
  let m := forEach [0, 1, 2] (fun g m =>
    if groups.testBit g && ok g then
      (m.moveGrp g (if m.bit F.KST_STAT.GSAFE g then gSAFE else gIDLE)).setBit F.SYS_ARMSTAT.ARMED g true
    else m) m
  if (lane && !relOk) || [0, 1, 2].any fun g => groups.testBit g && !ok g then m.rejectState org R.SYS_ARMCMD else m

/-! ## Life-cycle commands (R483, R488, R489) -/

/-- The command is in progress. -/
def Lane.lcBegin (n : Lane) (p : LcPending) : Lane := (n.setF F.SYS_LCSTAT.BUSY 1).upSys fun s => { s with lc := some p }

/-- LC_PROVISION, LC_FIELD, LC_TOKEN and LC_RETURN: a write of SYS_LCCMD. -/
def lcCmd (org : Nat) (v : W32) (n : Lane) : Lane :=
  let st := n.f F.SYS_LCS.STATE
  let cmd := F.SYS_LCCMD.CMD.val v
  if F.SYS_LCCMD.KEY.val v ≠ 0x4C43 then n
  else if !fromHost org || n.on F.SYS_LCSTAT.BUSY then n.rejectState org R.SYS_LCCMD
  else if cmd = 1 ∧ st = 1 ∧ n.f F.SYS_KEYSTAT.SET ≠ 0 then n.lcBegin { toState := 2, toBase := 2, cmd := 1 }
  else if cmd = 2 ∧ st = 2 ∧ n.f F.SYS_ASHSTAT.STATE = 2 then n.lcBegin { toState := 3, toBase := 3, cmd := 2 }
  else if cmd = 3 ∧ 2 ≤ st ∧ st ≤ 4 then (n.setF F.SYS_LCSTAT.BUSY 1).upSys fun s => { s with token := some org }
  else if cmd = 4 ∧ st = 1 ∧ n.atRest then n.lcBegin { toState := 5, toBase := 5, cmd := 4, ret := true }
  else n.rejectState org R.SYS_LCCMD

/-- A life-cycle command ends with RESULT `res`. -/
def Lane.lcDone (n : Lane) (cmd res : Nat) : Lane :=
  (n.setFs [(F.SYS_LCSTAT.RESULT, res), (F.SYS_LCSTAT.CMD, cmd), (F.SYS_LCSTAT.BUSY, 0)]).sqEvent F.SYS_LCSTAT.DONE

/-- LIFECYCLE_WRITE_COMPLETE (R484): both copies are written, the older first; STATE and BASE change. -/
def lcWriteComplete (n : Lane) : Lane :=
  match n.sys.lc with
  | none => n
  | some p =>
    let q := max n.mram.lcA.seq n.mram.lcB.seq
    let c1 : LcCopy := { seq := q + 1, state := p.toBase }
    let c2 : LcCopy := { seq := q + 2, state := p.toBase }
    let n := n.upMram fun m => if m.lcB.seq < m.lcA.seq then { m with lcB := c1, lcA := c2 } else { m with lcA := c1, lcB := c2 }
    let n := (n.upMram fun m => { m with erasing := m.erasing || p.ret }).upSys fun s => { s with lc := none }
    (n.setFs [(F.SYS_LCS.STATE, p.toState), (F.SYS_LCS.BASE, p.toBase)]).lcDone p.cmd 1

/-- RETURNED_ERASE_COMPLETE (R489): the erasure is done and a warm start follows. -/
def eraseComplete (n : Lane) : Lane :=
  if n.mram.erasing then
    let n := n.upMram fun m => { m with slots := [], slotSt := [], setA := [], setB := [], setLive := 0, cairn := [], keys := [], erasing := false }
    n.start false 6
  else n

/-! ## Tokens (R487, R488) -/

/-- The 160 bytes of SYS_TOKw. -/
def Lane.tokenBytes (n : Lane) : List Nat := (n.regBytes (R.SYS_TOKw 0) 40).map fun b => b.toNat

/-- The first check of R488 that fails, as RESULT. -/
def Lane.tokenBad (n : Lane) (t : List Nat) : Option Nat :=
  let key := slice t 0x20 33
  firstBad [(u32 t 0 != 0x4E4B4F54 || u16 t 4 != 1, 2),
    (u32 t 8 != (n.rd R.SYS_UIDL).toNat || u32 t 0x0C != (n.rd R.SYS_UIDH).toNat, 3),
    (u32 t 0x10 != n.sys.nonceL.toNat || u32 t 0x14 != n.sys.nonceH.toNat, 4),
    (!n.keyGood (u8 t 0x18) || sha256 key != n.keyHash (u8 t 0x18), 5),
    (!ecdsaOk key (t.take 0x60) (slice t 0x60 64), 6)]

/-- The permissions of an accepted token, in order: revocations, RETURN, SERVICE. -/
def Lane.tokenApply (n : Lane) (org perm : Nat) : Lane :=
  let st := n.f F.SYS_LCS.STATE
  let rev := nb perm 7 4
  let after := n.mram.revoked ||| rev
  let revOk := rev != 0 && [0, 1, 2, 3].any fun k => n.keySet k && !after.testBit k
  let n := if revOk then (n.upMram fun m => { m with revoked := after }).showKeys else n
  let ret := perm.testBit 1 && st == 4
  let srv := perm.testBit 0 && (st == 2 || st == 3)
  if ret && n.atRest then n.lcBegin { toState := 5, toBase := 5, cmd := 3, ret := true }
  else if ret then (n.rejectState org R.SYS_LCCMD).lcDone 3 (if revOk then 1 else 7)
  else if srv then (n.setF F.SYS_LCS.STATE 4).lcDone 3 1
  else n.lcDone 3 (if revOk then 1 else 7)

/-- TOKEN_CHECK_COMPLETE (R488). -/
def tokenCheck (n : Lane) : Lane :=
  match n.sys.token with
  | none => n
  | some org =>
    let t := n.tokenBytes
    let m := n.upSys fun s => { s with token := none }
    (match n.tokenBad t with
     | some res => m.lcDone 3 res
     | none => m.tokenApply org (u16 t 6)).newNonce

/-! ## Self-test on command (R490, R491) -/

/-- The test ends in a warm start. -/
def SelfTest.restarts (x : SelfTest) : Bool :=
  x.parts.testBit 3 || x.parts.testBit 4 || x.parts.testBit 5 || x.mems.testBit 0 || x.mems.testBit 1 || x.mems.testBit 2

/-- Group `g` depends on a partition of `mask` (R39). -/
def Lane.groupNeeds (n : Lane) (mask g : Nat) : Bool :=
  let a := n.sys.ash
  groupOut { a with removed := removedRoutes a.all a.deps mask } mask g

/-- Domain `d` reads EXITING for a test: its residency goes on in the state it leaves, and what was requested of it is dropped (R461, R491). -/
def Lane.testBegin (n : Lane) (d : Nat) : Lane :=
  let st := n.domState d
  let from_ := if st = 4 then Cells.get 0 n.pwr.leaving d else if st = 3 then 0 else st
  let n := (n.setDom d 4).setFs [(F.PWR_Dd_STAT.TARGET d, 0), (F.PWR_Dd_STAT.PVAL d, 0), (F.PWR_Dd_STAT.PEND d, 0)]
  n.upPwr fun x => { x with leaving := Cells.set 0 x.leaving d from_, late := x.late.filter (· != d) }

/-- COMMAND_SELF_TEST: a write of YAR_CMD. -/
def yarCmd (org : Nat) (v : W32) (n : Lane) : Lane :=
  if F.YAR_CMD.START.val v = 0 then n
  else
    let st := n.f F.SYS_LCS.STATE
    let x : SelfTest := { parts := F.YAR_CMD.PARTS.val v, mems := F.YAR_CMD.MEMS.val v }
    if (n.on F.SYS_LCS.ENF && (st == 2 || st == 3)) || n.on F.YAR_STAT.BUSY || x.parts % 8 != 0 || !n.atRest then n.rejectState org R.YAR_CMD
    else
      let n := (n.setFs [(F.YAR_STAT.STATE, 2), (F.YAR_STAT.PHASE, if x.parts = 0 then 2 else 1), (F.YAR_STAT.BUSY, 1)]).upSys fun s => { s with selfTest := some x }
      if x.restarts then n
      else
        let n := forEach [0, 1, 2] (fun g n => if n.groupNeeds (failedParts x.parts x.mems) g then n.moveGrp g gUNARMED else n) n
        forEach x.domains (fun d n => (n.testBegin d).portsFollow) n

/-- The tested blocks of CORE and the tested domains are restored as on exit from OFF. -/
def Lane.testRestore (n : Lane) (x : SelfTest) : Lane :=
  let n := if x.parts.testBit 6 then
      let n := { n with lnt := { hbT := n.now, sentT := n.now } }
      (n.resetRange 0x007000 0x008000).restoreWhere fun o => decide (0x007000 ≤ o) && decide (o < 0x008000)
    else n
  let n := if x.parts.testBit 14 then
      (n.upHst fun h => { h with run := [], ra := [], tagged := [] }).resetRange 0x078000 0x080000
    else n
  forEach x.domains (fun d n =>
    let n := n.domRestore d
    let n := if d = dCFE then n.copyActiveTables else n
    let n := if n.domUnusable d then ((n.setDom d 2).setFs [(F.PWR_Dd_STAT.PVAL d, 0), (F.PWR_Dd_STAT.PEND d, 0)]).pwrNotify d 2
      else (((n.setDom d 0).pwrNotify d 0).idleRestart d).applyPend d
    n.portsFollow) n

/-- The end of a command self-test, up to the accesses that waited for it (R491). -/
def selfTestEnd (parts mems : Nat) (words : List (BitVec 16)) (n : Lane) : Lane :=
  match n.sys.selfTest with
  | none => n
  | some x =>
    let n := n.upSys fun s => { s with selfTest := none }
    let p := parts &&& x.parts
    let m := mems &&& x.mems
    let failed := failedParts p m
    let n := ((n.yarrowRaise p m).showMems x.mems m words).showSigs x.parts p
    let n := n.setFs [(F.YAR_CMDRES.VALID, 1), (F.YAR_CMDRES.MEMS, m), (F.YAR_CMDRES.PARTS, failed),
      (F.YAR_STAT.STATE, 0), (F.YAR_STAT.PHASE, 0), (F.YAR_STAT.BUSY, 0)]
    let n := n.sqEventOnce F.YAR_EVT.DONE
    let n := if failed != 0 then n.sqEventOnce F.YAR_EVT.FAIL else n
    if x.restarts then n.start false 5
    else
      let old := n.f F.YAR_UNUSABLE.PARTS
      let now := old ||| failed
      let n := n.setFs [(F.YAR_UNUSABLE.PARTS, now), (F.YAR_UNUSABLE.MEMS, n.f F.YAR_UNUSABLE.MEMS ||| m),
        (F.SYS_LCS.PARTS_OUT, (List.range 16).countP fun q => now.testBit q)]
      let n := forEach (List.range 16) (fun q n => if failed.testBit q && !old.testBit q then n.raise 0x02 3 q else n) n
      (n.testRestore x).evalAll

/-! ## Commands -/

def execLaneRelease (l : LaneId) (t : Nat) (org : Origin) (v : W32) (s : State) : Host.Outcome State Fault Refusal :=
  onLane l t s fun n => n.regWrite org.code R.SYS_ARMCMD v (armCmd org.code v)
def execGroupArm (l : LaneId) (t : Nat) (org : Origin) (v : W32) (s : State) : Host.Outcome State Fault Refusal :=
  onLane l t s fun n => n.regWrite org.code R.SYS_ARMCMD v (armCmd org.code v)
def execLcProvision (l : LaneId) (t : Nat) (org : Origin) (v : W32) (s : State) : Host.Outcome State Fault Refusal :=
  onLane l t s fun n => n.regWrite org.code R.SYS_LCCMD v (lcCmd org.code v)
def execLcField (l : LaneId) (t : Nat) (org : Origin) (v : W32) (s : State) : Host.Outcome State Fault Refusal :=
  onLane l t s fun n => n.regWrite org.code R.SYS_LCCMD v (lcCmd org.code v)
def execLcToken (l : LaneId) (t : Nat) (org : Origin) (v : W32) (s : State) : Host.Outcome State Fault Refusal :=
  onLane l t s fun n => n.regWrite org.code R.SYS_LCCMD v (lcCmd org.code v)
def execLcReturn (l : LaneId) (t : Nat) (org : Origin) (v : W32) (s : State) : Host.Outcome State Fault Refusal :=
  onLane l t s fun n => n.regWrite org.code R.SYS_LCCMD v (lcCmd org.code v)
def execTokenCheckComplete (l : LaneId) (t : Nat) (s : State) : Host.Outcome State Fault Refusal := onDomain l t dCORE s tokenCheck
def execLifecycleWriteComplete (l : LaneId) (t : Nat) (s : State) : Host.Outcome State Fault Refusal := onDomain l t dCORE s lcWriteComplete
def execReturnedEraseComplete (l : LaneId) (t : Nat) (s : State) : Host.Outcome State Fault Refusal := onDomain l t dCORE s eraseComplete
def execCommandSelfTest (l : LaneId) (t : Nat) (org : Origin) (v : W32) (s : State) : Host.Outcome State Fault Refusal :=
  onLane l t s fun n => n.regWrite org.code R.YAR_CMD v (yarCmd org.code v)

end Sys2Proof.Machine
end

