-- ==== Sys2Proof/Machine/Upd.lean ====
section
/-! DEFINITION. The update engine (spec/17): transfers and their relay (R422 to R428), activation (R429 to R435) and settings records
(R436 to R439). Course boundaries and deliveries reach it from TpeCmd.lean, the ends of handlers from Oapiec.lean. -/

namespace Sys2Proof.Machine

/-! ## Status (R434, R438, R441) -/

/-- The service state holds (R434). -/
def Lane.service (n : Lane) : Bool :=
  n.on F.SAF_STAT.SERVICE && n.f F.SAF_STAT.SBOON == 0
    && ([0, 1, 2].all fun g => n.grp g == gUNARMED || n.grp g == gIDLE || n.grp g == gTRIPPED)
    && (n.sys.ash.routes.all fun r => r.kind != 1 || n.on (F.FBI_CHn_STAT.STILL r.source))

/-- UPD_STAT as it reads. -/
def Lane.updStat (n : Lane) : W32 := setBits (n.rd R.UPD_STAT) 25 25 (b1 n.service)

/-- The Oapiec UPD event (R441). -/
def Lane.updEvent (n : Lane) : Lane := n.eventW 8 n.updStat

/-- XSTATE and STEP change, each change with its event (R441). -/
def Lane.setX (n : Lane) (x : Nat) : Lane :=
  if n.f F.UPD_STAT.XSTATE = x then n else (n.setF F.UPD_STAT.XSTATE x).updEvent
def Lane.setStep (n : Lane) (k : Nat) : Lane :=
  if n.f F.UPD_HOSTAT.STEP = k then n else (n.setF F.UPD_HOSTAT.STEP k).updEvent

/-- XSTATE values. -/
def xIDLE : Nat := 0
def xRECEIVING : Nat := 1
def xVERIFYING : Nat := 2
def xFORWARD : Nat := 3
def xDONE : Nat := 4
def xFAILED : Nat := 5

/-- This node is the source of the chain (R424). -/
def Lane.isSource (n : Lane) : Bool := n.f F.UPD_RELAY.UPNODE == n.node

/-! ## Transfers (R421, R422, R425, R428) -/

/-- A transfer with tag `tag` begins; one still storing leaves its slot EMPTY, one stored whole is still verified (R423). -/
def Lane.newXfer (n : Lane) (tag : Nat) : Lane :=
  let n := match n.upd.xfer with
    | some x => (match x.slot with
      | some s => if x.verify then n.upUpd fun u => { u with checks := u.checks ++ [s] } else n.setSlot s lEMPTY
      | none => n)
    | none => n
  let n := n.upUpd fun u => { u with xfer := some { tag := tag }, asm := none, frags := [] }
  (n.setFs [(F.UPD_XFER.TAG, tag), (F.UPD_XFER.NBLK, 0), (F.UPD_XFER.HAVE, 0), (F.UPD_STAT.TTYPE, 0)]).setX xRECEIVING

/-- The transfer `tag` is the current one, or it begins now. -/
def Lane.withXfer (n : Lane) (tag : Nat) : Lane :=
  if n.f F.UPD_STAT.XSTATE = xIDLE ∨ n.f F.UPD_XFER.TAG ≠ tag then n.newXfer tag else n

/-- FRAGMENT_RECEIVE (R425): the 34 words of a fragment. -/
def Lane.fragReceive (n : Lane) (ws : List W32) : Lane :=
  let w0 := ws.getD 0 0#32
  let key := (bits w0 31 24, bits w0 23 12, ws.getD 1 0#32)
  let n := n.withXfer key.1
  let n := if n.upd.asm = some key then n else n.upUpd fun u => { u with asm := some key, frags := [] }
  let fr := Cells.put n.upd.frags (bits w0 11 7) ((ws.drop 2).take 32)
  if fr.length = 32 then
    n.upUpd fun u => { u with
      asm := none, frags := []
      blocks := u.blocks ++ [{ tag := key.1, block := key.2.1, crc := key.2.2, words := fr.flatMap fun p => p.2 }] }
  else n.upUpd fun u => { u with frags := fr }

/-- The header of a block 0 names an image this device knows (R422, first column). -/
def headerKnown (img : List Nat) : Bool :=
  u32 img 0 == 0x5658494D && u16 img 4 == 1 && decide (1 ≤ imgType img) && decide (imgType img ≤ 3) && u16 img 0x0C == 0x8624

/-- The inactive slot of a type may be written (R428, R435). -/
def Lane.mayStore (n : Lane) (ty : Nat) : Bool :=
  !(ty == tPOLICY && (n.upd.act.any fun a => a.ty == tPOLICY)) && !(ty == tASHLAR && (typeSlots ty).any fun s => n.slotSt s == lPENDING)

/-- Bytes of an image slot's capacity that an image of this header fills. -/
def slotBytes (img : List Nat) : Nat := 192 + min (imgBodyLen img) (maxBody (imgType img))

/-- Block 0 is complete: what becomes of the transfer (R422). -/
def Lane.decide_ (n : Lane) (x : Xfer) (img : List Nat) : Lane :=
  let blocks := (192 + imgBodyLen img + 4095) / 4096
  let fwd := fun (n : Lane) => (n.upUpd fun u => { u with xfer := some { x with decided := true, nblk := blocks } }).setX xFORWARD
  let n := n.setF F.UPD_XFER.NBLK blocks
  if headerKnown img = false then fwd (n.updRaise 3 0xFFFF)
  else
    let ty := imgType img
    let s := n.inactiveSlot ty
    let n := n.setF F.UPD_STAT.TTYPE ty
    if n.covered img = false then fwd (n.updRaise 3 s)
    else if n.unitOk img && n.mayStore ty then
      let n := (n.setSlot s lRECEIVING).upMram fun m => { m with slots := Cells.put m.slots s (List.replicate (slotBytes img) 0#8) }
      n.upUpd fun u => { u with xfer := some { x with decided := true, nblk := blocks, slot := some s }, checks := u.checks.filter (· != s) }
    else fwd n

/-- The bytes of a block. -/
def Relay.bytes (b : Relay) : List Byte := (wordsBytes b.words).map fun x => BitVec.ofNat 8 x

/-- A block is written into slot `s`. -/
def Lane.storeBlock (n : Lane) (s : Nat) (b : Relay) : Lane :=
  n.upMram fun m =>
    let img := Cells.get [] m.slots s
    let at_ := 4096 * b.block
    { m with slots := Cells.put m.slots s ((img.take at_ ++ b.bytes ++ img.drop (at_ + 4096)).take img.length) }

/-- A good block of the current transfer: it is counted, decides when it is block 0, and is stored when it is the first copy. -/
def Lane.blockIn (n : Lane) (b : Relay) : Lane :=
  match n.upd.xfer with
  | none => n
  | some x =>
    if x.tag ≠ b.tag ∨ x.verify then n
    else
      let new := !x.got.contains b.block
      let x := if new then { x with got := b.block :: x.got, idle := if x.slot.isSome then x.idle else 0 } else x
      let n := (n.upUpd fun u => { u with xfer := some x }).setF F.UPD_XFER.HAVE x.got.length
      let n := if b.block = 0 ∧ x.decided = false then n.decide_ x (b.bytes.map fun c => c.toNat) else n
      match n.upd.xfer with
      | none => n
      | some x =>
        match x.slot with
        | none => n
        | some s =>
          if b.block < x.nblk ∧ !x.stored.contains b.block then
            let n := n.storeBlock s b
            let x := { x with stored := b.block :: x.stored, idle := 0 }
            let full := x.stored.length == x.nblk
            let n := n.upUpd fun u => { u with xfer := some { x with verify := full } }
            if full then n.setX xVERIFYING else n
          else n

/-! ## Sending (R424, R426) -/

/-- The words of the fragment at the head of a queued block. -/
def Relay.fragment (b : Relay) : List W32 :=
  [BitVec.ofNat 32 (b.tag * 2 ^ 24 + b.block * 2 ^ 12 + b.frag * 2 ^ 7), b.crc] ++ (b.words.drop (32 * b.frag)).take 32

/-- FRAGMENT_SEND (R426): a claim is placed in TPE_CLAIM3 for the fragment at the head, which is committed into TXBUF. -/
def Lane.relayClaim (n : Lane) : Lane :=
  match n.upd.queue with
  | [] => n
  | b :: _ =>
    if b.ready && !n.upd.claim && n.domOn dTPE && n.domOn dAUX then
      let tx := n.f F.UPD_RELAY.TXBUF
      let n := (n.bufPut tx (n.f (F.TPE_BUFb_STAT.WIDX tx)) b.fragment).commit tx
      let n := n.setFs [(F.TPE_CLAIMk.PRIO 3, n.f F.UPD_RELAY.PRIO), (F.TPE_CLAIMk.CLEN 3, 17), (F.TPE_CLAIMk.CBUF 3, tx),
        (F.TPE_CLAIMk.VAL 3, 1)]
      n.upUpd fun u => { u with claim := true }
    else n

/-- The fragment at the head has been fetched for its grant. -/
def Lane.relayFetched (n : Lane) : Lane :=
  match n.upd.queue with
  | [] => n
  | b :: rest =>
    (n.upUpd fun u => { u with claim := false, queue := if b.frag = 31 then rest else { b with frag := b.frag + 1 } :: rest }).relayClaim.checkHolds

/-- At the mortar gap a claim that was not granted has lapsed and is placed again. -/
def Lane.relayGap (n : Lane) : Lane :=
  let tx := n.f F.UPD_RELAY.TXBUF
  if n.upd.claim && !n.on (F.TPE_CLAIMk.VAL 3) && !(n.tpe.gnext.any fun g => g.origin == n.node && g.buf == tx) then
    (n.upUpd fun u => { u with claim := false }).relayClaim
  else n

/-- BLOCK_HANDLE (R425): a completed block is checked, stored and queued, or discarded. -/
def blockHandle (n : Lane) : Lane :=
  match n.upd.blocks with
  | [] => n
  | b :: rest =>
    let n := n.upUpd fun u => { u with blocks := rest }
    if crc32 (wordsBytes b.words) ≠ b.crc.toNat ∨ n.injArmed 0xE0 b.block then ((n.sqEventOnce F.UPD_EVT.BLOCKERR).updRaise 1 b.block).checkHolds
    else
      let n := n.blockIn b
      let n := if n.on F.UPD_RELAY.SENDER then (n.upUpd fun u => { u with queue := u.queue ++ [b] }).relayClaim else n
      n.checkHolds

/-- BLOCK_PUSH (R427): a write of UPD_SRCCMD. -/
def blockPush (org : Nat) (v : W32) (n : Lane) : Lane :=
  if F.UPD_SRCCMD.PUSH.val v = 0 then n
  else if n.isSource = false then n.rejectState org R.UPD_SRCCMD
  else
    let tag := F.UPD_SRCCMD.TAG.val v
    let n := n.withXfer tag
    let ws := (List.range 1024).map fun w => n.rd (R.UPD_STAGEw w)
    n.upUpd fun u => { u with
      blocks := u.blocks ++ [{ tag := tag, block := F.UPD_SRCCMD.BLOCK.val v, crc := BitVec.ofNat 32 (crc32 (wordsBytes ws)), words := ws }] }

/-- Slot `s`, stored whole, is verified (R423, R428). -/
def Lane.slotVerify (n : Lane) (s : Nat) : Lane :=
  let ok := n.verified (s / 2 + 1) (n.slotImg s)
  let n := n.setSlot s (if ok then lSTORED else lREFUSED)
  (if ok then n else n.verifyRaise s).sqEventOnce F.UPD_EVT.XDONE

/-- IMAGE_VERIFY_COMPLETE (R423, R428): the slot of an earlier transfer first; the present transfer ends with its verification. -/
def imageVerify (n : Lane) : Lane :=
  match n.upd.checks with
  | s :: rest => ((n.slotVerify s).upUpd fun u => { u with checks := rest }).checkHolds
  | [] =>
    match n.upd.xfer with
    | none => n
    | some x =>
      match x.verify, x.slot with
      | true, some s => (((n.slotVerify s).upUpd fun u => { u with xfer := none }).setX xDONE).checkHolds
      | _, _ => n

/-- TRANSFER_TIMEOUT (R428): a storing node's slot is EMPTY; a transfer that stored nothing ends without a record. -/
def transferTimeout (n : Lane) : Lane :=
  match n.upd.xfer with
  | none => n
  | some x =>
    if x.verify ∨ x.idle < n.f F.UPD_XFERTO.TIMEOUT then n
    else
      let n := n.upUpd fun u => { u with xfer := none, asm := none, frags := [] }
      (match x.slot with
       | some s => (((n.setSlot s lEMPTY).sqEventOnce F.UPD_EVT.XFAIL).verifyRaise s).setX xFAILED
       | none => n.setX xIDLE).checkHolds

/-! ## The end of an activation (R430, R431, R433) -/

/-- The activation is over with RESULT `res`. -/
def Lane.actEnd (n : Lane) (res : Nat) : Lane :=
  (((n.upUpd fun u => { u with act := none }).setF F.UPD_HOSTAT.RESULT res).setStep 0).checkHolds

/-- It is abandoned: UPD activation (R431, R433). -/
def Lane.actAbandon (n : Lane) (slot : Nat) : Lane := ((n.sqEventOnce F.UPD_EVT.ACT).updRaise 4 slot).actEnd 3

/-- EXPORT disabled or abandoned (R440): the slot is STORED, the old image runs on, UPD activation is raised. -/
def Lane.exportFails (n : Lane) (slot : Nat) : Lane := (n.setSlot slot lSTORED).actAbandon slot

/-- The code banks are exchanged, or not, and clearing of the data memory begins in cycle `t`; nothing is dispatched meanwhile. -/
def Lane.clearData (n : Lane) (exchange : Bool) (a : Activation) (t : Nat) : Lane :=
  let n := n.upOap fun o => { o with
    bank := if exchange then 1 - o.bank else o.bank
    running := false, handler := none, loads := [], fence := false, stall := false }
  n.upUpd fun u => { u with act := some { a with phase := 4, clr := t } }

/-- POLICY_ROLLBACK (R431): the slot is STORED, the old image comes back. While the engine is stopped by a mismatch its restart is left
to R271. -/
def Lane.actRollback (n : Lane) (a : Activation) : Lane :=
  let n := ((n.setSlot a.slot lSTORED).updRollback a.slot).settingsRollback
  if n.oap.frozen.isSome || n.oap.scrub.isSome || n.oap.stopped then
    (if a.phase = 4 ∨ a.phase = 5 then n.upOap fun o => { o with bank := 1 - o.bank } else n).actEnd 2
  else (n.clearData (decide (4 ≤ a.phase)) { a with back := true } (n.now + 1)).setStep 6

/-- EXPORT becomes pending at B; the deadline is the next boundary (R430, R431). -/
def Lane.actBoundary (n : Lane) : Lane :=
  match n.upd.act with
  | none => n
  | some a =>
    if a.ty ≠ tPOLICY then n
    else if a.phase = 2 then
      let n := (n.upUpd fun u => { u with act := some { a with phase := 3, b := n.now } }).setStep 3
      if n.evEnabled 9 then n.eventW 9 (BitVec.ofNat 32 n.course) else n.exportFails a.slot
    else if 3 ≤ a.phase ∧ a.back = false then n.actRollback a
    else n

/-- The handler of event `e` has executed DONE, complete in cycle `t` (R430). -/
def Lane.actDone (n : Lane) (e t : Nat) : Lane :=
  match n.upd.act with
  | none => n
  | some a =>
    if a.ty ≠ tPOLICY then n
    else if a.phase = 3 ∧ e = 9 then (n.clearData true a (t + 1)).setStep 4
    else if a.phase = 4 ∧ e = 0 then
      if n.evEnabled 10 then
        let n := n.upUpd fun u => { u with act := some { a with phase := 5 } }
        (if a.back then n else n.setStep 5).eventW 10 (if a.back then 2#32 else 1#32)
      else if a.back then n.actEnd 2 else n.actRollback a
    else if a.phase = 5 ∧ e = 10 then
      if a.back then n.actEnd 2
      else
        let n := n.setSlot a.slot lTRIAL
        let n := match a.old with
          | some s => n.setSlot s lACCEPTED
          | none => n
        ((n.setF F.UPD_HOSTAT.TIME (min 65535 ((t - a.b) / 400))).sqEventOnce F.UPD_EVT.ACT).actEnd 1
    else n

/-- The handler of event `e` has been abandoned (R431). -/
def Lane.actAbandoned (n : Lane) (e : Nat) : Lane :=
  match n.upd.act with
  | none => n
  | some a =>
    if a.ty ≠ tPOLICY then n
    else if a.phase = 3 ∧ e = 9 then n.exportFails a.slot
    else if (a.phase = 4 ∧ e = 0) ∨ (a.phase = 5 ∧ e = 10) then (if a.back then n.actEnd 2 else n.actRollback a)
    else n

/-- A lockstep mismatch between B and step 7 (R431): the activation counts as rolled back, and the old bank is active again. -/
def Lane.actMismatch (n : Lane) : Lane :=
  match n.upd.act with
  | none => n
  | some a =>
    if a.ty ≠ tPOLICY ∨ a.phase < 3 then n
    else if a.back then n.actEnd 2
    else n.actRollback a

/-! ## UPD_ACTCMD (R429, R432, R433, R435) -/

/-- ACTIVATE of type 1 waits for the gateway role to be handed over (R432). -/
def Lane.roleHolds (n : Lane) : Bool :=
  n.role == roleTAKING || n.role == roleYIELDING || (n.role == roleACTIVE && n.peerCanTake)

/-- The mask of the groups in the TABLES image of slot `s`. -/
def Lane.slotMask (n : Lane) (s : Nat) : Nat := tablesMask (imgBody (n.slotImg s))

/-- A write of UPD to the inactive banks, or its SWAP, would be rejected for a group of the mask (R221). -/
def Lane.tabRefused (n : Lane) (mask banks : Nat) : Bool :=
  [0, 1].any fun g => mask.testBit g && (n.bit F.CFE_TBLSTAT.PEND g || n.tabBusy g || n.bit F.CFE_TBLSTAT.BANK g != banks.testBit g)

/-- The copy of the TABLES image of slot `s` begins (R433). -/
def Lane.tablesBegin (n : Lane) (s : Nat) (old : Option Nat) (revert : Bool) : Lane :=
  let n := n.setF F.UPD_HOSTAT.RESULT 0
  let a : Activation := { ty := tTABLES, slot := s, old := old, b := n.now, banks := n.f F.CFE_TBLSTAT.BANK, revert := revert }
  let n := (n.upUpd fun u => { u with act := some a }).wake dCFE
  if n.domOn dCFE && n.tabRefused (n.slotMask s) a.banks then n.actAbandon s else n.checkHolds

/-- ACTIVATE (R429, R430, R433, R435). -/
def Lane.activate (n : Lane) (org ty : Nat) : Lane :=
  let s := n.inactiveSlot ty
  let ready := n.slotSt s == lSTORED || n.slotSt s == lACCEPTED
  if ty = 0 ∨ !ready ∨ n.upd.act.isSome ∨ (ty = tPOLICY ∧ n.roleHolds) ∨ (ty = tASHLAR ∧ !n.service) then n.rejectState org R.UPD_ACTCMD
  else if ty = tPOLICY then
    let n := n.setF F.UPD_HOSTAT.RESULT 0
    ((n.upUpd fun u => { u with act := some { ty := ty, slot := s, old := n.activeSlot ty, b := n.now } }).setStep 1).checkHolds
  else if ty = tASHLAR then n.setSlot s lPENDING
  else n.tablesBegin s (n.activeSlot ty) false

/-- CONFIRM (R429). -/
def Lane.confirm (n : Lane) (org ty : Nat) : Lane :=
  match (if ty = 0 then [] else typeSlots ty).find? fun s => n.slotSt s == lTRIAL with
  | some s =>
    if n.upd.act.any fun a => a.ty == tPOLICY then n.rejectState org R.UPD_ACTCMD
    else (n.setSlot s lACTIVE).setSlot (partner s) lACCEPTED
  | none => n.rejectState org R.UPD_ACTCMD

/-- REVERT (R433, R435). -/
def Lane.revert (n : Lane) (org ty : Nat) : Lane :=
  let slots := if ty = 0 then [] else typeSlots ty
  let with_ := fun st => slots.find? fun s => n.slotSt s == st
  if ty = tTABLES then
    match with_ lTRIAL, with_ lACCEPTED, n.upd.act with
    | some s, some p, none => n.tablesBegin p (some s) true
    | _, _, _ => n.rejectState org R.UPD_ACTCMD
  else if ty = tASHLAR ∧ n.service then
    match with_ lPENDING, with_ lTRIAL with
    | some s, _ => n.setSlot s lSTORED
    | none, some s =>
      let n' := n.setSlot s lSTORED
      if n.slotSt (partner s) = lACCEPTED then n'.setSlot (partner s) lPENDING else n'
    | none, none => n.rejectState org R.UPD_ACTCMD
  else n.rejectState org R.UPD_ACTCMD

/-- A write of UPD_ACTCMD. -/
def actCmd (org : Nat) (v : W32) (n : Lane) : Lane :=
  let ty := F.UPD_ACTCMD.TYPE.val v
  let cmd := F.UPD_ACTCMD.CMD.val v
  if cmd = 1 then n.activate org ty
  else if cmd = 2 then n.confirm org ty
  else if cmd = 3 then n.revert org ty
  else n.rejectState org R.UPD_ACTCMD

/-- POLICY_PREPARE_COMPLETE (R430, step 1). -/
def policyPrepare (n : Lane) : Lane :=
  match n.upd.act with
  | none => n
  | some a =>
    if a.ty = tPOLICY ∧ a.phase = 1 then
      let body := (Cells.get [] n.mram.slots a.slot).drop 128 |>.take (imgBodyLen (n.slotImg a.slot))
      let n := n.upOap fun o => o.setShadow (bankOf body)
      (n.upUpd fun u => { u with act := some { a with phase := 2 } }).setStep 2
    else n

/-- DATA_CLEAR_COMPLETE (R430, step 5): 65,536 LCLK after the clearing began the image restarts with cause 3. -/
def dataClear (n : Lane) : Lane :=
  match n.upd.act with
  | none => n
  | some a =>
    if a.ty = tPOLICY ∧ a.phase = 4 ∧ !n.oap.running ∧ a.clr + 65536 ≤ n.now then (n.engineRestart 3).checkHolds else n

/-- TABLE_COPY_COMPLETE (R433): 25,088 LCLK per group after it began the copy ends with SWAP. -/
def tableCopy (n : Lane) : Lane :=
  match n.upd.act with
  | none => n
  | some a =>
    let mask := n.slotMask a.slot
    if a.ty = tTABLES ∧ a.b + 25088 * popBits mask ≤ n.now then
      if n.domOn dCFE = false then n.wake dCFE
      else if n.tabRefused mask a.banks || !(n.slotSt a.slot == lSTORED || n.slotSt a.slot == lACCEPTED) then n.actAbandon a.slot
      else
        let body := imgBody (n.slotImg a.slot)
        let n := forEach [0, 1] (fun g n =>
          if mask.testBit g then (n.copyTables body g (if n.bit F.CFE_TBLSTAT.BANK g then 0 else 1)).cfeCmd g 3 else n) n
        let n := n.setSlot a.slot (if a.revert then lACTIVE else lTRIAL)
        let n := match a.old with
          | some s => n.setSlot s (if a.revert then lSTORED else lACCEPTED)
          | none => n
        (n.sqEventOnce F.UPD_EVT.ACT).actEnd 1
    else n

/-! ## Settings (R436 to R438) -/

/-- While a TRIAL policy has changed the record's version, the predecessor's record is kept (R438). -/
def Lane.recordKept (n : Lane) : Bool :=
  (match n.activeSlot tPOLICY with
   | some s => n.slotSt s == lTRIAL
   | none => false) && n.retVal && n.liveVal && n.setVer n.workArea != n.setVer n.liveArea

/-- The work header holds what R437 asks. -/
def Lane.commitOk (n : Lane) : Bool :=
  let k := n.workArea
  let len := (n.setWord k 2).toNat
  n.setWord k 0 == 0x47544553#32 && len % 4 == 0 && decide (len ≤ 16352)
    && crc32 (wordsBytes ((List.range (len / 4)).map fun i => n.setWord k (8 + i))) == (n.setWord k 4).toNat
    && n.verIn (n.setVer k) && (!n.liveVal || n.setWord k 3 == n.setWord n.liveArea 3 + 1#32)

/-- SETTINGS_COMMIT (R437): a write of UPD_SETCMD. -/
def settingsCommit (org : Nat) (v : W32) (n : Lane) : Lane :=
  if F.UPD_SETCMD.COMMIT.val v = 0 then n
  else if n.commitOk && !n.recordKept then
    let had := n.liveVal
    let n := n.exchangeAreas
    if had then n else n.putSetSt n.workArea 0
  else ((n.rejectState org R.UPD_SETCMD).sqEventOnce F.UPD_EVT.MIG).updRaise 6 (n.setVer n.workArea)

/-- A word write of the work area at byte offset `o`: STATE keeps (R437, R438). -/
def workWrite (org off : Nat) (v : W32) (n : Lane) : Lane :=
  let w := (off - 0x088000) / 4
  if n.recordKept then n.rejectState org off
  else if w = 1 then n.putSetWord n.workArea 1 (setBits v 31 16 (n.setSt n.workArea))
  else n.putSetWord n.workArea w v

/-! ## Enable, views -/

/-- UPD_BLOCK_ENABLE (R442). -/
def updEnable (org : Nat) (v : W32) (n : Lane) : Lane :=
  if F.UPD_CTRL.EN.val v = 0 ∧ n.on F.UPD_CTRL.EN ∧ (n.upd.xfer.isSome ∨ n.upd.act.isSome) then n.rejectState org R.UPD_CTRL
  else n.store R.UPD_CTRL v

/-- UPD registers computed when read: UPD_STAT.SVC, UPD_SETSTAT (R438) and the slots (R421). -/
def Lane.updView (n : Lane) (off : Nat) : W32 :=
  if off = R.UPD_STAT then n.updStat
  else if off = R.UPD_SETSTAT then
    let v := n.setVer n.liveArea
    let hi := (n.setRange.getD (0, 0)).2
    let live := n.liveVal
    BitVec.ofNat 32 ((if live then v * 65536 else 0) + 8 * b1 (live && decide (v < hi)) + 4 * b1 (live && n.verIn v) + 2 * b1 n.retVal + b1 live)
  else match [0, 1, 2, 3, 4, 5].find? fun s => decide (R.UPD_SLOTs_STAT s ≤ off) && decide (off < R.UPD_SLOTs_STAT s + 12) with
    | some s =>
      let img := n.slotImg s
      let st := n.slotSt s
      if off = R.UPD_SLOTs_STAT s then BitVec.ofNat 32 (st * 2 ^ 28 + (if st = lEMPTY then 0 else b1 (imgBound img) * 2 ^ 27 + imgKeySlot img % 4 * 2 ^ 25))
      else if st = lEMPTY then 0#32
      else if off = R.UPD_SLOTs_VER s then BitVec.ofNat 32 (imgVersion img)
      else BitVec.ofNat 32 (imgBodyLen img)
    | none => n.rd off

/-! ## Deliveries and boundaries -/

/-- UPD takes the newest copy of RXBUF (R425). -/
def Lane.updTake (n : Lane) : Lane :=
  let b := n.f F.UPD_RELAY.RXBUF
  ((n.upUpd fun u => { u with due := false }).fragReceive (n.bufNew b)).checkHolds

/-- A frame of node `origin` was delivered into buffer `b` (R425, R452). -/
def Lane.updDelivered (n : Lane) (origin b : Nat) : Lane :=
  if n.on F.UPD_CTRL.EN && b == n.f F.UPD_RELAY.RXBUF && origin == n.f F.UPD_RELAY.UPNODE && n.f (F.TPE_BUFb_CFG.LEN b) == 17 then
    if n.domOn dAUX then n.updTake else if n.domState dAUX = 2 then n else (n.upUpd fun u => { u with due := true }).wake dAUX
  else n

/-- What UPD does in a boundary cycle. -/
def Lane.updBoundary (n : Lane) : Lane :=
  let n := n.upUpd fun u => { u with
    xfer := u.xfer.map fun x => if x.verify then x else { x with idle := x.idle + 1 }
    blocks := u.blocks.map fun b => { b with ready := true }
    queue := u.queue.map fun b => { b with ready := true } }
  n.actBoundary.relayClaim

/-! ## Commands -/

def execBlockHandle (l : LaneId) (t : Nat) (s : State) : Host.Outcome State Fault Refusal := onDomain l t dAUX s blockHandle
def execBlockPush (l : LaneId) (t : Nat) (org : Origin) (v : W32) (s : State) : Host.Outcome State Fault Refusal :=
  onLane l t s fun n => n.regWrite org.code R.UPD_SRCCMD v (blockPush org.code v)
def execImageVerifyComplete (l : LaneId) (t : Nat) (s : State) : Host.Outcome State Fault Refusal := onDomain l t dAUX s imageVerify
def execTransferTimeout (l : LaneId) (t : Nat) (s : State) : Host.Outcome State Fault Refusal := onDomain l t dAUX s transferTimeout
def execActivate (l : LaneId) (t : Nat) (org : Origin) (v : W32) (s : State) : Host.Outcome State Fault Refusal :=
  onLane l t s fun n => n.regWrite org.code R.UPD_ACTCMD v (actCmd org.code v)
def execConfirm (l : LaneId) (t : Nat) (org : Origin) (v : W32) (s : State) : Host.Outcome State Fault Refusal :=
  onLane l t s fun n => n.regWrite org.code R.UPD_ACTCMD v (actCmd org.code v)
def execRevert (l : LaneId) (t : Nat) (org : Origin) (v : W32) (s : State) : Host.Outcome State Fault Refusal :=
  onLane l t s fun n => n.regWrite org.code R.UPD_ACTCMD v (actCmd org.code v)
def execPolicyPrepareComplete (l : LaneId) (t : Nat) (s : State) : Host.Outcome State Fault Refusal := onDomain l t dAUX s policyPrepare
def execDataClearComplete (l : LaneId) (t : Nat) (s : State) : Host.Outcome State Fault Refusal := onDomain l t dAUX s dataClear
def execTableCopyComplete (l : LaneId) (t : Nat) (s : State) : Host.Outcome State Fault Refusal := onDomain l t dAUX s tableCopy
def execSettingsCommit (l : LaneId) (t : Nat) (org : Origin) (v : W32) (s : State) : Host.Outcome State Fault Refusal :=
  onLane l t s fun n => n.regWrite org.code R.UPD_SETCMD v (settingsCommit org.code v)
def execUpdBlockEnable (l : LaneId) (t : Nat) (org : Origin) (v : W32) (s : State) : Host.Outcome State Fault Refusal :=
  onLane l t s fun n => n.regWrite org.code R.UPD_CTRL v (updEnable org.code v)

end Sys2Proof.Machine
end

