-- ==== Sys2Proof/Machine/Oapiec.lean ====
section
/-! DEFINITION. The Oapiec engine (spec/10): its instructions (R247 to R255), events and handlers (R256 to R262), and what follows a
lockstep mismatch (R269 to R273). The lane-space half of its loads and stores is in Bus.lean. -/

namespace Sys2Proof.Machine

/-! ## Issue (R247, R250, R253, R259) -/

/-- General register `i`; w0 reads 0. -/
def Lane.gpr (n : Lane) (i : Nat) : W32 := if i = 0 then 0#32 else Cells.get 0#32 n.oap.gpr i

/-- Write general register `i`; a write to w0 is discarded. -/
def Lane.setGpr (n : Lane) (i : Nat) (v : W32) : Lane := if i = 0 then n else n.upOap fun o => { o with gpr := Cells.set 0#32 o.gpr i v }

/-- The budget of event `e` in LCLK. -/
def Lane.budget (n : Lane) (e : Nat) : Nat := if e = 0 then 400000 else bits (n.csr (csrEvCfg e)) 15 0

/-- The handler `e` has used up its budget. -/
def Lane.overBudget (n : Lane) (e : Nat) : Bool := decide (n.oap.startT + n.budget e ≤ n.now)

/-- The instruction in progress has completed. -/
def Lane.quiet (n : Lane) : Bool := n.oap.loads.isEmpty && !n.oap.fence && decide (n.oap.next ≤ n.now)

/-- The engine works: it has started and is neither stopped nor frozen. -/
def OapState.works (o : OapState) : Bool := o.running && !o.stopped && o.frozen.isNone

/-- An instruction of the running handler may issue in the present cycle; a store that waits for the write buffer is in progress and
completes whatever the budget (R259). -/
def Lane.canIssue (n : Lane) : Bool :=
  n.oap.works && n.quiet && (match n.oap.handler with
    | some e => n.oap.stall || !n.overBudget e
    | none => false)

/-- The running handler is abandoned (R260); an activation may end with it (R431). -/
def Lane.abandon (n : Lane) (cause : Nat) (adr : Option W32) : Lane :=
  match n.oap.handler with
  | none => n
  | some e => (n.abandonRaw cause adr).actAbandoned e

/-- A corrected error of a code word (R250). -/
def Lane.eccCode (n : Lane) (word : Nat) : Lane :=
  let c := n.csr cECC
  (if bits c 31 16 < 65535 then n.setCsrF cECC 31 16 (bits c 31 16 + 1) else n).raise 0x10 1 word

/-- A corrected error of a data word (R250). -/
def Lane.eccData (n : Lane) (word : Nat) : Lane :=
  let c := n.csr cECC
  (if bits c 15 0 < 65535 then n.setCsrF cECC 15 0 (bits c 15 0 + 1) else n).raise 0x10 1 word

/-- The word at the PC; the active bank ends at 0x3FFFF. -/
def Lane.codeWord (n : Lane) : Option W32 :=
  if n.oap.pc.toNat < 0x40000 then some (BitVec.ofNat 32 (cellsWord n.oap.active n.oap.pc.toNat 4)) else none

/-- The word at the PC is fetched; `fe` says that it was corrected (R250). A store that waits has been fetched before. -/
def Lane.fetch (n : Lane) (fe : Bool) : Lane := if fe && !n.oap.stall then n.eccCode n.pcWord else n

/-- An instruction of the running handler, whose word `w` is fetched at the PC. -/
def instruction (l : LaneId) (t : Nat) (w : W32) (fe : Bool) (s : State) (f : Lane → Lane) : Host.Outcome State Fault Refusal :=
  onDomain l t dCORE s fun n => if n.canIssue && n.codeWord == some w then f (n.fetch fe) else n

/-! ## Encodings (R251) -/

/-- The fields A and D. -/
def encAD (a d : BitVec 5) : Nat := a.toNat * 2 ^ 9 + d.toNat * 2 ^ 4

/-- Register, constant, memory, branch, call and system form. -/
def encR (fn : Nat) (d a b : BitVec 5) : W32 := BitVec.ofNat 32 (fn * 2 ^ 26 + b.toNat * 2 ^ 14 + encAD a d)
def encK (cls : Nat) (d a : BitVec 5) (k : BitVec 18) : W32 := BitVec.ofNat 32 (k.toNat * 2 ^ 14 + encAD a d + cls)
def encM (cls sz : Nat) (d a : BitVec 5) (k : BitVec 15) : W32 := BitVec.ofNat 32 (sz * 2 ^ 29 + k.toNat * 2 ^ 14 + encAD a d + cls)
def encB (cnd : Nat) (a b : BitVec 5) (k : BitVec 13) : W32 := BitVec.ofNat 32 (k.toNat * 2 ^ 19 + b.toNat * 2 ^ 14 + a.toNat * 2 ^ 9 + cnd * 2 ^ 4 + 0xB)
def encC (d : BitVec 5) (k : BitVec 23) : W32 := BitVec.ofNat 32 (k.toNat * 2 ^ 9 + d.toNat * 2 ^ 4 + 0xC)
def encS (fn : Nat) (d a : BitVec 5) (k : BitVec 12) : W32 := BitVec.ofNat 32 (fn * 2 ^ 26 + k.toNat * 2 ^ 14 + encAD a d + 0xE)

/-- The instruction is done: the next one is at `pc` and issues `cyc` cycles later. -/
def Lane.goto_ (n : Lane) (pc : W32) (cyc : Nat) : Lane := n.upOap fun o => { o with pc := pc, next := n.now + cyc }

/-- The next instruction follows. -/
def Lane.stepPc (n : Lane) (cyc : Nat) : Lane := n.goto_ (n.oap.pc + 4#32) cyc

/-- Register `d` takes `v` and the next instruction follows. -/
def Lane.result (n : Lane) (d : BitVec 5) (v : W32) (cyc : Nat) : Lane := (n.setGpr d.toNat v).stepPc cyc

/-- A jump: its target must lie in the active bank (R260); register `d` takes the return address. -/
def Lane.jump (n : Lane) (d : BitVec 5) (target : W32) (cyc : Nat) : Lane :=
  if 0x40000 ≤ target.toNat then n.abandon aACCESS none
  else (n.setGpr d.toNat (n.oap.pc + 4#32)).goto_ target cyc

/-- A branch (R252). -/
def Lane.branch (n : Lane) (taken : Bool) (k : BitVec 13) : Lane :=
  let target := n.oap.pc + 4#32 * k.signExtend 32
  if taken then (if 0x40000 ≤ target.toNat then n.abandon aACCESS none else n.goto_ target 3) else n.stepPc 1

/-- The register-form and constant-form instructions. -/
def regForm (fn : Nat) (l : LaneId) (t : Nat) (fe : Bool) (d a b : BitVec 5) (s : State) (cyc : Nat) (f : W32 → W32 → W32) :
    Host.Outcome State Fault Refusal :=
  instruction l t (encR fn d a b) fe s fun n => n.result d (f (n.gpr a.toNat) (n.gpr b.toNat)) cyc
def constForm (cls : Nat) (l : LaneId) (t : Nat) (fe : Bool) (d a : BitVec 5) (k : BitVec 18) (s : State) (f : W32 → W32) :
    Host.Outcome State Fault Refusal :=
  instruction l t (encK cls d a k) fe s fun n => n.result d (f (n.gpr a.toNat)) 1

/-! ## Arithmetic (R252, R254) -/

/-- 1 or 0. -/
def flag (b : Bool) : W32 := if b then 1#32 else 0#32

/-- Leading zeros of a word, 32 for 0. -/
def lzcOf (a : W32) : W32 := BitVec.ofNat 32 (((List.range 32).find? fun i => a.toNat.testBit (31 - i)).getD 32)

/-- Signed quotient and remainder. -/
def quosOf (a b : W32) : W32 :=
  if b = 0#32 then (if 0 ≤ a.toInt then 0x7FFFFFFF#32 else 0x80000000#32)
  else if a = 0x80000000#32 ∧ b = 0xFFFFFFFF#32 then 0x7FFFFFFF#32
  else BitVec.ofInt 32 (Int.tdiv a.toInt b.toInt)
def rmdsOf (a b : W32) : W32 := if b = 0#32 then 0#32 else BitVec.ofInt 32 (Int.tmod a.toInt b.toInt)

/-- Unsigned quotient and remainder. -/
def quouOf (a b : W32) : W32 := if b = 0#32 then 0xFFFFFFFF#32 else BitVec.ofNat 32 (a.toNat / b.toNat)
def rmduOf (a b : W32) : W32 := if b = 0#32 then 0#32 else BitVec.ofNat 32 (a.toNat % b.toNat)

/-- The upper half of a signed product. -/
def mulhsOf (a b : W32) : W32 := BitVec.ofInt 32 (a.toInt * b.toInt / 4294967296)
def mulhuOf (a b : W32) : W32 := BitVec.ofNat 32 (a.toNat * b.toNat / 4294967296)

def execAdd (l : LaneId) (t : Nat) (fe : Bool) (d a b : BitVec 5) (s : State) : Host.Outcome State Fault Refusal := regForm 0x00 l t fe d a b s 1 fun x y => x + y
def execSub (l : LaneId) (t : Nat) (fe : Bool) (d a b : BitVec 5) (s : State) : Host.Outcome State Fault Refusal := regForm 0x01 l t fe d a b s 1 fun x y => x - y
def execAndR (l : LaneId) (t : Nat) (fe : Bool) (d a b : BitVec 5) (s : State) : Host.Outcome State Fault Refusal := regForm 0x02 l t fe d a b s 1 fun x y => x &&& y
def execIorR (l : LaneId) (t : Nat) (fe : Bool) (d a b : BitVec 5) (s : State) : Host.Outcome State Fault Refusal := regForm 0x03 l t fe d a b s 1 fun x y => x ||| y
def execXorR (l : LaneId) (t : Nat) (fe : Bool) (d a b : BitVec 5) (s : State) : Host.Outcome State Fault Refusal := regForm 0x04 l t fe d a b s 1 fun x y => x ^^^ y
def execShl (l : LaneId) (t : Nat) (fe : Bool) (d a b : BitVec 5) (s : State) : Host.Outcome State Fault Refusal :=
  regForm 0x05 l t fe d a b s 1 fun x y => x <<< (y.toNat % 32)
def execShr (l : LaneId) (t : Nat) (fe : Bool) (d a b : BitVec 5) (s : State) : Host.Outcome State Fault Refusal :=
  regForm 0x06 l t fe d a b s 1 fun x y => x >>> (y.toNat % 32)
def execSha (l : LaneId) (t : Nat) (fe : Bool) (d a b : BitVec 5) (s : State) : Host.Outcome State Fault Refusal :=
  regForm 0x07 l t fe d a b s 1 fun x y => x.sshiftRight (y.toNat % 32)
def execClt (l : LaneId) (t : Nat) (fe : Bool) (d a b : BitVec 5) (s : State) : Host.Outcome State Fault Refusal := regForm 0x08 l t fe d a b s 1 fun x y => flag (x.slt y)
def execCltu (l : LaneId) (t : Nat) (fe : Bool) (d a b : BitVec 5) (s : State) : Host.Outcome State Fault Refusal := regForm 0x09 l t fe d a b s 1 fun x y => flag (x.ult y)
def execMins (l : LaneId) (t : Nat) (fe : Bool) (d a b : BitVec 5) (s : State) : Host.Outcome State Fault Refusal :=
  regForm 0x0A l t fe d a b s 1 fun x y => if x.slt y then x else y
def execMaxs (l : LaneId) (t : Nat) (fe : Bool) (d a b : BitVec 5) (s : State) : Host.Outcome State Fault Refusal :=
  regForm 0x0B l t fe d a b s 1 fun x y => if x.slt y then y else x
def execMinu (l : LaneId) (t : Nat) (fe : Bool) (d a b : BitVec 5) (s : State) : Host.Outcome State Fault Refusal :=
  regForm 0x0C l t fe d a b s 1 fun x y => if x.ult y then x else y
def execMaxu (l : LaneId) (t : Nat) (fe : Bool) (d a b : BitVec 5) (s : State) : Host.Outcome State Fault Refusal :=
  regForm 0x0D l t fe d a b s 1 fun x y => if x.ult y then y else x
def execLzc (l : LaneId) (t : Nat) (fe : Bool) (d a : BitVec 5) (s : State) : Host.Outcome State Fault Refusal := 
  instruction l t (encR 0x0E d a 0#5) fe s fun n => n.result d (lzcOf (n.gpr a.toNat)) 1
def execMull (l : LaneId) (t : Nat) (fe : Bool) (d a b : BitVec 5) (s : State) : Host.Outcome State Fault Refusal := regForm 0x10 l t fe d a b s 2 fun x y => x * y
def execMulhs (l : LaneId) (t : Nat) (fe : Bool) (d a b : BitVec 5) (s : State) : Host.Outcome State Fault Refusal := regForm 0x11 l t fe d a b s 2 mulhsOf
def execMulhu (l : LaneId) (t : Nat) (fe : Bool) (d a b : BitVec 5) (s : State) : Host.Outcome State Fault Refusal := regForm 0x12 l t fe d a b s 2 mulhuOf
def execQuos (l : LaneId) (t : Nat) (fe : Bool) (d a b : BitVec 5) (s : State) : Host.Outcome State Fault Refusal := regForm 0x14 l t fe d a b s 34 quosOf
def execQuou (l : LaneId) (t : Nat) (fe : Bool) (d a b : BitVec 5) (s : State) : Host.Outcome State Fault Refusal := regForm 0x15 l t fe d a b s 34 quouOf
def execRmds (l : LaneId) (t : Nat) (fe : Bool) (d a b : BitVec 5) (s : State) : Host.Outcome State Fault Refusal := regForm 0x16 l t fe d a b s 34 rmdsOf
def execRmdu (l : LaneId) (t : Nat) (fe : Bool) (d a b : BitVec 5) (s : State) : Host.Outcome State Fault Refusal := regForm 0x17 l t fe d a b s 34 rmduOf
def execAddk (l : LaneId) (t : Nat) (fe : Bool) (d a : BitVec 5) (k : BitVec 18) (s : State) : Host.Outcome State Fault Refusal :=
  constForm 1 l t fe d a k s fun x => x + k.signExtend 32
def execAndk (l : LaneId) (t : Nat) (fe : Bool) (d a : BitVec 5) (k : BitVec 18) (s : State) : Host.Outcome State Fault Refusal :=
  constForm 2 l t fe d a k s fun x => x &&& k.setWidth 32
def execIork (l : LaneId) (t : Nat) (fe : Bool) (d a : BitVec 5) (k : BitVec 18) (s : State) : Host.Outcome State Fault Refusal :=
  constForm 3 l t fe d a k s fun x => x ||| k.setWidth 32
def execXork (l : LaneId) (t : Nat) (fe : Bool) (d a : BitVec 5) (k : BitVec 18) (s : State) : Host.Outcome State Fault Refusal :=
  constForm 4 l t fe d a k s fun x => x ^^^ k.setWidth 32
def execCltk (l : LaneId) (t : Nat) (fe : Bool) (d a : BitVec 5) (k : BitVec 18) (s : State) : Host.Outcome State Fault Refusal :=
  constForm 5 l t fe d a k s fun x => flag (x.slt (k.signExtend 32))
def execCltuk (l : LaneId) (t : Nat) (fe : Bool) (d a : BitVec 5) (k : BitVec 18) (s : State) : Host.Outcome State Fault Refusal :=
  constForm 6 l t fe d a k s fun x => flag (x.ult (k.setWidth 32))
def execHik (l : LaneId) (t : Nat) (fe : Bool) (d : BitVec 5) (k : BitVec 18) (s : State) : Host.Outcome State Fault Refusal :=
  instruction l t (encK 7 d 0#5 k) fe s fun n => n.result d (k.setWidth 32 <<< 14) 1

/-- SHK with kind 3, or with K18[17:7] not zero, is illegal (R255). -/
def execShk (l : LaneId) (t : Nat) (fe : Bool) (d a : BitVec 5) (k : BitVec 18) (s : State) : Host.Outcome State Fault Refusal :=
  instruction l t (encK 8 d a k) fe s fun n =>
    let x := n.gpr a.toNat
    let c := k.toNat % 32
    let kind := k.toNat / 32
    if 3 ≤ kind then n.abandon aINSTR none
    else n.result d (if kind = 0 then x <<< c else if kind = 1 then x >>> c else x.sshiftRight c) 1

/-! ## Branches and calls -/

def branchForm (cnd : Nat) (l : LaneId) (t : Nat) (fe : Bool) (a b : BitVec 5) (k : BitVec 13) (s : State) (p : W32 → W32 → Bool) :
    Host.Outcome State Fault Refusal :=
  instruction l t (encB cnd a b k) fe s fun n => n.branch (p (n.gpr a.toNat) (n.gpr b.toNat)) k

def execBre (l : LaneId) (t : Nat) (fe : Bool) (a b : BitVec 5) (k : BitVec 13) (s : State) : Host.Outcome State Fault Refusal := branchForm 0 l t fe a b k s fun x y => x == y
def execBrn (l : LaneId) (t : Nat) (fe : Bool) (a b : BitVec 5) (k : BitVec 13) (s : State) : Host.Outcome State Fault Refusal := branchForm 1 l t fe a b k s fun x y => x != y
def execBrl (l : LaneId) (t : Nat) (fe : Bool) (a b : BitVec 5) (k : BitVec 13) (s : State) : Host.Outcome State Fault Refusal := branchForm 2 l t fe a b k s fun x y => x.slt y
def execBrg (l : LaneId) (t : Nat) (fe : Bool) (a b : BitVec 5) (k : BitVec 13) (s : State) : Host.Outcome State Fault Refusal := branchForm 3 l t fe a b k s fun x y => !x.slt y
def execBrlu (l : LaneId) (t : Nat) (fe : Bool) (a b : BitVec 5) (k : BitVec 13) (s : State) : Host.Outcome State Fault Refusal := branchForm 4 l t fe a b k s fun x y => x.ult y
def execBrgu (l : LaneId) (t : Nat) (fe : Bool) (a b : BitVec 5) (k : BitVec 13) (s : State) : Host.Outcome State Fault Refusal := branchForm 5 l t fe a b k s fun x y => !x.ult y
def execCall (l : LaneId) (t : Nat) (fe : Bool) (d : BitVec 5) (k : BitVec 23) (s : State) : Host.Outcome State Fault Refusal :=
  instruction l t (encC d k) fe s fun n => n.jump d (n.oap.pc + 4#32 * k.signExtend 32) 2
def execCallr (l : LaneId) (t : Nat) (fe : Bool) (d a : BitVec 5) (k : BitVec 18) (s : State) : Host.Outcome State Fault Refusal :=
  instruction l t (encK 0xD d a k) fe s fun n => n.jump d ((n.gpr a.toNat + k.signExtend 32) &&& 0xFFFFFFFC#32) 3

/-! ## Memory (R248 to R250, R253) -/

/-- Where an address lies: 1 the active code bank, 2 the shadow bank, 3 data memory, 4 lane space, 0 nothing. -/
def region (a : W32) : Nat :=
  let x := a.toNat
  if x < 0x40000 then 1 else if 0x100000 ≤ x ∧ x < 0x140000 then 2 else if 0x20000000 ≤ x ∧ x < 0x20040000 then 3
  else if 0x40000000 ≤ x ∧ x < 0x41000000 then 4 else 0

/-- `k` bytes at address `a` of a memory of the pair. -/
def Lane.memRead (n : Lane) (a : W32) (k : Nat) : Nat :=
  let r := region a
  if r = 3 then cellsWord n.oap.data (a.toNat - 0x20000000) k
  else if r = 2 then cellsWord n.oap.shadow (a.toNat - 0x100000) k
  else cellsWord n.oap.active a.toNat k

/-- A corrected error of the word at `a` (R250). -/
def Lane.eccAt (n : Lane) (a : W32) (e : Ecc) : Lane :=
  if e = .corrected then (if region a = 3 then n.eccData else n.eccCode) (a.toNat / 4 % 2 ^ 16) else n

/-- A half-word or word address is aligned (R75). -/
def aligned (a : W32) (size : Nat) : Bool := a.toNat % min size 4 == 0

/-- The low `size` bytes, sign-extended or not. -/
def extend (x size : Nat) (sgn : Bool) : W32 :=
  let w := 2 ^ (8 * size)
  let y := x % w
  if sgn && decide (w ≤ 2 * y) then BitVec.ofInt 32 ((y : Int) - w) else BitVec.ofNat 32 y

/-- The address of a memory instruction (R251). -/
def Lane.address (n : Lane) (a : BitVec 5) (k : BitVec 15) : W32 := n.gpr a.toNat + k.signExtend 32

/-- Lane loads wait for the bus. -/
def Lane.laneLoad (n : Lane) (ls : List LoadWait) : Lane := (n.upOap fun o => { o with loads := ls }).stepPc 12

/-- A load of up to a word. -/
def Lane.load (n : Lane) (d : BitVec 5) (a : W32) (size : Nat) (sgn : Bool) (e : Ecc) : Lane :=
  let r := region a
  if r = 4 then n.laneLoad [{ off := a.toNat - 0x40000000, size := size, signed := sgn, dest := d.toNat }]
  else if r = 0 ∨ !aligned a size then n.abandon aACCESS (some a)
  else if e = .bad then n.abandon aECC (some a)
  else
    let v := extend (n.memRead a size) size sgn
    (n.eccAt a e).result d v (if r = 3 then 2 else 3)

/-- A 64-bit load; D must be even (R255). In lane space an unaligned one is a single rejected access (R75). -/
def Lane.loadPair (n : Lane) (d : BitVec 5) (a : W32) (e eh : Ecc) : Lane :=
  let r := region a
  let hi := a + 4#32
  if d.toNat % 2 = 1 then n.abandon aINSTR none
  else if r ≠ 0 ∧ region hi ≠ r then n.abandon aACCESS (some hi)
  else if r = 4 then
    let o := a.toNat - 0x40000000
    if aligned a 4 then
      n.laneLoad [{ off := o, size := 4, signed := false, dest := d.toNat }, { off := o + 4, size := 4, signed := false, dest := d.toNat + 1 }]
    else n.laneLoad [{ off := o, size := 8, signed := false, dest := d.toNat }]
  else if r = 0 ∨ !aligned a 4 then n.abandon aACCESS (some a)
  else if e = .bad then n.abandon aECC (some a)
  else if eh = .bad then n.abandon aECC (some hi)
  else
    let v := BitVec.ofNat 32 (n.memRead a 4)
    let w := BitVec.ofNat 32 (n.memRead hi 4)
    (((n.eccAt a e).eccAt hi eh).setGpr d.toNat v).setGpr (d.toNat + 1) w |>.stepPc (if r = 3 then 3 else 4)

/-- Stores to lane space enter the write buffer, or wait for free entries (R263). -/
def Lane.laneStore (n : Lane) (es : List WEntry) (cyc : Nat) : Lane :=
  if n.oap.wbuf.length + es.length ≤ 8 then (n.upOap fun o => { o with wbuf := o.wbuf ++ es, stall := false }).stepPc cyc
  else n.upOap fun o => { o with stall := true }

/-- A store of `size` bytes to data memory, issued in cycle `t`. Until its compare releases it, in the third cycle after (R265), a
mismatch takes it back; the handler reads it at once. -/
def Lane.dataStore (n : Lane) (t off v size : Nat) : Lane :=
  n.upOap fun o => { o with
    data := cellsPut o.data off v size
    held := (o.held.filter fun h => decide (n.now < h.t + 3)) ++ [{ t := t, off := off, size := size, old := cellsWord o.data off size }] }

/-- The stores to data memory that have not been released never reach it, the newest taken back first. -/
def Lane.takeBack (n : Lane) : Lane :=
  n.upOap fun o => { o with
    data := (o.held.filter fun h => decide (n.now < h.t + 3)).foldr (fun h d => cellsPut d h.off h.old h.size) o.data
    held := [] }

/-- A store of up to a word; a narrow one to data memory reads the word first. -/
def Lane.store_ (n : Lane) (a : W32) (size : Nat) (v : W32) (e : Ecc) : Lane :=
  let r := region a
  if r = 4 then n.laneStore [{ t := n.now, off := a.toNat - 0x40000000, size := size, data := v }] 1
  else if r ≠ 3 ∨ !aligned a size then n.abandon aACCESS (some a)
  else if e = .bad then n.abandon aECC (some a)
  else
    ((n.eccAt a e).dataStore n.now (a.toNat - 0x20000000) v.toNat size).stepPc (if size = 4 then 1 else 3)

/-- A 64-bit store; D must be even (R255). -/
def Lane.storePair (n : Lane) (d : BitVec 5) (a : W32) : Lane :=
  let r := region a
  let hi := a + 4#32
  let v := n.gpr d.toNat
  let w := n.gpr (d.toNat + 1)
  if d.toNat % 2 = 1 then n.abandon aINSTR none
  else if r ≠ 0 ∧ region hi ≠ r then n.abandon aACCESS (some hi)
  else if r = 4 then
    let o := a.toNat - 0x40000000
    if aligned a 4 then n.laneStore [{ t := n.now, off := o, size := 4, data := v }, { t := n.now + 1, off := o + 4, size := 4, data := w }] 2
    else n.laneStore [{ t := n.now, off := o, size := 8, data := v }] 2
  else if r ≠ 3 ∨ !aligned a 4 then n.abandon aACCESS (some a)
  else
    let o := a.toNat - 0x20000000
    ((n.dataStore n.now o v.toNat 4).dataStore (n.now + 1) (o + 4) w.toNat 4).stepPc 2

/-! ## Events and handlers (R257 to R262) -/

/-- The pending enabled event that is dispatched: highest PRIO, then lowest number. -/
def Lane.nextEvent (n : Lane) : Option Nat :=
  [3, 2, 1, 0].findSome? fun p =>
    (List.range 64).find? fun e => n.evPending e && n.evEnabled e && bits (n.csr (csrEvCfg e)) 29 28 == p

/-- EVENT_DISPATCH (R258). -/
def eventDispatch (n : Lane) : Lane :=
  if n.oap.idle ∧ n.oap.next ≤ n.now then
    match n.nextEvent with
    | none => n
    | some e =>
      let n := n.setCsrF (0xC0 + e / 32) (e % 32) (e % 32) 0
      let n := (n.setCsr cEVNUM (BitVec.ofNat 32 e)).setCsr cEVDATA (Cells.get 0#32 n.oap.evData e)
      let n := n.setCsrF (csrEvCnt e) 31 16 (bits (n.csr (csrEvCnt e)) 31 16 + 1)
      n.upOap fun o => { o with
        evData := Cells.erase o.evData e, lostRaised := o.lostRaised.filter (· != e), handler := some e
        pc := n.csr (csrEvVec e), startT := n.now + 6, next := n.now + 6 }
  else n

/-- BUDGET_EXPIRY (R259): the instruction in progress has completed. -/
def budgetExpiry (n : Lane) : Lane :=
  match n.oap.handler with
  | none => n
  | some e => if n.oap.works && n.quiet && !n.oap.stall && n.overBudget e then n.abandon aBUDGET none else n

/-- CSR_TIMER_EXPIRY (R262). -/
def timerExpiry (k : Nat) (n : Lane) : Lane :=
  match n.oap.tmr.find? fun x => x.1 == k with
  | none => n
  | some (_, due) =>
    if due ≤ n.now then
      let c := n.csr (0x11 + 2 * k)
      let n := if bits c 1 1 = 1 then n.upOap fun o => { o with tmr := Cells.put o.tmr k (due + max 1 (n.csr (0x10 + 2 * k)).toNat) }
        else (n.setCsrF (0x11 + 2 * k) 0 0 0).upOap fun o => { o with tmr := Cells.erase o.tmr k }
      n.eventW (2 + k) 0#32
    else n

/-! ## Control registers (R264) -/

/-- The CSR numbers listed. -/
def csrListed (k : Nat) : Bool :=
  [0, 1, 2, 3, 4, 8, 9, 0x10, 0x11, 0x12, 0x13, 0x20, 0x21, 0x22, 0x30, 0x40, 0xC0, 0xC1].contains k || (decide (0x100 ≤ k) && decide (k < 0x1C0))

/-- The bits a write of CSR `k` changes; none where its class is RO. -/
def csrMask (k : Nat) : Option W32 :=
  if k = 0x10 ∨ k = 0x12 ∨ k = 0x20 then some 0xFFFFFFFF#32
  else if k = 0x11 ∨ k = 0x13 then some 3#32
  else if k = 0x30 then some 1#32
  else if 0x100 < k ∧ k < 0x140 then some 0x3FFFC#32
  else if 0x140 < k ∧ k < 0x180 then some 0xB000FFFF#32
  else none

/-- What a read of a CSR returns. -/
def Lane.csrView (n : Lane) (k : Nat) : W32 :=
  if k = 4 then BitVec.ofNat 32 (n.now - n.oap.startT)
  else if k = 8 then BitVec.ofNat 32 n.laneTime
  else if k = 9 then BitVec.ofNat 32 (n.laneTime / 2 ^ 32)
  else n.csr k

/-- A write of CSR `k` is illegal (R255, R264). -/
def Lane.csrBad (n : Lane) (k : Nat) (v : W32) : Bool :=
  (csrMask k).isNone || (k == 0x30 && n.oap.locked) || (decide (0x100 < k) && n.csr cLOCK != 0#32)
    || (decide (0x140 < k) && bits v 31 31 == 1 && decide (bits v 15 0 < 16))

/-- A write of CSR `k`. -/
def Lane.csrWrite (n : Lane) (k : Nat) (v : W32) : Lane :=
  let was := n.csr k
  let n := n.setCsr k (v &&& (csrMask k).getD 0#32)
  let n := if k = 0x30 then n.upOap fun o => { o with locked := true } else n
  if k = 0x11 ∨ k = 0x13 then
    let i := (k - 0x11) / 2
    if bits v 0 0 = 0 then n.upOap fun o => { o with tmr := Cells.erase o.tmr i }
    else if bits was 0 0 = 0 then n.upOap fun o => { o with tmr := Cells.put o.tmr i (n.now + (n.csr (k - 1)).toNat) }
    else n
  else n

/-! ## Commands: events, system instructions -/

def execEventDispatch (l : LaneId) (t : Nat) (s : State) : Host.Outcome State Fault Refusal := onDomain l t dCORE s eventDispatch
def execBudgetExpiry (l : LaneId) (t : Nat) (s : State) : Host.Outcome State Fault Refusal := onDomain l t dCORE s budgetExpiry
def execCsrTimerExpiry (l : LaneId) (t : Nat) (k : Fin 2) (s : State) : Host.Outcome State Fault Refusal := onDomain l t dCORE s (timerExpiry k.val)

def execCsrrd (l : LaneId) (t : Nat) (fe : Bool) (d : BitVec 5) (c : BitVec 12) (s : State) : Host.Outcome State Fault Refusal :=
  instruction l t (encS 0 d 0#5 c) fe s fun n => if csrListed c.toNat then n.result d (n.csrView c.toNat) 2 else n.abandon aINSTR none
def execCsrwr (l : LaneId) (t : Nat) (fe : Bool) (a : BitVec 5) (c : BitVec 12) (s : State) : Host.Outcome State Fault Refusal :=
  instruction l t (encS 1 0#5 a c) fe s fun n =>
    if n.csrBad c.toNat (n.gpr a.toNat) then n.abandon aINSTR none else (n.csrWrite c.toNat (n.gpr a.toNat)).stepPc 2

/-- POST (R256): the data word of a posted event is not stated, so it is a free value. -/
def execPost (l : LaneId) (t : Nat) (fe : Bool) (e : BitVec 12) (s : State) : Host.Outcome State Fault Refusal :=
  instruction l t (encS 2 0#5 0#5 e) fe s fun n =>
    if 48 ≤ e.toNat ∧ e.toNat < 64 then ((n.drawn 1).event e.toNat (n.free n.sys.draws)).stepPc 2 else n.abandon aINSTR none

/-- FENCE: with stores still buffered it waits until the last one is registered (R252, R263). -/
def execFence (l : LaneId) (t : Nat) (fe : Bool) (s : State) : Host.Outcome State Fault Refusal :=
  instruction l t (encS 3 0#5 0#5 0#12) fe s fun n => if n.oap.wbuf.isEmpty then n.stepPc 1 else (n.stepPc 1).upOap fun o => { o with fence := true }

/-- DONE (R258): the handler ends two cycles later; UPD may have waited for it (R430). -/
def Lane.done_ (n : Lane) : Lane :=
  match n.oap.handler with
  | none => n
  | some e => (((n.stepPc 2).upOap fun o => { o with handler := none }).actDone e (n.now + 2)).checkHolds
def execDone (l : LaneId) (t : Nat) (fe : Bool) (s : State) : Host.Outcome State Fault Refusal := instruction l t (encS 4 0#5 0#5 0#12) fe s Lane.done_

/-- The cause of an abandonment at the fetch. -/
def abandonCause : Abandon → Nat
  | .illegal _ => aINSTR
  | .access => aACCESS
  | .ecc => aECC

/-- FN values listed for CLS 0x0 (R252). -/
def fnListed (fn : Nat) : Bool := decide (fn ≤ 0x0E) || (decide (0x10 ≤ fn) && decide (fn ≤ 0x12)) || (decide (0x14 ≤ fn) && decide (fn ≤ 0x17))

/-- The word is an illegal instruction at this moment (R255). -/
def Lane.illegal (n : Lane) (w : W32) : Bool :=
  let d := bits w 8 4
  let a := bits w 13 9
  let fn := bits w 31 26
  let k := bits w 25 14
  match bits w 3 0 with
  | 0x0 => !fnListed fn || bits w 25 19 != 0 || (fn == 0x0E && bits w 18 14 != 0)
  | 0x7 => a != 0
  | 0x8 => decide (96 ≤ bits w 31 14)
  | 0x9 => decide (5 < bits w 31 29) || (bits w 31 29 == 5 && d % 2 == 1)
  | 0xA => !([0, 1, 3, 5].contains (bits w 31 29)) || (bits w 31 29 == 5 && d % 2 == 1)
  | 0xB => decide (5 < d)
  | 0xE =>
    if fn = 0 then a != 0 || !csrListed k
    else if fn = 1 then d != 0 || n.csrBad k (n.gpr a)
    else if fn = 2 then a != 0 || d != 0 || !(decide (48 ≤ k) && decide (k < 64))
    else if fn = 3 ∨ fn = 4 then a != 0 || d != 0 || k != 0
    else true
  | 0xF => true
  | _ => false

/-- An illegal word may have been corrected when it was fetched. -/
def abandonFetch : Abandon → Bool
  | .illegal fe => fe
  | _ => false

/-- What the fetch finds at the PC is what `why` says. -/
def Lane.fetchFails (n : Lane) (why : Abandon) : Bool :=
  match why, n.codeWord with
  | .illegal _, some w => n.illegal w
  | .access, none => true
  | .ecc, some _ => true
  | _, _ => false

def execIllegalInstruction (l : LaneId) (t : Nat) (why : Abandon) (s : State) : Host.Outcome State Fault Refusal :=
  onDomain l t dCORE s fun n => if n.canIssue && n.fetchFails why then (n.fetch (abandonFetch why)).abandon (abandonCause why) none else n

/-! ## Lockstep (R269 to R273) -/

/-- LOCKSTEP_MISMATCH (R269, R270): both cores stop and unreleased stores are discarded; a lane load in flight completes and its data
goes nowhere. A load still behind the write buffer is not in flight and ends with the cores (log entry 86). -/
def mismatch (item : Nat) (n : Lane) : Lane :=
  if n.oap.works ∧ bits (n.csr cCORE) 1 0 = 0 then
    let n := n.takeBack.upOap fun o => { o with
      frozen := some n.now, fence := false, stall := false
      loads := if o.wbuf.isEmpty then o.loads.map fun w => { w with dest := 0 } else []
      wbuf := o.wbuf.filter fun e => decide (e.t + 3 ≤ n.now) }
    let n := n.setFs [(F.LSC_MISMATCH.VALID, 1), (F.LSC_MISMATCH.ITEM, item), (F.LSC_MISMATCH.PC, n.oap.pc.toNat % 2 ^ 18),
      (F.YAR_STAT.STATE, 3), (F.YAR_STAT.BUSY, 1)]
    (((n.sqEventOnce F.LSC_EVT.MISMATCH).raise 0x17 3 item).actMismatch).checkHolds
  else n

/-- The engine does not restart (R272). -/
def Lane.engineStop (n : Lane) : Lane :=
  let n := n.upOap fun o => { o with stopped := true, handler := none, frozen := none, scrub := none }
  ((n.raise 0x18 4 0).setF F.LSC_STAT.MODE 3).lntCheck.checkHolds

/-- A core's partition is marked unusable (R272, R477). -/
def Lane.coreOut (n : Lane) (p : Nat) : Lane :=
  let n := n.setBit F.YAR_UNUSABLE.PARTS p true
  let u := n.f F.YAR_UNUSABLE.PARTS
  (n.setF F.SYS_LCS.PARTS_OUT ((List.range 16).countP fun q => u.testBit q)).raise 0x02 3 p

/-- DIAGNOSTIC_VERDICT (R271 to R273): which cores passed their self-test. -/
def verdict (main chk : Bool) (n : Lane) : Lane :=
  match n.oap.frozen with
  | none => n
  | some t₀ =>
    if n.oap.scrub.isSome ∨ n.now < t₀ + 233600 then n
    else
      let passes := n.f F.LSC_VERDICT.PASSES
      let n := n.setFs [(F.LSC_VERDICT.VALID, 1), (F.LSC_VERDICT.MAIN, if main then 1 else 2), (F.LSC_VERDICT.CHECKER, if chk then 1 else 2),
        (F.YAR_STAT.STATE, 0), (F.YAR_STAT.BUSY, 0)]
      let n := (n.sqEventOnce F.LSC_EVT.VERDICT).sqEventOnce F.YAR_EVT.DIAG
      let n := if main then n else n.raise 0x1A 1 4
      let n := if chk then n else n.raise 0x1A 1 5
      let scrub := fun (n : Lane) (cause : Nat) => n.upOap fun o => { o with scrub := some (cause, n.now + 65536) }
      if main && chk then
        if passes < 2 then
          let n := n.setF F.LSC_VERDICT.PASSES (passes + 1)
          scrub (n.setRestarts (bits (n.csr cCORE) 15 8 + 1)) 1
        else ((n.coreOut 4).coreOut 5).engineStop
      else
        let n := if main then n else n.coreOut 4
        let n := if chk then n else n.coreOut 5
        if (main || chk) && n.on F.LNT_PERMIT.SINGLECORE then scrub ((n.setMode (if main then 1 else 2)).raise 0x19 5 0) 2
        else n.engineStop

/-- CODE_SCRUB_COMPLETE (R271): the active bank has been read; `fixed` are the corrected words; an uncorrectable one stops the engine. -/
def scrubComplete (ok : Bool) (fixed : List Nat) (n : Lane) : Lane :=
  match n.oap.scrub with
  | none => n
  | some (cause, due) =>
    if due ≤ n.now then
      let n := forEach fixed (fun w n => n.eccCode w) n
      if ok then (n.engineRestart cause).checkHolds else n.engineStop
    else n

def execLockstepMismatch (l : LaneId) (t : Nat) (item : Fin 9) (s : State) : Host.Outcome State Fault Refusal := onDomain l t dCORE s (mismatch (item.val + 1))
def execDiagnosticVerdict (l : LaneId) (t : Nat) (main chk : Bool) (s : State) : Host.Outcome State Fault Refusal := onDomain l t dCORE s (verdict main chk)
def execCodeScrubComplete (l : LaneId) (t : Nat) (ok : Bool) (fixed : List (BitVec 16)) (s : State) : Host.Outcome State Fault Refusal :=
  onDomain l t dCORE s (scrubComplete ok (fixed.map fun w => w.toNat))

end Sys2Proof.Machine
end

