-- ==== Sys2Proof/Machine/Can.lean ====
section
/-! DEFINITION. The CAN controllers, the gateway routes, and the parts of the host port that need no bus access: mailboxes, what a
frame on the SPI port holds, deliveries into a request buffer (spec/13). SPI and remote accesses are executed in Bus.lean. -/

namespace Sys2Proof.Machine

/-! ## Frames (R331, R335) -/

/-- MODE of controller `c`: 0 OFF, 1 LISTEN, 2 NORMAL. -/
def Lane.canMode (n : Lane) (c : Nat) : Nat := n.f (F.CAN_Cc_MODE.MODE c)

/-- CAN_Cc_ADDR as it stood at the end of cycle `a`, before the writes registered from then on (R335). -/
def Lane.canAddr (n : Lane) (c a : Nat) : W32 :=
  match n.can.addr.find? fun x => x.c == c && decide (a ≤ x.t) with
  | some x => x.old
  | none => n.rd (R.CAN_Cc_ADDR c)

/-- Object `o` takes the frame (R335); a write of ADDR counts for frames whose arbitration field ends after it. -/
def Lane.objTakes (n : Lane) (c o : Nat) (f : CanFrame) : Bool :=
  let id := f.id.toNat
  let ad := n.canAddr c (n.now - f.tail)
  n.on (F.CAN_Cc_OBJo_CTL.VAL c o) && !n.on (F.CAN_Cc_OBJo_CTL.DIR c o)
    && ((id ^^^ n.f (F.CAN_Cc_OBJo_ID.ID c o)) &&& n.f (F.CAN_Cc_OBJo_MASK.ID c o)) == 0
    && n.on (F.CAN_Cc_OBJo_CTL.IDE c o) == f.ide
    && (n.on (F.CAN_Cc_OBJo_CTL.ANYF c o) || n.on (F.CAN_Cc_OBJo_CTL.FDF c o) == f.fdf)
    && (!(n.on (F.CAN_Cc_OBJo_CTL.ISOFILT c o) && f.ide && decide (id / 2 ^ 16 % 256 < 240))
        || id / 256 % 256 == 255 || ((F.CAN_Cc_ADDR.VAL c).val ad == 1 && id / 256 % 256 == (F.CAN_Cc_ADDR.SA c).val ad))

/-- Write bytes from byte `i` of an object's data words. -/
def Lane.objData (n : Lane) (c o : Nat) (bs : List Byte) : Lane :=
  (bs.foldl (fun (a : Lane × Nat) x =>
    let r : FRef := ⟨R.CAN_Cc_OBJo_DATAw c o (a.2 / 4), a.2 % 4 * 8 + 7, a.2 % 4 * 8⟩
    (a.1.setF r x.toNat, a.2 + 1)) (n, 0)).1

/-- The Oapiec CAN event: controller and object (R256). -/
def Lane.canEvent (n : Lane) (c o : Nat) : Lane := n.eventW 6 (BitVec.ofNat 32 (c * 256 + o))

/-- Keystone kinds of CAN (R347). -/
def Lane.canRaise (n : Lane) (kind word : Nat) : Lane := n.raise (0xD3 + kind) kind word

/-- The frame is stored in object `o` in one cycle (R336). -/
def Lane.objStore (n : Lane) (c o : Nat) (f : CanFrame) : Lane :=
  let had := n.on (F.CAN_Cc_OBJo_STAT.NEW c o)
  let n := (n.objData c o f.data).setFs [(F.CAN_Cc_OBJo_RXID.FDF c o, b1 f.fdf), (F.CAN_Cc_OBJo_RXID.IDE c o, b1 f.ide),
    (F.CAN_Cc_OBJo_RXID.ID c o, f.id.toNat), (F.CAN_Cc_OBJo_STAT.DLC c o, f.dlc.toNat), (F.CAN_Cc_OBJo_STAT.BRS c o, b1 f.brs),
    (F.CAN_Cc_OBJo_STAT.ESI c o, b1 f.esi), (F.CAN_Cc_OBJo_STAT.NEW c o, 1)]
  let n := if had then n.setF (F.CAN_Cc_OBJo_STAT.OVWR c o) 1 else n
  let n := n.seqStep (R.CAN_Cc_OBJo_STAT c o)
  let n := if had then (n.sqEventOnce (F.CAN_Cc_EVT.OVWR c)).canRaise 3 c else n
  n.canEvent c o

/-! ## Gateway routes (R338 to R340) -/

def rVal (v : W32) : Bool := bits v 31 31 == 1
def rDir (v : W32) : Nat := bits v 30 30
def rCtlr (v : W32) : Nat := bits v 29 29
def rObj (v : W32) : Nat := bits v 21 16
def rWord (v : W32) : Nat := bits v 13 8
def rBuf (v : W32) : Nat := bits v 7 0

/-- The enabled routes, by number, with their words. -/
def Lane.canRoutes (n : Lane) : List (Nat × W32) :=
  ((List.range 32).map fun r => (r, n.rd (R.CAN_GWRr_CFG r))).filter fun p => rVal p.2

/-- A route acts: the gateway is enabled and its controller in NORMAL (R339). -/
def Lane.routeActs (n : Lane) (v : W32) : Bool := n.on F.CAN_CTRL.EN && n.canMode (rCtlr v) == 2

/-- Object `o` of controller `c` is pending. -/
def Lane.objPending (n : Lane) (c o : Nat) : Bool := n.bit (F.CAN_Cc_TXPENDn.OBJ c (o / 32)) (o % 32)
def Lane.setPending (n : Lane) (c o : Nat) (b : Bool) : Lane := n.setBit (F.CAN_Cc_TXPENDn.OBJ c (o / 32)) (o % 32) b

/-- Object `o` is requested in the present cycle, unless it is pending already. -/
def Lane.objRequest (n : Lane) (c o : Nat) : Lane :=
  if n.objPending c o then n else (n.setPending c o true).upCan fun x => { x with req := Cells.put x.req (64 * c + o) n.now }

/-- The place of an object in arbitration: base identifier, a standard frame before an extended one with the same base, the rest of the
identifier. -/
def Lane.txKey (n : Lane) (c o : Nat) : Nat :=
  let id := n.f (F.CAN_Cc_OBJo_ID.ID c o)
  id / 2 ^ 18 * 2 ^ 19 + n.f (F.CAN_Cc_OBJo_CTL.IDE c o) * 2 ^ 18 + id % 2 ^ 18

/-- Object `a` goes before object `b` (R337). -/
def Lane.txBefore (n : Lane) (c a b : Nat) : Bool :=
  decide (n.txKey c a < n.txKey c b) || (n.txKey c a == n.txKey c b && decide (a < b))

/-- A transmission of object `o` can have been in progress: every object that goes before it was requested only after it could have
started, at its own request or at the end of the transmission before. -/
def Lane.txMay (n : Lane) (c o : Nat) : Bool :=
  let from_ := max (Cells.get 0 n.can.req (64 * c + o)) (Cells.get 0 n.can.idle c)
  (List.range 64).all fun p => !(n.objPending c p && n.txBefore c p o) || decide (from_ < Cells.get 0 n.can.req (64 * c + p))

/-- The words of a frame in the layout of R338, after the route has counted it. -/
def frameWords (f : CanFrame) (count : Nat) : List W32 :=
  let bs := f.data.map fun x => x.toNat
  let word := fun (i : Nat) => (BitVec.ofNat 32 (bs.getD (4 * i) 0 + 2 ^ 8 * bs.getD (4 * i + 1) 0 + 2 ^ 16 * bs.getD (4 * i + 2) 0
    + 2 ^ 24 * bs.getD (4 * i + 3) 0) : W32)
  [BitVec.ofNat 32 (b1 f.fdf * 2 ^ 31 + b1 f.brs * 2 ^ 30 + b1 f.ide * 2 ^ 29 + f.id.toNat),
   BitVec.ofNat 32 (f.dlc.toNat * 2 ^ 28 + b1 f.esi * 2 ^ 27 + count % 256 * 2 ^ 16)] ++ (List.range 16).map word

/-- GATEWAY_CAN_TO_TPE (R338): every DIR 0 route of the object writes the frame into its buffer and commits it. -/
def Lane.canToTpe (n : Lane) (c o : Nat) (f : CanFrame) : Lane :=
  forEach n.canRoutes (fun p n =>
    if rDir p.2 = 0 ∧ rCtlr p.2 = c ∧ rObj p.2 = o ∧ n.routeActs p.2 ∧ n.domOn dTPE then
      let n := n.stepWrap (F.CAN_GWRr_CNT.FRAMES p.1)
      let b := rBuf p.2
      let k := n.f (F.TPE_BUFb_STAT.WIDX b)
      let ws := frameWords f (n.f (F.CAN_GWRr_CNT.FRAMES p.1))
      ((ws.foldl (fun (a : Lane × Nat) w => (a.1.wr (bufWord b k a.2) w, a.2 + 1)) (n, rWord p.2)).1).commit b
    else n) n

/-- The controller may send a frame with the flags of word WORD. -/
def Lane.flagsOk (n : Lane) (c : Nat) (w : W32) : Bool :=
  (bits w 31 31 == 0 || n.on (F.CAN_Cc_MODE.FDEN c)) && (bits w 30 30 == 0 || (bits w 31 31 == 1 && n.on (F.CAN_Cc_MODE.BRSEN c)))

/-- A copy goes into the route's free object and is requested, or steps BAD (R339). -/
def Lane.routeSend (n : Lane) (r : Nat) (v : W32) (ws : List W32) : Lane :=
  let c := rCtlr v
  let o := rObj v
  let w := ws.getD 0 0#32
  if n.flagsOk c w then
    let n := n.setFs [(F.CAN_Cc_OBJo_ID.ID c o, bits w 28 0), (F.CAN_Cc_OBJo_CTL.IDE c o, bits w 29 29), (F.CAN_Cc_OBJo_CTL.FDF c o, bits w 31 31),
      (F.CAN_Cc_OBJo_CTL.BRS c o, bits w 30 30), (F.CAN_Cc_OBJo_CTL.DLC c o, bits (ws.getD 1 0#32) 31 28)]
    let n := forEach (List.range 16) (fun i n => n.wr (R.CAN_Cc_OBJo_DATAw c o i) (ws.getD (2 + i) 0#32)) n
    ((n.objRequest c o).stepWrap (F.CAN_GWRr_CNT.FRAMES r)).upCan fun x => { x with last := Cells.put x.last r ws }
  else (n.stepSat (F.CAN_GWRr_CNT.BAD r)).canRaise 4 r

/-- The 18 words a route takes of the latest payload of its buffer. -/
def Lane.routeCopy (n : Lane) (v : W32) : List W32 := ((n.bufNew (rBuf v)).drop (rWord v)).take 18

/-- A route sends the newest copy of its buffer: none waits any more. -/
def Lane.routeNewest (n : Lane) (r : Nat) (v : W32) : Lane :=
  (n.upCan fun y => { y with wait := y.wait.filter (· != r) }).routeSend r v (n.routeCopy v)

/-- GATEWAY_TPE_TO_CAN (R339): a delivery into buffer `b`. A copy waits while the route's object is pending; one that comes while the
route does not act stays the newest for when its object becomes free. -/
def Lane.canDelivered (n : Lane) (b : Nat) : Lane :=
  if n.domOn dAUX then
    forEach n.canRoutes (fun p n =>
      if rDir p.2 = 1 ∧ rBuf p.2 = b then
        let acts := n.routeActs p.2
        let pend := n.objPending (rCtlr p.2) (rObj p.2)
        let n := if acts && pend && n.can.wait.contains p.1 then (n.stepSat (F.CAN_GWRr_CNT.SKIP p.1)).canRaise 4 p.1 else n
        if acts && !pend then n.routeNewest p.1 p.2
        else n.upCan fun x => { x with wait := if x.wait.contains p.1 then x.wait else x.wait ++ [p.1] }
      else n) n
  else n

/-- A route requests its object once more with the last copy it sent (R340). -/
def Lane.routeResend (n : Lane) (r : Nat) (v : W32) : Lane :=
  match n.can.last.find? fun x => x.1 == r with
  | some x =>
    if n.objPending (rCtlr v) (rObj v) then n.upCan fun y => { y with again := if y.again.contains r then y.again else y.again ++ [r] }
    else n.routeSend r v x.2
  | none => n

/-- Object `o` of controller `c` has become free: where a copy has come since the last one sent, the newest goes out, or else a RESEND
that waits. -/
def Lane.objFree (n : Lane) (c o : Nat) : Lane :=
  forEach n.canRoutes (fun p n =>
    if rDir p.2 = 1 ∧ rCtlr p.2 = c ∧ rObj p.2 = o ∧ n.routeActs p.2 ∧ !n.objPending c o then
      if n.can.wait.contains p.1 then n.routeNewest p.1 p.2
      else if n.can.again.contains p.1 then (n.upCan fun y => { y with again := y.again.filter (· != p.1) }).routeResend p.1 p.2 else n
    else n) n

/-! ## Controllers (R331 to R337, R347) -/

/-- The error counts the controller shows; below 128 it is error active again. -/
def Lane.errCounts (n : Lane) (c tec rec_ : Nat) : Lane :=
  let n := n.setFs [(F.CAN_Cc_STAT.TEC c, tec), (F.CAN_Cc_STAT.REC c, rec_)]
  if n.f (F.CAN_Cc_STAT.ESTATE c) = 1 ∧ tec < 128 ∧ rec_ < 128 then n.setF (F.CAN_Cc_STAT.ESTATE c) 0 else n

/-- CAN_FRAME_RECEIVE (R331, R335, R336). -/
def canReceive (c : Nat) (f : CanFrame) (tec rec_ : Nat) (n : Lane) : Lane :=
  if n.canMode c = 0 ∨ n.f (F.CAN_Cc_STAT.ESTATE c) = 2 ∨ (f.fdf ∧ !n.on (F.CAN_Cc_MODE.FDEN c)) ∨ (f.brs ∧ !n.on (F.CAN_Cc_MODE.BRSEN c)) then n
  else
    let n := n.errCounts c tec rec_
    if f.rtr then n.sqEventOnce (F.CAN_Cc_EVT.RMT c)
    else match (List.range 64).find? fun o => n.objTakes c o f with
      | some o => (n.objStore c o f).canToTpe c o f
      | none => n.stepSat (F.CAN_Cc_STAT.NOMATCH c)

/-- CAN_MODE_WRITE (R333, R347): NORMAL needs the gateway role. -/
def canModeWrite (org c : Nat) (v : W32) (n : Lane) : Lane :=
  let m := (F.CAN_Cc_MODE.MODE c).val v
  if m = 3 ∨ (m = 2 ∧ n.role ≠ roleACTIVE) then n.rejectState org (R.CAN_Cc_MODE c)
  else
    let off := n.f (F.CAN_Cc_STAT.ESTATE c) == 2
    (n.store (R.CAN_Cc_MODE c) v).upCan fun x => { x with
      leave := if m = 2 then x.leave else x.leave.filter (· != c)
      rejoin := if off && !x.rejoin.contains c then c :: x.rejoin else x.rejoin }

/-- TX_REQUEST (R337): TX objects in use become pending. -/
def txRequest (c w : Nat) (v : W32) (n : Lane) : Lane :=
  forEach (List.range 32) (fun i n =>
    let o := 32 * w + i
    if v.toNat.testBit i && n.on (F.CAN_Cc_OBJo_CTL.VAL c o) && n.on (F.CAN_Cc_OBJo_CTL.DIR c o) then n.objRequest c o else n) n

/-- TX_ABORT (R337): requests whose transmission has not started are withdrawn; `busy` is the object being sent. -/
def txAbort (c w : Nat) (v : W32) (busy : Option Nat) (n : Lane) : Lane :=
  forEach (List.range 32) (fun i n =>
    let o := 32 * w + i
    if v.toNat.testBit i && n.objPending c o && busy != some o then (n.setPending c o false).objFree c o else n) n

/-- A plain write of TXABTn, which does not say what is on the bus: whether an object is being sent, and which, is a free value. -/
def txAbortAny (c w : Nat) (v : W32) (n : Lane) : Lane :=
  let x := (n.free n.sys.draws).toNat
  txAbort c w v (if x.testBit 6 then some (x % 64) else none) (n.drawn 1)

/-- TX_DONE (R337): a successful transmission of object `o`, which no other pending object goes before. -/
def txDone (c o tec rec_ : Nat) (n : Lane) : Lane :=
  if n.canMode c = 2 ∧ n.f (F.CAN_Cc_STAT.ESTATE c) ≠ 2 ∧ n.objPending c o ∧ n.txMay c o then
    let n := n.upCan fun x => { x with idle := Cells.put x.idle c n.now }
    let n := ((n.errCounts c tec rec_).setPending c o false).sqEventOnce (F.CAN_Cc_EVT.TXDONE c)
    (n.canEvent c o).objFree c o
  else n

/-- GATEWAY_YIELD_LISTEN (R334): the bus of controller `c` is idle after the role has left. -/
def yieldListen (c : Nat) (n : Lane) : Lane :=
  if n.can.leave.contains c then
    ((n.setF (F.CAN_Cc_MODE.MODE c) 1).upCan fun x => { x with leave := x.leave.filter (· != c) }).checkHolds
  else n

/-- BUS_OFF (R347). -/
def busOff (c tec rec_ : Nat) (n : Lane) : Lane :=
  if n.canMode c = 2 ∧ n.f (F.CAN_Cc_STAT.ESTATE c) ≠ 2 then
    let n := n.setFs [(F.CAN_Cc_STAT.TEC c, tec), (F.CAN_Cc_STAT.REC c, rec_), (F.CAN_Cc_STAT.ESTATE c, 2)]
    let n := n.upCan fun x => { x with rejoin := x.rejoin.filter (· != c) }
    (n.sqEventOnce (F.CAN_Cc_EVT.BUSOFF c)).canRaise 1 c
  else n

/-- BUS_OFF_RECOVERY (R347): 128 × 11 recessive bits, with AUTOREC 1 or after a write of MODE. -/
def busOffRecovery (c : Nat) (n : Lane) : Lane :=
  if n.f (F.CAN_Cc_STAT.ESTATE c) = 2 ∧ (n.on (F.CAN_Cc_MODE.AUTOREC c) ∨ n.can.rejoin.contains c) ∧ n.canMode c ≠ 0 then
    (n.setFs [(F.CAN_Cc_STAT.ESTATE c, 0), (F.CAN_Cc_STAT.TEC c, 0), (F.CAN_Cc_STAT.REC c, 0)]).upCan fun x => { x with
      rejoin := x.rejoin.filter (· != c) }
  else n

/-- ERROR_PASSIVE (R347). -/
def errorPassive (c tec rec_ : Nat) (n : Lane) : Lane :=
  if n.canMode c ≠ 0 ∧ n.f (F.CAN_Cc_STAT.ESTATE c) = 0 then
    let n := n.setFs [(F.CAN_Cc_STAT.TEC c, tec), (F.CAN_Cc_STAT.REC c, rec_), (F.CAN_Cc_STAT.ESTATE c, 1)]
    (n.sqEventOnce (F.CAN_Cc_EVT.PASSIVE c)).canRaise 2 c
  else n

/-- RESEND (R340): a write of CAN_GWCMD. -/
def resendCmd (v : W32) (n : Lane) : Lane :=
  if F.CAN_GWCMD.RESEND.val v = 1 then
    forEach n.canRoutes (fun p n => if rDir p.2 = 1 ∧ n.routeActs p.2 then n.routeResend p.1 p.2 else n) n
  else n

/-- CAN_GATEWAY_ENABLE (R338): a write of CAN_CTRL. -/
def gatewayEnable (org : Nat) (v : W32) (n : Lane) : Lane :=
  let bad := n.canRoutes.any fun p =>
    let b := rBuf p.2
    decide (2 * n.f (F.TPE_BUFb_CFG.LEN b) < rWord p.2 + 18) || n.f (F.TPE_BUFb_CFG.DIR b) != (if rDir p.2 = 0 then 1 else 2)
  if F.CAN_CTRL.EN.val v = 1 ∧ !n.on F.CAN_CTRL.EN ∧ bad then n.rejectState org R.CAN_CTRL
  else n.store R.CAN_CTRL v

/-- The object register at `off`: controller, object, offset within the object. -/
def objWhere (off : Nat) : Option (Nat × Nat × Nat) :=
  if 0x071000 ≤ off ∧ off < 0x075000 then some ((off - 0x071000) / 0x2000, (off - 0x071000) % 0x2000 / 0x80, (off - 0x071000) % 0x80) else none

/-- A plain write of a CAN register (R335, R337): the time of a write of ADDR is kept; pending objects, and those named by a TPE→CAN route, are not written. -/
def canStore (org off : Nat) (v : W32) (n : Lane) : Lane :=
  match objWhere off with
  | some (c, o, r) =>
    let named := n.canRoutes.any fun p => rDir p.2 == 1 && rCtlr p.2 == c && rObj p.2 == o
    if (n.objPending c o && (r == 0 || r == 8 || decide (0x40 ≤ r))) || named then n.rejectState org off else n.store off v
  | none =>
    match [0, 1].find? fun c => off == R.CAN_Cc_ADDR c with
    | some c => (n.store off v).upCan fun x => { x with addr := x.addr ++ [{ c := c, t := n.now, old := n.rd off }] }
    | none => n.store off v

/-! ## Mailboxes (R344) -/

/-- MAILBOX_IN: a write of HST_MBOXIN. -/
def mailboxIn (org : Nat) (v : W32) (n : Lane) : Lane :=
  if org = 1 then (n.store R.HST_MBOXIN v).eventW 5 v else n.rejectState org R.HST_MBOXIN

/-- MAILBOX_OUT: a write of HST_MBOXOUT; by policy firmware it interrupts the host, with bit 31 as KST too. -/
def mailboxOut (org : Nat) (v : W32) (n : Lane) : Lane :=
  let n := n.store R.HST_MBOXOUT v
  if org = 0 then
    let n := n.sqEventOnce F.HST_IRQ.MBOX
    if v.toNat.testBit 31 then n.sqEventOnce F.HST_IRQ.KST else n
  else n

/-- HS_IRQN is low (R344). -/
def Lane.irqLow (n : Lane) : Bool :=
  (n.on F.HST_IRQ.MBOX && n.bit F.HST_IRQEN.EN 0) || (n.on F.HST_IRQ.KST && n.bit F.HST_IRQEN.EN 1)

/-! ## Remote requests (R345, R346) -/

/-- The HST source (R347): 1 host frame, 2 remote. -/
def Lane.hstRaise (n : Lane) (kind word : Nat) : Lane := n.raise (0xD7 + kind) kind word

/-- A request is taken up: its TAG is the last one executed. -/
def Lane.raTake (n : Lane) (k origin : Nat) (ws : List W32) : Lane :=
  (n.setF (F.HST_RAk_STAT.TAG k) (bits (ws.getD 0 0#32) 23 16)).upHst fun h => { h with
    run := Cells.put h.run k { origin := origin, words := ws }
    tagged := if h.tagged.contains k then h.tagged else k :: h.tagged }

/-- A frame of node `origin` was delivered into buffer `b` (R346). -/
def Lane.raDelivered (n : Lane) (origin b : Nat) : Lane :=
  if n.on F.HST_CTRL.RAEN && n.domOn dCORE then
    forEach [0, 1, 2, 3] (fun k n =>
      if n.on (F.HST_RAk_CFG.VAL k) ∧ n.f (F.HST_RAk_CFG.RQBUF k) = b then
        let ws := n.bufNew b
        let w0 := ws.getD 0 0#32
        let cnt := bits w0 5 0
        let fits := fun (b : Nat) => decide (2 + cnt ≤ 2 * n.f (F.TPE_BUFb_CFG.LEN b))
        let old := n.hst.tagged.contains k && bits w0 23 16 == n.f (F.HST_RAk_STAT.TAG k)
        if bits w0 31 27 ≠ n.node ∨ old ∨ cnt = 0 ∨ 62 < cnt ∨ !fits b ∨ !fits (n.f (F.HST_RAk_CFG.RSBUF k)) then
          ((n.stepSat (F.HST_RAk_STAT.IGN k)).sqEventOnce F.HST_EVT.RIGN).hstRaise 2 k
        else if n.hst.run.any fun x => x.1 == k then
          let n := if n.hst.ra.any fun x => x.1 == k then
              ((n.stepSat (F.HST_RAk_STAT.SKIP k)).sqEventOnce F.HST_EVT.RSKIP).hstRaise 2 k else n
          n.upHst fun h => { h with ra := Cells.put h.ra k (origin, ws) }
        else n.raTake k origin ws
      else n) n
  else n

/-- The request on pair `k` is done: the response, zero in every bit R345 does not name, is committed and the next request taken up. -/
def Lane.raDone (n : Lane) (k : Nat) (q : RaReq) : Lane :=
  let w0 := q.words.getD 0 0#32
  let cnt := bits w0 5 0
  let b := n.f (F.HST_RAk_CFG.RSBUF k)
  let head : W32 := BitVec.ofNat 32 (bits w0 31 27 * 2 ^ 27 + bits w0 26 26 * 2 ^ 26 + bits w0 23 16 * 2 ^ 16 + q.errs % 64 * 2 ^ 8 + cnt)
  let n := if n.domOn dTPE ∧ n.f (F.TPE_BUFb_CFG.DIR b) = 1 then
      let ws := [head, q.words.getD 1 0#32 &&& 0xFFFFFF#32] ++ q.data
      (n.bufPut b (n.f (F.TPE_BUFb_STAT.WIDX b)) (ws ++ List.replicate (2 * n.f (F.TPE_BUFb_CFG.LEN b) - ws.length) 0#32)).commit b
    else n
  let n := (n.stepWrap (F.HST_RAk_STAT.DONE k)).upHst fun h => { h with run := Cells.erase h.run k }
  match n.hst.ra.find? fun x => x.1 == k with
  | some (_, origin, ws) => (n.upHst fun h => { h with ra := Cells.erase h.ra k }).raTake k origin ws
  | none => n

/-! ## SPI frames (R341, R342) -/

/-- One bit of the CRC-8 of R341. -/
def crc8Bit (c : Nat) : Nat := if c.testBit 7 then ((c * 2) ^^^ 0x1D) % 256 else c * 2

/-- CRC-8 over bits [71:8] of a frame. -/
def spiCrc (f : BitVec 72) : Nat :=
  (List.range 8).foldl (fun c i =>
    crc8Bit (crc8Bit (crc8Bit (crc8Bit (crc8Bit (crc8Bit (crc8Bit (crc8Bit (c ^^^ (f.toNat / 2 ^ (64 - 8 * i) % 256)))))))))) 0xFF

def spiCmd (f : BitVec 72) : Nat := f.toNat / 2 ^ 64 % 256
def spiOff (f : BitVec 72) : Nat := f.toNat / 2 ^ 40 % 2 ^ 24
def spiData (f : BitVec 72) : W32 := BitVec.ofNat 32 (f.toNat / 2 ^ 8)

/-- A slot with its CRC. -/
def spiSlot (status off : Nat) (data : W32) : BitVec 72 :=
  let f : BitVec 72 := BitVec.ofNat 72 (status * 2 ^ 64 + off * 2 ^ 40 + data.toNat * 2 ^ 8)
  f + BitVec.ofNat 72 (spiCrc f)

/-- The slot sent while a frame is received (R342): the oldest unreported response if its access has completed. -/
def Lane.slotOut (n : Lane) : Lane :=
  let h := n.hst
  let flags := 8 * b1 h.crcErr + 4 * b1 h.cmdErr + 2 * b1 h.ovf + b1 h.cut
  let clear := fun (h : HstState) => { h with crcErr := false, cmdErr := false, ovf := false }
  match h.unrep with
  | [] => n.upHst fun h => { clear h with slot := spiSlot flags 0 0#32 }
  | a :: rest =>
    match a.res with
    | some (d, e) => n.upHst fun h => { clear h with slot := spiSlot (128 + 32 * b1 e + 16 * b1 a.write + flags) a.off d, unrep := rest }
    | none => n.upHst fun h => { clear h with slot := spiSlot (64 + flags) 0 0#32 }

/-- A frame is discarded (R342): its event, the host frame source, the count. -/
def Lane.spiDrop (n : Lane) (flag : FRef) : Lane :=
  ((n.stepSat F.HST_SPICNT.ERRS).sqEventOnce flag).hstRaise 1 0

/-- SPI_PARTIAL_FRAME (R342): HS_CSN rises inside a frame. -/
def spiPartial (n : Lane) : Lane := (n.upHst fun h => { h with abort := true }).spiDrop F.HST_EVT.ABORT

/-! ## Commands -/

def execCanModeWrite (l : LaneId) (t : Nat) (org : Origin) (c : Fin 2) (v : W32) (s : State) : Host.Outcome State Fault Refusal :=
  onLane l t s fun n => n.regWrite org.code (R.CAN_Cc_MODE c.val) v (canModeWrite org.code c.val v)
def execCanFrameReceive (l : LaneId) (t : Nat) (c : Fin 2) (fr : CanFrame) (tec rec_ : Byte) (s : State) : Host.Outcome State Fault Refusal :=
  wellFormedOnly (canFrameOk fr) (onDomain l t dAUX s (canReceive c.val fr tec.toNat rec_.toNat))
def execTxRequest (l : LaneId) (t : Nat) (org : Origin) (c w : Fin 2) (v : W32) (s : State) : Host.Outcome State Fault Refusal :=
  onLane l t s fun n => n.regWrite org.code (R.CAN_Cc_TXREQn c.val w.val) v (txRequest c.val w.val v)
def execTxAbort (l : LaneId) (t : Nat) (org : Origin) (c w : Fin 2) (v : W32) (busy : Option (BitVec 6)) (s : State) :
    Host.Outcome State Fault Refusal :=
  onLane l t s fun n => n.regWrite org.code (R.CAN_Cc_TXABTn c.val w.val) v (txAbort c.val w.val v (busy.map fun o => o.toNat))
def execTxDone (l : LaneId) (t : Nat) (c : Fin 2) (o : BitVec 6) (tec rec_ : Byte) (s : State) : Host.Outcome State Fault Refusal :=
  onDomain l t dAUX s (txDone c.val o.toNat tec.toNat rec_.toNat)
def execGatewayYieldListen (l : LaneId) (t : Nat) (c : Fin 2) (s : State) : Host.Outcome State Fault Refusal :=
  onDomain l t dAUX s (yieldListen c.val)
def execBusOff (l : LaneId) (t : Nat) (c : Fin 2) (tec rec_ : Byte) (s : State) : Host.Outcome State Fault Refusal :=
  onDomain l t dAUX s (busOff c.val tec.toNat rec_.toNat)
def execBusOffRecovery (l : LaneId) (t : Nat) (c : Fin 2) (s : State) : Host.Outcome State Fault Refusal := onDomain l t dAUX s (busOffRecovery c.val)
def execErrorPassive (l : LaneId) (t : Nat) (c : Fin 2) (tec rec_ : Byte) (s : State) : Host.Outcome State Fault Refusal :=
  onDomain l t dAUX s (errorPassive c.val tec.toNat rec_.toNat)
def execResend (l : LaneId) (t : Nat) (org : Origin) (v : W32) (s : State) : Host.Outcome State Fault Refusal :=
  onLane l t s fun n => n.regWrite org.code R.CAN_GWCMD v (resendCmd v)
def execCanGatewayEnable (l : LaneId) (t : Nat) (org : Origin) (v : W32) (s : State) : Host.Outcome State Fault Refusal :=
  onLane l t s fun n => n.regWrite org.code R.CAN_CTRL v (gatewayEnable org.code v)
def execSpiPartialFrame (l : LaneId) (t : Nat) (s : State) : Host.Outcome State Fault Refusal := onAon l t s spiPartial
def execMailboxIn (l : LaneId) (t : Nat) (org : Origin) (v : W32) (s : State) : Host.Outcome State Fault Refusal :=
  onLane l t s fun n => n.regWrite org.code R.HST_MBOXIN v (mailboxIn org.code v)
def execMailboxOut (l : LaneId) (t : Nat) (org : Origin) (v : W32) (s : State) : Host.Outcome State Fault Refusal :=
  onLane l t s fun n => n.regWrite org.code R.HST_MBOXOUT v (mailboxOut org.code v)
def execHostRemoteEnable (l : LaneId) (t : Nat) (org : Origin) (v : W32) (s : State) : Host.Outcome State Fault Refusal :=
  onLane l t s fun n => n.regWrite org.code R.HST_CTRL v (fun n => n.store R.HST_CTRL v)

end Sys2Proof.Machine
end

