-- ==== Sys2Proof/Machine/TpeCmd.lean ====
section
/-! DEFINITION. The commands of the TPE that other blocks follow (spec/11, 12): fetches, deliveries, the mortar gap, course boundaries and
the block enable, with what the LNT (R400, R401, R404, R410), the gateway (R339), remote access (R346) and UPD (R425, R426, R430) do in
the same cycle. -/

namespace Sys2Proof.Machine

/-- BUFFER_FETCH (R305), and the fragment of a relay that has been fetched for its grant (R426). -/
def fetchAll (arb : Bool) (ix : Nat) (n : Lane) : Lane :=
  let k := n.tpe.fet.length
  let n := bufferFetch arb ix n
  let sent := match (n.tpe.fet.drop k).head? with
    | some f => f.arb && f.buf == n.f F.UPD_RELAY.TXBUF
    | none => false
  if n.upd.claim && sent && !n.on (F.TPE_CLAIMk.VAL 3) then n.relayFetched else n

/-- Among the commands waiting: the FCRC of a valid copy of the frame that port `p` completes, which completes in cycle `t` as well on the
first of the earlier ports of R293. -/
def endRival (l : LaneId) (t p : Nat) (n : Lane) (q : List Instr) : Option W32 :=
  match (n.tport p).rx with
  | [] => none
  | r :: _ => (List.range p).findSome? fun k => q.findSome? fun i =>
      match i with
      | .frameEndReceive l' t' p' ws c =>
        (match (n.tport k).rx with
        | [] => none
        | x :: _ => if l' = l ∧ t' ≤ t ∧ p'.val = k ∧ x.same r ∧ x.good ws c then some c else none)
      | _ => none

/-- FRAME_END_RECEIVE (R292), and what follows the delivery of a valid frame. -/
def frameEndAll (p : Nat) (ws : List W32) (fcrc : W32) (rival : Option W32) (n : Lane) : Lane :=
  let k := n.tpe.seen.length
  let r := frameEnd p ws fcrc rival n
  let n := r.1
  match (if k < n.tpe.seen.length then n.tpe.seen.head? else none) with
  | none => n
  | some f =>
    let n := n.lntDelivered f.origin r.2
    let n := match r.2 with
      | some b => ((n.canDelivered b).raDelivered f.origin b).updDelivered f.origin b
      | none => n
    n.lntCheck.checkHolds

/-- What the other blocks do in a boundary cycle. -/
def Lane.afterBoundary (n : Lane) (was : Nat) : Lane :=
  let n := n.lntBoundary (decide (n.tpeSt = tACTIVE) && was != tACTIVE)
  (if n.domOn dAUX then n.updBoundary else n).checkHolds

/-- COURSE_BOUNDARY (R299). -/
def boundaryAll (n : Lane) : Lane :=
  match n.tpe.next with
  | some due =>
    if due ≤ n.now ∧ n.tpeSt ≠ tOFF then
      let was := n.tpeSt
      (courseBoundary n).afterBoundary was
    else n
  | none => n

/-- MORTAR_GAP_START (R319). -/
def gapAll (n : Lane) : Lane :=
  let n := mortarGap n
  (if n.domOn dAUX then n.relayGap else n).lntCheck

/-- COLDSTART_LISTEN_EXPIRY (R315): its course 0 begins with a boundary too. -/
def coldstartAll (n : Lane) : Lane :=
  let was := n.tpeSt
  let n := coldstartExpiry n
  if n.tpeSt = was then n else n.afterBoundary was

def execBufferFetch (l : LaneId) (t : Nat) (arb : Bool) (ix : Byte) (s : State) : Host.Outcome State Fault Refusal :=
  onDomain l t dTPE s (fetchAll arb ix.toNat)
def execFrameEndReceive (l : LaneId) (t : Nat) (p : Fin 4) (ws : List W32) (fcrc : W32) (s : State) : Host.Outcome State Fault Refusal :=
  onDomain l t dTPE s fun n => frameEndAll p.val ws fcrc (endRival l n.now p.val n s.pending) n
def execCourseBoundary (l : LaneId) (t : Nat) (s : State) : Host.Outcome State Fault Refusal := onDomain l t dTPE s boundaryAll
def execMortarGapStart (l : LaneId) (t : Nat) (s : State) : Host.Outcome State Fault Refusal := onDomain l t dTPE s gapAll
def execColdstartListenExpiry (l : LaneId) (t : Nat) (s : State) : Host.Outcome State Fault Refusal := onDomain l t dTPE s coldstartAll
def execTpeBlockEnable (l : LaneId) (t : Nat) (org : Origin) (v : W32) (s : State) : Host.Outcome State Fault Refusal :=
  onLane l t s fun n => n.regWrite org.code R.TPE_CTRL v (fun n => (tpeEnable org.code v n).lntCheck)

end Sys2Proof.Machine
end

