-- ==== Sys2Proof/Machine/Bus.lean ====
section
/-! DEFINITION. The lane bus (spec/03): what every lane-space offset reads as and what an accepted write to it does, the Lintel window
(R94, R20), and what reaches the bus from the SPI host (R342), Tlasyn remote (R346) and the Oapiec pair (R263); the commands
after which waiting accesses proceed (R455): the end of self-test and of a domain's exit; and the end of a takeover (R407). -/

namespace Sys2Proof.Machine

/-! ## Reads (R72, R77, R83) -/

/-- SYS registers computed when read: the nonce (R488) and SYS_ARMSTAT.WHY (R479). -/
def Lane.sysView (n : Lane) (off : Nat) : W32 :=
  if off = R.SYS_NONCEL then n.sys.nonceL
  else if off = R.SYS_NONCEH then n.sys.nonceH
  else if off = R.SYS_ARMSTAT then setBits (n.rd off) 14 8 n.whyNot
  else n.rd off

/-- What a read of the register at `off` returns. -/
def Lane.regView (n : Lane) (off : Nat) : W32 :=
  if off < 0x001000 then n.sysView off
  else if off < 0x002000 then n.pwrView off
  else if off < 0x003000 then n.rd off
  else if off < 0x004000 then n.kstView off
  else if off < 0x007000 then n.rd off
  else if off < 0x008000 then n.lntView off
  else if off < 0x014000 then pwmView off n
  else if off < 0x018000 then n.rd off
  else if off < 0x020000 then adcView off n
  else if off < 0x028000 then fbiView off n
  else if off < 0x030000 then cfeView off n
  else if off < 0x040000 then n.rd off
  else if off < 0x070000 then n.tpeView off
  else if off < 0x080000 then n.rd off
  else if off < 0x090000 then n.updView off
  else n.rd off

/-- What a word of a memory reads as (R220, R402, R436). -/
def Lane.memView (n : Lane) (off : Nat) : W32 :=
  if 0x084000 ≤ off ∧ off < 0x088000 then n.setWord n.liveArea ((off - 0x084000) / 4)
  else if 0x088000 ≤ off ∧ off < 0x08C000 then n.setWord n.workArea ((off - 0x088000) / 4)
  else if 0x090000 ≤ off ∧ off < 0x0A0000 then Cells.get 0#32 n.cfe.tab off
  else if 0x0A0000 ≤ off ∧ off < 0x100000 then Cells.get 0#32 n.mram.cairn (off - 0x0A0000)
  else n.rd off

/-- What a read of the word at `off` returns: 0 where nothing is implemented (R77) and from a register of class WO (R83). -/
def Lane.view (n : Lane) (off : Nat) : W32 :=
  if isMemory off then n.memView off
  else match regRow off with
    | none => 0#32
    | some r => if r.cls = .wo then 0#32 else n.regView off

/-! ## Writes -/

/-- A word of a key slot (R485): a slot is one value, held until its highest word is written and then written through to MRAM (R79). -/
def keyWrite (off : Nat) (v : W32) (n : Lane) : Lane :=
  let i := (off - 0x000200) / 4
  if i % 8 < 7 then n.upSys fun s => { s with heldLow := Cells.put s.heldLow off v }
  else
    let word := fun (j : Nat) => if j = i then v else ((n.sys.heldLow.find? fun c => c.1 == 0x000200 + 4 * j).map fun c => c.2).getD (Cells.get 0#32 n.mram.keys j)
    let js := (List.range 8).map fun w => i / 8 * 8 + w
    let keys := js.foldl (fun m j => Cells.set 0#32 m j (word j)) n.mram.keys
    let n := n.upSys fun s => { s with heldLow := s.heldLow.filter fun c => !js.contains ((c.1 - 0x000200) / 4) }
    (n.upMram fun m => { m with keys := keys }).showKeys

/-- The effect of an accepted write in SYS. -/
def sysEff (org off : Nat) (v : W32) (n : Lane) : Lane :=
  if off = R.SYS_RSTCMD then warmStart org v n
  else if off = R.SYS_ARMCMD then armCmd org v n
  else if off = R.SYS_LCCMD then lcCmd org v n
  else if 0x000200 ≤ off ∧ off < 0x000280 then keyWrite off v n
  else n.store off v

/-- In PWR to LNT. -/
def coreEff (org off : Nat) (v : W32) (n : Lane) : Lane :=
  if off = R.PWR_CMD then peerwake v n
  else if off < 0x002000 then pwrStore off v n
  else if off = R.CLK_XOCTL then xoctlWrite v n
  else if off = R.KST_RELEASE then recordRelease org v n
  else if off = R.KST_RAISE then firmwareRaise org v n
  else if off = R.KST_INJ then injectionArm org v n
  else if off = R.KST_LOGIDX then logIndex v n
  else if 0x003800 ≤ off ∧ off < 0x003C00 then severityWrite org ((off - 0x003800) / 4) v n
  else if off = R.YAR_CMD then yarCmd org v n
  else if off = R.SAF_CTRL then safEnable org v n
  else if off = R.SAF_STOCMD then stoWrite v n
  else if off = R.SAF_SBOCMD then sboWrite org v n
  else if off = R.SAF_KICK then kickWrite v (Config.aclkTicks (n.now - n.saf.kickT)) n
  else if off = R.LNT_CTRL then lntEnable org v n
  else if off = R.LNT_ROLECMD then handover org v n
  else n.store off v

/-- In PWM, GDV and ADC. -/
def actEff (org off : Nat) (v : W32) (n : Lane) : Lane :=
  if off = R.PWM_START then pwmStartWrite org v n
  else if off = R.PWM_GRPCMD then grpCmdWrite org v n
  else if off = R.PWM_LOADALL then loadAllArm org v n
  else if off = R.PWM_CTRL then pwmEnable org v n
  else if off = R.PWM_TRIPCLR then tripRelease org v n
  else if off < 0x014000 then pwmStore org off v n
  else if off = R.GDV_GCLCMD then gclRearm org v n
  else if off = R.GDV_CHKCMD then chkCmd org v n
  else if off = R.GDV_CLR then gdvClr org v n
  else if off = R.GDV_CTRL then gdvEnable org v n
  else if off < 0x018000 then gdvStore org off v n
  else if off = R.ADC_CTRL then adcEnable org v n
  else adcStore org off v n

/-- In FBI, CFE and CLE. -/
def loopEff (org off : Nat) (v : W32) (n : Lane) : Lane :=
  if off < 0x028000 then
    match [0, 1, 2, 3].find? fun ch => off == R.FBI_CHn_PCCTL ch with
    | some ch => compareListWrite ch v n
    | none => if off = R.FBI_CTRL then fbiEnable org v n else fbiStore org off v n
  else if off = R.CFE_GRPCMD then cfeGrpCmd org v n
  else if off = R.CFE_CTRL then cfeEnable org v n
  else if off < 0x030000 then cfeStore org off v n
  else if off = R.CLE_CTRL then cleEnable org v n
  else cleStore org off v n

/-- In TPE. -/
def tpeEff (org off : Nat) (v : W32) (n : Lane) : Lane :=
  if off = R.TPE_LNKCTL then penWrite org v n
  else if off = R.TPE_LNKCMD then lnkCmd org v n
  else if off = R.TPE_CTRL then (tpeEnable org v n).lntCheck
  else if 0x100000 ≤ off ∧ off = R.TPE_BUFb_CMD ((off - 0x100000) / 0x400) then bufCmd org ((off - 0x100000) / 0x400) v n
  else match [0, 1, 2, 3].find? fun k => off == R.TPE_CLAIMk k with
    | some k => claimWrite org k v n
    | none => tpeStore org off v n

/-- In CAN and HST. -/
def canEff (org off : Nat) (v : W32) (n : Lane) : Lane :=
  if off = R.CAN_GWCMD then resendCmd v n
  else if off = R.CAN_CTRL then gatewayEnable org v n
  else if off = R.HST_MBOXIN then mailboxIn org v n
  else if off = R.HST_MBOXOUT then mailboxOut org v n
  else match [0, 1].find? fun c => off == R.CAN_Cc_MODE c with
    | some c => canModeWrite org c v n
    | none =>
      match [(0, 0), (0, 1), (1, 0), (1, 1)].find? fun p => off == R.CAN_Cc_TXREQn p.1 p.2 || off == R.CAN_Cc_TXABTn p.1 p.2 with
      | some (c, w) => if off = R.CAN_Cc_TXREQn c w then txRequest c w v n else txAbortAny c w v n
      | none => if off < 0x078000 then canStore org off v n else n.store off v

/-- In UPD. -/
def updEff (org off : Nat) (v : W32) (n : Lane) : Lane :=
  if off = R.UPD_ACTCMD then actCmd org v n
  else if off = R.UPD_SRCCMD then blockPush org v n
  else if off = R.UPD_SETCMD then settingsCommit org v n
  else if off = R.UPD_CTRL then updEnable org v n
  else n.store off v

/-- The effect of an accepted 32-bit write to the register at `off`: a register of class SQ clears by its sequence number (R86), every
other one as its chapter says. -/
def regEff (org off : Nat) (v : W32) (n : Lane) : Lane :=
  if (regRow off).any fun r => r.cls == .sq then n.sqClear off v
  else if off < 0x001000 then sysEff org off v n
  else if off < 0x008000 then coreEff org off v n
  else if off < 0x020000 then actEff org off v n
  else if off < 0x040000 then loopEff org off v n
  else if off < 0x070000 then tpeEff org off v n
  else if off < 0x080000 then canEff org off v n
  else if off < 0x090000 then updEff org off v n
  else tpeEff org off v n

/-- A word write of policy firmware to gateway slot `k` (R402, R405). -/
def slotWrite (org off : Nat) (v : W32) (n : Lane) : Lane :=
  let k := (off - 0x0A0000) / 0x10000
  let o := (off - 0x0A0000) % 0x10000
  if org = 0 ∧ n.role = roleACTIVE ∧ k = n.otherSlot then
    let n := (n.cairnPut (off - 0x0A0000) v).mirrorWrite k o v
    if o < 32 then n.upLnt fun x => { x with hdr := true } else n
  else n.rejectState org off

/-- A word write to a memory at `off` (R61, R300, R221, R305, R402, R437). -/
def memWrite (org off : Nat) (v : W32) (n : Lane) : Lane :=
  if off < 0x070000 then n.reject kLOCKED org off true 15
  else if off < 0x088000 then n.reject kREADONLY org off true 15
  else if off < 0x08C000 then workWrite org off v n
  else if off < 0x0A0000 then tabWrite org off v n
  else if off < 0x0C0000 then slotWrite org off v n
  else if off < 0x0F0000 then (if org = 0 then n.cairnPut (off - 0x0A0000) v else n.rejectState org off)
  else bufMemWrite org off v n

/-- A 32-bit write has reached `off`. -/
def Lane.put32 (n : Lane) (org off : Nat) (v : W32) : Lane :=
  if isMemory off then memWrite org off v n else n.judged org off v (regEff org off v)

/-! ## Accesses (R73 to R76, R94) -/

/-- A window read goes out over Lintel as one 32-bit read (R94). -/
def Lane.windowStart (n : Lane) (org rep off size : Nat) : Lane :=
  (n.upSys fun s => { s with win := s.win ++ [{ off := off, org := org, due := n.now + 800, rep := rep, size := size }] }).send (.wreq (off / 4 * 4))

/-- An access, served if it can be: an unaligned one in its turn with an error response and nothing else (R75), a write narrower than
32 bits never (R73), a read with the word that holds its bytes. -/
def Lane.attempt (n : Lane) (a : Access) : Lane × Option (W32 × Bool) :=
  if a.unaligned then
    if n.shut a then (n, some (0#32, false))
    else if !n.busUp || n.mustQueue a.org then (n, none)
    else (n.reject kUNALIGNED a.org a.off a.write a.lanes, some (0#32, true))
  else n.gate a fun n =>
    if 0x800000 ≤ a.off then (n.reject kWINDOW a.org a.off a.write a.lanes, some (0#32, false))
    else if !a.write then (n, some (n.view (a.off / 4 * 4), false))
    else if a.size = 4 then (n.put32 a.org a.off a.val, some (0#32, false))
    else (if implemented a.off then n.reject kWIDTH a.org a.off a.write a.lanes else n, some (0#32, false))

/-- The access is a read through the Lintel window. -/
def Access.isWindow (a : Access) : Bool := decide (0x800000 ≤ a.off) && !a.unaligned && !a.write

/-- An access: it is served, waits in the lane, or goes out over Lintel. -/
def Lane.access (n : Lane) (a : Access) : Lane × Option (W32 × Bool) :=
  if a.isWindow then
    if n.shut a then (n, some (0#32, false))
    else if !n.busUp || n.mustQueue a.org || !n.domOn dCORE then n.orStall a (n, none)
    else (n.windowStart a.org a.rep (a.off - 0x800000) a.size, none)
  else n.orStall a (n.attempt a)

/-! ## Answers -/

/-- The oldest SPI access that has not completed completes (R342). -/
def Lane.spiAnswer (n : Lane) (r : W32 × Bool) : Lane :=
  n.upHst fun h =>
    let done := h.unrep.takeWhile fun a => a.res.isSome
    match h.unrep.drop done.length with
    | [] => h
    | a :: rest => { h with unrep := done ++ { a with res := some r } :: rest }

/-- A word of the request on pair `k` is done (R345, R346). -/
def Lane.raAnswer (n : Lane) (k : Nat) (r : W32 × Bool) : Lane :=
  match n.hst.run.find? fun x => x.1 == k with
  | none => n
  | some (_, q) =>
    let q := { q with i := q.i + 1, data := q.data ++ [r.1], errs := q.errs + b1 r.2 }
    if q.i < bits (q.words.getD 0 0#32) 5 0 then n.upHst fun h => { h with run := Cells.put h.run k q } else n.raDone k q

/-- An error response is recorded (R263). -/
def Lane.busErr (n : Lane) (off : Nat) : Lane :=
  let c := bits (n.csr cBUSERR) 31 24
  n.setCsr cBUSERR (BitVec.ofNat 32 (min 255 (c + 1) * 2 ^ 24 + off % 2 ^ 24))

/-- The load at the head, if it is a window read, goes out; if its domain is not ON, the domain is woken. -/
def Lane.loadStart (n : Lane) : Lane :=
  match n.oap.loads with
  | [] => n
  | w :: _ =>
    if !n.oap.wbuf.isEmpty then n
    else if w.off % min w.size 4 ≠ 0 ∨ n.reachable 0 w.off then n
    else if 0x800000 ≤ w.off then
      if n.mustQueue 0 then n else n.windowStart 0 1 (w.off - 0x800000) w.size
    else n.wakeFor w.off

/-- The load at the head returns `r`: the addressed bytes, 0 with an error response. -/
def Lane.loadDone (n : Lane) (r : W32 × Bool) : Lane :=
  match n.oap.loads with
  | [] => n
  | w :: rest =>
    let n := if r.2 then n.busErr w.off else n
    let v := if r.2 then 0#32 else extend (r.1.toNat / 2 ^ (8 * (w.off % 4))) (min w.size 4) w.signed
    let n := n.setGpr w.dest v
    let n := if w.size = 8 then n.setGpr (w.dest + 1) 0#32 else n
    (n.upOap fun o => { o with loads := rest, next := if rest.isEmpty then n.now else n.now + 12 }).loadStart

/-- The answer goes where the access came from. -/
def Lane.answer (n : Lane) (org rep : Nat) (r : W32 × Bool) : Lane :=
  if rep = 0 then n
  else if org = 0 then n.loadDone r
  else if org = 1 then n.spiAnswer r
  else if org = 2 then n.raAnswer (rep - 1) r
  else n

/-- An access is made and answered. -/
def Lane.serve (n : Lane) (a : Access) : Lane :=
  match n.access a with
  | (n, some r) => (n.answer a.org a.rep r).checkHolds
  | (n, none) => n.checkHolds

/-- The accesses that wait are tried again in their order (R455); a load that waits is granted. -/
def Lane.replay (n : Lane) : Lane :=
  let q := n.pwr.stalled
  let n := forEach q (fun a n => n.serve a) (n.upPwr fun x => { x with stalled := [] })
  match n.oap.loads with
  | [] => n
  | w :: _ => if n.reachable 0 w.off then n.upOap fun o => { o with next := max o.next (n.now + 12) } else n

/-! ## REGISTER_WRITE, SEQUENCE_CLEAR (R73 to R77, R81, R86) -/

/-- A word write of requester `org`. -/
def writeWord (org off : Nat) (v : W32) (n : Lane) : Lane := n.serve { org := org, off := off, write := true, val := v }

/-- A write of `size` bytes. -/
def registerWrite (org off : Nat) (size : AccSize) (v : BitVec 64) (n : Lane) : Lane :=
  let lo := v.setWidth 32
  match size with
  | .word => writeWord org off lo n
  | .double =>
    if off % 4 = 0 then writeWord org ((off + 4) % 2 ^ 24) ((v >>> 32).setWidth 32) (writeWord org off lo n)
    else n.serve { org := org, off := off, write := true, val := lo, size := 8 }
  | .half => n.serve { org := org, off := off, write := true, val := lo, size := 2 }
  | .byte => n.serve { org := org, off := off, write := true, val := lo, size := 1 }

/-! ## The Lintel window (R20, R21, R94) -/

/-- LINTEL_WINDOW_READ. -/
def windowRead (org off : Nat) (n : Lane) : Lane := n.serve { org := org, off := 0x800000 + off, write := false }

/-- WINDOW_REQUEST_RECEIVE: the target serves the read as it stands. -/
def windowRequest (off : Nat) (n : Lane) : Lane :=
  if off % 4 ≠ 0 then (n.reject kUNALIGNED 3 off false (strobe off 4)).send (.wrsp false 0#32)
  else if n.loadingRejects off || n.outOfService off then (n.reject kSTATE 3 off false 15).send (.wrsp true 0#32)
  else if n.reachable 3 off then
    let n := match domainOf off with
      | some d => n.idleRestart d
      | none => n
    n.send (.wrsp true (n.view off))
  else n.send (.wrsp false 0#32)

/-- The oldest window read ends: with data, or with an error response, recorded and raised as Lintel register access (R20, R89). -/
def Lane.windowEnd (n : Lane) (r : Option W32) : Lane :=
  match n.sys.win with
  | [] => n
  | w :: rest =>
    let n := n.upSys fun s => { s with win := rest }
    let n := match r with
      | some v => n.answer w.org w.rep (v, false)
      | none => (n.reject kNOANSWER w.org (0x800000 + w.off) false (strobe w.off w.size)).answer w.org w.rep (0#32, true)
    n.replay.checkHolds

/-- WINDOW_READ_TIMEOUT. -/
def windowTimeout (n : Lane) : Lane :=
  match n.sys.win with
  | [] => n
  | w :: _ => if w.due ≤ n.now then n.windowEnd none else n

/-! ## The Oapiec pair (R263) -/

/-- WRITE_BUFFER_DRAIN: the oldest store, 8 LCLK after its release (R265), is registered at its target; after the last one a FENCE
ends and a load is granted. -/
def bufferDrain (n : Lane) : Lane :=
  match n.oap.wbuf with
  | [] => n
  | e :: rest =>
    if n.now < e.t + 11 then n
    else
      match n.attempt { org := 0, off := e.off, write := true, val := e.data, size := e.size } with
      | (n, none) => n
      | (n, some r) =>
        let n := if r.2 then n.busErr e.off else n
        let n := n.upOap fun o => { o with wbuf := rest }
        if rest.isEmpty then
          (n.upOap fun o => { o with
            fence := false
            next := if !o.loads.isEmpty then max o.next (n.now + 12) else if o.fence then max o.next (n.now + 1) else o.next }).loadStart
        else n

/-- LANE_LOAD_COMPLETE: 12 LCLK after its grant a load returns; through the window it returns with the response. -/
def loadComplete (n : Lane) : Lane :=
  match n.oap.loads with
  | [] => n
  | w :: _ =>
    if !n.oap.wbuf.isEmpty ∨ n.now < n.oap.next then n
    else
      let a : Access := { org := 0, off := w.off, write := false, size := w.size }
      if a.isWindow then n
      else match n.attempt a with
      | (n, none) => n
      | (n, some r) => n.loadDone r

/-! ## The SPI port (R341 to R343) -/

/-- A whole frame has come in; `newp`: the first of a CSN-low period. -/
def spiFrame (f : BitVec 72) (newp : Bool) (n : Lane) : Lane :=
  let n := if newp then n.upHst fun h => { h with frames := 0, cut := h.abort, abort := false } else n
  let n := n.slotOut.upHst fun h => { h with frames := min 65 (h.frames + 1) }
  if 64 < n.hst.frames then (n.upHst fun h => { h with ovf := true }).spiDrop F.HST_EVT.OVF
  else if f.toNat % 256 ≠ spiCrc f ∨ n.injArmed 0xD8 0 then (n.upHst fun h => { h with crcErr := true }).spiDrop F.HST_EVT.CRCERR
  else if 2 < spiCmd f then (n.upHst fun h => { h with cmdErr := true }).spiDrop F.HST_EVT.CMDERR
  else if 64 ≤ n.hst.unrep.length then (n.upHst fun h => { h with ovf := true }).spiDrop F.HST_EVT.OVF
  else if spiCmd f = 0 then (n.stepWrap F.HST_SPICNT.FRAMES).checkHolds
  else
    let wr := spiCmd f == 2
    let n := (n.stepWrap F.HST_SPICNT.FRAMES).upHst fun h => { h with unrep := h.unrep ++ [{ off := spiOff f, write := wr, val := spiData f }] }
    n.serve { org := 1, off := spiOff f, write := wr, val := spiData f, rep := 1 }

/-! ## Tlasyn remote (R345, R346) -/

/-- The next word of the request on pair `k`, unless its last one still waits, as an access of the requesting node. -/
def remoteWord (k : Nat) (n : Lane) : Lane :=
  match n.hst.run.find? fun x => x.1 == k with
  | none => n
  | some (_, q) =>
    let waits := (n.pwr.stalled.any fun a => a.org == 2 && a.rep == k + 1) || n.sys.win.any fun w => w.org == 2 && w.rep == k + 1
    let wr := bits (q.words.getD 0 0#32) 26 26 == 1
    let off := (bits (q.words.getD 1 0#32) 23 0 + 4 * q.i) % 2 ^ 24
    if waits then n
    else n.serve { org := 2, off := off, write := wr, val := q.words.getD (2 + q.i) 0#32, rep := k + 1, node := some q.origin }

/-- REMOTE_ACCESS: the words of the request on pair `k`, up to one that waits. -/
def remoteAccess (k : Nat) (n : Lane) : Lane :=
  match n.hst.run.find? fun x => x.1 == k with
  | none => n
  | some (_, q) => forEach (List.range (bits (q.words.getD 0 0#32) 5 0 - q.i)) (fun _ n => remoteWord k n) n

/-! ## A takeover ends (R407, R408) -/

/-- The record of the current slot at byte `o` is written as an access of policy firmware. -/
def Lane.restoreRecord (n : Lane) (o : Nat) : Lane :=
  let k := n.curSlot
  let off := (n.slotWord k o).toNat % 2 ^ 24
  let inBlock := decide (0x070000 ≤ off) && decide (off < 0x080000) && off % 4 == 0
    && (regRow off).any fun r => r.cls == .c || r.cls == .rt
  let m := if inBlock then n.put32 0 off (n.slotWord k (o + 4)) else n.rejectState 0 off
  if n.f F.SYS_REGERR.SEQ = m.f F.SYS_REGERR.SEQ then m else m.stepSat F.LNT_TKSTAT.REJ

/-- TAKEOVER_COMPLETE: once AUX is ON, the records, 8 LCLK each; ACTIVE; in the next cycle the controllers, the gateway and RESEND. -/
def takeoverComplete (n : Lane) : Lane :=
  let k := n.curSlot
  let ck := n.on F.LNT_CKSTAT.VALID
  let recs := if ck then (n.slotWord k 0x0C).toNat % 1025 else 0
  if n.role = roleTAKING ∧ n.domOn dAUX ∧ max n.lnt.takT n.lnt.auxT + 8 * recs ≤ n.now then
    let n := n.setFs [(F.LNT_TKSTAT.REJ, 0), (F.LNT_TKSTAT.NOCK, b1 (!ck))]
    let n := forEach (List.range recs) (fun i n => n.restoreRecord (32 + 8 * i)) n
    let n := n.setFs [(F.LNT_ROLE.EPOCH, (hbEpoch n.peerHb + 1) % 256), (F.LNT_TKSTAT.LAST, min 65535 ((n.now - n.lnt.takT) / 400))]
    let n := n.setRole roleACTIVE n.lnt.takC
    let modes := if ck then (n.slotWord k 0x14).toNat else 0
    let n := forEach [0, 1] (fun c n => if modes.testBit c then
      n.put32 0 (R.CAN_Cc_MODE c) (setBits (n.rd (R.CAN_Cc_MODE c)) (F.CAN_Cc_MODE.MODE c).hi (F.CAN_Cc_MODE.MODE c).lo 2) else n) n
    let n := n.put32 0 R.CAN_CTRL (setBits (n.rd R.CAN_CTRL) 0 0 1)
    (n.put32 0 R.CAN_GWCMD 1#32).lntCheck.checkHolds
  else n

/-! ## Exits of domains (R447, R450, R455) -/

/-- CORE has left RET: the causes of its wake are recorded (R463); its counters did not run while its clocks stood. -/
def Lane.coreBack (n : Lane) : Lane :=
  let n := (List.range 16).foldl (fun n b => if n.pwr.cause.testBit b then n.sqEventOnce ⟨R.PWR_WCAUSE, b, b⟩ else n) n
  let n := (n.upPwr fun p => { p with cause := 0 }).upLnt fun x => { x with hbT := n.now }
  let gap := n.now - (Cells.get 0 n.pwr.entT dCORE + 400)
  n.upOap fun o => { o with tmr := o.tmr.map fun x => (x.1, x.2 + gap) }

/-- DOMAIN_EXIT_COMPLETE: `d` has been in EXITING for its exit time with the clocks it needs; the accesses that waited proceed. CORE
leaves OFF by a lane start. -/
def exitComplete (d : Nat) (n : Lane) : Lane :=
  let off := Cells.get 0 n.pwr.leaving d == 2
  let x := if off then n.f (F.PWR_Dd_EXIT.XOFF d) else n.f (F.PWR_Dd_EXIT.XRET d)
  let tested := n.sys.selfTest.any fun t => t.domains.contains d
  let clocks := n.on F.CLK_STAT.LOCK && (!xoClass d || (n.on F.CLK_STAT.REF && !n.on F.CLK_STAT.GLIDE))
  if n.domState d = 4 ∧ 9 ≤ n.sys.step ∧ tested = false ∧ clocks = true ∧ Cells.get 0 n.pwr.exitT d + 400 * x ≤ n.now ∧ ¬(d = dCORE ∧ off = true) then
    let n := if off then n.domRestore d else n
    let n := (n.setDom d 0).portsFollow
    let n := if d = dAUX then n.upLnt fun x => { x with auxT := n.now } else n
    let n := if off && d == dCFE then n.copyActiveTables else n
    let n := if d = dCORE then n.coreBack else n
    let n := (n.pwrNotify d 0).idleRestart d
    let n := n.applyPend d
    let n := if d = dAUX ∧ n.upd.due ∧ n.domOn dAUX then n.updTake else n
    n.evalAll.replay.checkHolds
  else n

/-! ## Commands -/

def execHeartbeatSend (l : LaneId) (t : Nat) (s : State) : Host.Outcome State Fault Refusal :=
  onDomain l t dCORE s fun n => (heartbeatSend n).replay
def execSelftestResults (l : LaneId) (t : Nat) (parts : BitVec 16) (mems : BitVec 7) (words : List (BitVec 16)) (s : State) :
    Host.Outcome State Fault Refusal :=
  onAon l t s fun n => (selftestResults parts.toNat mems.toNat words n).replay
def execCommandSelfTestComplete (l : LaneId) (t : Nat) (parts : BitVec 16) (mems : BitVec 7) (words : List (BitVec 16)) (s : State) :
    Host.Outcome State Fault Refusal :=
  onAon l t s fun n => (selfTestEnd parts.toNat mems.toNat words n).replay
def execRegisterWrite (l : LaneId) (t : Nat) (org : Origin) (off : BitVec 24) (size : AccSize) (v : BitVec 64) (s : State) :
    Host.Outcome State Fault Refusal :=
  wellFormedOnly (sizeOk org size) (onLane l t s (registerWrite org.code off.toNat size v))
def execSequenceClear (l : LaneId) (t : Nat) (org : Origin) (off : BitVec 24) (v : W32) (s : State) : Host.Outcome State Fault Refusal :=
  onLane l t s (writeWord org.code off.toNat v)
def execLintelWindowRead (l : LaneId) (t : Nat) (org : Origin) (off : BitVec 23) (s : State) : Host.Outcome State Fault Refusal :=
  onLane l t s (windowRead org.code off.toNat)
def execLintelWindowWrite (l : LaneId) (t : Nat) (org : Origin) (off : BitVec 23) (v : W32) (s : State) : Host.Outcome State Fault Refusal :=
  onLane l t s (writeWord org.code (0x800000 + off.toNat) v)
def execWindowRequestReceive (l : LaneId) (t : Nat) (crc : Bool) (off : BitVec 23) (s : State) : Host.Outcome State Fault Refusal :=
  onLane l t s fun n => n.lintelRx crc (windowRequest off.toNat)
def execWindowResponseReceive (l : LaneId) (t : Nat) (crc ok : Bool) (data : W32) (s : State) : Host.Outcome State Fault Refusal :=
  onLane l t s fun n => n.lintelRx crc fun n => n.windowEnd (if ok then some data else none)
def execWindowReadTimeout (l : LaneId) (t : Nat) (s : State) : Host.Outcome State Fault Refusal := onDomain l t dCORE s windowTimeout
def execWriteBufferDrain (l : LaneId) (t : Nat) (s : State) : Host.Outcome State Fault Refusal := onDomain l t dCORE s bufferDrain
def execLaneLoadComplete (l : LaneId) (t : Nat) (s : State) : Host.Outcome State Fault Refusal := onDomain l t dCORE s loadComplete
def execLdw (l : LaneId) (t : Nat) (fe : Bool) (d a : BitVec 5) (k : BitVec 15) (ecc : Ecc) (s : State) : Host.Outcome State Fault Refusal :=
  instruction l t (encM 0x9 0 d a k) fe s fun n => (n.load d (n.address a k) 4 false ecc).loadStart
def execLdh (l : LaneId) (t : Nat) (fe : Bool) (d a : BitVec 5) (k : BitVec 15) (ecc : Ecc) (s : State) : Host.Outcome State Fault Refusal :=
  instruction l t (encM 0x9 1 d a k) fe s fun n => (n.load d (n.address a k) 2 true ecc).loadStart
def execLdhu (l : LaneId) (t : Nat) (fe : Bool) (d a : BitVec 5) (k : BitVec 15) (ecc : Ecc) (s : State) : Host.Outcome State Fault Refusal :=
  instruction l t (encM 0x9 2 d a k) fe s fun n => (n.load d (n.address a k) 2 false ecc).loadStart
def execLdb (l : LaneId) (t : Nat) (fe : Bool) (d a : BitVec 5) (k : BitVec 15) (ecc : Ecc) (s : State) : Host.Outcome State Fault Refusal :=
  instruction l t (encM 0x9 3 d a k) fe s fun n => (n.load d (n.address a k) 1 true ecc).loadStart
def execLdbu (l : LaneId) (t : Nat) (fe : Bool) (d a : BitVec 5) (k : BitVec 15) (ecc : Ecc) (s : State) : Host.Outcome State Fault Refusal :=
  instruction l t (encM 0x9 4 d a k) fe s fun n => (n.load d (n.address a k) 1 false ecc).loadStart
def execLdp (l : LaneId) (t : Nat) (fe : Bool) (d a : BitVec 5) (k : BitVec 15) (ecc ecch : Ecc) (s : State) : Host.Outcome State Fault Refusal :=
  instruction l t (encM 0x9 5 d a k) fe s fun n => (n.loadPair d (n.address a k) ecc ecch).loadStart
def execStw (l : LaneId) (t : Nat) (fe : Bool) (d a : BitVec 5) (k : BitVec 15) (s : State) : Host.Outcome State Fault Refusal :=
  instruction l t (encM 0xA 0 d a k) fe s fun n => n.store_ (n.address a k) 4 (n.gpr d.toNat) .good
def execSth (l : LaneId) (t : Nat) (fe : Bool) (d a : BitVec 5) (k : BitVec 15) (ecc : Ecc) (s : State) : Host.Outcome State Fault Refusal :=
  instruction l t (encM 0xA 1 d a k) fe s fun n => n.store_ (n.address a k) 2 (n.gpr d.toNat) ecc
def execStb (l : LaneId) (t : Nat) (fe : Bool) (d a : BitVec 5) (k : BitVec 15) (ecc : Ecc) (s : State) : Host.Outcome State Fault Refusal :=
  instruction l t (encM 0xA 3 d a k) fe s fun n => n.store_ (n.address a k) 1 (n.gpr d.toNat) ecc
def execStp (l : LaneId) (t : Nat) (fe : Bool) (d a : BitVec 5) (k : BitVec 15) (s : State) : Host.Outcome State Fault Refusal :=
  instruction l t (encM 0xA 5 d a k) fe s fun n => n.storePair d (n.address a k)
def execSpiNop (l : LaneId) (t : Nat) (f : BitVec 72) (newp : Bool) (s : State) : Host.Outcome State Fault Refusal := onAon l t s (spiFrame f newp)
def execSpiRead (l : LaneId) (t : Nat) (f : BitVec 72) (newp : Bool) (s : State) : Host.Outcome State Fault Refusal := onAon l t s (spiFrame f newp)
def execSpiWrite (l : LaneId) (t : Nat) (f : BitVec 72) (newp : Bool) (s : State) : Host.Outcome State Fault Refusal := onAon l t s (spiFrame f newp)
def execRemoteAccess (l : LaneId) (t : Nat) (k : Fin 4) (s : State) : Host.Outcome State Fault Refusal := onDomain l t dCORE s (remoteAccess k.val)
def execTakeoverComplete (l : LaneId) (t : Nat) (s : State) : Host.Outcome State Fault Refusal := onDomain l t dCORE s takeoverComplete
def execDomainExitComplete (l : LaneId) (t : Nat) (d : Fin 9) (s : State) : Host.Outcome State Fault Refusal := onAon l t s (exitComplete d.val)

end Sys2Proof.Machine
end

