-- ==== Sys2Proof/Machine/Dispatch.lean ====
section
/-! DEFINITION. exec: one arm per constructor of Instr, each one direct call of the command's meaning. -/

namespace Sys2Proof.Machine

open Sys2Proof

/-- The effect of a command on everything but the queue. -/
def exec (i : Instr) (s : State) : Host.Outcome State Fault Refusal :=
  match i with
  | .vaonPowerOn l t => Sys2Proof.Machine.execVaonPowerOn l t s
  | .pornReset l t => Sys2Proof.Machine.execPornReset l t s
  | .trstnReset l t => Sys2Proof.Machine.execTrstnReset l t s
  | .warmStartRequest l t org v => Sys2Proof.Machine.execWarmStartRequest l t org v s
  | .startSequence l t coreOk => Sys2Proof.Machine.execStartSequence l t coreOk s
  | .selftestResults l t parts mems words => Sys2Proof.Machine.execSelftestResults l t parts mems words s
  | .injectionTestEnd l t runs item core => Sys2Proof.Machine.execInjectionTestEnd l t runs item core s
  | .ashlarLoadEnd l t up dn => Sys2Proof.Machine.execAshlarLoadEnd l t up dn s
  | .startupImageCopyEnd l t => Sys2Proof.Machine.execStartupImageCopyEnd l t s
  | .statusMessageReceive l t crc m => Sys2Proof.Machine.execStatusMessageReceive l t crc m s
  | .statusResend l t => Sys2Proof.Machine.execStatusResend l t s
  | .peerWaitExpiry l t => Sys2Proof.Machine.execPeerWaitExpiry l t s
  | .laneRelease l t org v => Sys2Proof.Machine.execLaneRelease l t org v s
  | .groupArm l t org v => Sys2Proof.Machine.execGroupArm l t org v s
  | .lcProvision l t org v => Sys2Proof.Machine.execLcProvision l t org v s
  | .lcField l t org v => Sys2Proof.Machine.execLcField l t org v s
  | .lcToken l t org v => Sys2Proof.Machine.execLcToken l t org v s
  | .lcReturn l t org v => Sys2Proof.Machine.execLcReturn l t org v s
  | .tokenCheckComplete l t => Sys2Proof.Machine.execTokenCheckComplete l t s
  | .lifecycleWriteComplete l t => Sys2Proof.Machine.execLifecycleWriteComplete l t s
  | .returnedEraseComplete l t => Sys2Proof.Machine.execReturnedEraseComplete l t s
  | .commandSelfTest l t org v => Sys2Proof.Machine.execCommandSelfTest l t org v s
  | .commandSelfTestComplete l t parts mems words => Sys2Proof.Machine.execCommandSelfTestComplete l t parts mems words s
  | .registerWrite l t org off size v => Sys2Proof.Machine.execRegisterWrite l t org off size v s
  | .sequenceClear l t org off v => Sys2Proof.Machine.execSequenceClear l t org off v s
  | .lintelWindowRead l t org off => Sys2Proof.Machine.execLintelWindowRead l t org off s
  | .lintelWindowWrite l t org off v => Sys2Proof.Machine.execLintelWindowWrite l t org off v s
  | .windowRequestReceive l t crc off => Sys2Proof.Machine.execWindowRequestReceive l t crc off s
  | .windowResponseReceive l t crc ok data => Sys2Proof.Machine.execWindowResponseReceive l t crc ok data s
  | .windowReadTimeout l t => Sys2Proof.Machine.execWindowReadTimeout l t s
  | .heartbeatSend l t => Sys2Proof.Machine.execHeartbeatSend l t s
  | .heartbeatReceive l t crc w => Sys2Proof.Machine.execHeartbeatReceive l t crc w s
  | .heartbeatMissing l t => Sys2Proof.Machine.execHeartbeatMissing l t s
  | .kmsgReceive l t crc msg => Sys2Proof.Machine.execKmsgReceive l t crc msg s
  | .lintelSyncLoss l t => Sys2Proof.Machine.execLintelSyncLoss l t s
  | .mirrorReceive l t crc slot off data => Sys2Proof.Machine.execMirrorReceive l t crc slot off data s
  | .mirrorCommitReceive l t crc slot seq resync => Sys2Proof.Machine.execMirrorCommitReceive l t crc slot seq resync s
  | .lintelWakeReceive l t => Sys2Proof.Machine.execLintelWakeReceive l t s
  | .peerwake l t org v => Sys2Proof.Machine.execPeerwake l t org v s
  | .chainTrigger l t c => Sys2Proof.Machine.execChainTrigger l t c s
  | .loopDispatch l t => Sys2Proof.Machine.execLoopDispatch l t s
  | .loopOutput l t => Sys2Proof.Machine.execLoopOutput l t s
  | .cfeExecution l t g => Sys2Proof.Machine.execCfeExecution l t g s
  | .pwmStart l t org v => Sys2Proof.Machine.execPwmStart l t org v s
  | .pwmStop l t org v => Sys2Proof.Machine.execPwmStop l t org v s
  | .loadAllArm l t org v => Sys2Proof.Machine.execLoadAllArm l t org v s
  | .pwmEvent l t b cnt down => Sys2Proof.Machine.execPwmEvent l t b cnt down s
  | .compareMatch l t leg cnt down => Sys2Proof.Machine.execCompareMatch l t leg cnt down s
  | .turnOnDue l t leg high => Sys2Proof.Machine.execTurnOnDue l t leg high s
  | .overrideApply l t leg => Sys2Proof.Machine.execOverrideApply l t leg s
  | .groupRun l t org v => Sys2Proof.Machine.execGroupRun l t org v s
  | .groupIdle l t org v => Sys2Proof.Machine.execGroupIdle l t org v s
  | .tripAssert l t trip => Sys2Proof.Machine.execTripAssert l t trip s
  | .tripDeassert l t trip => Sys2Proof.Machine.execTripDeassert l t trip s
  | .tripRelease l t org v => Sys2Proof.Machine.execTripRelease l t org v s
  | .pwmBlockEnable l t org v => Sys2Proof.Machine.execPwmBlockEnable l t org v s
  | .edgeFrame l t k => Sys2Proof.Machine.execEdgeFrame l t k s
  | .edgeFrameDiscard l t k => Sys2Proof.Machine.execEdgeFrameDiscard l t k s
  | .returnFrame l t ok => Sys2Proof.Machine.execReturnFrame l t ok s
  | .gclControlWriteApply l t => Sys2Proof.Machine.execGclControlWriteApply l t s
  | .gclLoss l t refAbsent => Sys2Proof.Machine.execGclLoss l t refAbsent s
  | .directPinTakeover l t => Sys2Proof.Machine.execDirectPinTakeover l t s
  | .directPinChange l t sw level => Sys2Proof.Machine.execDirectPinChange l t sw level s
  | .gclUp l t => Sys2Proof.Machine.execGclUp l t s
  | .gclRearm l t org v => Sys2Proof.Machine.execGclRearm l t org v s
  | .cpokChange l t ok => Sys2Proof.Machine.execCpokChange l t ok s
  | .uvloAssert l t sw vbs => Sys2Proof.Machine.execUvloAssert l t sw vbs s
  | .uvloRecover l t sw => Sys2Proof.Machine.execUvloRecover l t sw s
  | .uvloLatchClear l t org v => Sys2Proof.Machine.execUvloLatchClear l t org v s
  | .feedSwitchOff l t f c => Sys2Proof.Machine.execFeedSwitchOff l t f c s
  | .feedSwitchOn l t f => Sys2Proof.Machine.execFeedSwitchOn l t f s
  | .reverseLatchClear l t f => Sys2Proof.Machine.execReverseLatchClear l t f s
  | .blankingEnd l t sw longest cur => Sys2Proof.Machine.execBlankingEnd l t sw longest cur s
  | .shortDetect l t sw hard => Sys2Proof.Machine.execShortDetect l t sw hard s
  | .softPeriodEnd l t sw => Sys2Proof.Machine.execSoftPeriodEnd l t sw s
  | .comparatorSelfTest l t org v => Sys2Proof.Machine.execComparatorSelfTest l t org v s
  | .gateLeakageCheck l t org v => Sys2Proof.Machine.execGateLeakageCheck l t org v s
  | .checkComplete l t pass slow tch vend => Sys2Proof.Machine.execCheckComplete l t pass slow tch vend s
  | .reflexLatchClear l t org v => Sys2Proof.Machine.execReflexLatchClear l t org v s
  | .gdvBlockEnable l t org v => Sys2Proof.Machine.execGdvBlockEnable l t org v s
  | .feedbackInputChange l t ch inp => Sys2Proof.Machine.execFeedbackInputChange l t ch inp s
  | .absoluteTimeout l t ch => Sys2Proof.Machine.execAbsoluteTimeout l t ch s
  | .ssiTransferComplete l t ch word pre tail => Sys2Proof.Machine.execSsiTransferComplete l t ch word pre tail s
  | .latchSpeedValid l t ch k => Sys2Proof.Machine.execLatchSpeedValid l t ch k s
  | .standstillEntry l t ch => Sys2Proof.Machine.execStandstillEntry l t ch s
  | .speedRefresh l t => Sys2Proof.Machine.execSpeedRefresh l t s
  | .compareListWrite l t org ch v => Sys2Proof.Machine.execCompareListWrite l t org ch v s
  | .comparePulseEnd l t k => Sys2Proof.Machine.execComparePulseEnd l t k s
  | .pulseDividerStep l t => Sys2Proof.Machine.execPulseDividerStep l t s
  | .fbiBlockEnable l t org v => Sys2Proof.Machine.execFbiBlockEnable l t org v s
  | .conversionComplete l t k code => Sys2Proof.Machine.execConversionComplete l t k code s
  | .overcurrentDetect l t a neg => Sys2Proof.Machine.execOvercurrentDetect l t a neg s
  | .overcurrentClear l t a => Sys2Proof.Machine.execOvercurrentClear l t a s
  | .adcCalibrationComplete l t ok => Sys2Proof.Machine.execAdcCalibrationComplete l t ok s
  | .adcBlockEnable l t org v => Sys2Proof.Machine.execAdcBlockEnable l t org v s
  | .commandPinEdge l t high => Sys2Proof.Machine.execCommandPinEdge l t high s
  | .commandTimeout l t => Sys2Proof.Machine.execCommandTimeout l t s
  | .catchGroup l t org v => Sys2Proof.Machine.execCatchGroup l t org v s
  | .catchAbort l t org v => Sys2Proof.Machine.execCatchAbort l t org v s
  | .swap l t org v => Sys2Proof.Machine.execSwap l t org v s
  | .catchWindowExpiry l t g => Sys2Proof.Machine.execCatchWindowExpiry l t g s
  | .cfeBlockEnable l t org v => Sys2Proof.Machine.execCfeBlockEnable l t org v s
  | .cleBlockEnable l t org v => Sys2Proof.Machine.execCleBlockEnable l t org v s
  | .eventDispatch l t => Sys2Proof.Machine.execEventDispatch l t s
  | .budgetExpiry l t => Sys2Proof.Machine.execBudgetExpiry l t s
  | .csrTimerExpiry l t k => Sys2Proof.Machine.execCsrTimerExpiry l t k s
  | .writeBufferDrain l t => Sys2Proof.Machine.execWriteBufferDrain l t s
  | .laneLoadComplete l t => Sys2Proof.Machine.execLaneLoadComplete l t s
  | .add l t fe d a b => Sys2Proof.Machine.execAdd l t fe d a b s
  | .sub l t fe d a b => Sys2Proof.Machine.execSub l t fe d a b s
  | .andR l t fe d a b => Sys2Proof.Machine.execAndR l t fe d a b s
  | .iorR l t fe d a b => Sys2Proof.Machine.execIorR l t fe d a b s
  | .xorR l t fe d a b => Sys2Proof.Machine.execXorR l t fe d a b s
  | .shl l t fe d a b => Sys2Proof.Machine.execShl l t fe d a b s
  | .shr l t fe d a b => Sys2Proof.Machine.execShr l t fe d a b s
  | .sha l t fe d a b => Sys2Proof.Machine.execSha l t fe d a b s
  | .clt l t fe d a b => Sys2Proof.Machine.execClt l t fe d a b s
  | .cltu l t fe d a b => Sys2Proof.Machine.execCltu l t fe d a b s
  | .mins l t fe d a b => Sys2Proof.Machine.execMins l t fe d a b s
  | .maxs l t fe d a b => Sys2Proof.Machine.execMaxs l t fe d a b s
  | .minu l t fe d a b => Sys2Proof.Machine.execMinu l t fe d a b s
  | .maxu l t fe d a b => Sys2Proof.Machine.execMaxu l t fe d a b s
  | .lzc l t fe d a => Sys2Proof.Machine.execLzc l t fe d a s
  | .mull l t fe d a b => Sys2Proof.Machine.execMull l t fe d a b s
  | .mulhs l t fe d a b => Sys2Proof.Machine.execMulhs l t fe d a b s
  | .mulhu l t fe d a b => Sys2Proof.Machine.execMulhu l t fe d a b s
  | .quos l t fe d a b => Sys2Proof.Machine.execQuos l t fe d a b s
  | .quou l t fe d a b => Sys2Proof.Machine.execQuou l t fe d a b s
  | .rmds l t fe d a b => Sys2Proof.Machine.execRmds l t fe d a b s
  | .rmdu l t fe d a b => Sys2Proof.Machine.execRmdu l t fe d a b s
  | .addk l t fe d a k => Sys2Proof.Machine.execAddk l t fe d a k s
  | .andk l t fe d a k => Sys2Proof.Machine.execAndk l t fe d a k s
  | .iork l t fe d a k => Sys2Proof.Machine.execIork l t fe d a k s
  | .xork l t fe d a k => Sys2Proof.Machine.execXork l t fe d a k s
  | .cltk l t fe d a k => Sys2Proof.Machine.execCltk l t fe d a k s
  | .cltuk l t fe d a k => Sys2Proof.Machine.execCltuk l t fe d a k s
  | .hik l t fe d k => Sys2Proof.Machine.execHik l t fe d k s
  | .shk l t fe d a k => Sys2Proof.Machine.execShk l t fe d a k s
  | .ldw l t fe d a k ecc => Sys2Proof.Machine.execLdw l t fe d a k ecc s
  | .ldh l t fe d a k ecc => Sys2Proof.Machine.execLdh l t fe d a k ecc s
  | .ldhu l t fe d a k ecc => Sys2Proof.Machine.execLdhu l t fe d a k ecc s
  | .ldb l t fe d a k ecc => Sys2Proof.Machine.execLdb l t fe d a k ecc s
  | .ldbu l t fe d a k ecc => Sys2Proof.Machine.execLdbu l t fe d a k ecc s
  | .ldp l t fe d a k ecc ecch => Sys2Proof.Machine.execLdp l t fe d a k ecc ecch s
  | .stw l t fe d a k => Sys2Proof.Machine.execStw l t fe d a k s
  | .sth l t fe d a k ecc => Sys2Proof.Machine.execSth l t fe d a k ecc s
  | .stb l t fe d a k ecc => Sys2Proof.Machine.execStb l t fe d a k ecc s
  | .stp l t fe d a k => Sys2Proof.Machine.execStp l t fe d a k s
  | .bre l t fe a b k => Sys2Proof.Machine.execBre l t fe a b k s
  | .brn l t fe a b k => Sys2Proof.Machine.execBrn l t fe a b k s
  | .brl l t fe a b k => Sys2Proof.Machine.execBrl l t fe a b k s
  | .brg l t fe a b k => Sys2Proof.Machine.execBrg l t fe a b k s
  | .brlu l t fe a b k => Sys2Proof.Machine.execBrlu l t fe a b k s
  | .brgu l t fe a b k => Sys2Proof.Machine.execBrgu l t fe a b k s
  | .call l t fe d k => Sys2Proof.Machine.execCall l t fe d k s
  | .callr l t fe d a k => Sys2Proof.Machine.execCallr l t fe d a k s
  | .csrrd l t fe d c => Sys2Proof.Machine.execCsrrd l t fe d c s
  | .csrwr l t fe a c => Sys2Proof.Machine.execCsrwr l t fe a c s
  | .post l t fe e => Sys2Proof.Machine.execPost l t fe e s
  | .fence l t fe => Sys2Proof.Machine.execFence l t fe s
  | .done l t fe => Sys2Proof.Machine.execDone l t fe s
  | .illegalInstruction l t why => Sys2Proof.Machine.execIllegalInstruction l t why s
  | .lockstepMismatch l t item => Sys2Proof.Machine.execLockstepMismatch l t item s
  | .diagnosticVerdict l t main chk => Sys2Proof.Machine.execDiagnosticVerdict l t main chk s
  | .codeScrubComplete l t ok fixed => Sys2Proof.Machine.execCodeScrubComplete l t ok fixed s
  | .portEnable l t org v => Sys2Proof.Machine.execPortEnable l t org v s
  | .portTrained l t p eq => Sys2Proof.Machine.execPortTrained l t p eq s
  | .portSyncLoss l t p sig => Sys2Proof.Machine.execPortSyncLoss l t p sig s
  | .range l t org v => Sys2Proof.Machine.execRange l t org v s
  | .retrain l t org v => Sys2Proof.Machine.execRetrain l t org v s
  | .rangingRequestReceive l t p token ta => Sys2Proof.Machine.execRangingRequestReceive l t p token ta s
  | .rangingReplyReceive l t p token node port rtt => Sys2Proof.Machine.execRangingReplyReceive l t p token node port rtt s
  | .rangingExchangeTimeout l t p => Sys2Proof.Machine.execRangingExchangeTimeout l t p s
  | .bufferFetch l t arb ix => Sys2Proof.Machine.execBufferFetch l t arb ix s
  | .frameSend l t arb ix late => Sys2Proof.Machine.execFrameSend l t arb ix late s
  | .headerReceive l t p head hcrc ta ph => Sys2Proof.Machine.execHeaderReceive l t p head hcrc ta ph s
  | .forwardOverrunCut l t p viol => Sys2Proof.Machine.execForwardOverrunCut l t p viol s
  | .frameEndReceive l t p ws fcrc => Sys2Proof.Machine.execFrameEndReceive l t p ws fcrc s
  | .bufferCommit l t org b v => Sys2Proof.Machine.execBufferCommit l t org b v s
  | .acquire l t org b v => Sys2Proof.Machine.execAcquire l t org b v s
  | .release l t org b v => Sys2Proof.Machine.execRelease l t org b v s
  | .claimWrite l t org k v => Sys2Proof.Machine.execClaimWrite l t org k v s
  | .courseBoundary l t => Sys2Proof.Machine.execCourseBoundary l t s
  | .mortarGapStart l t => Sys2Proof.Machine.execMortarGapStart l t s
  | .coldstartListenExpiry l t => Sys2Proof.Machine.execColdstartListenExpiry l t s
  | .syncEdge l t => Sys2Proof.Machine.execSyncEdge l t s
  | .syncLost l t => Sys2Proof.Machine.execSyncLost l t s
  | .tpeBlockEnable l t org v => Sys2Proof.Machine.execTpeBlockEnable l t org v s
  | .canModeWrite l t org c v => Sys2Proof.Machine.execCanModeWrite l t org c v s
  | .canFrameReceive l t c fr tec rec_ => Sys2Proof.Machine.execCanFrameReceive l t c fr tec rec_ s
  | .txRequest l t org c w v => Sys2Proof.Machine.execTxRequest l t org c w v s
  | .txAbort l t org c w v busy => Sys2Proof.Machine.execTxAbort l t org c w v busy s
  | .txDone l t c o tec rec_ => Sys2Proof.Machine.execTxDone l t c o tec rec_ s
  | .gatewayYieldListen l t c => Sys2Proof.Machine.execGatewayYieldListen l t c s
  | .busOff l t c tec rec_ => Sys2Proof.Machine.execBusOff l t c tec rec_ s
  | .busOffRecovery l t c => Sys2Proof.Machine.execBusOffRecovery l t c s
  | .resend l t org v => Sys2Proof.Machine.execResend l t org v s
  | .canGatewayEnable l t org v => Sys2Proof.Machine.execCanGatewayEnable l t org v s
  | .spiNop l t f newp => Sys2Proof.Machine.execSpiNop l t f newp s
  | .spiRead l t f newp => Sys2Proof.Machine.execSpiRead l t f newp s
  | .spiWrite l t f newp => Sys2Proof.Machine.execSpiWrite l t f newp s
  | .spiPartialFrame l t => Sys2Proof.Machine.execSpiPartialFrame l t s
  | .mailboxIn l t org v => Sys2Proof.Machine.execMailboxIn l t org v s
  | .mailboxOut l t org v => Sys2Proof.Machine.execMailboxOut l t org v s
  | .remoteAccess l t k => Sys2Proof.Machine.execRemoteAccess l t k s
  | .hostRemoteEnable l t org v => Sys2Proof.Machine.execHostRemoteEnable l t org v s
  | .keystoneMessageAccept l t ext => Sys2Proof.Machine.execKeystoneMessageAccept l t ext s
  | .recordRelease l t org v => Sys2Proof.Machine.execRecordRelease l t org v s
  | .firmwareRaise l t org v => Sys2Proof.Machine.execFirmwareRaise l t org v s
  | .severityWrite l t org c v => Sys2Proof.Machine.execSeverityWrite l t org c v s
  | .injectionArm l t org v => Sys2Proof.Machine.execInjectionArm l t org v s
  | .injectionMissed l t => Sys2Proof.Machine.execInjectionMissed l t s
  | .logEntryWrite l t => Sys2Proof.Machine.execLogEntryWrite l t s
  | .logIndexWrite l t org v => Sys2Proof.Machine.execLogIndexWrite l t org v s
  | .safBlockEnable l t org v => Sys2Proof.Machine.execSafBlockEnable l t org v s
  | .contactChange l t p a b => Sys2Proof.Machine.execContactChange l t p a b s
  | .discrepancyTimeout l t p => Sys2Proof.Machine.execDiscrepancyTimeout l t p s
  | .testPulseStart l t k pre => Sys2Proof.Machine.execTestPulseStart l t k pre s
  | .testPulseEnd l t k high => Sys2Proof.Machine.execTestPulseEnd l t k high s
  | .torqueRemovalCommand l t org v => Sys2Proof.Machine.execTorqueRemovalCommand l t org v s
  | .brakeReleaseRequest l t org v => Sys2Proof.Machine.execBrakeReleaseRequest l t org v s
  | .offTestStart l t k => Sys2Proof.Machine.execOffTestStart l t k s
  | .offTestEnd l t k below => Sys2Proof.Machine.execOffTestEnd l t k below s
  | .brakeOutputFail l t k cause => Sys2Proof.Machine.execBrakeOutputFail l t k cause s
  | .sealSample l t up dn => Sys2Proof.Machine.execSealSample l t up dn s
  | .aliveKick l t org v ticks => Sys2Proof.Machine.execAliveKick l t org v ticks s
  | .statusReadbackFail l t alive => Sys2Proof.Machine.execStatusReadbackFail l t alive s
  | .lntBlockEnable l t org v => Sys2Proof.Machine.execLntBlockEnable l t org v s
  | .takeoverComplete l t => Sys2Proof.Machine.execTakeoverComplete l t s
  | .handover l t org v => Sys2Proof.Machine.execHandover l t org v s
  | .blockHandle l t => Sys2Proof.Machine.execBlockHandle l t s
  | .blockPush l t org v => Sys2Proof.Machine.execBlockPush l t org v s
  | .imageVerifyComplete l t => Sys2Proof.Machine.execImageVerifyComplete l t s
  | .transferTimeout l t => Sys2Proof.Machine.execTransferTimeout l t s
  | .activate l t org v => Sys2Proof.Machine.execActivate l t org v s
  | .confirm l t org v => Sys2Proof.Machine.execConfirm l t org v s
  | .revert l t org v => Sys2Proof.Machine.execRevert l t org v s
  | .policyPrepareComplete l t => Sys2Proof.Machine.execPolicyPrepareComplete l t s
  | .dataClearComplete l t => Sys2Proof.Machine.execDataClearComplete l t s
  | .tableCopyComplete l t => Sys2Proof.Machine.execTableCopyComplete l t s
  | .settingsCommit l t org v => Sys2Proof.Machine.execSettingsCommit l t org v s
  | .updBlockEnable l t org v => Sys2Proof.Machine.execUpdBlockEnable l t org v s
  | .idleCountExpiry l t d => Sys2Proof.Machine.execIdleCountExpiry l t d s
  | .domainEntryComplete l t d => Sys2Proof.Machine.execDomainEntryComplete l t d s
  | .domainExitComplete l t d => Sys2Proof.Machine.execDomainExitComplete l t d s
  | .domainExitTimeout l t d => Sys2Proof.Machine.execDomainExitTimeout l t d s
  | .vetchMatch l t => Sys2Proof.Machine.execVetchMatch l t s
  | .wakeTimerExpiry l t => Sys2Proof.Machine.execWakeTimerExpiry l t s
  | .supplyOutOfWindow l t k => Sys2Proof.Machine.execSupplyOutOfWindow l t k s
  | .xoStable l t => Sys2Proof.Machine.execXoStable l t s
  | .pllLock l t => Sys2Proof.Machine.execPllLock l t s
  | .glideComplete l t => Sys2Proof.Machine.execGlideComplete l t s
  | .crystalFail l t => Sys2Proof.Machine.execCrystalFail l t s
  | .pllUnlock l t => Sys2Proof.Machine.execPllUnlock l t s
  | .aclkCalibration l t lpt => Sys2Proof.Machine.execAclkCalibration l t lpt s
  | .vaonPowerLoss l t => Sys2Proof.Machine.execVaonPowerLoss l t s
  | .supplyInWindow l t k => Sys2Proof.Machine.execSupplyInWindow l t k s
  | .lintelSyncAcquired l t => Sys2Proof.Machine.execLintelSyncAcquired l t s
  | .errorPassive l t c tec rec_ => Sys2Proof.Machine.execErrorPassive l t c tec rec_ s
  | .vetchLineChange l t clk dat => Sys2Proof.Machine.execVetchLineChange l t clk dat s

end Sys2Proof.Machine
end

