-- ==== Sys2Proof/Machine/Pins.lean ====
section
/-! DEFINITION. The pins a lane drives, as functions of its state (R22, R501): what each of them shows to the board. -/

namespace Sys2Proof.Machine

/-- What an output pin shows: a level, nothing (high impedance, or no signal), or frames whose bits the model does not hold. -/
inductive PinLevel where
  | low | high | floating | signal
  deriving DecidableEq, Repr

/-- The pins a lane drives. Switches are numbered 2 (n − 1) for GHn and 2 (n − 1) + 1 for GLn; ports as PORTp. -/
inductive OutPin where
  | gate (s : Fin 14) | feed (f : Fin 2) | sbo (k : Fin 2) | okh | alive | stp (k : Fin 2) | rston | irq | vetchDat
  | pco (k : Fin 4) | fbck (ch : Fin 4) | pdoA | pdoB | serdes (p : Fin 4) | canTx (c : Fin 2)
  deriving DecidableEq, Repr

def PinLevel.of (b : Bool) : PinLevel := if b then .high else .low

/-- The lane is released to actuation (R479). -/
def Lane.released (n : Lane) : Bool := n.on F.SYS_ARMSTAT.RELEASED

/-- What pin `p` shows. A gate driver shows the level it drives; STP0 and STP1 are low within their pulses (R380); PDO_A leads PDO_B for
forward steps (R181). FBn_CK is low in every mode but SSI (R154).
CANn_TX is recessive (high) unless the controller is in NORMAL with AUX on (R331). -/
def Lane.pin (n : Lane) (p : OutPin) : PinLevel :=
  match p with
  | .gate s => .of (n.sys.powered && n.released && (n.sw s.val).on)
  | .feed f => .of (n.sys.powered && n.released && (n.feed f.val).testBit 0)
  | .sbo k => .of (n.sys.powered && n.released && n.bit F.SAF_STAT.SBOON k.val)
  | .okh => .of (n.sys.powered && n.released && n.on F.SAF_STAT.OKH)
  | .alive => .of (n.sys.powered && n.on F.SAF_STAT.ALIVE)
  | .stp k => .of (n.sys.powered && n.on F.SAF_CTRL.EN && !(n.saf.pulse.any fun q => q.1 == k.val))
  | .rston => if n.sys.powered then .of n.sys.rston else .floating
  | .irq => if n.sys.powered && n.irqLow then .low else .floating
  | .vetchDat => if n.sys.powered && n.pwr.vetch.ack then .low else .floating
  | .pco k => if n.sys.powered then .of (n.on F.FBI_CTRL.EN && (if n.now ≤ n.fbi.pcoT then n.fbi.pcoOld else n.fbi.pco).testBit k.val) else .floating
  | .fbck ch => if n.sys.powered then .of (n.on F.FBI_CTRL.EN && n.fmode ch.val == 4 && n.ssiClock ch.val) else .floating
  | .pdoA => if n.sys.powered then .of (n.on F.FBI_CTRL.EN && (n.fbi.pdPhase == 1 || n.fbi.pdPhase == 2)) else .floating
  | .pdoB => if n.sys.powered then .of (n.on F.FBI_CTRL.EN && decide (2 ≤ n.fbi.pdPhase)) else .floating
  | .canTx c =>
    if !n.sys.powered then .floating
    else if n.released && n.domOn dAUX && n.canMode c.val == 2 && n.f (F.CAN_Cc_STAT.ESTATE c.val) != 2 then .signal else .high
  | .serdes p => if n.sys.powered && !n.halted && n.portSt p.val != pDARK then .high else .floating

end Sys2Proof.Machine
end

