-- ==== Sys2Proof/Safety.lean ====
section
/-! DEFINITION. The terms in which claims are stated: what one lane may do to the other, the states every lane can be in, what a command
answers, and when a register access is served. -/

namespace Sys2Proof.Machine

/-! ## The package -/

/-- Every waiting command is sent to lane `l`. -/
def State.onlyTo (l : LaneId) (s : State) : Prop := ∀ c ∈ s.pending, c.lane = l

/-- Only lane `l` has commands waiting, and the other lane is as `n₀` (R15 to R19: nothing a lane does reaches into the other). -/
def State.Apart (l : LaneId) (n₀ : Lane) (s : State) : Prop := s.onlyTo l ∧ s.lane l.other = n₀

/-- Every waiting command is one a sender can form. -/
def State.formed (s : State) : Prop := ∀ c ∈ s.pending, c.wellFormed = true

/-- Lane `l` in the cycle in which a command that names lane time `t` is registered. -/
def State.laneAt (s : State) (l : LaneId) (t : Nat) : Lane := (s.lane l).advance t

/-- The command answers a next state in which its lane satisfies `P`, and nothing else of the package has changed. -/
def Answers (c : Instr) (s : State) (P : Lane → Prop) : Prop := ∃ m : Lane, exec c s = .next (s.setLane c.lane m) ∧ P m

/-! ## What a command leaves alone -/

/-- `m` is `n`, but for what the power controller holds: registers of PWR and CLK and its own state (the idle counts an access restarts,
the domains whose holds a command changes, R449, R450). Nothing else of the lane differs. -/
structure PowerOnly (n m : Lane) : Prop where
  parts : m = { n with regs := m.regs, pwr := m.pwr }
  regs  : ∀ off, off < 0x001000 ∨ 0x003000 ≤ off → m.rd off = n.rd off

/-! ## Registers and messages (R85, R89, R350) -/

/-- From `n` to `m` the fields take the values given; besides them at most what the power controller holds differs. -/
def Sets (n m : Lane) (fs : List (FRef × Nat)) : Prop := PowerOnly (n.setFs fs) m

/-- `m` has queued one message more than `n` for the collector, with this source code, kind and word, marked if an injection was armed
for it (R369); nothing else of the collector differs but what it keeps of an injection. -/
def Raised (n m : Lane) (src kind word : Nat) : Prop :=
  m.kst = { n.kst with msgs := m.kst.msgs, inj := m.kst.inj, redo := m.kst.redo } ∧ (n.injArmed src word = false → m.kst.inj = n.kst.inj) ∧
  ∃ x : Msg, m.kst.msgs = n.kst.msgs ++ [x] ∧ x.src = src ∧ x.kind = kind ∧ x.word = word % 2 ^ 16 ∧ x.inj = n.injArmed src word

/-- From `n` to `m` the fields take the values given and one message is queued; besides them at most what the power controller holds
differs. -/
def SetsRaises (n m : Lane) (fs : List (FRef × Nat)) (src kind word : Nat) : Prop :=
  Sets { n with kst := m.kst } m fs ∧ Raised n m src kind word

/-- A counting field one higher, or at its largest value. -/
def Lane.counted (n : Lane) (r : FRef) : FRef × Nat := (r, min (2 ^ (r.hi + 1 - r.lo) - 1) (n.f r + 1))

/-- An event recorded in a sequence-clear register: its flag, and SEQ stepped 1, 2, …, 255, 1 (R85). -/
def Lane.recorded (n : Lane) (flag : FRef) : List (FRef × Nat) :=
  let q := n.f ⟨flag.off, 7, 0⟩
  [(flag, 1), (⟨flag.off, 7, 0⟩, if q = 255 then 1 else q + 1)]

/-- An event that is recorded only while its flag is clear. -/
def Lane.recordedOnce (n : Lane) (flag : FRef) : List (FRef × Nat) := if n.on flag then [] else n.recorded flag

/-- From `n` to `m` an access is rejected (R89, R92): SYS_REGERR counts it and steps SEQ, the pair describes it if it is the first since
the last clear, and the SYS source, for NOANSWER the Lintel source, is raised with the offset's bits [17:2]. -/
def Rejected (n m : Lane) (kind org off : Nat) (write : Bool) (strobe : Nat) : Prop :=
  SetsRaises n m
    ((if n.on F.SYS_REGERR.FLAG then [] else
      [(F.SYS_REGERR.KIND, kind), (F.SYS_REGERR.ORIGIN, org), (F.SYS_REGERR.WRITE, b1 write), (F.SYS_REGADR.STROBE, strobe),
        (F.SYS_REGADR.OFFSET, off)]) ++ [n.counted F.SYS_REGERR.COUNT] ++ n.recorded F.SYS_REGERR.FLAG)
    (if kind = 9 then 0x20 else 0x00) 1 (off / 4)

/-- The byte lanes of an access. -/
def laneMask (off size : Nat) : Nat := (2 ^ size - 1) * 2 ^ (off % 4) % 16

/-- Some registers to which a write does nothing but store (R77): each block has its own rules for its other registers. -/
def plainRegs : List Nat :=
  [R.HST_IRQEN, R.HST_RAALLOW, R.LNT_GWCFG, R.UPD_RELAY, R.UPD_XFERTO, R.CAN_Cc_NBT 0, R.CAN_Cc_DBT 1, R.CAN_Cc_ADDR 0, R.SYS_TOKw 0,
    R.UPD_STAGEw 5]

/-! ## Instructions of the policy engine (R251 to R253) -/

/-- The word `w` stands at the PC of a running handler that may issue it in this cycle. -/
def Lane.issues (n : Lane) (w : W32) : Bool := n.domOn dCORE && n.canIssue && n.codeWord == some w

/-- The lane at an issue; `fe` says that the instruction's word was corrected when it was fetched (R250), which counts once for a store
that waits for the write buffer. -/
def Lane.fetched (n : Lane) (fe : Bool) : Lane := if fe = true ∧ n.oap.stall = false then n.eccCode n.pcWord else n

/-- From `n` to `m`, general register `d` takes `v` (nothing is written where `d` is w0, R247), the PC moves to `pc` and the next
instruction issues `cyc` cycles later. Nothing else changes. -/
structure Ran (n m : Lane) (d : Nat) (v pc : W32) (cyc : Nat) : Prop where
  value : m.gpr d = if d = 0 then 0#32 else v
  gprs  : ∀ i, i ≠ d → m.gpr i = n.gpr i
  pc    : m.oap.pc = pc
  next  : m.oap.next = n.now + cyc
  frame : m = { n with oap := { n.oap with gpr := m.oap.gpr, pc := m.oap.pc, next := m.oap.next } }

/-- From `n` to `m`, the handler of event `e` is abandoned with `cause` (R260): CSR_FAULT names cause, event and PC, CSR_FAULTADR a
faulting data address, the Oapiec source is raised with the PC's word, and no register, PC, data byte or buffered store changes. An
activation may end with the handler (R431), so this is said of a lane in which none is in progress. -/
structure Abandoned (n m : Lane) (e cause : Nat) (adr : Option W32) : Prop where
  idle  : m.oap.handler = none
  fault : m.csr 0x021 = BitVec.ofNat 32 (cause * 2 ^ 28 + e * 2 ^ 18 + n.oap.pc.toNat % 2 ^ 18)
  adr   : m.csr 0x022 = adr.getD (n.csr 0x022)
  raise : Raised n m (0x0F + abandonKind cause) (abandonKind cause) (n.oap.pc.toNat / 4)
  csrs  : ∀ k, k ≠ 0x021 → k ≠ 0x022 → ¬(cause = 4 ∧ k = 0x180 + e) → m.csr k = n.csr k
  frame : ∃ k : Lane, PowerOnly k m ∧ k = { n with kst := k.kst, oap := { n.oap with handler := none, csr := k.oap.csr } }

/-- A register-form instruction with function `fn` computes `f` of its sources in `cyc` cycles. -/
def RegisterForm (c : LaneId → Nat → Bool → BitVec 5 → BitVec 5 → BitVec 5 → Instr) (fn cyc : Nat) (f : W32 → W32 → W32) : Prop :=
  ∀ (s : State) (l : LaneId) (t : Nat) (fe : Bool) (d a b : BitVec 5), (s.laneAt l t).issues (encR fn d a b) = true →
    Answers (c l t fe d a b) s fun m =>
      let n := (s.laneAt l t).fetched fe
      Ran n m d.toNat (f (n.gpr a.toNat) (n.gpr b.toNat)) (n.oap.pc + 4#32) cyc

/-- A constant-form instruction of class `cls` computes `f` of its source and its constant in one cycle. -/
def ConstantForm (c : LaneId → Nat → Bool → BitVec 5 → BitVec 5 → BitVec 18 → Instr) (cls : Nat) (f : W32 → BitVec 18 → W32) : Prop :=
  ∀ (s : State) (l : LaneId) (t : Nat) (fe : Bool) (d a : BitVec 5) (k : BitVec 18), (s.laneAt l t).issues (encK cls d a k) = true →
    Answers (c l t fe d a k) s fun m =>
      let n := (s.laneAt l t).fetched fe
      Ran n m d.toNat (f (n.gpr a.toNat) k) (n.oap.pc + 4#32) 1

/-- From `n` to `m`, a jump to `target` that takes `cyc` cycles and leaves `ret` in register `d`; to an address outside the active bank
it abandons the handler instead (R260). -/
def Jumped (n m : Lane) (d : Nat) (ret target : W32) (cyc : Nat) : Prop :=
  if target.toNat < 0x40000 then Ran n m d ret target cyc
  else ∀ e, n.oap.handler = some e → n.upd.act = none → Abandoned n m e 2 none

/-- A branch with condition number `cnd` is taken where `p` holds of its sources. -/
def BranchForm (c : LaneId → Nat → Bool → BitVec 5 → BitVec 5 → BitVec 13 → Instr) (cnd : Nat) (p : W32 → W32 → Prop) : Prop :=
  ∀ (s : State) (l : LaneId) (t : Nat) (fe : Bool) (a b : BitVec 5) (k : BitVec 13), (s.laneAt l t).issues (encB cnd a b k) = true →
    Answers (c l t fe a b k) s fun m =>
      let n := (s.laneAt l t).fetched fe
      (p (n.gpr a.toNat) (n.gpr b.toNat) → Jumped n m 0 0#32 (n.oap.pc + 4#32 * k.signExtend 32) 3) ∧
      (¬p (n.gpr a.toNat) (n.gpr b.toNat) → Ran n m 0 0#32 (n.oap.pc + 4#32) 1)

/-- From `n` to `m`, the handler is abandoned with `cause`, as R260 says of a lane without an activation. -/
def Abandons (n m : Lane) (cause : Nat) (adr : Option W32) : Prop :=
  ∀ e, n.oap.handler = some e → n.upd.act = none → Abandoned n m e cause adr

/-- From `n` to `m`, the loads `ls` wait for the lane bus and the next instruction follows. -/
def WaitsFor (n m : Lane) (ls : List LoadWait) : Prop :=
  m.oap = { n.oap with loads := ls, pc := n.oap.pc + 4#32, next := n.now + 12 } ∧ m.kst = n.kst ∧ m.mram = n.mram ∧
    ∀ off, off < 0x001000 ∨ 0x003000 ≤ off → m.rd off = n.rd off

/-- A byte of one of the pair's memories, by its address (R248). -/
def Lane.oapByte (n : Lane) (a : Nat) : Byte :=
  if a < 0x40000 then Cells.get 0#8 n.oap.active a
  else if a < 0x140000 then Cells.get 0#8 n.oap.shadow (a - 0x100000)
  else Cells.get 0#8 n.oap.data (a - 0x20000000)

/-- The half-word and the word at an address, lowest byte first (R8). -/
def Lane.oapHalf (n : Lane) (a : Nat) : BitVec 16 := n.oapByte (a + 1) ++ n.oapByte a
def Lane.oapWord (n : Lane) (a : Nat) : W32 := n.oapHalf (a + 2) ++ n.oapHalf a

/-- A load of `size` bytes with size code `sz`, whose value is `val` of the lane and the address (R252, R253): from the code banks and
data memory at once, unless the address is unaligned or lies nowhere or the word cannot be corrected; from lane space over the bus. -/
def LoadForm (c : LaneId → Nat → Bool → BitVec 5 → BitVec 5 → BitVec 15 → Ecc → Instr) (sz size : Nat) (sgn : Bool)
    (val : Lane → Nat → W32) : Prop :=
  ∀ (s : State) (l : LaneId) (t : Nat) (fe : Bool) (d a : BitVec 5) (k : BitVec 15) (ecc : Ecc),
    (s.laneAt l t).issues (encM 9 sz d a k) = true →
    Answers (c l t fe d a k ecc) s fun m =>
      let n := (s.laneAt l t).fetched fe
      let x := n.gpr a.toNat + k.signExtend 32
      if region x = 4 then WaitsFor n m [{ off := x.toNat - 0x40000000, size := size, signed := sgn, dest := d.toNat }]
      else if region x = 0 ∨ x.toNat % size ≠ 0 then Abandons n m 2 (some x)
      else if ecc = .bad then Abandons n m 3 (some x)
      else Ran (n.eccAt x ecc) m d.toNat (val n x.toNat) (n.oap.pc + 4#32) (if region x = 3 then 2 else 3)

/-- From `n` to `m`, data memory takes `size` bytes of `v` from byte `o` on, lowest first, and the next instruction issues `cyc` cycles
later; every other byte and everything else is as before. A mismatch in this cycle takes the store back (R265). -/
structure Stored (n m : Lane) (o : Nat) (v : BitVec 64) (size cyc : Nat) : Prop where
  bytes : ∀ i, i < size → Cells.get 0#8 m.oap.data (o + i) = v.extractLsb' (8 * i) 8
  rest  : ∀ i, i < o ∨ o + size ≤ i → Cells.get 0#8 m.oap.data i = Cells.get 0#8 n.oap.data i
  frame : m = { n with oap := { n.oap with data := m.oap.data, held := m.oap.held, pc := n.oap.pc + 4#32, next := n.now + cyc } }
  taken : ∀ i, n.oap.held = [] → Cells.get 0#8 m.takeBack.oap.data i = Cells.get 0#8 n.oap.data i

/-- From `n` to `m`, the entries enter the write buffer, or the store waits for free ones and is in progress (R259, R263). -/
def Buffered (n m : Lane) (es : List WEntry) (cyc : Nat) : Prop :=
  if n.oap.wbuf.length + es.length ≤ 8 then
    m = { n with oap := { n.oap with wbuf := n.oap.wbuf ++ es, stall := false, pc := n.oap.pc + 4#32, next := n.now + cyc } }
  else m = { n with oap := { n.oap with stall := true } }

/-- What a store of up to a word does (R252, R253); a narrow one to data memory reads the word first (R250). -/
def StoreForm (n m : Lane) (x : W32) (size : Nat) (v : W32) (ecc : Ecc) : Prop :=
  if region x = 4 then Buffered n m [{ t := n.now, off := x.toNat - 0x40000000, size := size, data := v }] 1
  else if region x ≠ 3 ∨ x.toNat % size ≠ 0 then Abandons n m 2 (some x)
  else if ecc = .bad then Abandons n m 3 (some x)
  else Stored (n.eccAt x ecc) m (x.toNat - 0x20000000) (v.setWidth 64) size (if size = 4 then 1 else 3)

/-- Event `e` is the one R258 dispatches: pending and enabled, and every other such event has a lower PRIO, or the same PRIO and a higher
number. -/
def Lane.firstEvent (n : Lane) (e : Nat) : Prop :=
  e < 64 ∧ n.evPending e = true ∧ n.evEnabled e = true ∧
  ∀ i, i < 64 → n.evPending i = true → n.evEnabled i = true → i ≠ e →
    bits (n.csr (0x140 + i)) 29 28 < bits (n.csr (0x140 + e)) 29 28 ∨
    (bits (n.csr (0x140 + i)) 29 28 = bits (n.csr (0x140 + e)) 29 28 ∧ e < i)

/-- From `n` to `m`, event `e` occurs (R257): it becomes pending if it is enabled, and what pends stays pending. -/
def Occurs (n m : Lane) (e : Nat) : Prop :=
  m.evPending e = (n.evPending e || n.evEnabled e) ∧ ∀ i, i < 64 → i ≠ e → m.evPending i = n.evPending i

/-! ## Register access (R71, R89 to R92, R455) -/

/-- A word write of requester `org` to `off` reaches the block at `off` now: the lane bus is up and closed to nobody, no earlier
access of the requester waits, the Ashlar load does not bar it, its partition is in service, its domain is ON and, for a gateway slot,
the mirror queue has room. -/
def Lane.serves (n : Lane) (org off : Nat) : Bool :=
  !n.shut { org := org, off := off, write := true } && n.busUp && !n.mustQueue org && !n.loadingRejects off && !n.outOfService off
    && n.reachable org off && !n.mirrorWaits { org := org, off := off, write := true }

/-- A word write is served, and neither enable, lock, write-once mark, class nor TUNING range rejects it (R56, R81 to R83). -/
def Lane.accepts (n : Lane) (org off : Nat) (v : W32) : Bool :=
  n.serves org off && (match regRow off with
    | some r => (n.judge r off v).isNone
    | none => false)

/-- The lane after an access has reached the block at `off`: the idle count of its domain restarts (R450). -/
def Lane.touch (n : Lane) (off : Nat) : Lane :=
  match domainOf off with
  | some d => n.idleRestart d
  | none => n

/-! ## Commands as statements name them -/

/-- A command that writes the register at `off`: where the write is accepted it answers a next state, and `P` tells that state of the
requester, the word and the lane before. -/
def OnWrite (c : LaneId → Nat → Origin → W32 → Instr) (off : Nat) (P : Origin → W32 → Lane → Lane → Prop) : Prop :=
  ∀ (s : State) (l : LaneId) (t : Nat) (org : Origin) (v : W32), (s.laneAt l t).accepts org.code off v = true →
    Answers (c l t org v) s (P org v (s.laneAt l t))

/-- An event of domain `d`: while `d` is ON it answers a next state, and `P` tells that state of the lane before. -/
def OnEvent (d : Nat) (c : LaneId → Nat → Instr) (P : Lane → Lane → Prop) : Prop :=
  ∀ (s : State) (l : LaneId) (t : Nat), (s.laneAt l t).domOn d = true → Answers (c l t) s (P (s.laneAt l t))

/-- An event of the AON domain: while the lane is powered it answers a next state, and `P` tells that state of the lane before. -/
def OnPowered (c : LaneId → Nat → Instr) (P : Lane → Lane → Prop) : Prop :=
  ∀ (s : State) (l : LaneId) (t : Nat), (s.laneAt l t).sys.powered = true → Answers (c l t) s (P (s.laneAt l t))

end Sys2Proof.Machine
end

