-- ==== Sys2Proof/Certificates/Slice0/Obligations.lean ====
section
/-! DEFINITION. The statements for the provers. -/

open Sys2Proof Sys2Proof.Machine

/-! ## The block as a whole -/

/-- A step of the block runs the command at the front of its queue, on the state with the queue's rest; with nothing waiting it idles
(log entry 2). -/
def Obligations.StepRunsFront : Prop :=
  (∀ (s : State) (c : Instr), step { s with pending := c :: s.pending } = exec c s) ∧ ∀ s : State, s.pending = [] → step s = .next s

/-- Every command that a sender can form answers a next state, whatever the state; any other command is a fault (log entry 7). -/
def Obligations.FormedCommandsComplete : Prop :=
  ∀ (c : Instr) (s : State), (c.wellFormed = true → ∃ s', exec c s = .next s') ∧ (c.wellFormed = false → exec c s = .fault .illFormed)

/-- R15 to R19: a command changes nothing of the other lane, and nothing of the queue. -/
def Obligations.CommandsStayInTheirLane : Prop :=
  ∀ (c : Instr) (s s' : State), exec c s = .next s' → s'.pending = s.pending ∧ s'.lane c.lane.other = s.lane c.lane.other

/-- R15 to R19, R22: every step keeps the lanes apart: while only one lane is commanded, the other stays exactly as it is. -/
def Obligations.StepKeepsApart : Prop :=
  ∀ (l : LaneId) (n₀ : Lane) (s s' : State), s.Apart l n₀ → step s = .next s' → s'.Apart l n₀

/-- Right after power-on the lanes are apart, no command waits, no register but those of the chip's identity, the cause of the start and
lane 2's Vetch address differs from its reset value, no memory holds anything, and the engine's registers are 0. What MRAM, the code
banks and the chip's identity hold is the model's choice (log entries 3, 12 and 13). -/
def Obligations.ResetState : Prop :=
  State.reset.pending = [] ∧ ∀ l : LaneId, State.reset.Apart l (State.reset.lane l.other) ∧
    (let n := State.reset.lane l
     n.id = l ∧ n.sys.step = 1 ∧ n.role = roleNONE ∧ n.tpeSt = tOFF ∧ n.mram = {} ∧ n.f F.SYS_LANE.LANE = l.num ∧
     (∀ r, n.gpr r = 0#32) ∧ n.csr 0 = 0x100#32 ∧ n.csr 0x140 = 0xB0000000#32 ∧ n.evEnabled 0 = true ∧
     (∀ a, n.oapByte a = 0#8) ∧ n.rd 0x006020 = 0x00000A14#32 ∧ n.rd 0x006024 = 0x0CCD0148#32 ∧ n.rd 0x00200C = 0x0005F5E1#32 ∧
     (∀ b < 3, n.f (F.PWM_TBb_PER.PER b) = 0xFFFF) ∧ (∀ p < 4, n.portSt p = pDARK) ∧
     ∀ off, off ∉ [0x000004, 0x000008, 0x000034, 0x001010] → n.rd off = mapReset off)

/-- R22, R501: a lane that is unpowered or not released holds its gate outputs low, its feed switches and brake outputs off and OKH low; an unpowered one
sends nothing and drives neither RSTON nor HS_IRQN. R331, R478: a powered lane that is not released holds its CAN outputs recessive, and a halted
one drives no SerDes. -/
def Obligations.PassivePins : Prop :=
  ∀ n : Lane,
    (n.sys.powered = false ∨ n.released = false → (∀ s, n.pin (.gate s) = .low) ∧
      (∀ f, n.pin (.feed f) = .low) ∧ (∀ k, n.pin (.sbo k) = .low) ∧ n.pin .okh = .low) ∧
    (n.sys.powered = false → (∀ p, n.pin (.serdes p) = .floating) ∧ n.pin .rston = .floating ∧ n.pin .irq = .floating ∧
      n.pin .alive = .low) ∧
    (n.sys.powered = true → n.pin .rston = (if n.sys.rston then .high else .low) ∧
      (n.released = false → ∀ c, n.pin (.canTx c) = .high) ∧
      ∀ p : Fin 4, n.portSt p = pDARK ∨ n.halted = true → n.pin (.serdes p) = .floating)

/-! ## Register access (spec/03) -/

/-- R75: an unaligned word, 64-bit or half-word write has, in its turn, no effect and is recorded with kind UNALIGNED. R73, R20: a narrow aligned
write to an implemented location is recorded with kind WIDTH, one to the Lintel window with kind WINDOW. R56, R60, R77, R81 to R83,
R300: how a word write is judged by the class of its register. R77, R83: an accepted write stores the writable bits and leaves reserved
ones and every other register. -/
def Obligations.WritesJudged : Prop :=
  (∀ (s : State) (l : LaneId) (t : Nat) (org : Origin) (off : BitVec 24) (v : BitVec 64), let n := s.laneAt l t
     n.shut { org := org.code, off := off.toNat, write := true } = false → n.busUp = true → n.mustQueue org.code = false →
     (off.toNat % 4 ≠ 0 →
       Answers (.registerWrite l t org off .word v) s fun m => Rejected n m 2 org.code off.toNat true (laneMask off.toNat 4)) ∧
     (org = .firmware ∨ org = .debug → off.toNat % 4 ≠ 0 →
       Answers (.registerWrite l t org off .double v) s fun m => Rejected n m 2 org.code off.toNat true (laneMask off.toNat 8)) ∧
     (org = .firmware ∨ org = .debug → off.toNat % 2 ≠ 0 →
       Answers (.registerWrite l t org off .half v) s fun m => Rejected n m 2 org.code off.toNat true (laneMask off.toNat 2))) ∧
  (∀ (s : State) (l : LaneId) (t : Nat) (org : Origin) (off : BitVec 24) (v : BitVec 64) (half : Bool), let n := s.laneAt l t
     let o := off.toNat
     let size := if half then 2 else 1
     org = .firmware ∨ org = .debug → o % size = 0 → n.serves org.code (o / 4 * 4) = true →
     Answers (.registerWrite l t org off (if half then .half else .byte) v) s fun m =>
       (o < 0x800000 → implemented (o / 4 * 4) = true → Rejected n m 1 org.code o true (laneMask o size)) ∧
       (o < 0x800000 → implemented (o / 4 * 4) = false → PowerOnly n m) ∧
       (0x800000 ≤ o → Rejected n m 8 org.code o true (laneMask o size))) ∧
  (∀ (s : State) (l : LaneId) (t : Nat) (org : Origin) (off : BitVec 24) (v : BitVec 64), let n := s.laneAt l t
     let o := off.toNat
     let x : W32 := v.setWidth 32
     o % 4 = 0 → o < 0x800000 →
     (n.serves org.code o = true → Answers (.registerWrite l t org off .word v) s fun m =>
       (0x060000 ≤ o → o < 0x070000 → Rejected n m 4 org.code o true 15) ∧
       (isMemory o = false → regRow o = none → PowerOnly n m) ∧
       ∀ r, isMemory o = false → regRow o = some r →
         (r.cls = .ro → Rejected n m 6 org.code o true 15) ∧
         (r.cls = .c → n.enableSet o = true → Rejected n m 3 org.code o true 15) ∧
         (r.cls = .l → n.lockSet o = true → Rejected n m 4 org.code o true 15) ∧
         (r.cls = .w1 → n.sys.w1.contains o = true → Rejected n m 5 org.code o true 15) ∧
         (r.cls = .c ∧ n.enableSet o = false ∨ r.cls = .rt → n.inTuning o x = false → Rejected n m 7 org.code o true 15)) ∧
     (n.shut { org := org.code, off := o, write := true } = false → n.busUp = true → n.mustQueue org.code = false →
       n.loadingRejects o = true →
       Answers (.registerWrite l t org off .word v) s fun m => Rejected n m 7 org.code o true 15)) ∧
  (∀ (s : State) (l : LaneId) (t : Nat) (org : Origin) (off : BitVec 24) (v : BitVec 64) (r : RegRow), let n := s.laneAt l t
     let o := off.toNat
     let x : W32 := v.setWidth 32
     o ∈ plainRegs → regRow o = some r → n.accepts org.code o x = true →
     Answers (.registerWrite l t org off .word v) s fun m =>
       PowerOnly (n.wr o ((n.rd o &&& ~~~(BitVec.ofNat 32 r.wmask)) ||| (x &&& BitVec.ofNat 32 r.wmask))) m)

/-- R86, R92: writing back the SEQ of a sequence-clear register clears everything but SEQ (and BUSY of SYS_LCSTAT, which is of class
RO); SYS_REGADR clears with SYS_REGERR; any other value changes nothing. -/
def Obligations.SequenceClearClears : Prop :=
  ∀ (s : State) (l : LaneId) (t : Nat) (org : Origin) (off : BitVec 24) (v : W32) (r : RegRow), let n := s.laneAt l t
    let o := off.toNat
    let q := n.f ⟨o, 7, 0⟩
    o % 4 = 0 → o < 0x800000 → isMemory o = false → regRow o = some r → r.cls = .sq → n.serves org.code o = true →
    Answers (.sequenceClear l t org off v) s fun m =>
      if bits v 7 0 = q ∧ q ≠ 0 then
        PowerOnly (let k := n.wr o (BitVec.ofNat 32 (q + if o = R.SYS_LCSTAT then 512 * n.f F.SYS_LCSTAT.BUSY else 0))
          if o = R.SYS_REGERR then k.wr R.SYS_REGADR 0#32 else k) m
      else PowerOnly n m

/-- R20, R94: a window read goes to the other lane; a window write is refused with kind WINDOW. R20, R21, R94: the target lane answers a
window read as its location stands, without waking anything; a location it cannot reach gives an error response. R20, R89, R263: a
window read ends with its data, or after 2 µs, or where the other lane cannot serve it, with an error response that is recorded as
NOANSWER; a load of the policy engine takes the data, or 0 with CSR_BUSERR. -/
def Obligations.LintelWindow : Prop :=
  (∀ (s : State) (l : LaneId) (t : Nat) (org : Origin) (off : BitVec 23) (v : W32), let n := s.laneAt l t
     let o := 0x800000 + off.toNat
     (n.shut { org := org.code, off := o, write := false } = false → n.busUp = true →
       (off.toNat % 4 ≠ 0 → n.mustQueue org.code = false → Answers (.lintelWindowRead l t org off) s fun m => Rejected n m 2 org.code o false (laneMask o 4)) ∧
       (off.toNat % 4 = 0 → n.mustQueue org.code = false → n.domOn dCORE = true →
         Answers (.lintelWindowRead l t org off) s fun m =>
           PowerOnly { n with sys := { n.sys with
             win := n.sys.win ++ [{ off := off.toNat, org := org.code, due := n.now + 800 }], tx := putFrame (.wreq off.toNat) n.sys.tx } } m)) ∧
     (off.toNat % 4 = 0 → n.serves org.code o = true →
       Answers (.lintelWindowWrite l t org off v) s fun m => Rejected n m 8 org.code o true 15)) ∧
  (∀ (s : State) (l : LaneId) (t : Nat) (off : BitVec 23), let n := s.laneAt l t
     let o := off.toNat
     let reply := fun (f : LFrame) => { n with sys := { n.sys with tx := putFrame f n.sys.tx } }
     n.domOn dCORE = true → Answers (.windowRequestReceive l t true off) s fun m =>
       (o % 4 ≠ 0 → Rejected (reply (.wrsp false 0#32)) m 2 3 o false (laneMask o 4)) ∧
       (o % 4 = 0 → n.loadingRejects o = true ∨ n.outOfService o = true → Rejected (reply (.wrsp true 0#32)) m 7 3 o false 15) ∧
       (o % 4 = 0 → n.loadingRejects o = false → n.outOfService o = false → n.reachable 3 o = true →
         PowerOnly (reply (.wrsp true ((n.touch o).view o))) m ∧ m.regs = n.regs) ∧
       (o % 4 = 0 → n.loadingRejects o = false → n.outOfService o = false → n.reachable 3 o = false → m = reply (.wrsp false 0#32))) ∧
  (∀ (s : State) (l : LaneId) (t : Nat) (data : W32) (w : WinRead) (rest : List WinRead) (x : LoadWait), let n := s.laneAt l t
     n.domOn dCORE = true → n.sys.win = w :: rest → n.pwr.stalled = [] →
     (w.rep = 0 → n.oap.loads = [] →
       let k := { n with sys := { n.sys with win := rest } }
       Answers (.windowResponseReceive l t true true data) s (fun m => PowerOnly k m) ∧
       Answers (.windowResponseReceive l t true false data) s (fun m =>
         Rejected k m 9 w.org (0x800000 + w.off) false (laneMask w.off w.size)) ∧
       (w.due ≤ n.now → Answers (.windowReadTimeout l t) s fun m =>
         Rejected k m 9 w.org (0x800000 + w.off) false (laneMask w.off w.size))) ∧
     (w.rep = 1 → w.org = 0 → n.oap.loads = [x] → x.size = 4 → x.off % 4 = 0 →
       Answers (.windowResponseReceive l t true true data) s (fun m =>
         m.sys.win = rest ∧ m.oap.loads = [] ∧ m.oap.next = n.now ∧ m.gpr x.dest = if x.dest = 0 then 0#32 else data) ∧
       (w.due ≤ n.now → Answers (.windowReadTimeout l t) s fun m =>
         m.sys.win = rest ∧ m.oap.loads = [] ∧ m.gpr x.dest = 0#32 ∧ bits (m.csr 0x020) 23 0 = x.off % 2 ^ 24 ∧
         bits (m.csr 0x020) 31 24 = min 255 (bits (n.csr 0x020) 31 24 + 1) ∧ m.f F.SYS_REGERR.FLAG = 1)))

/-- R263: the oldest buffered store reaches its register, and after the last one a FENCE ends; a load returns its register's value. -/
def Obligations.PairReachesTheBus : Prop :=
  ∀ (s : State) (l : LaneId) (t : Nat), let n := s.laneAt l t
    n.domOn dCORE = true →
    (∀ (e : WEntry) (rest : List WEntry) (r : RegRow), n.oap.wbuf = e :: rest → e.t + 11 ≤ n.now → e.size = 4 → e.off ∈ plainRegs →
      regRow e.off = some r → n.accepts 0 e.off e.data = true →
      Answers (.writeBufferDrain l t) s fun m =>
        m.oap.wbuf = rest ∧ (rest = [] → m.oap.fence = false) ∧ (rest ≠ [] → m.oap.fence = n.oap.fence) ∧
        m.rd e.off = (n.rd e.off &&& ~~~(BitVec.ofNat 32 r.wmask)) ||| (e.data &&& BitVec.ofNat 32 r.wmask) ∧
        (∀ off, off ≠ e.off → off < 0x001000 ∨ 0x003000 ≤ off → m.rd off = n.rd off) ∧ m.oap.gpr = n.oap.gpr) ∧
    (∀ (x : LoadWait), n.oap.loads = [x] → n.oap.wbuf = [] → n.oap.next ≤ n.now → x.size = 4 → x.off % 4 = 0 → x.off < 0x800000 →
      n.serves 0 x.off = true →
      Answers (.laneLoadComplete l t) s fun m =>
        m.gpr x.dest = (if x.dest = 0 then 0#32 else (n.touch x.off).view x.off) ∧ (∀ i, i ≠ x.dest → m.gpr i = n.gpr i) ∧
        m.oap.loads = [] ∧ m.oap.next = n.now ∧ (∀ off, off < 0x001000 ∨ 0x003000 ≤ off → m.rd off = n.rd off))

/-- R341 to R343: a good SPI frame counts and its access is made as a word access of the SPI host; a bad one is recorded and raised.
R345, R346: a Tlasyn remote request of one word makes its access, a write only from a node that HST_RAALLOW names, and is done. R344,
R345: a word of the host is an event of the policy engine, a word of policy firmware interrupts the host. -/
def Obligations.HostPort : Prop :=
  (∀ (s : State) (l : LaneId) (t : Nat) (f : BitVec 72) (newp : Bool), let n := s.laneAt l t
     let good := (newp = true ∨ n.hst.frames < 64) ∧ f.toNat % 256 = spiCrc f ∧ n.injArmed 0xD8 0 = false ∧ n.hst.unrep.length < 64
     let off := (f.extractLsb' 40 24).toNat
     let data : W32 := f.extractLsb' 8 32
     let cmd := (f.extractLsb' 64 8).toNat
     n.sys.powered = true →
     (good → cmd = 0 → Answers (.spiNop l t f newp) s fun m =>
       Sets { n with hst := m.hst } m [(F.HST_SPICNT.FRAMES, n.f F.HST_SPICNT.FRAMES + 1)]) ∧
     (good → cmd = 1 → n.hst.unrep = [] → off ∈ plainRegs → n.serves 1 off = true → Answers (.spiRead l t f newp) s fun m =>
       Sets { n with hst := m.hst } m [(F.HST_SPICNT.FRAMES, n.f F.HST_SPICNT.FRAMES + 1)] ∧
       m.hst.unrep = [{ off := off, write := false, val := data, res := some (n.rd off, false) }]) ∧
     (∀ r, good → cmd = 2 → n.hst.unrep = [] → off ∈ plainRegs → regRow off = some r → n.accepts 1 off data = true →
       Answers (.spiWrite l t f newp) s fun m =>
         m.rd off = (n.rd off &&& ~~~(BitVec.ofNat 32 r.wmask)) ||| (data &&& BitVec.ofNat 32 r.wmask) ∧
         m.hst.unrep = [{ off := off, write := true, val := data, res := some (0#32, false) }]) ∧
     ((newp = true ∨ n.hst.frames < 64) → f.toNat % 256 ≠ spiCrc f → Answers (.spiWrite l t f newp) s fun m =>
       SetsRaises { n with hst := m.hst } m ([n.counted F.HST_SPICNT.ERRS] ++ n.recordedOnce F.HST_EVT.CRCERR) 0xD8 1 0) ∧
     Answers (.spiPartialFrame l t) s fun m =>
       SetsRaises { n with hst := { n.hst with abort := true } } m
         ([n.counted F.HST_SPICNT.ERRS] ++ n.recordedOnce F.HST_EVT.ABORT) 0xD8 1 0) ∧
  (∀ (s : State) (l : LaneId) (t : Nat) (k : Fin 4) (q : RaReq) (r : RegRow), let n := s.laneAt l t
     let w0 := q.words.getD 0 0#32
     let off := bits (q.words.getD 1 0#32) 23 0
     let v := q.words.getD 2 0#32
     n.domOn dCORE = true → n.hst.run.find? (fun x => x.1 == k.val) = some (k.val, q) → n.hst.ra = [] → n.pwr.stalled = [] → n.sys.win = [] →
     q.i = 0 → bits w0 5 0 = 1 → off ∈ plainRegs → regRow off = some r → n.accepts 2 off v = true →
     Answers (.remoteAccess l t k) s fun m =>
       m.hst.run.find? (fun x => x.1 == k.val) = none ∧
       m.f (F.HST_RAk_STAT.DONE k.val) = (n.f (F.HST_RAk_STAT.DONE k.val) + 1) %
         2 ^ ((F.HST_RAk_STAT.DONE k.val).hi + 1 - (F.HST_RAk_STAT.DONE k.val).lo) ∧
       m.rd off = if bits w0 26 26 = 1 ∧ n.bit F.HST_RAALLOW.NODES q.origin = true then
           (n.rd off &&& ~~~(BitVec.ofNat 32 r.wmask)) ||| (v &&& BitVec.ofNat 32 r.wmask)
         else n.rd off) ∧
  ((OnWrite .mailboxIn R.HST_MBOXIN fun org v n m =>
     (org ≠ .spi → Rejected n m 7 org.code R.HST_MBOXIN true 15) ∧
     (org = .spi → m.rd R.HST_MBOXIN = v ∧ Occurs n m 5 ∧
       (n.evEnabled 5 = true → n.evPending 5 = false → Cells.get 0#32 m.oap.evData 5 = v))) ∧
   (OnWrite .mailboxOut R.HST_MBOXOUT fun org v n m =>
     m.rd R.HST_MBOXOUT = v ∧
     (org = .firmware → m.on F.HST_IRQ.MBOX = true ∧ m.on F.HST_IRQ.KST = (n.on F.HST_IRQ.KST || v.toNat.testBit 31)) ∧
     (org ≠ .firmware → m.rd R.HST_IRQ = n.rd R.HST_IRQ)) ∧
   OnWrite .hostRemoteEnable R.HST_CTRL fun _ v n m => Sets n m [(F.HST_CTRL.RAEN, F.HST_CTRL.RAEN.val v)])

/-! ## The PWM generator and the actuation chain (spec/02, 04, 08, 09) -/

/-- R100, R101, R110: a start transfers every shadow and takes the phase; a stop leaves the counter where it stands; an arming of a time
base that the CFE drives is rejected. R98, R109 to R113: a running counter steps once every D cycles, counting up from 0 to PER − 1 in mode
UP; at a period start an armed or continuous time base transfers its shadows, an unarmed one driven by the CFE takes its active values
back, and PENDING becomes RUN. -/
def Obligations.TimeBases : Prop :=
  ((OnWrite .pwmStart R.PWM_START fun org v n m =>
     (F.PWM_START.STOP.val v = 0 → F.PWM_START.START.val v ≠ 0 → n.on F.PWM_CTRL.EN = false → Rejected n m 7 org.code R.PWM_START true 15) ∧
     ∀ b < 3, (F.PWM_START.START.val v).testBit b = true → n.on F.PWM_CTRL.EN = true → n.tbRun b = false →
       inSeq (n.f (F.PWM_TBb_CFG.MODE b)) (n.f (F.PWM_TBb_PER.PER b)) (n.f (F.PWM_TBb_PHASE.VALUE b)) = true →
       m.tbRun b = true ∧ m.f (F.PWM_TBb_CNT.CNT b) = n.f (F.PWM_TBb_PHASE.VALUE b) ∧
       m.f (F.PWM_TBb_PERACT.PER b) = n.f (F.PWM_TBb_PER.PER b) ∧
       (∀ leg ∈ groupLegs b, m.f (F.PWM_LEGn_ACT.CMP leg) = n.f (F.PWM_LEGn_CMP.CMP leg)) ∧ ∀ g < 3, m.grp g = n.grp g) ∧
   (OnWrite .pwmStop R.PWM_START fun _ v n m => F.PWM_START.START.val v = 0 →
     ∀ b < 3, m.grp b = n.grp b ∧
       ((F.PWM_START.STOP.val v).testBit b = false ∨ n.tbRun b = false →
         m.tbRun b = n.tbRun b ∧ m.f (F.PWM_TBb_CNT.CNT b) = n.f (F.PWM_TBb_CNT.CNT b)) ∧
       ((F.PWM_START.STOP.val v).testBit b = true →
         if n.grp b = 2 ∨ n.grp b = 3 then m.tbRun b = n.tbRun b ∧ m.on F.SYS_REGERR.FLAG = true
         else m.tbRun b = false ∧ m.f (F.PWM_TBb_CNT.CNT b) = (n.tbNow b).1 % 2 ^ 16)) ∧
   OnWrite .loadAllArm R.PWM_LOADALL fun _ v n m =>
     (∀ b < 3, m.bit F.PWM_STAT.ARMED b = (n.bit F.PWM_STAT.ARMED b ||
       ((F.PWM_LOADALL.ARM.val v).testBit b && !n.on (F.PWM_TBb_CFG.SRC b)))) ∧
     (∀ b < 3, (F.PWM_LOADALL.ARM.val v).testBit b = true → n.on (F.PWM_TBb_CFG.SRC b) = true → m.on F.SYS_REGERR.FLAG = true)) ∧
  (∀ (b : Fin 3) (cnt : BitVec 16) (down : Bool), OnEvent dACT (fun l t => .pwmEvent l t b cnt down) fun n m =>
     let c := cnt.toNat
     let mode := n.f (F.PWM_TBb_CFG.MODE b)
     let armed := n.bit F.PWM_STAT.ARMED b
     (n.tbSteps b = false ∨ n.tbAt b c down = false → m = n) ∧
     (mode = 0 → n.tbRun b = true → (n.tbSteps b = true ∧ n.tbAt b c down = true ↔ (n.tb b).cntT < n.now ∧
       ∃ k, n.now = (n.tb b).cntT + k * 2 ^ n.f (F.PWM_TBb_CFG.DIV b) ∧ c = (n.f (F.PWM_TBb_CNT.CNT b) + k) % n.perAct b)) ∧
     (n.tbSteps b = true → n.tbAt b c down = true →
       m.f (F.PWM_TBb_CNT.CNT b) = c ∧ m.tbRun b = true ∧ (∀ g < 3, g ≠ b.val → m.grp g = n.grp g ∧ m.tbRun g = n.tbRun g) ∧
       (mode ≠ 2 → c ≠ 0 → (mode = 1 → c ≠ n.perAct b) →
         m.rd (R.PWM_TBb_PERACT b) = n.rd (R.PWM_TBb_PERACT b) ∧ m.grp b = n.grp b ∧ m.bit F.PWM_STAT.ARMED b = armed) ∧
       (mode ≠ 2 → c = 0 → n.f (F.PWM_TBb_LDCFG.LOADPT b) = 0 →
         (armed = true ∨ n.on (F.PWM_TBb_LDCFG.LOADMODE b) = true ∧ n.on (F.PWM_TBb_CFG.SRC b) = false →
           m.f (F.PWM_TBb_PERACT.PER b) = n.f (F.PWM_TBb_PER.PER b) ∧ m.bit F.PWM_STAT.ARMED b = false ∧
           ∀ leg ∈ groupLegs b, m.f (F.PWM_LEGn_ACT.CMP leg) = n.f (F.PWM_LEGn_CMP.CMP leg)) ∧
         (armed = false → n.on (F.PWM_TBb_LDCFG.LOADMODE b) = false ∨ n.on (F.PWM_TBb_CFG.SRC b) = true →
           m.f (F.PWM_TBb_PERACT.PER b) = n.f (F.PWM_TBb_PERACT.PER b) ∧
           (n.on (F.PWM_TBb_CFG.SRC b) = true → m.f (F.PWM_TBb_PER.PER b) = n.f (F.PWM_TBb_PERACT.PER b) ∧
             ∀ leg ∈ groupLegs b, m.f (F.PWM_LEGn_CMP.CMP leg) = n.f (F.PWM_LEGn_ACT.CMP leg))) ∧
         m.grp b = if n.grp b = 2 then 3 else n.grp b)))

/-- R102 to R104, R115, R121: REF follows the comparison and commands off the switch it no longer holds; the other waits for its dead
time; an override that has reached the leg governs it. -/
def Obligations.DeadTimeStage : Prop :=
  ∀ (x : Fin 7), let leg := x.val + 1
    (∀ (cnt : BitVec 16) (down : Bool), OnEvent dACT (fun l t => .compareMatch l t x cnt down) fun n m =>
      let b := legGroup leg
      let mode := n.f (F.PWM_TBb_CFG.MODE b)
      let r := if mode = 1 ∧ (n.tbNow b).2 = true then decide (n.f (F.PWM_LEGn_ACT.CMP leg) < cnt.toNat)
        else decide (n.f (F.PWM_LEGn_ACT.CMP leg) ≤ cnt.toNat)
      n.tbRun b = true → n.tbAt b cnt.toNat down = true →
      m.on (F.PWM_LEGn_ACT.REF leg) = r ∧
      ((n.leg leg).gov ≠ .ref → m.on (F.PWM_LEGn_ACT.H leg) = n.on (F.PWM_LEGn_ACT.H leg) ∧
        m.on (F.PWM_LEGn_ACT.L leg) = n.on (F.PWM_LEGn_ACT.L leg) ∧ m.gdv = n.gdv) ∧
      ((n.leg leg).gov = .ref → n.f (F.PWM_LEGn_OUT.MODE leg) = 0 → n.on (F.PWM_LEGn_ACT.REF leg) ≠ r →
        m.on (if r then F.PWM_LEGn_ACT.L leg else F.PWM_LEGn_ACT.H leg) = false ∧
        (n.on (if r then F.PWM_LEGn_ACT.H leg else F.PWM_LEGn_ACT.L leg) = false → (n.leg leg).pend r = none →
          (m.leg leg).pend r = some (n.now + if r then (n.leg leg).rise else (n.leg leg).fall)))) ∧
    (∀ (high : Bool), OnEvent dACT (fun l t => .turnOnDue l t x high) fun n m =>
      let fld := if high then F.PWM_LEGn_ACT.H leg else F.PWM_LEGn_ACT.L leg
      ∀ due, (n.leg leg).pend high = some due →
        (n.now < due → m = n) ∧
        (due ≤ n.now → (∀ d ∈ (n.leg leg).ovrDue, n.now < d.1) →
          m.on fld = true ∧ (m.leg leg).pend high = none ∧
          (n.on fld = false → m.gdv.edges = n.gdv.edges ++ [{ sw := swIx leg high, on := true, ts := n.now }]))) ∧
    OnEvent dACT (fun l t => .overrideApply l t x) fun n m =>
      let due := (n.leg leg).ovrDue.filter fun d => decide (d.1 ≤ n.now)
      let sw := fun (high : Bool) => if high then F.PWM_LEGn_ACT.H leg else F.PWM_LEGn_ACT.L leg
      (due = [] → m = n) ∧
      (∀ h : due ≠ [], (m.leg leg).gov = (due.getLast h).2 ∧ (m.leg leg).ovrDue = (n.leg leg).ovrDue.filter fun d => decide (n.now < d.1)) ∧
      (∀ k p, due = [(k, .safe p)] → (n.leg leg).gov ≠ .safe p → ∀ high, p.wants high = false → m.on (sw high) = false) ∧
      (∀ k, due = [(k, .off)] → (n.leg leg).gov ≠ .off → ∀ high, m.on (sw high) = false)

/-- R113, R114, R118 to R120: the group commands, and trips that latch, hold and release. -/
def Obligations.GroupsAndTrips : Prop :=
  (∀ c ∈ [Instr.groupRun, .groupIdle], OnWrite c R.PWM_GRPCMD fun _ v n m =>
    ∀ g < 3, let cmd := bits v (2 * g + 1) (2 * g)
      (cmd ≠ 1 → cmd ≠ 2 → m.grp g = n.grp g) ∧
      (cmd = 1 → n.grp g = 1 → n.tbRun g = true → (g < 2 → n.bit F.SAF_STAT.PERMIT g = true ∧ n.on (F.CFE_Gg_STAT.CATCHING g) = false) →
        m.grp g = 2) ∧
      (cmd = 2 → n.grp g = 2 ∨ n.grp g = 3 → m.grp g = 1) ∧
      (cmd = 1 ∨ cmd = 2 → n.grp g = 0 ∨ n.grp g = 4 ∨ n.grp g = 5 → m.grp g = n.grp g ∧ m.on F.SYS_REGERR.FLAG = true)) ∧
  (∀ x : Fin 4, OnEvent dACT (fun l t => .tripAssert l t x) fun n m =>
    (n.tripPinned x = false → m = n) ∧
    (n.tripPinned x = true → n.on (F.PWM_TRIPt_CFG.EN x) = false →
      m.bit F.PWM_TRIPIN.RAW x = true ∧ ∀ off, off ≠ R.PWM_TRIPIN → m.rd off = n.rd off) ∧
    (n.tripLive x = true → n.bit F.PWM_TRIPIN.FILT x = false → n.tripSettled x = true →
      m.bit F.PWM_TRIPIN.FILT x = true ∧ m.bit F.PWM_TRIPIN.RAW x = true ∧ m.f (F.PWM_TRIPt_CNT.COUNT x) = (n.counted (F.PWM_TRIPt_CNT.COUNT x)).2 ∧
      (n.on (F.PWM_TRIPt_CFG.MODE x) = false → n.bit F.PWM_TRIPIN.LATCH x = false →
        m.bit F.PWM_TRIPIN.LATCH x = true ∧ m.bit F.PWM_TRIPSTAT.EVT x = true ∧
        (∃ y ∈ m.kst.msgs, y.src = 0x40 + x.val ∧ y.kind = 1) ∧
        ∀ g < 3, m.grp g = (if n.tripRoutes x g = true ∧ (n.grp g = 1 ∨ n.grp g = 2 ∨ n.grp g = 3) then 4 else n.grp g) ∧
          (m.grp g ≠ n.grp g → ∀ leg ∈ groupLegs g, ∀ x, n.pwm.legs[leg - 1]? = some x → (n.now + 4, Gov.off) ∈ (m.leg leg).ovrDue)) ∧
      (n.on (F.PWM_TRIPt_CFG.MODE x) = true → m.bit F.PWM_TRIPIN.LATCH x = n.bit F.PWM_TRIPIN.LATCH x ∧
        ∀ g < 3, m.grp g = n.grp g ∧
          m.bit F.PWM_GRPSTAT.CYC g = (n.bit F.PWM_GRPSTAT.CYC g || (n.tripRoutes x g && n.grp g == 3))))) ∧
  (∀ x : Fin 4, OnEvent dACT (fun l t => .tripDeassert l t x) fun n m =>
    (n.bit F.PWM_TRIPIN.FILT x = true → n.tripSettled x = false → m = n) ∧
    (n.bit F.PWM_TRIPIN.FILT x = false ∨ n.tripSettled x = true → m.bit F.PWM_TRIPIN.RAW x = false) ∧
    (n.bit F.PWM_TRIPIN.FILT x = true → n.tripSettled x = true → m.bit F.PWM_TRIPIN.FILT x = false) ∧ (∀ y < 4, y ≠ x.val → m.bit F.PWM_TRIPIN.FILT y = n.bit F.PWM_TRIPIN.FILT y) ∧
    m.f F.PWM_TRIPIN.LATCH = n.f F.PWM_TRIPIN.LATCH ∧ ∀ off, off ≠ R.PWM_TRIPIN → m.rd off = n.rd off) ∧
  OnWrite .tripRelease R.PWM_TRIPCLR fun _ v n m =>
    let rel := fun x => (F.PWM_TRIPCLR.REL.val v).testBit x
    (∀ x < 4, m.bit F.PWM_TRIPIN.LATCH x = (n.bit F.PWM_TRIPIN.LATCH x && !(rel x && !n.bit F.PWM_TRIPIN.FILT x))) ∧
    (∀ x < 4, rel x = true → n.bit F.PWM_TRIPIN.FILT x = true → m.on F.SYS_REGERR.FLAG = true) ∧
    ∀ g < 3, (n.grp g ≠ 4 → m.grp g = n.grp g) ∧
      (n.grp g = 4 → (∀ x < 4, n.tripRoutes x g = true → m.bit F.PWM_TRIPIN.LATCH x = false) → m.grp g = 1) ∧
      (n.grp g = 4 → (∃ x < 4, n.tripRoutes x g = true ∧ m.bit F.PWM_TRIPIN.LATCH x = true) → m.grp g = 4)

/-- R28, R234, R235: a trigger publishes the loops' outputs and begins an execution, or abandons the one still in progress. R232 to
R235, R237: the free engine takes the ready loop of the lowest slot; an OFF loop gives 0 and a held one what it gave before; at its end
the result reaches CUR, and the chain's last loop completes the execution. -/
def Obligations.ChainsRun : Prop :=
  (∀ (c : Fin 8), OnEvent dCLE (fun l t => .chainTrigger l t c) fun n m =>
     ∀ (t₀ src : Nat), n.cle.due.find? (fun d => d.1 == c.val) = some (c.val, t₀, src) → t₀ + 1 ≤ n.now → n.on F.CLE_CTRL.EN = true →
       n.cle.pub.contains (c.val, t₀) = false →
       (n.chainEx c = none → m.rd (R.CLE_CHc_STAT c) &&& 0xFFFFFF00#32 = n.rd (R.CLE_CHc_STAT c) &&& 0xFFFFFF00#32 ∧
         ∀ k ∈ n.chainLoops c, m.rd (R.CLE_Ln_OUT k) = n.rd (R.CLE_Ln_CUR k)) ∧
       ((n.chainEx c).isSome = true → m.f (F.CLE_CHc_STAT.ABANDON c) = (n.counted (F.CLE_CHc_STAT.ABANDON c)).2 ∧
         m.on F.CLE_EVT.OVERRUN = true ∧ ∀ k ∈ n.chainLoops c, m.rd (R.CLE_Ln_OUT k) = n.rd (R.CLE_Ln_OUT k)) ∧
       (n.chainLoops c ≠ [] → m.f (F.CLE_CHc_STAT.BUSY c) = 1 ∧ ∃ x, m.chainEx c = some x ∧ x.trigT = t₀ ∧
         x.loops.map (fun y => y.slot) = n.chainLoops c) ∧
       ∀ k < 32, m.rd (R.CLE_Ln_CUR k) = n.rd (R.CLE_Ln_CUR k)) ∧
  ((OnEvent dCLE .loopDispatch fun n m =>
     ∀ (c : Nat) (ex : ChainEx) (x : LoopEx), n.cle.run = none → n.on F.CLE_CTRL.EN = true → (c, ex) ∈ n.cle.ex → x ∈ ex.loops →
       x.ready = true → x.slot < 32 →
       (∀ p ∈ n.cle.ex, ∀ y ∈ p.2.loops, y.ready = true → (p.1 = c ∧ y = x) ∨ x.slot < y.slot) →
       ∃ r, m.cle.run = some r ∧ r.slot = x.slot ∧ r.start = n.now ∧ r.due = n.now + n.execLen x ∧
         (x.act = 0 → r.uo = 0) ∧ (x.act = 2 → r.uo = (n.rd (R.CLE_Ln_CUR x.slot)).toInt) ∧
         m.f F.CLE_STAT.BUSY = 1 ∧ m.f F.CLE_STAT.LOOP = x.slot ∧ ∀ k < 32, m.rd (R.CLE_Ln_CUR k) = n.rd (R.CLE_Ln_CUR k)) ∧
   OnEvent dCLE .loopOutput fun n m =>
     ∀ (r : RunLoop), n.cle.run = some r → r.slot < 32 → r.chain < 8 →
       (n.now < r.due → m = n) ∧
       (r.due ≤ n.now →
         m.cle.run = none ∧ m.rd (R.CLE_Ln_CUR r.slot) = BitVec.ofInt 32 r.uo ∧ m.rd R.CLE_STAT = 0#32 ∧
         m.f (F.CLE_Ln_STAT.EXECS r.slot) = (n.f (F.CLE_Ln_STAT.EXECS r.slot) + 1) % 256 ∧
         (∀ k < 32, k ≠ r.slot → m.rd (R.CLE_Ln_CUR k) = n.rd (R.CLE_Ln_CUR k)) ∧
         (r.dead = true → m.cle.ex = n.cle.ex ∧ ∀ c < 8, m.rd (R.CLE_CHc_STAT c) = n.rd (R.CLE_CHc_STAT c)) ∧
         ∀ x, r.dead = false → n.chainEx r.chain = some x → x.cfe = [] → (∀ y ∈ x.loops, y.slot ≠ r.slot → y.wrote = true) →
           n.loopGroup r.slot = none →
           m.chainEx r.chain = none ∧ m.f (F.CLE_CHc_STAT.BUSY r.chain) = 0 ∧
           m.f (F.CLE_CHc_STAT.RUNS r.chain) = (n.f (F.CLE_CHc_STAT.RUNS r.chain) + 1) % 2 ^ 16))

/-- R172, R188, R190, R201, R202: a CFE execution ends with the last compare shadow of its group and arms it, a conversion writes its result, a latch set its
speed and age. -/
def Obligations.ResultsWritten : Prop :=
  (∀ g : Fin 2, OnEvent dCFE (fun l t => .cfeExecution l t g) fun n m =>
    ∀ (e : CfeExe) (s₀ : Nat), n.cfe.head = some e → e.g = g.val → e.start = some s₀ → e.stage = 6 →
      (n.now < s₀ + 74 → m = n) ∧
      (s₀ + 74 ≤ n.now → (n.cg g).runDue = false →
        m.cfe.free = s₀ + 75 ∧ m.cfe.exes = n.cfe.exes.filter (fun x => !(x.g == e.g && x.inst == e.inst)) ∧
        (n.on F.CFE_CTRL.EN = true → m.bit F.PWM_STAT.ARMED g = true ∧
          m.f (F.PWM_LEGn_CMP.CMP (3 * g.val + 3)) = e.cmp.getD 2 0 % 2 ^ 16 ∧ m.f (F.PWM_TBb_PER.PER g) = n.f (F.PWM_TBb_PER.PER g) ∧
          ∀ i < 2, m.f (F.PWM_LEGn_CMP.CMP (3 * g.val + i + 1)) = n.f (F.PWM_LEGn_CMP.CMP (3 * g.val + i + 1))) ∧
        (n.on F.CFE_CTRL.EN = false → ∀ off, off < 0x030000 → m.rd off = n.rd off))) ∧
  (∀ (k : Fin 2) (code : BitVec 16), OnEvent dACT (fun l t => .conversionComplete l t k code) fun n m =>
    ∀ r, n.convDue k = some r → r.c.q < 8 → r.c.e < 16 →
      let i := n.f (F.ADC_SQq_ENTe.INPUT r.c.q r.c.e)
      (r.drop = true → m.regs = n.regs) ∧
      (r.drop = false → n.on F.ADC_CTRL.EN = true →
        m.f (F.ADC_RESq_e.TAG r.c.q r.c.e) = (n.f (F.ADC_SQq_STAT.RUNS r.c.q) + 1) % 256 ∧
        (i ≤ 6 → m.sf (F.ADC_RESq_e.SAMPLE r.c.q r.c.e) = max (-8192) (min 8191 (code.toInt - n.sf (F.ADC_OFSn.OFS (i + 1))))) ∧
        (6 < i → i ≠ 18 → i ≠ 19 → m.sf (F.ADC_RESq_e.SAMPLE r.c.q r.c.e) = max 0 (min 8191 code.toInt)) ∧
        ∀ q < 8, ∀ e < 16, q ≠ r.c.q ∨ e ≠ r.c.e → m.rd (R.ADC_RESq_e q e) = n.rd (R.ADC_RESq_e q e))) ∧
  ∀ (ch : Fin 4) (k : Fin 2), OnEvent dFBI (fun l t => .latchSpeedValid l t ch k) fun n m =>
    let set := (n.fch ch).lats.getD k {}
    (set.pend = none → m = n) ∧
    ∀ p, set.pend = some p → (n.now < p.due → m = n) ∧
      (p.due ≤ n.now → m.rd (R.FBI_CHn_LATk_SPD ch k) = p.spd ∧ m.f (F.FBI_CHn_LATk_AGE.AGE ch k) = p.age % 2 ^ 16 ∧
        (p.ovf = true → m.on (F.FBI_CHn_EVT.OVF ch) = true))

/-! ## Gate drive (spec/05) -/

/-- R125, R126, R128: what edge frames and return frames carry, when their levels act, and what a bad one leaves. -/
def Obligations.GateFrames : Prop :=
  (∀ k : Nat, OnEvent dACT (fun l t => .edgeFrame l t k) fun n m =>
    let w := n.edgeFrame k
    (k % 4 ≠ 0 ∨ n.now < k + 3 → m = n) ∧
    (k % 4 = 0 → k + 3 ≤ n.now → (∀ d ∈ n.gdv.due, n.now < d.1) →
      m.gdv.badRun = 0 ∧ m.gdv.upRun = n.gdv.upRun + 1 ∧ m.gdv.refLost = false ∧ m.gdv.txLvl = n.txLevels (k + 3) ∧
      m.gdv.edges = n.gdv.edges.filter (fun e => decide (k + 3 < e.ts)) ∧
      (n.gdv.link ≠ 2 ∨ n.gdv.direct = true ∨ k < n.gdv.followT → ∀ s, (m.sw s).on = (n.sw s).on) ∧
      (n.gdv.link = 2 → n.gdv.direct = false → n.gdv.followT ≤ k →
        (∀ j < 4, n.now < k + j + 12 → ∃ lv, (k + j + 12, lv) ∈ m.gdv.due ∧ ∀ s < 14, lv.testBit s = frameLevel w s j) ∧
        (n.now < k + 12 → m.gdv.sw = n.gdv.sw) ∧
        (k + 15 ≤ n.now → ∀ s < 14, ∀ x, n.gdv.sw[s]? = some x → (m.sw s).lvl = frameLevel w s 3 ∧
          ((n.sw s).lvl = true → (∀ j < 4, frameLevel w s j = false) → (m.sw s).on = false))))) ∧
  (∀ k : Nat, OnEvent dACT (fun l t => .edgeFrameDiscard l t k) fun n m =>
    (k % 4 ≠ 0 ∨ n.now < k + 3 → m = n) ∧
    (k % 4 = 0 → k + 3 ≤ n.now →
      m.gdv.badRun = n.gdv.badRun + 1 ∧ m.gdv.upRun = 0 ∧ m.gdv.sw = n.gdv.sw ∧ m.gdv.link = n.gdv.link ∧
      (n.on F.GDV_EVT.FRAME = false →
        SetsRaises { n with gdv := m.gdv } m ([n.counted F.GDV_GCLERR.DNBAD] ++ n.recorded F.GDV_EVT.FRAME) 0x5B 1 0) ∧
      (n.on F.GDV_EVT.FRAME = true → Sets { n with gdv := m.gdv } m [n.counted F.GDV_GCLERR.DNBAD]))) ∧
  (OnEvent dACT (fun l t => .returnFrame l t true) fun n m =>
    m.f F.GDV_REFLEX.LATCH = n.gdv.latch % 2 ^ 14 ∧ m.f F.GDV_REFLEX.HARD = n.gdv.hardLt % 2 ^ 14 ∧
    m.f F.GDV_UVLO.LIVE = n.gdv.live % 2 ^ 14 ∧ m.f F.GDV_UVLO.LATCH = n.gdv.lockLt % 2 ^ 14 ∧
    m.f F.GDV_RBSTAT.FEED1 = n.gdv.feed1 % 16 ∧ m.f F.GDV_RBSTAT.FEED2 = n.gdv.feed2 % 16 ∧
    m.f F.GDV_STAT.LINK = n.gdv.link % 4 ∧ m.on F.GDV_STAT.DIRECT = n.gdv.direct ∧ m.on F.GDV_STAT.CPOK = n.gdv.cpok ∧
    m.on F.GDV_STAT.VGDOK = n.gdv.vgdok ∧ m.f F.GDV_DGPIN.LEVEL = n.gdv.dgpin % 2 ^ 14 ∧
    ((∀ r ∈ n.gdv.reports, n.injArmed r.src r.word = false) → m.gdv.reports = []) ∧ m.gdv.upBad = 0 ∧ m.gdv.sw = n.gdv.sw ∧
    (∀ r ∈ n.gdv.reports, ∃ x ∈ m.kst.msgs, x.src = r.src ∧ x.kind = r.kind ∧ x.word = r.word % 2 ^ 16) ∧
    ∀ g < 3, let out := fun (high : Bool) => ∃ leg ∈ groupLegs g,
        n.gdv.latch.testBit (swIx leg high) = true ∨ n.gdv.lockLt.testBit (swIx leg high) = true
      (out true → out false → m.f (reqField g) = 3) ∧ (out true → ¬out false → m.f (reqField g) = 2) ∧
      (¬out true → out false → m.f (reqField g) = 1) ∧ (¬out true → ¬out false → m.f (reqField g) = 0)) ∧
  OnEvent dACT (fun l t => .returnFrame l t false) fun n m =>
    m.gdv.upBad = n.gdv.upBad + 1 ∧ m.gdv.reports = n.gdv.reports ∧
    (n.gdv.upBad < 3 → Sets { n with gdv := m.gdv } m ([n.counted F.GDV_GCLERR.UPBAD] ++ n.recordedOnce F.GDV_EVT.FRAME)) ∧
    (3 ≤ n.gdv.upBad → n.gdv.lossRep = false → m.on F.GDV_EVT.LINKF = true ∧ m.gdv.lossRep = true ∧ Raised n m 0x5C 2 0)

/-- R127, R129 to R131: the control lane, loss of the link with every switch off, direct pins, and the way back. -/
def Obligations.GateLink : Prop :=
  (OnEvent dACT .gclControlWriteApply fun n m =>
    (n.gdv.ctl = [] ∨ n.gdv.lost = true ∨ n.gdv.direct = true → m = n) ∧
    ∀ off v rest, n.gdv.ctl = (off, v) :: rest → n.gdv.lost = false → n.gdv.direct = false →
      m.gdv.ctl = rest ∧ m.gateSet off = v ∧ (∀ o, o ≠ off → m.gateSet o = n.gateSet o) ∧ m.regs = n.regs) ∧
  (∀ ref : Bool, OnPowered (fun l t => .gclLoss l t ref) fun n m =>
    (ref = false → n.gdv.badRun < 4 → m = n) ∧
    (ref = true ∨ 4 ≤ n.gdv.badRun → m.gdv.upRun = 0 ∧ m.gdv.due = [] ∧ (n.gdv.lost = true → m.gdv.sw = n.gdv.sw ∧ m.gdv.link = n.gdv.link)) ∧
    (ref = true ∨ 4 ≤ n.gdv.badRun → n.gdv.lost = false →
      (∀ s < 14, (m.sw s).on = false) ∧ m.gdv.link = 0 ∧ m.gdv.lost = true ∧ m.gdv.direct = false ∧ m.gdv.check = none ∧
      m.gdv.latch = n.gdv.latch)) ∧
  (OnPowered .directPinTakeover fun n m =>
    let may := n.gdv.link = 0 ∧ n.gdv.lost = true ∧ n.gdv.direct = false ∧ n.on F.LNT_PERMIT.DIRECTPINS = true ∧ n.gdv.dgpin = 0 ∧
      n.gdv.lowT + 400 ≤ n.gnow
    (may → m.gdv.direct = true ∧ m.gdv.ilkHold = [] ∧ (∀ s < 14, (m.sw s).lvl = false) ∧ m.regs = n.regs) ∧ (¬may → m = n)) ∧
  (∀ (x : Fin 14) (lv : Bool), OnPowered (fun l t => .directPinChange l t x lv) fun n m =>
    m.gdv.dgpin.testBit x = lv ∧ (∀ s, s ≠ x.val → m.gdv.dgpin.testBit s = n.gdv.dgpin.testBit s) ∧
    (n.gdv.direct = false → m.gdv.sw = n.gdv.sw ∧ m.regs = n.regs) ∧
    (n.gdv.direct = true → lv = false → (n.sw x).lvl = true → (m.sw x).on = false)) ∧
  (OnEvent dACT .gclUp fun n m =>
    if n.gdv.link = 0 ∧ 64 ≤ n.gdv.upRun then m = { n with gdv := { n.gdv with link := 1, lost := false } } else m = n) ∧
  OnWrite .gclRearm R.GDV_GCLCMD fun org v n m =>
    let may := n.f F.GDV_STAT.LINK = 1 ∧ ∀ g < 3, n.grp g ≠ 2 ∧ n.grp g ≠ 3
    (F.GDV_GCLCMD.REARM.val v = 0 → PowerOnly n m) ∧
    (F.GDV_GCLCMD.REARM.val v = 1 → ¬may → Rejected n m 7 org.code R.GDV_GCLCMD true 15) ∧
    (F.GDV_GCLCMD.REARM.val v = 1 → may → n.gdv.link ≠ 1 → PowerOnly n m) ∧
    (F.GDV_GCLCMD.REARM.val v = 1 → may → n.gdv.link = 1 →
      (∀ s < 14, (m.sw s).on = false) ∧ m.gdv.link = 2 ∧ m.gdv.direct = false ∧ m.gdv.followT = n.now + 16)

/-- R133, R135 to R137, R152: the charge pump, lock-out of one switch by its own comparator and of all seven high sides by that of
VCP − VBS, and the feed switches. -/
def Obligations.GateSupplies : Prop :=
  let allHighOut := fun (n m : Lane) => m.gdv.joint = true ∧ ∀ s < 14,
    if s % 2 = 0 then m.gdv.live.testBit s = true ∧
      (n.gdv.live.testBit s = false → (m.sw s).on = false ∧ m.gdv.lockLt.testBit s = true ∧
        ({ src := 0x53 + legGroup (swLeg s), kind := 3, word := s } : GateRpt) ∈ m.gdv.reports)
    else (m.sw s) = (n.sw s) ∧ m.gdv.live.testBit s = n.gdv.live.testBit s ∧ m.gdv.lockLt.testBit s = n.gdv.lockLt.testBit s
  (∀ ok : Bool, OnPowered (fun l t => .cpokChange l t ok) fun n m =>
    let pump := n.on F.GDV_CTRL.EN = true ∧ n.gdv.vgdok = true
    m.regs = n.regs ∧
    (ok = true → ¬pump → m = n) ∧
    (ok = true → pump → m.gdv.cpok = true ∧ m.gdv.joint = false ∧ m.gdv.lockLt = n.gdv.lockLt ∧ m.gdv.sw = n.gdv.sw ∧
      m.gdv.reports = n.gdv.reports ∧
      ∀ s < 14, m.gdv.live.testBit s = if s % 2 = 0 then n.gdv.own.testBit s else n.gdv.live.testBit s) ∧
    (ok = false → n.gdv.cpok = false → m = n) ∧
    (ok = false → n.gdv.cpok = true → m.gdv.cpok = false ∧ allHighOut n m ∧
      (n.on F.GDV_CTRL.EN = true → ({ src := 0x5D, kind := 7, word := 0 } : GateRpt) ∈ m.gdv.reports))) ∧
  (∀ (x : Fin 14) (vbs : Bool), OnPowered (fun l t => .uvloAssert l t x vbs) fun n m =>
    let s := x.val
    m.regs = n.regs ∧
    (vbs = true → s % 2 = 1 ∨ n.gdv.joint = true → m = n) ∧ (vbs = true → s % 2 = 0 → n.gdv.joint = false → allHighOut n m) ∧
    (vbs = false → s % 2 = 0 → (n.sw s).on = false → m = n) ∧
    (vbs = false → s % 2 = 0 → (n.sw s).on = true → m.gdv.own.testBit s = true) ∧
    (vbs = false → s % 2 = 1 → m.gdv.vgdok = false) ∧
    (vbs = false → n.gdv.live.testBit s = true → m.gdv.sw = n.gdv.sw ∧ m.gdv.live = n.gdv.live ∧ m.gdv.lockLt = n.gdv.lockLt) ∧
    (vbs = false → s % 2 = 1 ∨ (n.sw s).on = true → n.gdv.live.testBit s = false →
      (m.sw s).on = false ∧ m.gdv.live.testBit s = true ∧ m.gdv.lockLt.testBit s = true ∧
      (∀ i, i ≠ s → (m.sw i).on = (n.sw i).on ∧ m.gdv.live.testBit i = n.gdv.live.testBit i ∧
        m.gdv.lockLt.testBit i = n.gdv.lockLt.testBit i) ∧
      m.gdv.reports = n.gdv.reports ++ [{ src := 0x53 + legGroup (swLeg s), kind := 3, word := s }])) ∧
  (∀ (x : Fin 14), OnPowered (fun l t => .uvloRecover l t x) fun n m =>
    let s := x.val
    let own := n.gdv.own.testBit s
    m.gdv.lockLt = n.gdv.lockLt ∧ m.gdv.sw = n.gdv.sw ∧ m.gdv.reports = n.gdv.reports ∧ m.regs = n.regs ∧
    (s % 2 = 1 → m.gdv.live.testBit s = false) ∧
    (s % 2 = 0 → own = true → m.gdv.own.testBit s = false ∧ m.gdv.live.testBit s = n.gdv.joint) ∧
    (s % 2 = 1 ∨ own = true → ∀ i, i ≠ s → m.gdv.live.testBit i = n.gdv.live.testBit i) ∧
    (s % 2 = 0 → own = false → m.gdv.joint = false ∧
      ∀ i < 14, m.gdv.live.testBit i = if i % 2 = 0 then n.gdv.own.testBit i else n.gdv.live.testBit i)) ∧
  (∀ (f : Fin 2) (c : FeedCause), OnPowered (fun l t => .feedSwitchOff l t f c) fun n m =>
    let was := (n.feed f).testBit 0
    (c = .enable → n.feedReady f = true → m = n) ∧
    (c ≠ .enable ∨ n.feedReady f = false →
      (m.feed f).testBit 0 = false ∧ (was = true → c = .reverse → (m.feed f).testBit 2 = true) ∧
      (c = .underVoltage ∨ c = .negative → (m.feed f).testBit 1 = true) ∧
      m.gdv.reports = n.gdv.reports ++ (if was then [{ src := 0x59 + f.val, kind := 4, word := f.val + 1 }] else []))) ∧
  (∀ (f : Fin 2), OnPowered (fun l t => .feedSwitchOn l t f) fun n m =>
    (m.feed f).testBit 0 = ((n.feed f).testBit 0 || (n.feedReady f && !(n.feed f).testBit 2)) ∧
    (m.feed f).testBit 2 = (n.feed f).testBit 2 ∧ m.gdv.reports = n.gdv.reports) ∧
  (∀ (f : Fin 2), OnPowered (fun l t => .reverseLatchClear l t f) fun n m =>
    (m.feed f).testBit 2 = false ∧ (∀ i, i ≠ 2 → (m.feed f).testBit i = (n.feed f).testBit i) ∧ m.regs = n.regs)

/-- R139 to R143, R150: a crossing that has lasted its qualification time latches its switch off and starts the soft turn-off; blanking
and the soft period end. -/
def Obligations.ReflexTurnOff : Prop :=
  let latched := fun (s : Nat) (hard : Bool) (n m : Lane) =>
    m.gdv.latch.testBit s = true ∧ m.gdv.hardLt.testBit s = hard ∧ (m.sw s).on = false ∧ (m.sw s).softEnd = some (n.gnow + 160) ∧
    (∀ i, i ≠ s → m.gdv.latch.testBit i = n.gdv.latch.testBit i ∧ (m.sw i) = (n.sw i)) ∧
    m.f (F.GDV_LEGn_CHK.STEST (swLeg s)) = 0 ∧
    m.f (if s % 2 = 0 then F.GDV_LEGn_CHK.LEAK_H (swLeg s) else F.GDV_LEGn_CHK.LEAK_L (swLeg s)) = 0 ∧
    m.gdv.reports = n.gdv.reports ++ [{ src := 0x50 + legGroup (swLeg s), kind := 6, word := s }]
  (∀ (x : Fin 14) (hard : Bool), OnPowered (fun l t => .shortDetect l t x hard) fun n m =>
    let s := x.val
    (n.armed s = false ∨ n.underSelfTest s = true → m = n) ∧
    let since := if hard then (n.sw s).onT + 2 else (n.sw s).softq + (match (n.sw s).runT with | some r => r | none => (n.sw s).blankEnd)
    (hard = false → (n.sw s).blank = true → m = n) ∧ (n.gnow < since → m = n) ∧
    (n.armed s = true → n.underSelfTest s = false → n.gdv.latch.testBit s = false →
      since ≤ n.gnow → hard = true ∨ (n.sw s).blank = false → latched s hard n m)) ∧
  (∀ (x : Fin 14) (longest cur : Nat), OnPowered (fun l t => .blankingEnd l t x longest cur) fun n m =>
    let s := x.val
    ((n.sw s).blank = false ∨ n.gnow < (n.sw s).blankEnd → m = n) ∧
    ((n.sw s).blank = true → (n.sw s).blankEnd ≤ n.gnow → n.gdv.latch.testBit s = false →
      (m.sw s).blank = false ∧
      ((n.sw s).softq ≤ longest → latched s false n m) ∧
      (longest < (n.sw s).softq → m.gdv.latch = n.gdv.latch ∧ (m.sw s).on = (n.sw s).on ∧
        (0 < cur → (m.sw s).runT = some ((n.sw s).blankEnd - cur)) ∧
        (cur = 0 → 0 < longest → m.f (F.GDV_LEGn_CNT.BLNKSOFT (swLeg s)) = (n.counted (F.GDV_LEGn_CNT.BLNKSOFT (swLeg s))).2)))) ∧
  ∀ (x : Fin 14), OnPowered (fun l t => .softPeriodEnd l t x) fun n m =>
    let s := x.val
    let c := swComp s
    ((n.sw s).softEnd = none → m = n) ∧
    ∀ e, (n.sw s).softEnd = some e → (n.gnow < e → m = n) ∧
      (e ≤ n.gnow → (m.sw s).softEnd = none ∧ (m.sw s).strength = 7 ∧ (m.sw s).on = (n.sw s).on ∧
        ((n.sw c).deferred = true → (n.sw c).lvl = true → n.swBarred c = false → (m.sw c).on = true) ∧
        ((n.sw c).deferred = false → (m.sw c) = (n.sw c)))

/-- R136, R148 to R151: off-state checks begin and end, and latches are cleared. -/
def Obligations.ChecksAndClears : Prop :=
  (∀ c ∈ [Instr.comparatorSelfTest, .gateLeakageCheck], OnWrite c R.GDV_CHKCMD fun org v n m =>
    let kind := F.GDV_CHKCMD.KIND.val v
    let x := F.GDV_CHKCMD.TARGET.val v
    let off := fun s => n.on (if s % 2 = 0 then F.PWM_LEGn_ACT.H (swLeg s) else F.PWM_LEGn_ACT.L (swLeg s)) = false ∧
      ¬(n.gdv.direct = true ∧ n.gdv.dgpin.testBit s = true)
    let rest := fun g => n.grp g ≠ 2 ∧ n.grp g ≠ 3
    let may := n.on F.GDV_CTRL.EN = true ∧ n.gdv.check = none ∧
      ((kind = 1 ∧ 1 ≤ x ∧ x ≤ 7 ∧ off (2 * (x - 1)) ∧ off (2 * (x - 1) + 1) ∧ rest (legGroup x)) ∨
       (kind = 2 ∧ x ≤ 13 ∧ off x ∧ rest (legGroup (swLeg x))))
    (may → Sets { n with gdv := m.gdv } m [(F.GDV_STAT.BUSY, 1)] ∧ m.gdv.sw = n.gdv.sw ∧
      m.gdv.check = some { kind := kind, target := x, start := n.gnow }) ∧
    (¬may → Rejected n m 7 org.code R.GDV_CHKCMD true 15)) ∧
  (∀ (pass slow : Bool) (tch : BitVec 16) (vend : BitVec 12), OnEvent dACT (fun l t => .checkComplete l t pass slow tch vend) fun n m =>
    (n.gdv.check = none → m = n) ∧
    ∀ c, n.gdv.check = some c → (c.kind = 1 ∧ 1 ≤ c.target ∧ c.target ≤ 7) ∨ (c.kind = 2 ∧ c.target ≤ 13) →
      let r := if c.kind = 1 then (if pass then 1 else 2) else if slow = true ∨ 2000 < tch.toNat then 5 else if tch.toNat < n.f F.GDV_LEAKLIM.TMIN then 4
        else if vend.toNat < n.f F.GDV_LEAKLIM.VMIN then 3 else 1
      let time := if c.kind = 1 then 720 else if r = 5 then 8400 else if r = 4 then 400 + 4 * tch.toNat else 20440 + 4 * tch.toNat
      (n.gnow < c.start + time → m = n) ∧
      (c.start + time ≤ n.gnow → m.gdv = { n.gdv with check := none } ∧ m.kst = n.kst ∧ m.f F.GDV_STAT.BUSY = 0 ∧
      m.f F.GDV_CHKSTAT.RESULT = r ∧ m.f F.GDV_CHKSTAT.KIND = c.kind ∧ m.f F.GDV_CHKSTAT.TARGET = c.target ∧
      m.f F.GDV_CHKSTAT.DONE = 1 ∧
      (r = 1 → m.on (if c.kind = 1 then F.GDV_LEGn_CHK.STEST c.target
        else if c.target % 2 = 0 then F.GDV_LEGn_CHK.LEAK_H (swLeg c.target) else F.GDV_LEGn_CHK.LEAK_L (swLeg c.target)) = true) ∧
      (r ≠ 1 → ∀ leg < 8, m.rd (R.GDV_LEGn_CHK leg) = n.rd (R.GDV_LEGn_CHK leg)))) ∧
  ∀ c ∈ [Instr.uvloLatchClear, .reflexLatchClear], OnWrite c R.GDV_CLR fun _ v n m => ∀ s < 14,
    let st := n.grp (legGroup (swLeg s))
    let rest := st = 0 ∨ st = 1 ∨ st = 4
    let u := (F.GDV_CLR.UVLO.val v).testBit s = true
    let x := (F.GDV_CLR.REFLEX.val v).testBit s = true
    let leak := if s % 2 = 0 then F.GDV_LEGn_CHK.LEAK_H (swLeg s) else F.GDV_LEGn_CHK.LEAK_L (swLeg s)
    let cnt := if s % 2 = 0 then F.GDV_LEGn_CNT.CLR_H (swLeg s) else F.GDV_LEGn_CNT.CLR_L (swLeg s)
    let uMay := n.bit F.GDV_UVLO.LIVE s = false ∧ rest
    let xMay := rest ∧ n.on (F.GDV_LEGn_CHK.STEST (swLeg s)) = true ∧ n.on leak = true ∧ Cells.get 0 n.gdv.clrs s < 3
    (u → uMay → m.bit F.GDV_UVLO.LATCH s = false ∧ m.gdv.lockLt.testBit s = false) ∧
    (¬u ∨ ¬uMay → m.bit F.GDV_UVLO.LATCH s = n.bit F.GDV_UVLO.LATCH s ∧ m.gdv.lockLt.testBit s = n.gdv.lockLt.testBit s) ∧
    (x → xMay → m.bit F.GDV_REFLEX.LATCH s = false ∧ m.gdv.latch.testBit s = false ∧ m.f cnt = (n.counted cnt).2 ∧
      Cells.get 0 m.gdv.clrs s = Cells.get 0 n.gdv.clrs s + 1) ∧
    (¬x ∨ ¬xMay → m.bit F.GDV_REFLEX.LATCH s = n.bit F.GDV_REFLEX.LATCH s ∧ m.gdv.latch.testBit s = n.gdv.latch.testBit s ∧
      m.f cnt = n.f cnt ∧ Cells.get 0 m.gdv.clrs s = Cells.get 0 n.gdv.clrs s) ∧
    ((u ∧ ¬uMay) ∨ (x ∧ ¬xMay) → m.on F.SYS_REGERR.FLAG = true)

/-! ## Feedback, measurement and commutation (spec/06 to 08) -/

/-- R154, R155: a filter changes no sooner than FILT cycles after its last change, and an input the mode does not use is ignored. R156, R162, R169: a quadrature step of one state counts ±1 within the soft limits, a double change is an error; a Hall step
counts likewise, and an invalid Hall state ends validity; a disabled block holds its counts. -/
def Obligations.FeedbackInputsCount : Prop :=
  ∀ (ch : Fin 4) (x : BitVec 3), OnEvent dFBI (fun l t => .feedbackInputChange l t ch x) fun n m =>
    let i := x.toNat
    let was := n.f (F.FBI_CHn_STAT.INPUTS ch)
    let pos := fun (k : Lane) => (k.rd (R.FBI_CHn_POS ch)).toInt
    let still := m.rd (R.FBI_CHn_RAW ch) = n.rd (R.FBI_CHn_RAW ch) ∧ pos m = pos n
    let moves := fun (fwd : Bool) =>
      let d : Int := if fwd = n.on (F.FBI_CHn_CFG.DIRINV ch) then -1 else 1
      let p := pos n + n.sf (F.FBI_CHn_EXCESS.EXCESS ch) + d
      m.rd (R.FBI_CHn_RAW ch) = n.rd (R.FBI_CHn_RAW ch) + BitVec.ofInt 32 d ∧
      m.rd (R.FBI_CHn_TSTAMP ch) = BitVec.ofNat 32 (n.now - n.fbi.en0) ∧ m.f (F.FBI_CHn_STAT.STILL ch) = 0 ∧
      ((n.rd (R.FBI_CHn_SLMIN ch)).toInt ≤ p → p ≤ (n.rd (R.FBI_CHn_SLMAX ch)).toInt → pos m = p)
    let settled := fun (j : Nat) => (n.fch ch).inT.getD j 0 + n.f (F.FBI_CHn_CFG.FILT ch) ≤ n.now
    (∀ j < 3, ¬settled j ∨ n.fmode ch = 0 ∨ 4 ≤ n.fmode ch ∨ (n.fmode ch = 3 ∧ j ≠ 0) →
      (m.f (F.FBI_CHn_STAT.INPUTS ch)).testBit j = was.testBit j) ∧
    (n.on F.FBI_CTRL.EN = false → (∀ j < 3, settled j) → n.fmode ch = 1 ∨ n.fmode ch = 2 →
      Sets { n with fbi := m.fbi } m [(F.FBI_CHn_STAT.INPUTS ch, i)]) ∧
    (n.on F.FBI_CTRL.EN = true → (∀ j < 3, settled j) → n.fmode ch = 1 → n.idxCond ch i = false ∨ (n.fch ch).idx = true →
      ((was % 4, i % 4) ∈ [(0, 1), (1, 3), (3, 2), (2, 0)] → moves true) ∧
      ((was % 4, i % 4) ∈ [(1, 0), (3, 1), (2, 3), (0, 2)] → moves false) ∧
      ((was % 4, i % 4) ∈ [(0, 3), (3, 0), (1, 2), (2, 1)] → still ∧ m.on (F.FBI_CHn_EVT.QERR ch) = true) ∧ (was % 4 = i % 4 → still)) ∧
    (n.on F.FBI_CTRL.EN = true → (∀ j < 3, settled j) → n.fmode ch = 2 →
      let seq := n.f (F.FBI_CHn_HALLSEQ.SEQ ch)
      (i = 0 ∨ i = 7 → i ≠ was → still ∧ m.on (F.FBI_CHn_STAT.VALID ch) = false ∧ m.on (F.FBI_CHn_EVT.HALLST ch) = true) ∧
      (hallSeqOk seq = true → ∀ a < 6,
        (was = hallEntry seq a → i = hallEntry seq ((a + 1) % 6) → was ≠ 0 → was ≠ 7 → i ≠ 0 → i ≠ 7 → moves true) ∧
        (i = hallEntry seq a → was = hallEntry seq ((a + 1) % 6) → was ≠ 0 → was ≠ 7 → i ≠ 0 → i ≠ 7 → moves false)))

/-- R164 to R168, R176 to R181: time-outs, SSI transfers, standstill, the speed registers, the compare list, its pulses and the divider. -/
def Obligations.FeedbackEvents : Prop :=
  (∀ ch : Fin 4, OnEvent dFBI (fun l t => .absoluteTimeout l t ch) fun n m =>
    let due := n.fbiRuns ch = true ∧ 3 ≤ n.fmode ch ∧ (n.fch ch).timed = false ∧
      ((n.fch ch).lastOk + 40000 * n.f (F.FBI_CHn_ABS.TIMEOUT ch) ≤ n.now ∨ n.absInj ch = true)
    (¬due → m = n) ∧
    (due → m.on (F.FBI_CHn_STAT.VALID ch) = false ∧ m.on (F.FBI_CHn_STAT.NOREF ch) = true ∧ m.on (F.FBI_CHn_EVT.TIMEOUT ch) = true ∧
      m.rd (R.FBI_CHn_RAW ch) = n.rd (R.FBI_CHn_RAW ch) ∧ m.rd (R.FBI_CHn_POS ch) = n.rd (R.FBI_CHn_POS ch))) ∧
  (∀ (ch : Fin 4) (word : W32) (pre tail : Bool), OnEvent dFBI (fun l t => .ssiTransferComplete l t ch word pre tail) fun n m =>
    let nb := n.f (F.FBI_CHn_SSI.NBITS ch)
    ((n.fch ch).ssi = none → m = n) ∧
    ∀ t₀, (n.fch ch).ssi = some t₀ → n.fbiRuns ch = true → n.fmode ch = 4 →
      t₀ + nb * (2 * (n.f (F.FBI_CHn_SSI.DIV ch) + 1)) + n.f (F.FBI_CHn_SSI2.DLY ch) ≤ n.now →
      (m.fch ch).ssi = none ∧ (m.fch ch).ssiEnd = n.now + n.f (F.FBI_CHn_SSI2.MONO ch) ∧
      (pre = false ∨ tail = true → m.rd (R.FBI_CHn_RAW ch) = n.rd (R.FBI_CHn_RAW ch) ∧ m.on (F.FBI_CHn_EVT.FRAME ch) = true) ∧
      (pre = true → tail = false → n.on (F.FBI_CHn_SSI.ERRCHK ch) = false → n.on (F.FBI_CHn_SSI.GRAY ch) = false →
        (n.fch ch).vPrev = none → n.absInj ch = false →
        m.rd (R.FBI_CHn_RAW ch) = BitVec.ofNat 32 (word.toNat % 2 ^ nb / 2 ^ n.f (F.FBI_CHn_ABS.POSSHIFT ch) %
          2 ^ n.f (F.FBI_CHn_ABS.POSW ch)) ∧
        m.on (F.FBI_CHn_STAT.VALID ch) = true ∧ m.rd (R.FBI_CHn_TSTAMP ch) = BitVec.ofNat 32 (t₀ - n.fbi.en0))) ∧
  (∀ ch : Fin 4, OnEvent dFBI (fun l t => .standstillEntry l t ch) fun n m =>
    let due := n.fbiRuns ch = true ∧ n.on (F.FBI_CHn_STAT.STILL ch) = false ∧
      (n.fch ch).edgeT + 4000 * n.f (F.FBI_CHn_SPD.STILL ch) ≤ n.now
    (¬due → m = n) ∧
    (due → m.on (F.FBI_CHn_STAT.STILL ch) = true ∧ (n.fmode ch ≤ 2 → m.on (F.FBI_CHn_STAT.NOREF ch) = true) ∧
      ∀ off, off ≠ R.FBI_CHn_STAT ch → m.rd off = n.rd off)) ∧
  (OnEvent dFBI .speedRefresh fun n m => ∀ ch < 4,
    (n.fbiRuns ch = false → m.rd (R.FBI_CHn_SPEED ch) = n.rd (R.FBI_CHn_SPEED ch)) ∧
    (n.fbiRuns ch = true → n.fmode ch ≤ 2 → n.on (F.FBI_CHn_STAT.STILL ch) = true → m.rd (R.FBI_CHn_SPEED ch) = 0#32) ∧
    (n.fbiRuns ch = true → n.fmode ch ≤ 2 → n.on (F.FBI_CHn_STAT.STILL ch) = false →
      n.on (F.FBI_CHn_LATCFG.VAL_0 ch) = false → n.on (F.FBI_CHn_LATCFG.VAL_1 ch) = false →
      ∀ a b, (n.fch ch).e0 = some a → (n.fch ch).e1 = some b → a ≠ b →
        (n.now - b.t) * (b.raw - a.raw).toInt.natAbs ≤ b.t - a.t →
        let v := Int.tdiv ((b.raw - a.raw).toInt * 102400000000) (max (b.t - a.t) 1 : Nat)
        v.natAbs < 2 ^ 31 → (m.rd (R.FBI_CHn_SPEED ch)).toInt = v) ∧
    (n.fbiRuns ch = true → 3 ≤ n.fmode ch → m.rd (R.FBI_CHn_SPEED ch) = (n.fch ch).absSpd)) ∧
  (∀ ch : Fin 4, OnWrite (fun l t org v => .compareListWrite l t org ch v) (R.FBI_CHn_PCCTL ch) fun _ v n m =>
    n.on (F.FBI_CHn_PCCTL.EN ch) = false → (F.FBI_CHn_PCCTL.EN ch).val v = 1 →
      m.on (F.FBI_CHn_PCCTL.EN ch) = true ∧ m.f (F.FBI_CHn_PCSTAT.PTR ch) = (F.FBI_CHn_PCCTL.START ch).val v ∧
      m.f (F.FBI_CHn_PCSTAT.DONE ch) = 0 ∧ m.f (F.FBI_CHn_PCSTAT.MATCHES ch) = 0 ∧ m.fbi.pco = n.fbi.pco) ∧
  (∀ k : Fin 4, OnEvent dFBI (fun l t => .comparePulseEnd l t k) fun n m =>
    let e := Cells.get 0 n.fbi.pulse k
    (e = 0 ∨ n.now < e → m = n) ∧
    (0 < e → e ≤ n.now → m.fbi.pco.testBit k = false ∧ m.fbi.pcoOld.testBit k = false ∧
      (∀ i, i ≠ k.val → m.fbi.pco.testBit i = n.fbi.pco.testBit i) ∧
      Cells.get 0 m.fbi.pulse k = 0 ∧ m.regs = n.regs)) ∧
  OnEvent dFBI .pulseDividerStep fun n m =>
    let due := n.on F.FBI_CTRL.EN = true ∧ n.fbi.pdQ ≠ 0 ∧ ∀ t₀, n.fbi.pdLast = some t₀ → t₀ + n.f F.FBI_PDCFG.PDMIN ≤ n.now
    (¬due → m = n) ∧
    (due → m = { n with fbi := { n.fbi with
      pdQ := if 0 < n.fbi.pdQ then n.fbi.pdQ - 1 else n.fbi.pdQ + 1
      pdLast := some n.now
      pdPhase := (n.fbi.pdPhase + if 0 < n.fbi.pdQ then 1 else 3) % 4 } })

/-- R195, R198: the over-current comparators and the end of the calibration. R211 to R213, R221: the command pin, the group commands of
the CFE, and the end of a catch. -/
def Obligations.MeasurementAndCommutation : Prop :=
  ((∀ (a : Fin 7) (neg : Bool), OnEvent dACT (fun l t => .overcurrentDetect l t a neg) fun n m =>
     let fld := if neg then F.ADC_CMPSTAT.NEG else F.ADC_CMPSTAT.POS
     let on := n.on F.ADC_CTRL.EN = true ∧ n.on (F.ADC_CCFGn.EN (a.val + 1)) = true
     let again := n.foundAgain (0x72 + a.val) (a.val + 1) = true
     (¬on ∨ (n.bit fld a = true ∧ ¬again) → m = n) ∧
     (on → n.bit fld a = true → again → SetsRaises n m (n.recordedOnce F.ADC_EVT.OVC) (0x72 + a.val) 3 (a.val + 1)) ∧
     (on → n.bit fld a = false → SetsRaises n m ([(fld, n.f fld + 2 ^ a.val)] ++ n.recordedOnce F.ADC_EVT.OVC) (0x72 + a.val) 3 (a.val + 1))) ∧
   (∀ a : Fin 7, OnEvent dACT (fun l t => .overcurrentClear l t a) fun n m =>
     (n.on F.ADC_CTRL.EN = false → m = n) ∧
     (n.on F.ADC_CTRL.EN = true → m.bit F.ADC_CMPSTAT.POS a = false ∧ m.bit F.ADC_CMPSTAT.NEG a = false ∧
       (∀ i < 7, i ≠ a.val → m.bit F.ADC_CMPSTAT.POS i = n.bit F.ADC_CMPSTAT.POS i ∧ m.bit F.ADC_CMPSTAT.NEG i = n.bit F.ADC_CMPSTAT.NEG i) ∧
       ∀ off, off ≠ R.ADC_CMPSTAT → m.rd off = n.rd off)) ∧
   ∀ ok : Bool, OnEvent dACT (fun l t => .adcCalibrationComplete l t ok) fun n m =>
     (n.adc.cal = none → m = n) ∧
     ∀ d, n.adc.cal = some d → (n.now < d → m = n) ∧
       (d ≤ n.now → ok = true → Sets { n with adc := { n.adc with cal := none } } m [(F.ADC_STAT.READY, 1)]) ∧
       (d ≤ n.now → ok = false → SetsRaises { n with adc := { n.adc with cal := none } } m (n.recordedOnce F.ADC_EVT.CAL) 0x71 2 0)) ∧
  ((∀ high : W32, OnEvent dCFE (fun l t => .commandPinEdge l t high) fun n m =>
     let value := fun (v : Nat) => m.f F.CFE_CMDMEAS.VALUE = v ∧ m.cfe.cmdT = n.now ∧
       m.on F.CFE_STAT.CMDVALID = decide (n.f F.CFE_CMDVAL.LO ≤ v ∧ v ≤ n.f F.CFE_CMDVAL.HI) ∧
       m.on F.CFE_CMDMEAS.VALID = m.on F.CFE_STAT.CMDVALID
     m.cfe.cmdRise = some n.now ∧
     (n.cfe.cmdRise = none → m.regs = n.regs ∧ m.cfe.cmdT = n.cfe.cmdT) ∧
     ∀ t₀, n.cfe.cmdRise = some t₀ → t₀ < n.now →
       (n.f F.CFE_CMDCFG.MODE = 1 → value (min 65535 (high.toNat * 65536 / (n.now - t₀)))) ∧
       (n.f F.CFE_CMDCFG.MODE = 2 → value (min 65535 (400000000 / (n.now - t₀)))) ∧ (n.f F.CFE_CMDCFG.MODE = 0 → m.regs = n.regs)) ∧
   (OnEvent dCFE .commandTimeout fun n m =>
     let due := n.cfe.cmdT + 40000 * n.f F.CFE_CMDCFG.TIMEOUT ≤ n.now ∨ n.injArmed 0xBB 0 = true
     let gone := [(F.CFE_STAT.CMDVALID, 0), (F.CFE_CMDMEAS.VALID, 0)]
     (¬due → m = n) ∧ (due → n.on F.CFE_STAT.CMDVALID = false → n.foundAgain 0xBB 0 = false → Sets n m gone) ∧
     (due → n.on F.CFE_STAT.CMDVALID = true ∨ n.foundAgain 0xBB 0 = true → SetsRaises n m (gone ++ n.recordedOnce F.CFE_EVT.COMMAND) 0xBB 7 0)) ∧
   (∀ c ∈ [Instr.catchGroup, .catchAbort, .swap], OnWrite c R.CFE_GRPCMD fun _ v n m => ∀ g < 2,
     let cmd := bits v (2 * g + 1) (2 * g)
     let may := n.bit F.SAF_STAT.PERMIT g = true ∧ n.grp g = 1 ∧ n.tbRun g = true ∧ n.on (F.CFE_Gg_BEMF.VAL g) = true ∧
       (n.cg g).catch_ = none
     (cmd = 1 → may → m.on (F.CFE_Gg_STAT.CATCHING g) = true) ∧
     (cmd = 1 → ¬may → m.on (F.CFE_Gg_STAT.CATCHING g) = n.on (F.CFE_Gg_STAT.CATCHING g) ∧ m.on F.SYS_REGERR.FLAG = true) ∧
     (cmd = 2 → (n.cg g).catch_ ≠ none → m.on (F.CFE_Gg_STAT.CATCHING g) = false ∧ m.f (F.CFE_Gg_CATSTAT.RESULT g) = 6 ∧
       m.f (F.CFE_Gg_CATSTAT.DONE g) = 1 ∧ (m.cg g).catch_ = none) ∧
     m.bit F.CFE_TBLSTAT.PEND g = (n.bit F.CFE_TBLSTAT.PEND g || cmd == 3) ∧ m.grp g = n.grp g) ∧
   ∀ g : Fin 2, OnEvent dCFE (fun l t => .catchWindowExpiry l t g) fun n m =>
     ((n.cg g).catch_ = none → m = n) ∧
     ∀ k, (n.cg g).catch_ = some k → (n.now < k.t0 + 400000 * n.f (F.CFE_Gg_CATCH.WINDOW g) → m = n) ∧
       (k.t0 + 400000 * n.f (F.CFE_Gg_CATCH.WINDOW g) ≤ n.now →
         (m.cg g).catch_ = none ∧ m.on (F.CFE_Gg_STAT.CATCHING g) = false ∧ m.f (F.CFE_Gg_CATSTAT.DONE g) = 1 ∧
         (k.vpk < n.f (F.CFE_Gg_CATCH.BEMFMIN g) → m.f (F.CFE_Gg_CATSTAT.RESULT g) = 2 ∧ (m.cg g).preset = some 0 ∧ m.kst = n.kst) ∧
         (n.f (F.CFE_Gg_CATCH.BEMFMIN g) ≤ k.vpk → m.f (F.CFE_Gg_CATSTAT.RESULT g) = 3 ∧ m.on F.CFE_EVT.CATCH = true ∧
           Raised n m (0xB3 + 5 * g.val) 4 g)))

/-! ## Machine safety functions and block enables (spec/15) -/

/-- R377 to R381, R394: contacts, discrepancies and test pulses move their pair, whose demand withholds the permits of its groups; a pair
is OFF exactly while it is not in use; while an output pulses, its contacts keep the level they had. R389, R392: the seal straps decide SEALOK, and a status output that differs at its ball is raised. -/
def Obligations.SafetyContacts : Prop :=
  (let withheld := fun (n m : Lane) (p : Nat) => m.bit F.SAF_STAT.DEMAND p = true ∧
     ∀ g < 2, n.bit (F.SAF_SINp_CFG.STO p) g = true → m.bit F.SAF_STAT.PERMIT g = false
   (∀ (p : Fin 4) (a b : Bool), OnPowered (fun l t => .contactChange l t p a b) fun n m =>
     (n.on F.SAF_CTRL.EN = false → n.pairSt p = m.pairSt p ∧ m.rd R.SAF_STAT = n.rd R.SAF_STAT) ∧
     (∀ pre h, n.saf.pulse.find? (fun q => q.1 == n.f (F.SAF_SINp_CFG.STPA p)) = some (h, pre) → a ≠ pre.testBit (2 * p) →
       (m.pair p).a = (n.pair p).a) ∧
     (∀ x, n.saf.pairs[p.val]? = some x → n.heldLevel p false = none → n.heldLevel p true = none →
       (m.pair p).a = a ∧ (m.pair p).b = b ∧ m.on (F.SAF_SINp_STAT.A p) = !a ∧
       m.on (F.SAF_SINp_STAT.B p) = (b == n.on (F.SAF_SINp_CFG.TYPE p))) ∧
     (∀ x, n.saf.pairs[p.val]? = some x → n.heldLevel p false = none →
       n.on F.SAF_CTRL.EN = true → n.on (F.SAF_SINp_CFG.USE p) = true → n.pairSt p = 2 → x.a = true → a = false →
       m.pairSt p = 3 ∧ m.on (F.SAF_SINp_STAT.A p) = true ∧ m.on F.SAF_EVT.DEMAND = true ∧
       m.f (F.SAF_SINp_CNT.ACTIVATIONS p) = (n.f (F.SAF_SINp_CNT.ACTIVATIONS p) + 1) % 2 ^ 16 ∧ withheld n m p) ∧
     (∀ x, n.saf.pairs[p.val]? = some x → n.heldLevel p false = none → n.heldLevel p true = none →
       n.on F.SAF_CTRL.EN = true → n.on (F.SAF_SINp_CFG.USE p) = true → n.pairSt p = 3 → x.a = true → a = true → b ≠ n.on (F.SAF_SINp_CFG.TYPE p) →
       m.pairSt p = 2 ∧ m.on (F.SAF_SINp_STAT.A p) = false ∧ m.on (F.SAF_SINp_STAT.B p) = false ∧ m.bit F.SAF_STAT.DEMAND p = false) ∧
     ∀ q < 4, q ≠ p.val → m.pairSt q =
       if n.on F.SAF_CTRL.EN = true ∧ n.on (F.SAF_SINp_CFG.USE q) = false then 0
       else if n.on F.SAF_CTRL.EN = true ∧ n.pairSt q = 0 then 1 else n.pairSt q) ∧
   (∀ p : Fin 4, OnPowered (fun l t => .discrepancyTimeout l t p) fun n m =>
     let due := (n.pair p).timer ≠ none ∨ n.injArmed (0x30 + 2 * p) p = true
     (¬due ∨ n.on F.SAF_CTRL.EN = false → m = n) ∧
     (∀ x, n.saf.pairs[p.val]? = some x → due → n.on F.SAF_CTRL.EN = true → n.on (F.SAF_SINp_CFG.USE p) = true → n.pairSt p = 3 →
       m.pairSt p = 4 ∧ (m.pair p).timer = none ∧ m.on F.SAF_EVT.DISC = true ∧
       m.f (F.SAF_SINp_CNT.DISCS p) = (n.counted (F.SAF_SINp_CNT.DISCS p)).2 ∧
       (∃ x ∈ m.kst.msgs, x.src = 0x30 + 2 * p.val ∧ x.kind = 1) ∧ withheld n m p)) ∧
   (∀ (k : Fin 2) (pre : BitVec 8), OnPowered (fun l t => .testPulseStart l t k pre) fun n m =>
     m = if n.on F.SAF_CTRL.EN = true then { n with saf := { n.saf with pulse := Cells.put n.saf.pulse k pre.toNat } } else n) ∧
   ∀ (k : Fin 2) (high : BitVec 8), OnPowered (fun l t => .testPulseEnd l t k high) fun n m =>
     (n.saf.pulse.find? (fun q => q.1 == k.val) = none → m = n) ∧
     ∀ pre, n.saf.pulse.find? (fun q => q.1 == k.val) = some (k.val, pre) → n.on F.SAF_CTRL.EN = true → ∀ p < 4,
       (n.f (F.SAF_SINp_CFG.STPA p) = k → (2 * p, pre.testBit (2 * p), n.now) ∈ m.saf.hold) ∧
       let fails := high.toNat.testBit (2 * p) = true ∨ n.injArmed (0x31 + 2 * p) p = true
       n.on (F.SAF_SINp_CFG.USE p) = true →
       (n.f (F.SAF_SINp_CFG.STPA p) = k → pre.testBit (2 * p) = true →
         m.f (F.SAF_SINp_STAT.TPFA p) = (if fails then 1 else 0) ∧
         (fails → m.pairSt p = 5 ∧ m.on F.SAF_EVT.TESTP = true ∧
           (∃ x ∈ m.kst.msgs, x.src = 0x31 + 2 * p ∧ x.kind = 2) ∧ withheld n m p)) ∧
       (n.f (F.SAF_SINp_CFG.STPA p) = k → pre.testBit (2 * p) = false → m.f (F.SAF_SINp_STAT.TPFA p) = n.f (F.SAF_SINp_STAT.TPFA p)) ∧
       m.saf.pulse = Cells.erase n.saf.pulse k) ∧
  ((∀ (up dn : BitVec 6), OnPowered (fun l t => .sealSample l t up dn) fun n m =>
     let sampled := n.domOn dCORE = true ∧ n.bit F.YAR_UNUSABLE.PARTS 2 = false
     let agrees := up = dn ∧ up.toNat = n.f F.SAF_SEALEXP.EXP
     (¬sampled → m = n) ∧
     (sampled → m.f F.SAF_SEAL.OPEN = (up ^^^ dn).toNat ∧ m.f F.SAF_SEAL.READ = (up &&& dn).toNat ∧
       (n.saf.sealRun = false → m.rd R.SAF_STAT = n.rd R.SAF_STAT) ∧
       (n.saf.sealRun = true → agrees → m.on F.SAF_STAT.SEALOK = true ∧ m.saf.sealBad = 0) ∧
       (n.saf.sealRun = true → ¬agrees → n.on F.SYS_ARMSTAT.RELEASED = false → m.on F.SAF_STAT.SEALOK = false) ∧
       (n.saf.sealRun = true → ¬agrees → n.on F.SYS_ARMSTAT.RELEASED = true → n.saf.sealBad = 0 →
         m.rd R.SAF_STAT = n.rd R.SAF_STAT ∧ m.saf.sealBad = 1) ∧
       (n.saf.sealRun = true → ¬agrees → n.on F.SYS_ARMSTAT.RELEASED = true → n.saf.sealBad = 1 →
         m.on F.SAF_STAT.SEALOK = false ∧ m.f F.SAF_STAT.PERMIT = 0 ∧ m.on F.SAF_EVT.SEAL = true ∧
         ∃ x ∈ m.kst.msgs, x.src = 0x38 ∧ x.kind = 3))) ∧
   ∀ alive : Bool, OnPowered (fun l t => .statusReadbackFail l t alive) fun n m =>
     SetsRaises n m (n.recordedOnce F.SAF_EVT.STATUS) 0x3D 6 (if alive then 1 else 0))

/-- R382, R385 to R388, R391: torque permits, brake outputs with their tests and checks, and kicks. -/
def Obligations.SafetyOutputs : Prop :=
  let may := fun (n : Lane) (k : Nat) => n.on F.SAF_CTRL.EN = true ∧ n.on F.SYS_ARMSTAT.RELEASED = true ∧
    n.on F.SAF_STAT.SEALOK = true ∧ n.on F.KST_STAT.LANESAFE = false ∧ n.bit F.SAF_SBOSTAT.SBOF k = false ∧
    ∀ p < 4, n.demanding p = true → n.bit (F.SAF_SINp_CFG.BRK p) k = false
  let failed := fun (m : Lane) (k cause : Nat) => m.bit F.SAF_SBOSTAT.SBOF k = true ∧ m.f (causeF k) = cause ∧
    m.bit F.SAF_SBOCMD.REL k = false ∧ m.bit F.SAF_STAT.SBOON k = false ∧ m.on F.SAF_EVT.SBOF = true ∧
    ∃ x ∈ m.kst.msgs, x.src = 0x3B + k ∧ x.kind = 5
  (OnWrite .torqueRemovalCommand R.SAF_STOCMD fun _ v n m => m.f F.SAF_STOCMD.STO = F.SAF_STOCMD.STO.val v ∧ ∀ g < 2,
    (m.bit F.SAF_STAT.PERMIT g = true ↔ n.on F.SAF_CTRL.EN = true ∧ (F.SAF_STOCMD.STO.val v).testBit g = false ∧
      n.on F.SAF_STAT.SEALOK = true ∧ ∀ p < 4, n.demanding p = true → n.bit (F.SAF_SINp_CFG.STO p) g = false) ∧
    (n.bit F.SAF_STAT.PERMIT g = true → (F.SAF_STOCMD.STO.val v).testBit g = true → n.grp g = 2 ∨ n.grp g = 3 →
      ∃ x ∈ m.kst.msgs, x.src = 0x39 + g ∧ x.kind = 4)) ∧
  (OnWrite .brakeReleaseRequest R.SAF_SBOCMD fun org v n m =>
    let rel := fun k => (F.SAF_SBOCMD.REL.val v).testBit k
    ((∃ k < 2, rel k = true ∧ ¬may n k) → Rejected n m 7 org.code R.SAF_SBOCMD true 15) ∧
    ((∀ k < 2, rel k = true → may n k) → ∀ k < 2, m.bit F.SAF_SBOCMD.REL k = rel k ∧
      m.bit F.SAF_STAT.SBOON k = (rel k && !n.bit F.SAF_SBOSTAT.TEST k))) ∧
  (∀ k : Fin 2, OnPowered (fun l t => .offTestStart l t k) fun n m =>
    (n.bit F.SAF_STAT.SBOON k = false → m = n) ∧
    (n.bit F.SAF_STAT.SBOON k = true → m.bit F.SAF_SBOSTAT.TEST k = true ∧ m.bit F.SAF_STAT.SBOON k = false)) ∧
  (∀ (k : Fin 2) (below : Bool), OnPowered (fun l t => .offTestEnd l t k below) fun n m =>
    (n.bit F.SAF_SBOSTAT.TEST k = false → m = n) ∧
    (n.bit F.SAF_SBOSTAT.TEST k = true → m.bit F.SAF_SBOSTAT.TEST k = false ∧
      (below = true → may n k → n.bit F.SAF_SBOCMD.REL k = true → m.bit F.SAF_STAT.SBOON k = true) ∧
      (below = false → failed m k 3))) ∧
  (∀ (k : Fin 2) (cause : BitVec 2), OnPowered (fun l t => .brakeOutputFail l t k cause) fun n m =>
    let c := cause.toNat
    let sees := ((c = 1 ∨ c = 2) ∧ n.bit F.SAF_STAT.SBOON k = true) ∨
      (c = 3 ∧ n.bit F.SAF_STAT.SBOON k = false ∧ n.bit F.SAF_SBOSTAT.TEST k = false)
    (¬sees → m = n) ∧ (sees → failed m k c)) ∧
  ∀ ticks : Nat, OnWrite (fun l t org v => .aliveKick l t org v ticks) R.SAF_KICK fun _ v n m =>
    let good := F.SAF_KICK.KEY.val v = (if n.saf.keyAlt then 0xA55A else 0x5AA5) ∧ n.on F.SAF_STAT.OKH = true ∧
      (n.saf.kicked = true → n.f F.SAF_ALIVECFG.MINT ≤ ticks)
    (good → m.f F.SAF_STAT.ALIVE = 1 - n.f F.SAF_STAT.ALIVE ∧ m.saf.keyAlt = !n.saf.keyAlt ∧ m.saf.kicked = true ∧
      (n.saf.kicked = true → n.f F.SAF_ALIVECFG.MAXT < ticks → m.on F.SAF_EVT.KICK = true)) ∧
    (¬good → Sets n m (n.recordedOnce F.SAF_EVT.KICK))

/-- A block's enable is set only with the structure lock set, and cleared only while nothing depends on it; what starts afresh then. -/
def Obligations.BlockEnables : Prop :=
  let drives := fun (n : Lane) (g : Nat) => n.grp g = 2 ∨ n.grp g = 3
  let enable := fun (c : LaneId → Nat → Origin → W32 → Instr) (off : Nat) (en : FRef) (busy : Lane → Prop)
      (sets clears : Lane → Lane → Prop) => OnWrite c off fun org v n m =>
    (en.val v = 1 → n.on en = false → n.on F.SYS_ASHLOCK.LOCK = false → Rejected n m 7 org.code off true 15) ∧
    (en.val v = 1 → n.on F.SYS_ASHLOCK.LOCK = true → m.on en = true) ∧
    (en.val v = 1 → n.on en = false → n.on F.SYS_ASHLOCK.LOCK = true → sets n m) ∧
    (en.val v = 0 → n.on en = true → busy n → Rejected n m 7 org.code off true 15) ∧
    (en.val v = 0 → n.on en = false ∨ ¬busy n → m.on en = false) ∧
    (en.val v = 0 → n.on en = true → ¬busy n → clears n m)
  enable .pwmBlockEnable R.PWM_CTRL F.PWM_CTRL.EN (fun n => ∃ b < 3, n.tbRun b = true)
    (fun n m => Sets n m [(F.PWM_CTRL.EN, 1)]) (fun n m => Sets n m [(F.PWM_CTRL.EN, 0)]) ∧
  enable .gdvBlockEnable R.GDV_CTRL F.GDV_CTRL.EN (fun n => ∃ g < 3, drives n g ∨ n.grp g = 5)
    (fun n m => Sets { n with gdv := m.gdv } m [(F.GDV_CTRL.EN, 1)] ∧ m.gdv.sw = n.gdv.sw ∧ m.gdv.latch = n.gdv.latch) (fun _ m => (∀ s < 14, (m.sw s).on = false) ∧ m.gdv.check = none ∧
      ∀ f < 2, (m.feed f).testBit 0 = false) ∧
  enable .adcBlockEnable R.ADC_CTRL F.ADC_CTRL.EN (fun n => ∃ g < 3, drives n g)
    (fun n m => m.adc.cal = some (n.now + 8000)) (fun _ m => m.adc.cal = none ∧ m.on F.ADC_STAT.READY = false ∧
      ∀ q < 8, m.f (F.ADC_SQq_STAT.BUSY q) = 0) ∧
  enable .fbiBlockEnable R.FBI_CTRL F.FBI_CTRL.EN (fun n => ∃ g < 3, drives n g)
    (fun n m => m.fbi.en0 = n.now ∧ ∀ ch < 4, 1 ≤ n.fmode ch → n.fmode ch ≤ 4 →
      m.rd (R.FBI_CHn_RAW ch) = 0#32 ∧ m.on (F.FBI_CHn_STAT.STILL ch) = true ∧ m.on (F.FBI_CHn_STAT.NOREF ch) = true)
    (fun n m => m.fbi.pco = 0 ∧ ∀ ch < 4, m.rd (R.FBI_CHn_RAW ch) = n.rd (R.FBI_CHn_RAW ch) ∧
      m.rd (R.FBI_CHn_POS ch) = n.rd (R.FBI_CHn_POS ch)) ∧
  enable .cfeBlockEnable R.CFE_CTRL F.CFE_CTRL.EN (fun n => ∃ g < 3, n.on (F.PWM_TBb_CFG.SRC g) = true ∧ (drives n g ∨ n.grp g = 5))
    (fun _ m => m.on F.CFE_STAT.CHFAIL = false) (fun n m => Sets n m [(F.CFE_CTRL.EN, 0)]) ∧
  enable .cleBlockEnable R.CLE_CTRL F.CLE_CTRL.EN (fun n => ∃ g < 3, drives n g)
    (fun _ m => m.cle = {} ∧ ∀ k < 32, m.rd (R.CLE_Ln_CUR k) = 0#32 ∧ m.rd (R.CLE_Ln_OUT k) = 0#32 ∧
      m.rd (R.CLE_Ln_SPL k) = 0#32 ∧ m.on (F.CLE_Ln_STAT.FIRST k) = true)
    (fun n m => m.cle = {} ∧ ∀ k < 32, m.rd (R.CLE_Ln_CUR k) = n.rd (R.CLE_Ln_CUR k)) ∧
  enable .safBlockEnable R.SAF_CTRL F.SAF_CTRL.EN (fun n => (∃ g < 3, drives n g ∨ n.grp g = 5) ∨ n.f F.SAF_STAT.SBOON ≠ 0)
    (fun n m => ∀ p < 4, m.pairSt p = if n.on (F.SAF_SINp_CFG.USE p) then 1 else 0) (fun _ m => m.f F.SAF_STAT.PERMIT = 0)

/-! ## The policy engine (spec/10) -/

/-- R252, register form: each function's result, its cycles, and that nothing but D, the PC and the issue time changes. R252, R254:
division truncates towards zero, the remainder has the dividend's sign, and the results without a true value saturate. R252, constant
form; SHK with kind 3 or K18[17:7] not zero is illegal (R255) and abandons the handler. -/
def Obligations.ArithmeticInstructions : Prop :=
  (RegisterForm .add 0x00 1 (fun a b => a + b) ∧ RegisterForm .sub 0x01 1 (fun a b => a - b) ∧
   RegisterForm .andR 0x02 1 (fun a b => a &&& b) ∧ RegisterForm .iorR 0x03 1 (fun a b => a ||| b) ∧
   RegisterForm .xorR 0x04 1 (fun a b => a ^^^ b) ∧
   RegisterForm .shl 0x05 1 (fun a b => a <<< (b &&& 31#32)) ∧ RegisterForm .shr 0x06 1 (fun a b => a >>> (b &&& 31#32)) ∧
   RegisterForm .sha 0x07 1 (fun a b => a.sshiftRight (b &&& 31#32).toNat) ∧
   RegisterForm .clt 0x08 1 (fun a b => if a.toInt < b.toInt then 1#32 else 0#32) ∧
   RegisterForm .cltu 0x09 1 (fun a b => if a.toNat < b.toNat then 1#32 else 0#32) ∧
   RegisterForm .mins 0x0A 1 (fun a b => BitVec.ofInt 32 (min a.toInt b.toInt)) ∧
   RegisterForm .maxs 0x0B 1 (fun a b => BitVec.ofInt 32 (max a.toInt b.toInt)) ∧
   RegisterForm .minu 0x0C 1 (fun a b => BitVec.ofNat 32 (min a.toNat b.toNat)) ∧
   RegisterForm .maxu 0x0D 1 (fun a b => BitVec.ofNat 32 (max a.toNat b.toNat)) ∧
   RegisterForm .mull 0x10 2 (fun a b => a * b) ∧
   RegisterForm .mulhs 0x11 2 (fun a b => (a.signExtend 64 * b.signExtend 64).extractLsb' 32 32) ∧
   RegisterForm .mulhu 0x12 2 (fun a b => (a.setWidth 64 * b.setWidth 64).extractLsb' 32 32) ∧
   ∀ (s : State) (l : LaneId) (t : Nat) (fe : Bool) (d a : BitVec 5), (s.laneAt l t).issues (encR 0x0E d a 0#5) = true →
     Answers (.lzc l t fe d a) s fun m =>
       let n := (s.laneAt l t).fetched fe
       let x := n.gpr a.toNat
       Ran n m d.toNat (BitVec.ofNat 32 (if x = 0#32 then 32 else 31 - Nat.log2 x.toNat)) (n.oap.pc + 4#32) 1) ∧
  (RegisterForm .quos 0x14 34 (fun a b =>
     if b = 0#32 then (if a.toInt < 0 then 0x80000000#32 else 0x7FFFFFFF#32)
     else if a = 0x80000000#32 ∧ b = 0xFFFFFFFF#32 then 0x7FFFFFFF#32 else a.sdiv b) ∧
   RegisterForm .quou 0x15 34 (fun a b => if b = 0#32 then 0xFFFFFFFF#32 else a / b) ∧
   RegisterForm .rmds 0x16 34 (fun a b => if b = 0#32 ∨ (a = 0x80000000#32 ∧ b = 0xFFFFFFFF#32) then 0#32 else a.srem b) ∧
   RegisterForm .rmdu 0x17 34 (fun a b => if b = 0#32 then 0#32 else a % b)) ∧
  (ConstantForm .addk 1 (fun a k => a + k.signExtend 32) ∧ ConstantForm .andk 2 (fun a k => a &&& k.setWidth 32) ∧
   ConstantForm .iork 3 (fun a k => a ||| k.setWidth 32) ∧ ConstantForm .xork 4 (fun a k => a ^^^ k.setWidth 32) ∧
   ConstantForm .cltk 5 (fun a k => if a.toInt < k.toInt then 1#32 else 0#32) ∧
   ConstantForm .cltuk 6 (fun a k => if a.toNat < k.toNat then 1#32 else 0#32) ∧
   (∀ (s : State) (l : LaneId) (t : Nat) (fe : Bool) (d : BitVec 5) (k : BitVec 18), (s.laneAt l t).issues (encK 7 d 0#5 k) = true →
     Answers (.hik l t fe d k) s fun m =>
       let n := (s.laneAt l t).fetched fe
       Ran n m d.toNat (k ++ 0#14) (n.oap.pc + 4#32) 1) ∧
   ∀ (s : State) (l : LaneId) (t : Nat) (fe : Bool) (d a : BitVec 5) (k : BitVec 18), (s.laneAt l t).issues (encK 8 d a k) = true →
     Answers (.shk l t fe d a k) s fun m =>
       let n := (s.laneAt l t).fetched fe
       let x := n.gpr a.toNat
       let c := (k.extractLsb' 0 5).toNat
       if k.extractLsb' 7 11 = 0#11 ∧ k.extractLsb' 5 2 ≠ 3#2 then
         Ran n m d.toNat (if k.extractLsb' 5 2 = 0#2 then x <<< c else if k.extractLsb' 5 2 = 1#2 then x >>> c else x.sshiftRight c)
           (n.oap.pc + 4#32) 1
       else Abandons n m 1 none)

/-- R252, branches and calls: the condition, the target, the link register and the cycles; a target outside the active bank is an access
fault (R260). -/
def Obligations.BranchInstructions : Prop :=
  BranchForm .bre 0 (fun a b => a = b) ∧ BranchForm .brn 1 (fun a b => a ≠ b) ∧
  BranchForm .brl 2 (fun a b => a.toInt < b.toInt) ∧ BranchForm .brg 3 (fun a b => b.toInt ≤ a.toInt) ∧
  BranchForm .brlu 4 (fun a b => a.toNat < b.toNat) ∧ BranchForm .brgu 5 (fun a b => b.toNat ≤ a.toNat) ∧
  (∀ (s : State) (l : LaneId) (t : Nat) (fe : Bool) (d : BitVec 5) (k : BitVec 23), (s.laneAt l t).issues (encC d k) = true →
    Answers (.call l t fe d k) s fun m =>
      let n := (s.laneAt l t).fetched fe
      Jumped n m d.toNat (n.oap.pc + 4#32) (n.oap.pc + 4#32 * k.signExtend 32) 2) ∧
  ∀ (s : State) (l : LaneId) (t : Nat) (fe : Bool) (d a : BitVec 5) (k : BitVec 18), (s.laneAt l t).issues (encK 0xD d a k) = true →
    Answers (.callr l t fe d a k) s fun m =>
      let n := (s.laneAt l t).fetched fe
      Jumped n m d.toNat (n.oap.pc + 4#32) ((n.gpr a.toNat + k.signExtend 32) &&& ~~~3#32) 3

/-- R248 to R253, loads of up to a word and the 64-bit load. -/
def Obligations.LoadInstructions : Prop :=
  LoadForm .ldw 0 4 false (fun n x => n.oapWord x) ∧
  LoadForm .ldh 1 2 true (fun n x => (n.oapHalf x).signExtend 32) ∧ LoadForm .ldhu 2 2 false (fun n x => (n.oapHalf x).setWidth 32) ∧
  LoadForm .ldb 3 1 true (fun n x => (n.oapByte x).signExtend 32) ∧ LoadForm .ldbu 4 1 false (fun n x => (n.oapByte x).setWidth 32) ∧
  ∀ (s : State) (l : LaneId) (t : Nat) (fe : Bool) (d a : BitVec 5) (k : BitVec 15) (ecc ecch : Ecc),
    (s.laneAt l t).issues (encM 9 5 d a k) = true →
    Answers (.ldp l t fe d a k ecc ecch) s fun m =>
      let n := (s.laneAt l t).fetched fe
      let x := n.gpr a.toNat + k.signExtend 32
      (d.toNat % 2 = 1 → Abandons n m 1 none) ∧
      (d.toNat % 2 = 0 → region x = 4 → region (x + 4#32) = 4 → x.toNat % 4 = 0 →
        WaitsFor n m [{ off := x.toNat - 0x40000000, size := 4, signed := false, dest := d.toNat },
          { off := x.toNat - 0x40000000 + 4, size := 4, signed := false, dest := d.toNat + 1 }]) ∧
      (d.toNat % 2 = 0 → region x = 4 → region (x + 4#32) = 4 → x.toNat % 4 ≠ 0 →
        WaitsFor n m [{ off := x.toNat - 0x40000000, size := 8, signed := false, dest := d.toNat }]) ∧
      (d.toNat % 2 = 0 → region x = 3 ∨ region x = 2 ∨ region x = 1 → region (x + 4#32) = region x → x.toNat % 4 = 0 →
        (ecc = .bad → Abandons n m 3 (some x)) ∧ (ecc ≠ .bad → ecch = .bad → Abandons n m 3 (some (x + 4#32))) ∧
        (ecc ≠ .bad → ecch ≠ .bad →
        m.gpr d.toNat = (if d = 0#5 then 0#32 else n.oapWord x.toNat) ∧ m.gpr (d.toNat + 1) = n.oapWord (x.toNat + 4) ∧
        (∀ i, i ≠ d.toNat → i ≠ d.toNat + 1 → m.gpr i = n.gpr i) ∧
        m.oap.pc = n.oap.pc + 4#32 ∧ m.oap.next = n.now + (if region x = 3 then 3 else 4) ∧
        m.oap.data = n.oap.data ∧ m.regs = n.regs)) ∧
      (d.toNat % 2 = 0 → region x = 0 ∨ (region x ≠ 4 ∧ region (x + 4#32) = region x ∧ x.toNat % 4 ≠ 0) → Abandons n m 2 (some x)) ∧
      (d.toNat % 2 = 0 → region x ≠ 0 → region (x + 4#32) ≠ region x → Abandons n m 2 (some (x + 4#32)))

/-- R248 to R253 and R263, stores: the bytes of data memory they write and no others, and the entries of the write buffer. -/
def Obligations.StoreInstructions : Prop :=
  ∀ (s : State) (l : LaneId) (t : Nat) (fe : Bool) (d a : BitVec 5) (k : BitVec 15) (ecc : Ecc),
    let n := (s.laneAt l t).fetched fe
    let x := n.gpr a.toNat + k.signExtend 32
    let v := n.gpr d.toNat
    ((s.laneAt l t).issues (encM 0xA 0 d a k) = true → Answers (.stw l t fe d a k) s fun m => StoreForm n m x 4 v .good) ∧
    ((s.laneAt l t).issues (encM 0xA 1 d a k) = true → Answers (.sth l t fe d a k ecc) s fun m => StoreForm n m x 2 v ecc) ∧
    ((s.laneAt l t).issues (encM 0xA 3 d a k) = true → Answers (.stb l t fe d a k ecc) s fun m => StoreForm n m x 1 v ecc) ∧
    ((s.laneAt l t).issues (encM 0xA 5 d a k) = true → Answers (.stp l t fe d a k) s fun m =>
      (d.toNat % 2 = 1 → Abandons n m 1 none) ∧
      (d.toNat % 2 = 0 → region x = 4 → region (x + 4#32) = 4 → x.toNat % 4 = 0 →
        Buffered n m [{ t := n.now, off := x.toNat - 0x40000000, size := 4, data := v },
          { t := n.now + 1, off := x.toNat - 0x40000000 + 4, size := 4, data := n.gpr (d.toNat + 1) }] 2) ∧
      (d.toNat % 2 = 0 → region x = 4 → region (x + 4#32) = 4 → x.toNat % 4 ≠ 0 →
        Buffered n m [{ t := n.now, off := x.toNat - 0x40000000, size := 8, data := v }] 2) ∧
      (d.toNat % 2 = 0 → region x ≠ 0 → region (x + 4#32) ≠ region x → Abandons n m 2 (some (x + 4#32))) ∧
      (d.toNat % 2 = 0 → region x = 3 → region (x + 4#32) = 3 → x.toNat % 4 = 0 →
        Stored n m (x.toNat - 0x20000000) (n.gpr (d.toNat + 1) ++ v) 8 2) ∧
      (d.toNat % 2 = 0 → region x = 0 ∨ (region (x + 4#32) = region x ∧ region x ≠ 4 ∧ (region x ≠ 3 ∨ x.toNat % 4 ≠ 0)) →
        Abandons n m 2 (some x)))

/-- R252, R255, R256, R263, R264: the system instructions CSRRD, CSRWR, POST and FENCE. -/
def Obligations.SystemInstructions : Prop :=
  ∀ (s : State) (l : LaneId) (t : Nat) (fe : Bool) (d : BitVec 5) (c : BitVec 12),
    let n := (s.laneAt l t).fetched fe
    let v := n.gpr d.toNat
    ((s.laneAt l t).issues (encS 0 d 0#5 c) = true → Answers (.csrrd l t fe d c) s fun m =>
      if csrListed c.toNat then
        Ran n m d.toNat (if c = 4#12 then BitVec.ofNat 32 (n.now - n.oap.startT)
          else if c = 8#12 then BitVec.ofNat 32 n.laneTime
          else if c = 9#12 then BitVec.ofNat 32 (n.laneTime / 2 ^ 32) else n.csr c.toNat) (n.oap.pc + 4#32) 2
      else Abandons n m 1 none) ∧
    ((s.laneAt l t).issues (encS 1 0#5 d c) = true → Answers (.csrwr l t fe d c) s fun m =>
      (n.csrBad c.toNat v = true → Abandons n m 1 none) ∧
      ∀ w, csrMask c.toNat = some w → n.csrBad c.toNat v = false →
        m.csr c.toNat = v &&& w ∧ (∀ k, k ≠ c.toNat → m.csr k = n.csr k) ∧ (∀ i, m.gpr i = n.gpr i) ∧
        (c = 0x11#12 ∨ c = 0x13#12 → v.getLsbD 0 = true → (n.csr c.toNat).getLsbD 0 = false →
          m.oap.tmr.find? (fun p => p.1 == (c.toNat - 0x11) / 2) = some ((c.toNat - 0x11) / 2, n.now + (n.csr (c.toNat - 1)).toNat)) ∧
        m.oap.pc = n.oap.pc + 4#32 ∧ m.oap.next = n.now + 2) ∧
    ((s.laneAt l t).issues (encS 2 0#5 0#5 c) = true → Answers (.post l t fe c) s fun m =>
      if 48 ≤ c.toNat ∧ c.toNat < 64 then Occurs n m c.toNat ∧ m.oap.pc = n.oap.pc + 4#32 ∧ m.oap.next = n.now + 2 ∧
        (∀ i, m.gpr i = n.gpr i) ∧ m.regs = n.regs
      else Abandons n m 1 none) ∧
    ((s.laneAt l t).issues (encS 3 0#5 0#5 0#12) = true → Answers (.fence l t fe) s fun m =>
      m = { n with oap := { n.oap with fence := n.oap.fence || !n.oap.wbuf.isEmpty, pc := n.oap.pc + 4#32, next := n.now + 1 } })

/-- R258: DONE ends the handler (of a lane without an activation; R430 tells the rest), and a dispatch starts the next one. R262: at
zero the timer raises TIMERk, and reloads or clears its EN. -/
def Obligations.HandlersStartAndEnd : Prop :=
  (∀ (s : State) (l : LaneId) (t : Nat) (fe : Bool),
     ((s.laneAt l t).issues (encS 4 0#5 0#5 0#12) = true → (s.laneAt l t).upd.act = none → Answers (.done l t fe) s fun m =>
       let n := (s.laneAt l t).fetched fe
       PowerOnly { n with oap := { n.oap with handler := none, pc := n.oap.pc + 4#32, next := n.now + 2 } } m) ∧
     ∀ e, let n := s.laneAt l t
       n.domOn dCORE = true → n.oap.works = true → n.oap.handler = none → n.oap.next ≤ n.now → n.firstEvent e →
       Answers (.eventDispatch l t) s fun m =>
         m.oap.handler = some e ∧ m.oap.pc = n.csr (0x100 + e) ∧ m.oap.next = n.now + 6 ∧ m.oap.startT = n.now + 6 ∧
         m.csr 2 = BitVec.ofNat 32 e ∧ m.csr 3 = Cells.get 0#32 n.oap.evData e ∧
         m.evPending e = false ∧ (∀ i, i < 64 → i ≠ e → m.evPending i = n.evPending i) ∧
         bits (m.csr (0x180 + e)) 31 16 = (bits (n.csr (0x180 + e)) 31 16 + 1) % 2 ^ 16 ∧
         (∀ i, m.gpr i = n.gpr i) ∧ m.regs = n.regs ∧ m.oap.data = n.oap.data) ∧
  (∀ (s : State) (l : LaneId) (t due : Nat) (k : Fin 2), let n := s.laneAt l t
     n.domOn dCORE = true → n.oap.tmr.find? (fun p => p.1 == k.val) = some (k.val, due) → due ≤ n.now →
     Answers (.csrTimerExpiry l t k) s fun m =>
       m.evPending (2 + k.val) = (n.evPending (2 + k.val) || n.evEnabled (2 + k.val)) ∧
       (m.csr (0x11 + 2 * k.val)).getLsbD 0 = ((n.csr (0x11 + 2 * k.val)).getLsbD 0 && (n.csr (0x11 + 2 * k.val)).getLsbD 1) ∧
       (bits (n.csr (0x11 + 2 * k.val)) 1 1 = 1 → 0 < (n.csr (0x10 + 2 * k.val)).toNat →
         m.oap.tmr.find? (fun p => p.1 == k.val) = some (k.val, due + (n.csr (0x10 + 2 * k.val)).toNat)) ∧
       (∀ i, m.gpr i = n.gpr i) ∧ m.oap.pc = n.oap.pc ∧ m.oap.handler = n.oap.handler ∧ m.regs = n.regs)

/-- R255, R259, R260: an instruction that cannot be executed, and a budget that is used up, abandon the handler. -/
def Obligations.HandlersAbandoned : Prop :=
  ∀ (s : State) (l : LaneId) (t e : Nat), let n := s.laneAt l t
    n.domOn dCORE = true → n.oap.handler = some e → e < 64 → n.upd.act = none →
    (∀ why, n.canIssue = true → n.fetchFails why = true →
      Answers (.illegalInstruction l t why) s fun m =>
        Abandoned (n.fetched (abandonFetch why)) m e (match why with | .illegal _ => 1 | .access => 2 | .ecc => 3) none) ∧
    (n.oap.works = true → n.quiet = true → n.oap.stall = false → n.oap.startT + n.budget e ≤ n.now →
      Answers (.budgetExpiry l t) s fun m => Abandoned n m e 4 none ∧
        bits (m.csr (0x180 + e)) 7 0 = min 255 (bits (n.csr (0x180 + e)) 7 0 + 1))

/-- R269, R270: a mismatch stops both cores, discards what has not left the pair, is recorded and raised, and starts Yarrow (in a lane
without an activation; R431 tells the rest). R271 to R273: the verdict; a restart follows the scrub, or the engine stays stopped. R271,
R247, R261: after a scrub without an uncorrectable word the engine restarts with its cause, its registers, PC and CSRs at reset but
CSR_CORE; with one it stays stopped. -/
def Obligations.LockstepRecovery : Prop :=
  (∀ (s : State) (l : LaneId) (t : Nat) (item : Fin 9), let n := s.laneAt l t
     n.domOn dCORE = true → n.oap.works = true → bits (n.csr 1) 1 0 = 0 → n.upd.act = none →
     Answers (.lockstepMismatch l t item) s fun m =>
       SetsRaises { n with oap := { n.oap with
           frozen := some n.now, fence := false, stall := false, held := [], data := n.takeBack.oap.data
           loads := if n.oap.wbuf = [] then n.oap.loads.map fun w => { w with dest := 0 } else []
           wbuf := n.oap.wbuf.filter fun e => decide (e.t + 3 ≤ n.now) } } m
         ([(F.LSC_MISMATCH.VALID, 1), (F.LSC_MISMATCH.ITEM, item.val + 1), (F.LSC_MISMATCH.PC, n.oap.pc.toNat % 2 ^ 18),
           (F.YAR_STAT.STATE, 3), (F.YAR_STAT.BUSY, 1)] ++ n.recordedOnce F.LSC_EVT.MISMATCH) 0x17 3 (item.val + 1)) ∧
  (∀ (s : State) (l : LaneId) (t t₀ : Nat) (main chk : Bool), let n := s.laneAt l t
     n.domOn dCORE = true → n.oap.frozen = some t₀ → n.oap.scrub = none → t₀ + 233600 ≤ n.now →
     Answers (.diagnosticVerdict l t main chk) s fun m =>
       m.f F.LSC_VERDICT.VALID = 1 ∧ m.f F.LSC_VERDICT.MAIN = (if main then 1 else 2) ∧ m.f F.LSC_VERDICT.CHECKER = (if chk then 1 else 2) ∧
       (if main ∧ chk ∧ n.f F.LSC_VERDICT.PASSES < 2 then
         m.oap.scrub = some (1, n.now + 65536) ∧ m.oap.stopped = n.oap.stopped ∧ m.f F.LSC_VERDICT.PASSES = n.f F.LSC_VERDICT.PASSES + 1 ∧
         bits (m.csr 1) 15 8 = (bits (n.csr 1) 15 8 + 1) % 256
       else if (main || chk) ∧ ¬(main ∧ chk) ∧ n.on F.LNT_PERMIT.SINGLECORE = true then
         m.oap.scrub = some (2, n.now + 65536) ∧ m.oap.stopped = n.oap.stopped ∧ bits (m.csr 1) 1 0 = (if main then 1 else 2) ∧
         m.bit F.YAR_UNUSABLE.PARTS (if main then 5 else 4) = true
       else m.oap.stopped = true ∧ m.oap.scrub = none ∧ m.f F.LSC_STAT.MODE = 3)) ∧
  (∀ (s : State) (l : LaneId) (t due cause : Nat) (ok : Bool) (fixed : List (BitVec 16)), let n := s.laneAt l t
     n.domOn dCORE = true → n.oap.scrub = some (cause, due) → due ≤ n.now →
     Answers (.codeScrubComplete l t ok fixed) s fun m =>
       if ok then
         (∀ i, m.gpr i = 0#32) ∧ m.oap.pc = 0#32 ∧ m.oap.data = [] ∧ m.oap.frozen = none ∧ m.oap.handler = none ∧ m.oap.running = true ∧
         m.csr 1 = n.csr 1 ∧ (∀ k, 0x100 ≤ k → k < 0x1C0 → k ≠ 0x140 → m.csr k = 0#32) ∧ m.evPending 0 = true ∧
         (∀ e, 0 < e → e < 64 → m.evPending e = false) ∧ Cells.get 0#32 m.oap.evData 0 = BitVec.ofNat 32 cause
       else m.oap.stopped = true ∧ m.oap.handler = none ∧ m.f F.LSC_STAT.MODE = 3)

/-! ## Tlasyn (spec/11, 12) -/

/-- R22, R277, R278, R281, R296: ports are enabled, train, lose synchronisation and are sent back to training. R280, R281: a request is
answered 64 symbols after it arrived, with this node's number and port, unless the answer would fall inside a frame; 16 replies give a port its link delay and bring it UP; an exchange is repeated four times, then
ranging has failed. -/
def Obligations.PortsTrainAndRange : Prop :=
  ((OnWrite .portEnable R.TPE_LNKCTL fun org v n m =>
     let pen := F.TPE_LNKCTL.PEN.val v
     let bad := (∃ p < 4, pen.testBit p = true ∧ n.bit F.TPE_LNKCTL.PEN p = false) ∧
       (n.f F.SYS_ASHSTAT.STATE ≠ 2 ∨ n.f F.SYS_START.STATE = 3)
     (bad → Rejected n m 7 org.code R.TPE_LNKCTL true 15) ∧
     (¬bad → m.f F.TPE_LNKCTL.PEN = pen ∧ ∀ p < 4, m.portSt p =
       if pen.testBit p = true ∧ n.domOn (portDom p) = true ∧ n.domOn dTPE = true ∧ n.f F.SYS_START.STATE ≠ 3 then
         (if n.portSt p = pDARK then pTRAIN else n.portSt p)
       else pDARK)) ∧
   (∀ (p : Fin 4) (eq : BitVec 4), OnEvent dTPE (fun l t => .portTrained l t p eq) fun n m =>
     (n.portSt p ≠ pTRAIN → m = n) ∧
     (n.portSt p = pTRAIN → m.portSt p = pRANGING ∧ m.on (F.TPE_PORTp_STAT.SIGDET p) = true ∧
       m.f (F.TPE_PORTp_STAT.EQ p) = (if n.on (F.TPE_PORTp_CFG.EQMODE p) then n.f (F.TPE_PORTp_CFG.EQFIX p) else eq.toNat) ∧
       ∀ off, off ≠ R.TPE_PORTp_STAT p → m.rd off = n.rd off)) ∧
   (∀ (p : Fin 4) (sig : Bool), OnEvent dTPE (fun l t => .portSyncLoss l t p sig) fun n m =>
     let seen := if sig then [(F.TPE_PORTp_STAT.SIGDET p, 0)] else []
     (n.portSt p < 2 → Sets n m seen) ∧
     (2 ≤ n.portSt p → m.portSt p = pTRAIN ∧ (sig = true → m.on (F.TPE_PORTp_STAT.SIGDET p) = false) ∧
       (∀ q < 4, q ≠ p.val → m.portSt q = n.portSt q) ∧
       (n.portSt p = pUP → m.f (F.TPE_PORTp_CUT.DOWNS p) = (n.counted (F.TPE_PORTp_CUT.DOWNS p)).2 ∧ m.on F.TPE_LNKEVT.DOWN = true ∧
         ∃ x ∈ m.kst.msgs, x.src = 0xC8 ∧ x.kind = 1 ∧ x.word = p))) ∧
   (OnWrite .range R.TPE_LNKCMD fun org v n m =>
     let rg := F.TPE_LNKCMD.RANGE.val v
     let bad := ∃ p < 4, rg.testBit p = true ∧ n.portSt p ≠ pUP
     (bad → Rejected n m 7 org.code R.TPE_LNKCMD true 15) ∧
     (¬bad → F.TPE_LNKCMD.RETRAIN.val v = 0 → ∀ p < 4, m.portSt p = n.portSt p ∧
       (rg.testBit p = true → p < n.tpe.ports.length → (n.tport p).rng = none →
         (m.tport p).rng = some { cmd := true, token := (n.tport p).token }))) ∧
   OnWrite .retrain R.TPE_LNKCMD fun _ v n m => F.TPE_LNKCMD.RANGE.val v = 0 → ∀ p < 4, m.portSt p =
     if (F.TPE_LNKCMD.RETRAIN.val v).testBit p = true ∧ n.portSt p ≠ pDARK then pTRAIN else n.portSt p) ∧
  ((∀ (p : Fin 4) (token : Byte) (ta : Nat), OnEvent dTPE (fun l t => .rangingRequestReceive l t p token ta) fun n m =>
     (n.portSt p < 2 → m = n) ∧
     let meets := ∃ f ∈ (n.tport p).tx, f.start < ta + 544 ∧ ta + 512 < f.stop
     (2 ≤ n.portSt p → meets → m = n) ∧
     (2 ≤ n.portSt p → p.val < n.tpe.ports.length → ¬meets →
       (m.tport p).reply = some { token := token.toNat, node := n.f F.TPE_CLNODE.NODE, port := p, at_ := ta + 512 }) ∧
     m.regs = n.regs) ∧
   (∀ (p : Fin 4) (token : Byte) (node : BitVec 5) (port : BitVec 2) (rtt : Nat),
     OnEvent dTPE (fun l t => .rangingReplyReceive l t p token node port rtt) fun n m =>
       ((n.tport p).rng = none → m = n) ∧
       ∀ r, (n.tport p).rng = some r →
         let got := r.got ++ [(rtt : Int) - 512]
         let answers := r.sent ≠ none ∧ r.token = token.toNat ∧ rtt ≤ 5000
         let spread := (listMax got - listMin got + 1) / 2
         (¬answers → m = n) ∧
         (answers → got.length < 16 → m.regs = n.regs ∧ ∃ x, (m.tport p).rng = some x ∧ x.cmd = r.cmd ∧ x.got = got ∧ x.tries = 0) ∧
         (answers → 16 ≤ got.length → spread ≤ 8 → (m.tport p).rng = none ∧ m.on (F.TPE_PORTp_RANGE.VALID p) = true ∧
           m.f (F.TPE_PORTp_RANGE.LINKDLY p) = (roundEven (got.foldl (· + ·) 0) 32).toNat % 2 ^ 16 ∧
           m.on (F.TPE_PORTp_STAT.NBVAL p) = true ∧ m.f (F.TPE_PORTp_STAT.NBNODE p) = node.toNat ∧
           m.f (F.TPE_PORTp_STAT.NBPORT p) = port.toNat ∧ m.portSt p = (if r.cmd then n.portSt p else pUP) ∧ m.kst = n.kst) ∧
         (answers → 16 ≤ got.length → 8 < spread → (m.tport p).rng = none ∧ m.on F.TPE_LNKEVT.RANGE = true ∧
           m.portSt p = (if r.cmd then n.portSt p else pTRAIN) ∧ Raised n m 0xC9 2 p)) ∧
   ∀ p : Fin 4, OnEvent dTPE (fun l t => .rangingExchangeTimeout l t p) fun n m =>
     ((n.tport p).rng = none → m = n) ∧
     ∀ r, (n.tport p).rng = some r →
       (r.sent = none → m = n) ∧
       ∀ t₀, r.sent = some t₀ → (n.now < t₀ + 800 → m = n) ∧
         (t₀ + 800 ≤ n.now → r.tries < 4 → m.regs = n.regs ∧ ∃ x, (m.tport p).rng = some x ∧ x.tries = r.tries + 1 ∧ x.got = r.got ∧
           x.sent = if r.cmd then none else some n.now) ∧
         (t₀ + 800 ≤ n.now → 4 ≤ r.tries → (m.tport p).rng = none ∧ m.on F.TPE_LNKEVT.RANGE = true ∧
           m.portSt p = (if r.cmd then n.portSt p else pTRAIN) ∧ Raised n m 0xC9 2 p))

/-- R283 to R286, R302, R305, R306, R313: 64 cycles before its slot the newest copy of a buffer is fetched, or a NULL where it is stale;
the fetched frame leaves on both ports of its channels, behind what they still send; a forward in progress is cut. -/
def Obligations.FramesSent : Prop :=
  (∀ (arb : Bool) (ix : Byte), OnEvent dTPE (fun l t => .bufferFetch l t arb ix) fun n m =>
    let i := ix.toNat
    let c := n.fetchCourse
    ((arb, i) ∈ n.tpe.fetIx → m = n) ∧
    ∀ row e, arb = false → (arb, i) ∉ n.tpe.fetIx → n.inForce c.1 i = some (row, e) →
      let b := eBuf e
      let start := c.2 + n.mt (n.f (F.TPE_SLOTs.START i))
      let mine := eOwner e = n.node ∧ eKind e ≠ 2 ∧ n.maySend (eKind e) = true ∧ start ≤ n.now + 64 ∧ i < n.f F.TPE_CLSIZE.SLOTS
      let open_ := fun ch => eChan e ch && !n.tpe.supp.contains (ch, row, i)
      let newest := n.f (F.TPE_BUFb_STAT.NEWEST b)
      (¬mine → m = n) ∧
      (mine → eKind e = 1 → open_ 0 = true ∨ open_ 1 = true →
        ∃ f, m.tpe.fet = n.tpe.fet ++ [f] ∧ m.tpe.fetIx = (false, i) :: n.tpe.fetIx ∧ f.arb = false ∧ f.ix = i ∧ f.start = start ∧ f.buf = b ∧
          f.x = open_ 0 ∧ f.y = open_ 1 ∧ f.claim = false ∧
          (n.bufStale b = true → f.ty = 1 ∧ f.payload = [] ∧ m.f (F.TPE_BUFb_CNT.NULLS b) = (n.counted (F.TPE_BUFb_CNT.NULLS b)).2) ∧
          (n.bufStale b = false → f.ty = 0 ∧ f.payload = n.bufCopy b newest ∧ m.regs = n.regs))) ∧
  ∀ (arb : Bool) (ix : Byte) (late : Fin 17), OnEvent dTPE (fun l t => .frameSend l t arb ix late) fun n m =>
    let found := n.tpe.fet.find? (fun f => f.arb == arb && f.ix == ix.toNat)
    (found = none → m = n) ∧
    ∀ f, found = some f → (n.now < f.start → m = n) ∧
      (f.start ≤ n.now → m.tpe.fet = n.tpe.fet.erase f ∧
        let sends := n.maySend f.kind = true ∨ (arb = true ∧ n.tpeSt = tACTIVE)
        (¬sends → m.regs = n.regs ∧ m.tpe.ports = n.tpe.ports) ∧
        (sends → f.ty = 0 ∨ f.ty = 4 → f.buf < 256 → m.f (F.TPE_BUFb_CNT.FRAMES f.buf) = (n.f (F.TPE_BUFb_CNT.FRAMES f.buf) + 1) % 2 ^ 16) ∧
        ∀ p < 4, sends → (if chanOf p = 0 then f.x else f.y) = true → n.portUp p = true → p < n.tpe.ports.length →
          let u := f.start * 25 / 4 + late
          ((∃ y ∈ (n.tport p).tx, y.own = false ∧ y.start ≤ u ∧ u < y.stop) →
            m.f (F.TPE_PORTp_CUT.CUTS p) = (n.counted (F.TPE_PORTp_CUT.CUTS p)).2 ∧ m.on F.TPE_LNKEVT.CUT = true) ∧
          ∃ x ∈ (m.tport p).tx, x.own = true ∧ u ≤ x.start ∧
            x.head = header f.ty f.claim (chanOf p) n.node f.ix f.course (f.payload.length / 2) (x.start - f.start * 25 / 4) 0 ∧
            x.hcrc = BitVec.ofNat 16 (hcrcOf x.head) ∧ x.payload = f.payload ∧ x.fcrc = BitVec.ofNat 32 (fcrcOf x.head f.payload) ∧
            x.stop = x.start + (17 + 4 * f.payload.length) * 8 ∧ x.cut = false ∧
            ((n.tport p).tx = [] → n.portUp (mate p) = false ∨ (n.tport (mate p)).tx = [] → x.start = u ∧ (m.tport p).tx = [x]))

/-- R275, R284, R286 to R294, R307: a header is refused, or goes on out of the other port of its channel with its hop counted; an overrun
ends its copy and its forward; at its end a frame that holds is counted, and the first copy of it delivered, to be in its buffer 32 LCLK
later. -/
def Obligations.FramesReceived : Prop :=
  (∀ (p : Fin 4) (h : BitVec 64) (hcrc : BitVec 16) (ta : Nat) (ph : Fin 13),
    OnEvent dTPE (fun l t => .headerReceive l t p h hcrc ta ph) fun n m =>
      let hears := n.portUp p = true ∧ n.tpeSt ≠ tOFF
      let good := hcrcOf h = hcrc.toNat ∧ n.injArmed 0xCA p = false
      let field := fun (hi lo : Nat) => h.toNat / 2 ^ lo % 2 ^ (hi + 1 - lo)
      let origin := field 12 8
      let at_ := n.scheduled (chanOf p) (field 3 0) origin (field 23 16) (field 29 24)
      let refused := m.f (F.TPE_PORTp_FWD.REFUSED p) = (n.counted (F.TPE_PORTp_FWD.REFUSED p)).2 ∧
        m.f (F.TPE_PORTp_FWD.FWDS p) = n.f (F.TPE_PORTp_FWD.FWDS p)
      let late := n.f (F.TPE_PORTp_RANGE.LINKDLY p)
      (¬hears → m = n) ∧
      (hears → ¬good → m.f (F.TPE_PORTp_RXBAD.HCRC p) = (n.counted (F.TPE_PORTp_RXBAD.HCRC p)).2 ∧ m.on F.TPE_LNKEVT.HCRC = true ∧
        Raised n m 0xCA 3 p) ∧
      (hears → good → headOk p h = false ∨ (origin ≠ n.node ∧ at_ = none) → refused ∧ m.kst = n.kst) ∧
      (hears → good → headOk p h = true → origin = n.node → m.regs = n.regs ∧ m.kst = n.kst) ∧
      ∀ start kind buf, hears → good → headOk p h = true → origin ≠ n.node → at_ = some (start, kind, buf) →
        let d := n.deviation (field 29 24) start ta (field 55 40 + late)
        let out := n.tpeSt = tACTIVE ∧ 25 * n.tpe.actT ≤ 4 * ta ∧ 100 * n.f F.TPE_ACCW.W < d.natAbs
        let dly := field 55 40 + late + (304 + 8 * ph.val)
        (out → refused ∧ m.on F.TPE_LNKEVT.WINDOW = true ∧ Raised n m 0xCB 4 p) ∧
        (¬out → n.f F.TPE_CLSIZE.NODES ≤ field 60 56 + 1 → refused ∧ m.kst = n.kst) ∧
        let u := ta + (304 + 8 * ph.val)
        (¬out → field 60 56 + 1 < n.f F.TPE_CLSIZE.NODES → n.portUp (mate p) = true →
          (∃ f ∈ (n.tport (mate p)).tx, f.own = true ∧ f.cut = false ∧ f.start ≤ u ∧ u < f.stop) → refused ∧ m.kst = n.kst) ∧
        (¬out → field 60 56 + 1 < n.f F.TPE_CLSIZE.NODES → 65536 ≤ dly → refused ∧ m.kst = n.kst) ∧
        (¬out → field 60 56 + 1 < n.f F.TPE_CLSIZE.NODES → dly < 65536 → n.portUp (mate p) = true → (n.tport (mate p)).tx = [] →
          mate p < n.tpe.ports.length →
          (u ≤ n.units → m.f (F.TPE_PORTp_FWD.FWDS p) = (n.f (F.TPE_PORTp_FWD.FWDS p) + 1) % 2 ^ 16 ∧
            m.f (F.TPE_PORTp_HOP.LAST p) = 304 + 8 * ph.val) ∧
          ∃ x, (m.tport (mate p)).tx = [x] ∧ x.own = false ∧ x.start = u ∧ x.hop = 304 + 8 * ph.val ∧ x.due = decide (n.units < u) ∧
            x.head = header (field 3 0) (h.toNat.testBit 14) (chanOf p) origin (field 23 16) (field 29 24) (field 37 32) dly
              (field 60 56 + 1) ∧
            x.hcrc = BitVec.ofNat 16 (hcrcOf x.head))) ∧
  (∀ (p : Fin 4) (viol : Bool), OnEvent dTPE (fun l t => .forwardOverrunCut l t p viol) fun n m =>
    (n.portSt p = pDARK → m = n) ∧
    (∀ r, n.portSt p ≠ pDARK → (n.tport p).rx.getLast? = some r →
      let due := viol = true ∨ (match r.fwd with | some w => w.2 | none => r.ta + (17 + 8 * r.len) * 8) ≤ n.units
      (¬due → m = n) ∧
      (due → (m.tport p).rx.length = (n.tport p).rx.length - 1 ∧
        m.f (F.TPE_PORTp_CUT.CUTS p) = (if r.fwd.isSome then (n.counted (F.TPE_PORTp_CUT.CUTS p)).2 else n.f (F.TPE_PORTp_CUT.CUTS p)))) ∧
    (n.portSt p ≠ pDARK → m.f (F.TPE_PORTp_CVCNT.COUNT p) = (if viol then (n.counted (F.TPE_PORTp_CVCNT.COUNT p)).2 else n.f (F.TPE_PORTp_CVCNT.COUNT p)))) ∧
  (∀ (n : Lane) (d : Delivery), let m := n.tpeSync
    n.tpe.dlv = [d] → (n.now < d.due → m.tpe.dlv = [d] ∧ m.f (F.TPE_BUFb_STAT.NEWEST d.buf) = n.f (F.TPE_BUFb_STAT.NEWEST d.buf)) ∧
      (d.due ≤ n.now → d.buf < 256 → d.ws.length = 2 * n.f (F.TPE_BUFb_CFG.LEN d.buf) → d.ws.length ≤ 64 →
        let k := m.f (F.TPE_BUFb_STAT.NEWEST d.buf)
        m.tpe.dlv = [] ∧ k < 3 ∧ k ≠ n.f (F.TPE_BUFb_STAT.NEWEST d.buf) ∧ k ≠ n.f (F.TPE_BUFb_STAT.PIN d.buf) ∧
        m.on (F.TPE_BUFb_STAT.VALID d.buf) = true ∧ m.f (F.TPE_BUFb_STAT.AGE d.buf) = 0 ∧
        m.f (F.TPE_BUFb_CNT.FRAMES d.buf) = (n.f (F.TPE_BUFb_CNT.FRAMES d.buf) + 1) % 2 ^ 16 ∧ m.bufCopy d.buf k = d.ws)) ∧
  ∀ (s : State) (l : LaneId) (t : Nat) (p : Fin 4) (ws : List W32) (fcrc : W32), let n := s.laneAt l t
    n.domOn dTPE = true → Answers (.frameEndReceive l t p ws fcrc) s fun m =>
    ((n.tport p).rx = [] → m = n) ∧
    ∀ r rest, (n.tport p).rx = r :: rest →
      let good := r.dead = false ∧ ws.length = 2 * r.len ∧ fcrcOf r.head ws = fcrc.toNat ∧ n.injArmed 0xCA p = false
      (m.tport p).rx = rest ∧
      (r.dead = true → m.regs = n.regs ∧ m.kst = n.kst) ∧
      (r.dead = false → ¬good → m.f (F.TPE_PORTp_RXBAD.FCRC p) = (n.counted (F.TPE_PORTp_RXBAD.FCRC p)).2 ∧
        m.on F.TPE_LNKEVT.FCRC = true ∧ Raised n m 0xCA 3 p) ∧
      (good → r.origin = n.node →
        (m.tport p).span = max (n.tport p).span (r.dly + n.f (F.TPE_PORTp_RANGE.LINKDLY p)) ∧
        m.f (F.TPE_PORTp_RXOK.COUNT p) = (n.f (F.TPE_PORTp_RXOK.COUNT p) + 1) % 2 ^ 32) ∧
      (good → r.origin ≠ n.node → r.buf < 256 → m.f (F.TPE_PORTp_RXOK.COUNT p) = (n.f (F.TPE_PORTp_RXOK.COUNT p) + 1) % 2 ^ 32 ∧ m.tpe.listen = n.now ∧
        let same := fun (f : SeenFrame) => f.origin == r.origin && f.course == r.course && f.slot == r.slot && f.ty == r.ty
        -- the FCRC of a copy of the frame that came before, or comes in this cycle on an earlier port (R293)
        let earlier := match n.tpe.seen.find? same with | some f => some f.fcrc | none => endRival l n.now p n s.pending
        (∀ c, earlier = some c →
          m.f F.TPE_COPYCNT.DUP = (n.f F.TPE_COPYCNT.DUP + 1) % 2 ^ 16 ∧ m.tpe.dlv = n.tpe.dlv ∧
          (c = fcrc → m.kst = n.kst ∧ m.f F.TPE_COPYCNT.DIFF = n.f F.TPE_COPYCNT.DIFF) ∧
          (c ≠ fcrc → m.f F.TPE_COPYCNT.DIFF = (n.counted F.TPE_COPYCNT.DIFF).2 ∧ m.on F.TPE_LNKEVT.COPY = true ∧ Raised n m 0xCC 5 p)) ∧
        (earlier = none → r.ty = 4 ∨ (r.ty = 0 ∧ r.claim = false) → n.f (F.TPE_BUFb_CFG.DIR r.buf) = 2 →
          (ws.length = 2 * n.f (F.TPE_BUFb_CFG.LEN r.buf) →
            m.tpe.dlv = n.tpe.dlv ++ [{ due := n.now + 32, buf := r.buf, ws := ws }]) ∧
          (ws.length ≠ 2 * n.f (F.TPE_BUFb_CFG.LEN r.buf) →
            m.f (F.TPE_BUFb_CNT.LENERR r.buf) = (n.counted (F.TPE_BUFb_CNT.LENERR r.buf)).2 ∧ m.on F.TPE_EVT.BUF = true)))

/-- R305, R308, R311: commits, acquisitions and releases of copies, and claims over fitting TX buffers. -/
def Obligations.BuffersAndClaims : Prop :=
  (∀ c ∈ [Instr.bufferCommit, .acquire, .release], ∀ b : Byte,
    OnWrite (fun l t org v => c l t org b v) (R.TPE_BUFb_CMD b.toNat) fun org v n m =>
      let b := b.toNat
      let dir := n.f (F.TPE_BUFb_CFG.DIR b)
      let com := (F.TPE_BUFb_CMD.COMMIT b).val v
      let acq := (F.TPE_BUFb_CMD.ACQUIRE b).val v
      let rel := (F.TPE_BUFb_CMD.RELEASE b).val v
      let w := n.f (F.TPE_BUFb_STAT.WIDX b)
      let bad := (com = 1 ∧ dir ≠ 1) ∨ ((acq = 1 ∨ rel = 1) ∧ dir = 1)
      (bad → Rejected n m 7 org.code (R.TPE_BUFb_CMD b) true 15) ∧
      (¬bad → com = 1 → m.f (F.TPE_BUFb_STAT.NEWEST b) = w ∧ m.f (F.TPE_BUFb_STAT.AGE b) = 0 ∧ m.on (F.TPE_BUFb_STAT.VALID b) = true ∧
        b ∉ m.tpe.once ∧
        ((∃ k < 3, k ≠ w ∧ k ∉ n.heldCopies b) → m.f (F.TPE_BUFb_STAT.WIDX b) ≠ w ∧ m.f (F.TPE_BUFb_STAT.WIDX b) ∉ n.heldCopies b)) ∧
      (¬bad → acq = 1 → m.f (F.TPE_BUFb_STAT.PIN b) = n.f (F.TPE_BUFb_STAT.NEWEST b) ∧
        m.f (F.TPE_BUFb_STAT.PINAGE b) = n.f (F.TPE_BUFb_STAT.AGE b)) ∧
      (¬bad → acq = 0 → rel = 1 → m.f (F.TPE_BUFb_STAT.PIN b) = 3 ∧ m.f (F.TPE_BUFb_STAT.PINAGE b) = 0) ∧
      (¬bad → ∀ off, off ≠ R.TPE_BUFb_STAT b → off < 0x001000 ∨ 0x003000 ≤ off → m.rd off = n.rd off)) ∧
  ∀ k : Fin 4, OnWrite (fun l t org v => .claimWrite l t org k v) (R.TPE_CLAIMk k) fun org v n m =>
    let b := (F.TPE_CLAIMk.CBUF k).val v
    let bad := (k = 3 ∧ org = .firmware ∧ n.upd.queue ≠ []) ∨
      ((F.TPE_CLAIMk.VAL k).val v = 1 ∧ ¬(n.f (F.TPE_BUFb_CFG.DIR b) = 1 ∧ n.f (F.TPE_BUFb_CFG.LEN b) = (F.TPE_CLAIMk.CLEN k).val v))
    (bad → Rejected n m 7 org.code (R.TPE_CLAIMk k) true 15) ∧
    (¬bad → m.f (F.TPE_CLAIMk.VAL k) = (F.TPE_CLAIMk.VAL k).val v ∧ m.f (F.TPE_CLAIMk.PRIO k) = (F.TPE_CLAIMk.PRIO k).val v ∧
      m.f (F.TPE_CLAIMk.CLEN k) = (F.TPE_CLAIMk.CLEN k).val v ∧ m.f (F.TPE_CLAIMk.CBUF k) = b)

/-- R297, R299, R309, R312, R314, R315, R318 to R320, R322, R328: the schedule is checked and enabled, a node that hears nobody begins
course 0, each mortar gap corrects the next boundary and grants claims, and each boundary begins a course. -/
def Obligations.CoursesBegin : Prop :=
  (OnWrite .tpeBlockEnable R.TPE_CTRL fun org v n m =>
    let en := F.TPE_CTRL.EN.val v
    (en = 1 → n.on F.TPE_CTRL.EN = false → n.on F.SYS_ASHLOCK.LOCK = false → n.role = roleNONE →
      Rejected n m 7 org.code R.TPE_CTRL true 15) ∧
    (en = 1 → n.on F.TPE_CTRL.EN = false → n.on F.SYS_ASHLOCK.LOCK = true →
      (∀ c row slot, n.scheduleFault = some (c, row, slot) → m.f F.TPE_CFGERR.CAUSE = c ∧ m.f F.TPE_CFGERR.ROW = row ∧
        m.f F.TPE_CFGERR.SLOT = slot ∧ m.on F.TPE_CTRL.EN = false ∧ m.on F.SYS_REGERR.FLAG = true) ∧
      (n.scheduleFault = none → m.on F.TPE_CTRL.EN = true ∧ m.tpeSt = tLISTEN ∧ m.f F.TPE_RATE.RATE = 0 ∧ m.tpe.bT = n.now ∧
        m.tpe.listen = n.now ∧ m.rd R.TPE_CFGERR = 0#32)) ∧
    (en = 0 → n.on F.TPE_CTRL.EN = true → m.on F.TPE_CTRL.EN = false ∧ m.tpeSt = tOFF ∧ m.tpe.fet = [] ∧ m.tpe.next = none)) ∧
  (OnEvent dTPE .coldstartListenExpiry fun n m =>
    let due := n.tpeSt = tLISTEN ∧ n.bit F.TPE_CLCOLD.MASK n.node = true ∧
      n.tpe.listen + n.mt ((128 + n.f F.TPE_CLNODE.RANK) * n.f F.TPE_CLCOURSE.COURSE) ≤ n.now
    (¬due → m = n) ∧ (due → m.tpeSt = tCOLD ∧ m.f F.TPE_STAT.COURSE = 0 ∧ m.tpe.bT = n.now)) ∧
  (OnEvent dTPE .courseBoundary fun n m =>
    let c := (n.f F.TPE_STAT.COURSE + 1) % 64
    (n.tpe.next = none → m = n) ∧
    ∀ due, n.tpe.next = some due →
      (n.now < due ∨ n.tpeSt = tOFF → m = n) ∧
      (due ≤ n.now → n.tpeSt ≠ tOFF →
        m.f F.TPE_STAT.COURSE = c ∧ m.tpe.bT = n.now ∧ m.tpe.prevT = n.tpe.bT ∧ m.tpe.next = none ∧ m.tpe.grants = n.tpe.gnext ∧
        m.f F.TPE_ARBSTAT.GRANTS = n.tpe.gnext.length % 512 ∧ m.evPending 1 = (n.evPending 1 || n.evEnabled 1) ∧
        m.f F.TPE_BONDCNT.COUNT = (if c = 0 ∧ n.tpeSt = tACTIVE then (n.f F.TPE_BONDCNT.COUNT + 1) % 2 ^ 32 else n.f F.TPE_BONDCNT.COUNT) ∧
        (c = 0 → n.tpeSt = tCOLD → m.tpeSt = tACTIVE) ∧
        (c = 0 → n.tpeSt = tINTEG → ∀ o, n.tpe.obs = some o → m.tpeSt = if 64 ≤ o then tACTIVE else tINTEG) ∧
        (n.tpeSt = tLISTEN → m.tpeSt = tLISTEN) ∧
        (n.tpeSt = tACTIVE → m.tpeSt = if n.bit F.TPE_CLSYNC.MASK n.node = false ∧ 64 ≤ n.tpe.noVal then tLISTEN else tACTIVE) ∧
        ∀ b < 256, n.f (F.TPE_BUFb_CFG.DIR b) ≠ 1 → n.upd.queue = [] →
          m.f (F.TPE_BUFb_STAT.AGE b) = if n.on (F.TPE_BUFb_STAT.VALID b) then (n.counted (F.TPE_BUFb_STAT.AGE b)).2
            else n.f (F.TPE_BUFb_STAT.AGE b))) ∧
  OnEvent dTPE .mortarGapStart fun n m =>
    let len := n.f F.TPE_CLCOURSE.COURSE
    let lim := len - n.f F.TPE_CLGAP.VALUE
    let vs := n.timingValues
    let c := if vs = [] then 0 else max (-400) (min 400 ((8 * midpoint vs + 25) / 50))
    let key := fun (x : Claim) => (x.prio, x.origin, x.slot, x.len, x.buf)
    n.tpeSt ≠ tOFF → n.tpe.next = none → n.tpe.bT + n.mt lim ≤ n.now →
      m.tpe.next = some (((n.tpe.bT + n.mt len : Nat) : Int) + c + n.tpe.thisSt.getD 0).toNat ∧
      m.sf F.TPE_SYNCSTAT.OFS = c ∧ m.f F.TPE_SYNCSTAT.NVAL = vs.length % 16 ∧ m.tpe.claims = [] ∧
      (∃ k, m.tpe.gnext.map key = ((sortClaims n.tpe.claims).map key).take k) ∧
      (∀ g ∈ m.tpe.gnext, n.f F.TPE_CLARB.VALUE ≤ g.start ∧ g.start + grantTime g.len (n.f F.TPE_CLSIZE.NODES) ≤ lim) ∧
      m.tpe.gnext.Pairwise fun g h => g.start + grantTime g.len (n.f F.TPE_CLSIZE.NODES) ≤ h.start

/-- R324, R327: an edge of the external reference in its window gives the course's error, one outside it is an event, and two periods
without one are a loss. -/
def Obligations.ExternalReference : Prop :=
  (OnEvent dTPE .syncEdge fun n m =>
    let ext := n.on F.TPE_EXTCFG.EN
    let off := n.tpeSt = tOFF ∨ (ext = false ∧ n.f F.TPE_EXTCFG.PWMFOL = 0)
    let per := n.f F.TPE_EXTCFG.PERMS
    let fits := ∀ t₀, n.tpe.edge = some t₀ → (((n.now - t₀ : Nat) - (per * 400000 : Nat) : Int)).natAbs ≤ per * 4000
    let d : Int := (n.now - n.tpe.bT : Nat)
    let len : Int := match n.tpe.next with | some b => (b : Int) - n.tpe.bT | none => n.mt (n.f F.TPE_CLCOURSE.COURSE)
    let e := if 2 * d ≤ len then d else d - len
    (off → m = n) ∧
    (¬off → fits → m.tpe.edge = some n.now ∧ m.on F.TPE_EXTSTAT.LOST = false ∧ m.rd R.TPE_EXTERR = BitVec.ofInt 32 e ∧
      m.rd R.TPE_EXTREM = if ext then
        BitVec.ofInt 32 (e - ((if 2 * d ≤ len then n.tpe.step else 0) + n.tpe.thisSt.getD 0 + n.tpe.nextSt.getD 0 + n.tpe.ann.getD 0)) else n.rd R.TPE_EXTREM) ∧
    (¬off → ¬fits → Sets n m (n.recordedOnce F.TPE_EVT.EXT))) ∧
  OnEvent dTPE .syncLost fun n m =>
    let due := n.tpeSt ≠ tOFF ∧ n.on F.TPE_EXTCFG.EN = true ∧ n.on F.TPE_EXTSTAT.LOST = false ∧
      (n.tpe.edge.getD n.tpe.enT + 2 * n.f F.TPE_EXTCFG.PERMS * 400000 ≤ n.now ∨ n.injArmed 0xD2 0 = true)
    (¬due → m = n) ∧
    (due → SetsRaises n m ([(F.TPE_EXTREM.VALUE, 0), (F.TPE_EXTSTAT.LOST, 1)] ++ n.recordedOnce F.TPE_EVT.EXT) 0xD2 11 0)

/-! ## CAN (spec/13) -/

/-- R331, R333 to R336, R347: modes, the object that takes a frame, and the error states. -/
def Obligations.CanControllers : Prop :=
  ∀ c : Fin 2,
    (OnWrite (fun l t org v => .canModeWrite l t org c v) (R.CAN_Cc_MODE c) fun org v n m =>
      let mode := (F.CAN_Cc_MODE.MODE c).val v
      let bad := mode = 3 ∨ (mode = 2 ∧ n.role ≠ roleACTIVE)
      (bad → Rejected n m 7 org.code (R.CAN_Cc_MODE c) true 15) ∧
      (¬bad → m.f (F.CAN_Cc_MODE.MODE c) = mode ∧ m.on (F.CAN_Cc_MODE.FDEN c) = v.toNat.testBit 2 ∧
        m.on (F.CAN_Cc_MODE.BRSEN c) = v.toNat.testBit 3 ∧ m.on (F.CAN_Cc_MODE.AUTOREC c) = v.toNat.testBit 4 ∧
        ∀ off, off ≠ R.CAN_Cc_MODE c → off < 0x001000 ∨ 0x003000 ≤ off → m.rd off = n.rd off)) ∧
    (∀ (fr : CanFrame) (tec rec_ : Byte), canFrameOk fr = true →
      OnEvent dAUX (fun l t => .canFrameReceive l t c fr tec rec_) fun n m =>
        let hears := n.f (F.CAN_Cc_MODE.MODE c) ≠ 0 ∧ n.f (F.CAN_Cc_STAT.ESTATE c) ≠ 2 ∧
          (fr.fdf = true → n.on (F.CAN_Cc_MODE.FDEN c) = true) ∧ (fr.brs = true → n.on (F.CAN_Cc_MODE.BRSEN c) = true)
        (¬hears → m = n) ∧
        (hears → m.f (F.CAN_Cc_STAT.TEC c) = tec.toNat ∧ m.f (F.CAN_Cc_STAT.REC c) = rec_.toNat ∧
          (fr.rtr = true → m.on (F.CAN_Cc_EVT.RMT c) = true ∧ m.kst = n.kst ∧
            ∀ o < 64, m.rd (R.CAN_Cc_OBJo_STAT c o) = n.rd (R.CAN_Cc_OBJo_STAT c o)) ∧
          (fr.rtr = false → (∀ o < 64, n.objTakes c o fr = false) → m.f (F.CAN_Cc_STAT.NOMATCH c) = (n.counted (F.CAN_Cc_STAT.NOMATCH c)).2 ∧
            ∀ o < 64, m.rd (R.CAN_Cc_OBJo_STAT c o) = n.rd (R.CAN_Cc_OBJo_STAT c o)) ∧
          ∀ o < 64, fr.rtr = false → n.objTakes c o fr = true → (∀ p < o, n.objTakes c p fr = false) →
            let had := n.on (F.CAN_Cc_OBJo_STAT.NEW c o)
            m.f (F.CAN_Cc_OBJo_RXID.ID c o) = fr.id.toNat ∧ m.on (F.CAN_Cc_OBJo_RXID.IDE c o) = fr.ide ∧
            m.on (F.CAN_Cc_OBJo_RXID.FDF c o) = fr.fdf ∧ m.f (F.CAN_Cc_OBJo_STAT.DLC c o) = fr.dlc.toNat ∧
            m.on (F.CAN_Cc_OBJo_STAT.NEW c o) = true ∧
            m.on (F.CAN_Cc_OBJo_STAT.OVWR c o) = (had || n.on (F.CAN_Cc_OBJo_STAT.OVWR c o)) ∧
            (had = true → m.on (F.CAN_Cc_EVT.OVWR c) = true ∧ ∃ x ∈ m.kst.msgs, x.src = 0xD6 ∧ x.kind = 3) ∧
            (∀ i < fr.data.length, m.f ⟨R.CAN_Cc_OBJo_DATAw c o (i / 4), i % 4 * 8 + 7, i % 4 * 8⟩ = (fr.data.getD i 0#8).toNat) ∧
            (∀ p < 64, p ≠ o → m.rd (R.CAN_Cc_OBJo_STAT c p) = n.rd (R.CAN_Cc_OBJo_STAT c p)) ∧
            ∀ r v, n.canRoutes = [(r, v)] → bits v 30 30 = 0 → bits v 29 29 = c → bits v 21 16 = o → n.on F.CAN_CTRL.EN = true →
              n.f (F.CAN_Cc_MODE.MODE c) = 2 → n.domOn dTPE = true → n.f (F.TPE_BUFb_STAT.WIDX (bits v 7 0)) < 3 → bits v 13 8 + 18 ≤ 64 →
              let b := bits v 7 0
              let k := n.f (F.TPE_BUFb_STAT.WIDX b)
              m.f (F.CAN_GWRr_CNT.FRAMES r) = (n.f (F.CAN_GWRr_CNT.FRAMES r) + 1) % 2 ^ 16 ∧ m.on (F.TPE_BUFb_STAT.VALID b) = true ∧
              m.f (F.TPE_BUFb_STAT.NEWEST b) = k ∧ m.f (F.TPE_BUFb_STAT.AGE b) = 0 ∧
              ∀ i < 18, m.rd (bufWord b k (bits v 13 8 + i)) = (frameWords fr (m.f (F.CAN_GWRr_CNT.FRAMES r))).getD i 0#32)) ∧
    (∀ tec rec_ : Byte, OnEvent dAUX (fun l t => .busOff l t c tec rec_) fun n m =>
      let can := n.f (F.CAN_Cc_MODE.MODE c) = 2 ∧ n.f (F.CAN_Cc_STAT.ESTATE c) ≠ 2
      (¬can → m = n) ∧
      (can → m.f (F.CAN_Cc_STAT.ESTATE c) = 2 ∧ m.f (F.CAN_Cc_STAT.TEC c) = tec.toNat ∧ m.f (F.CAN_Cc_STAT.REC c) = rec_.toNat ∧
        m.on (F.CAN_Cc_EVT.BUSOFF c) = true ∧ Raised n m 0xD4 1 c)) ∧
    (OnEvent dAUX (fun l t => .busOffRecovery l t c) fun n m =>
      let can := n.f (F.CAN_Cc_STAT.ESTATE c) = 2 ∧ (n.on (F.CAN_Cc_MODE.AUTOREC c) = true ∨ c.val ∈ n.can.rejoin) ∧
        n.f (F.CAN_Cc_MODE.MODE c) ≠ 0
      (¬can → m = n) ∧
      (can → m.f (F.CAN_Cc_STAT.ESTATE c) = 0 ∧ m.f (F.CAN_Cc_STAT.TEC c) = 0 ∧ m.f (F.CAN_Cc_STAT.REC c) = 0 ∧
        ∀ off, off ≠ R.CAN_Cc_STAT c → m.rd off = n.rd off)) ∧
    ∀ tec rec_ : Byte, OnEvent dAUX (fun l t => .errorPassive l t c tec rec_) fun n m =>
      let can := n.f (F.CAN_Cc_MODE.MODE c) ≠ 0 ∧ n.f (F.CAN_Cc_STAT.ESTATE c) = 0
      (¬can → m = n) ∧
      (can → SetsRaises n m ([(F.CAN_Cc_STAT.TEC c, tec.toNat), (F.CAN_Cc_STAT.REC c, rec_.toNat), (F.CAN_Cc_STAT.ESTATE c, 1)]
        ++ n.recordedOnce (F.CAN_Cc_EVT.PASSIVE c)) 0xD5 2 c)

/-- R334, R337 to R340: requests, aborts and completed transmissions move the pending objects; a controller whose lane has left the role
listens; routes are enabled only over fitting buffers, and one sends its last copy again. -/
def Obligations.CanTransmission : Prop :=
  (∀ c w : Fin 2,
    (OnWrite (fun l t org v => .txRequest l t org c w v) (R.CAN_Cc_TXREQn c w) fun _ v n m =>
      (∀ i < 32, m.objPending c (32 * w + i) = (n.objPending c (32 * w + i) ||
        (v.toNat.testBit i && n.on (F.CAN_Cc_OBJo_CTL.VAL c (32 * w + i)) && n.on (F.CAN_Cc_OBJo_CTL.DIR c (32 * w + i))))) ∧
      ∀ off, off ≠ R.CAN_Cc_TXPENDn c w → off < 0x001000 ∨ 0x003000 ≤ off → m.rd off = n.rd off) ∧
    ∀ busy : Option (BitVec 6),
      OnWrite (fun l t org v => .txAbort l t org c w v busy) (R.CAN_Cc_TXABTn c w) fun _ v n m => n.on F.CAN_CTRL.EN = false →
        (∀ i < 32, m.objPending c (32 * w + i) = (n.objPending c (32 * w + i) &&
          !(v.toNat.testBit i && decide (busy.map (·.toNat) ≠ some (32 * w.val + i))))) ∧
        ∀ off, off ≠ R.CAN_Cc_TXPENDn c w → off < 0x001000 ∨ 0x003000 ≤ off → m.rd off = n.rd off) ∧
  (∀ (c : Fin 2) (o : BitVec 6) (tec rec_ : Byte), OnEvent dAUX (fun l t => .txDone l t c o tec rec_) fun n m =>
    -- every pending object that goes before it was requested only after its transmission could have begun
    let may := ∀ p < 64, n.objPending c p = true → n.txBefore c p o.toNat = true →
      max (Cells.get 0 n.can.req (64 * c + o.toNat)) (Cells.get 0 n.can.idle c) < Cells.get 0 n.can.req (64 * c + p)
    let can := n.f (F.CAN_Cc_MODE.MODE c) = 2 ∧ n.f (F.CAN_Cc_STAT.ESTATE c) ≠ 2 ∧ n.objPending c o.toNat = true ∧ may
    (¬can → m = n) ∧
    (can → n.on F.CAN_CTRL.EN = false → m.objPending c o.toNat = false ∧ m.on (F.CAN_Cc_EVT.TXDONE c) = true ∧
      m.f (F.CAN_Cc_STAT.TEC c) = tec.toNat ∧ m.f (F.CAN_Cc_STAT.REC c) = rec_.toNat ∧
      ∀ p < 64, p ≠ o.toNat → m.objPending c p = n.objPending c p)) ∧
  (∀ c : Fin 2, OnEvent dAUX (fun l t => .gatewayYieldListen l t c) fun n m =>
    (c.val ∉ n.can.leave → m = n) ∧
    (c.val ∈ n.can.leave → m.f (F.CAN_Cc_MODE.MODE c) = 1 ∧ c.val ∉ m.can.leave ∧
      ∀ off, off ≠ R.CAN_Cc_MODE c → off < 0x001000 ∨ 0x003000 ≤ off → m.rd off = n.rd off)) ∧
  (OnWrite .canGatewayEnable R.CAN_CTRL fun org v n m =>
    let en := F.CAN_CTRL.EN.val v
    let misfit := ∃ r < 32, let w := n.rd (R.CAN_GWRr_CFG r)
      bits w 31 31 = 1 ∧ (2 * n.f (F.TPE_BUFb_CFG.LEN (bits w 7 0)) < bits w 13 8 + 18 ∨
        n.f (F.TPE_BUFb_CFG.DIR (bits w 7 0)) ≠ if bits w 30 30 = 0 then 1 else 2)
    (en = 1 → n.on F.CAN_CTRL.EN = false → misfit → Rejected n m 7 org.code R.CAN_CTRL true 15) ∧
    (en = 0 ∨ n.on F.CAN_CTRL.EN = true ∨ ¬misfit → Sets n m [(F.CAN_CTRL.EN, en)])) ∧
  OnWrite .resend R.CAN_GWCMD fun _ v n m =>
    (F.CAN_GWCMD.RESEND.val v = 0 → PowerOnly n m) ∧
    (F.CAN_GWCMD.RESEND.val v = 1 → ∀ r w last, n.canRoutes = [(r, w)] → bits w 30 30 = 1 → n.on F.CAN_CTRL.EN = true →
      let c := bits w 29 29
      let o := bits w 21 16
      n.f (F.CAN_Cc_MODE.MODE c) = 2 → n.can.last.find? (fun x => x.1 == r) = some (r, last) → n.objPending c o = false →
        (n.flagsOk c (last.getD 0 0#32) = true → m.objPending c o = true ∧
          m.f (F.CAN_Cc_OBJo_ID.ID c o) = bits (last.getD 0 0#32) 28 0 ∧
          m.f (F.CAN_GWRr_CNT.FRAMES r) = (n.f (F.CAN_GWRr_CNT.FRAMES r) + 1) % 2 ^ 16 ∧
          ∀ i < 16, m.rd (R.CAN_Cc_OBJo_DATAw c o i) = last.getD (2 + i) 0#32) ∧
        (n.flagsOk c (last.getD 0 0#32) = false → SetsRaises n m [n.counted (F.CAN_GWRr_CNT.BAD r)] 0xD7 4 r))

/-! ## Keystone (spec/14) -/

/-- R19: a message of the other lane is registered as a cross-lane one and causes nothing by itself. R353 to R359: a message that merges
with no open record opens one, with its source's severity; at SAFE-LANE every armed group enters SAFE; from NOTIFY on it goes to the
other lane. R360: a message of the source of an open record merges into it: COUNT steps, LAST is the message, and the severity does not
fall. -/
def Obligations.MessagesRecorded : Prop :=
  (∀ (s : State) (l : LaneId) (t : Nat) (w : W32), let n := s.laneAt l t
     n.domOn dCORE = true → Answers (.kmsgReceive l t true w) s fun m =>
       m = { n with kst := { n.kst with
         msgs := n.kst.msgs ++ [{ src := bits w 31 24, kind := bits w 23 20, word := bits w 15 0, xl := true }] } }) ∧
  (∀ (s : State) (l : LaneId) (t r : Nat) (x : Msg), let n := s.laneAt l t
     n.sys.powered = true → n.kst.msgs = [x] → x.xl = false → x.inj = false → x.src < 256 → x.kind < 16 → x.word < 2 ^ 16 →
     n.kst.logQ.length < 32 → (n.evEnabled 4 = false ∨ n.evPending 4 = false) →
     (if x.src = 0x04 ∧ n.recOpen 63 = true then some 63 else n.mergeTarget x) = none → r < 63 → n.recOpen r = false → (∀ q < r, n.recOpen q = true) →
     Answers (.keystoneMessageAccept l t []) s fun m =>
       m.recOpen r = true ∧ m.f (F.KST_RECr_INFO.SEV r) = n.f (F.KST_SEVn.SEV x.src) ∧
       m.rd (R.KST_RECr_MSG r) = BitVec.ofNat 32 (x.src * 2 ^ 24 + x.kind * 2 ^ 20 + x.word) ∧
       m.f (F.KST_RECr_INFO.XL r) = 0 ∧ (∀ q < 64, q ≠ r → m.recOpen q = n.recOpen q) ∧ m.f F.KST_EVT.OPENED = 1 ∧
       (n.f (F.KST_SEVn.SEV x.src) = 4 → m.f F.KST_STAT.LANESAFE = 1 ∧ m.f (F.KST_RECr_INFO.NOREL r) = 1 ∧
         ∀ g < 3, n.grp g ≠ 0 → m.grp g = 5) ∧
       (1 ≤ n.f (F.KST_SEVn.SEV x.src) → LFrame.kmsg (BitVec.ofNat 32 (x.src * 2 ^ 24 + x.kind * 2 ^ 20 + x.word)) ∈ m.sys.tx)) ∧
  (∀ (s : State) (l : LaneId) (t r : Nat) (x : Msg), let n := s.laneAt l t
     n.sys.powered = true → n.kst.msgs = [x] → x.xl = false → x.inj = false → x.src < 256 → x.kind < 16 → x.word < 2 ^ 16 →
     n.kst.logQ.length < 32 → (n.evEnabled 4 = false ∨ n.evPending 4 = false) →
     (if x.src = 0x04 ∧ n.recOpen 63 = true then some 63 else n.mergeTarget x) = some r →
     Answers (.keystoneMessageAccept l t []) s fun m =>
       m.recOpen r = true ∧ m.f (F.KST_RECr_INFO.COUNT r) = (n.counted (F.KST_RECr_INFO.COUNT r)).2 ∧
       m.rd (R.KST_RECr_LAST r) = BitVec.ofNat 32 (x.src * 2 ^ 24 + x.kind * 2 ^ 20 + x.word) ∧
       m.f (F.KST_RECr_INFO.SEV r) = max (n.f (F.KST_RECr_INFO.SEV r)) (n.f (F.KST_SEVn.SEV x.src)) ∧
       m.rd (R.KST_RECr_MSG r) = n.rd (R.KST_RECr_MSG r) ∧ (∀ q < 64, q ≠ r → m.recOpen q = n.recOpen q))

/-- R353, R363, R365, R369: firmware's writes to Keystone, each with the condition it is refused without. R366 to R368, R371: an
injection that nothing detected ends as missed; the log's oldest queued entry goes into the ring, and an entry is read by its index. -/
def Obligations.KeystoneWrites : Prop :=
  (∀ (s : State) (l : LaneId) (t : Nat) (org : Origin) (v : W32) (c : Byte), let n := s.laneAt l t
     (n.accepts org.code R.KST_RELEASE v = true → Answers (.recordRelease l t org v) s fun m =>
       let r := F.KST_RELEASE.REC.val v
       if n.recOpen r = true ∧ n.on (F.KST_RECr_INFO.NOREL r) = false ∧ n.recActive r = false then m.recOpen r = false
       else Rejected n m 7 org.code R.KST_RELEASE true 15) ∧
     (n.accepts org.code R.KST_RAISE v = true → Answers (.firmwareRaise l t org v) s fun m =>
       let src := F.KST_RAISE.SOURCE.val v
       if org = .firmware ∧ 0xF0 ≤ src ∧ src ≤ 0xF7 ∧ F.KST_RAISE.KIND.val v ≠ 0 then
         SetsRaises n m [] src (F.KST_RAISE.KIND.val v) (F.KST_RAISE.WORD.val v)
       else Rejected n m 7 org.code R.KST_RAISE true 15) ∧
     (n.accepts org.code (R.KST_SEVn c.toNat) v = true → Answers (.severityWrite l t org c v) s fun m =>
       let x := (F.KST_SEVn.SEV c.toNat).val v
       if n.f (F.KST_FLRn.FLOOR c.toNat) ≤ x ∧ x ≤ 4 ∧ (c = 0x15#8 → x = 0) then Sets n m [(F.KST_SEVn.SEV c.toNat, x)]
       else Rejected n m 7 org.code (R.KST_SEVn c.toNat) true 15) ∧
     (n.accepts org.code R.KST_INJ v = true → Answers (.injectionArm l t org v) s fun m =>
       let src := F.KST_INJ.SOURCE.val v
       let wait := F.KST_INJ.WAIT.val v
       (noInject src = true ∨ n.kst.inj ≠ none ∨ wait = 0 → Rejected n m 7 org.code R.KST_INJ true 15) ∧
       (noInject src = false → n.kst.inj = none → 0 < wait → n.on F.SYS_LCS.ENF = false →
         PowerOnly { n with kst := { n.kst with inj := some {
           src := src, target := F.KST_INJ.TARGET.val v, due := n.now + wait * 400000, dry := F.KST_INJ.DRY.val v == 1 } } } m))) ∧
  (∀ (s : State) (l : LaneId) (t : Nat), let n := s.laneAt l t
     (∀ j, n.sys.powered = true → n.kst.inj = some j → j.hit = true → Answers (.injectionMissed l t) s fun m => m = n) ∧
     (∀ j, n.sys.powered = true → n.kst.inj = some j → j.hit = false → j.due ≤ n.now → j.src < 256 → Answers (.injectionMissed l t) s fun m =>
       SetsRaises { n with kst := { n.kst with inj := none } } m
         ([(F.KST_INJSTAT.RESULT, 2), (F.KST_INJSTAT.SOURCE, j.src)] ++ n.recorded F.KST_INJSTAT.DONE ++ n.recordedOnce F.KST_EVT.INJ)
         0x06 3 j.src) ∧
     (∀ e rest, n.sys.powered = true → n.domOn dCORE = true → n.kst.logQ = e :: rest → Answers (.logEntryWrite l t) s fun m =>
       m.kst.logQ = rest ∧ Cells.get [] m.mram.faultLog (n.f F.KST_LOGSTAT.HEAD) = e ∧
       m.f F.KST_LOGSTAT.HEAD = (n.f F.KST_LOGSTAT.HEAD + 1) % 8192 ∧
       (∀ i, i ≠ n.f F.KST_LOGSTAT.HEAD → Cells.get [] m.mram.faultLog i = Cells.get [] n.mram.faultLog i)) ∧
     (∀ (org : Origin) (v : W32), n.accepts org.code R.KST_LOGIDX v = true → Answers (.logIndexWrite l t org v) s fun m =>
       let i := F.KST_LOGIDX.IDX.val v
       m.f F.KST_LOGIDX.IDX = i ∧ (∀ w < 8, m.rd (R.KST_LOGDw w) = (Cells.get [] n.mram.faultLog i).getD w 0#32) ∧ m.kst = n.kst))

/-! ## Lanes and roles (spec/16) -/

/-- R398, R399, R405, R406, R409, R411: a heartbeat word says what the lane is; one received restarts the count of its absence and moves
the role where it must move; one missing for 50 µs is lost; the link's state is recorded. -/
def Obligations.Heartbeats : Prop :=
  (OnEvent dCORE .heartbeatSend fun n m =>
    n.pwr.stalled = [] → n.oap.loads = [] →
    (n.now < n.lnt.sentT + 1600 → m = n) ∧
    (n.lnt.sentT + 1600 ≤ n.now → ∃ w : W32, m.sys.tx = putFrame (.heartbeat w) n.mirrorFlush.sys.tx ∧ m.lnt.sentT = n.now ∧ m.lnt.gather = none ∧
      bits w 31 29 = n.role ∧ bits w 28 28 = b1 n.eligible ∧ bits w 27 27 = b1 n.oap.frozen.isSome ∧
      bits w 26 26 = n.f F.KST_STAT.LANESAFE ∧ bits w 25 25 = b1 (n.domOn dAUX) ∧ bits w 24 24 = b1 n.isolated ∧
      bits w 23 16 = n.f F.LNT_ROLE.EPOCH ∧ bits w 15 0 = n.f F.LNT_CKSEQ.SEQ % 2 ^ 16 ∧
      ∀ off, m.rd off = n.rd off)) ∧
  (∀ (crc : Bool) (w : W32), OnEvent dCORE (fun l t => .heartbeatReceive l t crc w) fun n m =>
    let r := bits w 31 29
    (crc = false → Sets n m [n.counted F.LNT_LINKCNT.CRCERR]) ∧
    (crc = true → m.rd R.LNT_PEERHB = w ∧ m.f F.LNT_ROLE.PEERROLE = r ∧ m.on F.LNT_ROLE.PEERHB = true ∧
      m.on F.LNT_HBSTAT.LOST = false ∧ m.lnt.hbT = n.now ∧
      (r = roleACTIVE → (n.id = .lane2 ∧ n.role = roleACTIVE) ∨ n.role = roleYIELDING → m.role = roleSTANDBY) ∧
      (r = roleSTANDBY → bits w 28 28 = 1 → n.role = roleACTIVE → n.eligible = false → m.role = roleYIELDING) ∧
      (r = roleYIELDING → n.role = roleSTANDBY → n.eligible = true → bits w 15 0 = n.f F.LNT_CKSEQ.SEQ % 2 ^ 16 →
        m.role = roleTAKING ∧ m.lnt.takT = n.now ∧ m.f F.LNT_TKSTAT.COUNT = (n.counted F.LNT_TKSTAT.COUNT).2))) ∧
  (OnEvent dCORE .heartbeatMissing fun n m =>
    let due := (n.lnt.hbT + 20000 ≤ n.now ∨ n.injArmed 0x21 0 = true) ∧ (n.on F.LNT_HBSTAT.LOST = false ∨ n.foundAgain 0x21 0 = true)
    (¬due → m = n) ∧
    (due →
      m.on F.LNT_HBSTAT.LOST = true ∧ m.on F.LNT_ROLE.PEERHB = false ∧ m.on F.LNT_EVT.HBLOST = true ∧
      (∃ x ∈ m.kst.msgs, x.src = 0x21 ∧ x.kind = 2) ∧ (n.role = roleYIELDING → m.role = roleACTIVE) ∧
      (n.role = roleACTIVE → m.role = roleACTIVE) ∧
      (n.role = roleSTANDBY → m.role = if n.eligible = true ∧ 2 ≤ n.f F.LNT_GWSTAT.PEERAGE then roleTAKING else roleSTANDBY))) ∧
  (OnEvent dCORE .lintelSyncLoss fun n m =>
    (n.on F.LNT_HBSTAT.LINKUP = false → m = n) ∧
    (n.on F.LNT_HBSTAT.LINKUP = true → SetsRaises n m
      ([(F.LNT_HBSTAT.LINKUP, 0), n.counted F.LNT_LINKCNT.LOCKLOSS] ++ n.recordedOnce F.LNT_EVT.LINK) 0x22 3 0)) ∧
  OnEvent dCORE .lintelSyncAcquired fun n m => Sets n m [(F.LNT_HBSTAT.LINKUP, 1)]

/-- R397, R400, R407 to R409: the LNT is enabled and cleared, an ACTIVE lane hands over, and a takeover ends in ACTIVE. -/
def Obligations.RolesChange : Prop :=
  (OnWrite .lntBlockEnable R.LNT_CTRL fun org v n m =>
    let own := n.f F.LNT_GWCFG.OWNBUF
    let peer := n.f F.LNT_GWCFG.PEERBUF
    let may := n.f (F.TPE_BUFb_CFG.DIR own) = 1 ∧ n.f (F.TPE_BUFb_CFG.LEN own) ≠ 0 ∧ n.f (F.TPE_BUFb_CFG.DIR peer) = 2 ∧
      n.f (F.TPE_BUFb_CFG.LEN peer) ≠ 0 ∧ n.f F.SYS_ASHPEER.STATE ∈ [1, 3, 4]
    let acts := n.role = roleTAKING ∨ n.role = roleACTIVE ∨ n.role = roleYIELDING
    let able := n.isolated = false ∧ n.on F.KST_STAT.LANESAFE = false ∧ n.oap.stopped = false
    let en := F.LNT_CTRL.EN.val v
    (en = 1 → n.on F.LNT_CTRL.EN = false → ¬may → Rejected n m 7 org.code R.LNT_CTRL true 15) ∧
    (en = 1 → n.on F.LNT_CTRL.EN = false → may → m.on F.LNT_CTRL.EN = true ∧
      (n.role = roleNONE → m.role = if n.tpeSt ≠ tACTIVE then roleNONE
        else if n.id.num = n.f F.LNT_PERMIT.GWLANE ∧ n.lnt.claimed = false then
          if ¬able ∧ n.peerCanTake = true then roleYIELDING else roleACTIVE
        else if able ∧ ((n.on F.LNT_HBSTAT.LOST = true ∧ 2 ≤ n.f F.LNT_GWSTAT.PEERAGE) ∨
          (n.peerShows roleYIELDING = true ∧ bits (n.rd R.LNT_PEERHB) 15 0 = n.f F.LNT_CKSEQ.SEQ % 2 ^ 16)) then roleTAKING
        else roleSTANDBY)) ∧
    (en = 0 → n.on F.LNT_CTRL.EN = true → acts → Rejected n m 7 org.code R.LNT_CTRL true 15) ∧
    (en = 0 → n.on F.LNT_CTRL.EN = true → ¬acts → m.on F.LNT_CTRL.EN = false ∧ m.role = roleNONE) ∧
    (en = b1 (n.on F.LNT_CTRL.EN) → PowerOnly n m)) ∧
  (OnWrite .handover R.LNT_ROLECMD fun org v n m =>
    let asked := F.LNT_ROLECMD.HANDOVER.val v = 1
    let may := n.role = roleACTIVE ∧ n.on F.LNT_ROLE.PEERHB = true ∧ bits (n.rd R.LNT_PEERHB) 31 29 = roleSTANDBY ∧
      bits (n.rd R.LNT_PEERHB) 28 28 = 1
    (¬asked → PowerOnly n m) ∧
    (asked → ¬may → Rejected n m 7 org.code R.LNT_ROLECMD true 15) ∧
    (asked → may → m.role = roleYIELDING ∧ m.on F.LNT_EVT.ROLE = true ∧
      m.can.leave = [0, 1].filter (fun c => n.f (F.CAN_Cc_MODE.MODE c) == 2) ∧
      ∃ x ∈ m.kst.msgs, x.src = 0x24 ∧ x.kind = 5 ∧ x.word = 2 * 256 + roleACTIVE * 16 + roleYIELDING)) ∧
  OnEvent dCORE .takeoverComplete fun n m =>
    let valid := n.on F.LNT_CKSTAT.VALID
    let recs := if valid then (n.slotWord (n.f F.LNT_CKSTAT.CUR) 0x0C).toNat % 1025 else 0
    let due := n.role = roleTAKING ∧ n.domOn dAUX = true ∧ max n.lnt.takT n.lnt.auxT + 8 * recs ≤ n.now
    (¬due → m = n) ∧
    (due → n.peerCanTake = false → m.role = roleACTIVE ∧ m.f F.LNT_ROLE.EPOCH = (bits (n.rd R.LNT_PEERHB) 23 16 + 1) % 256 ∧
      m.on F.LNT_TKSTAT.NOCK = !valid ∧ m.on F.LNT_EVT.ROLE = true ∧ m.can.leave = [])

/-- R402, R405: a standby writes mirrored words into the slot the frame names, and makes a slot current in sequence or at the end of a
resynchronisation. -/
def Obligations.CheckpointsMirrored : Prop :=
  (∀ (k : Fin 2) (o : BitVec 16) (data : List W32), mirrorOk data = true →
    OnEvent dCORE (fun l t => .mirrorReceive l t true k o data) fun n m =>
      let o₀ := o.toNat / 4 * 4
      (n.role ≠ roleSTANDBY → m = n) ∧
      (n.role = roleSTANDBY → m = { n with mram := m.mram } ∧
        (∀ x < 0x10000, x % 4 = 0 → m.slotWord k x =
          if o₀ ≤ x ∧ x < o₀ + 4 * data.length then data.getD ((x - o₀) / 4) 0#32 else n.slotWord k x) ∧
        ∀ x < 0x10000, m.slotWord (1 - k.val) x = n.slotWord (1 - k.val) x)) ∧
  (∀ (k : Fin 2) (o : BitVec 16) (data : List W32), mirrorOk data = true →
    OnEvent dCORE (fun l t => .mirrorReceive l t false k o data) fun n m => Sets n m [n.counted F.LNT_LINKCNT.CRCERR]) ∧
  ∀ (k : Fin 2) (seq : W32) (resync : Bool), OnEvent dCORE (fun l t => .mirrorCommitReceive l t true k seq resync) fun n m =>
    let follows := seq = n.rd R.LNT_CKSEQ + 1#32 ∨ resync = true
    (n.role ≠ roleSTANDBY → m = n) ∧
    (n.role = roleSTANDBY → follows → m.rd R.LNT_CKSEQ = seq ∧ m.on F.LNT_CKSTAT.VALID = true ∧ m.on F.LNT_CKSTAT.ORIGIN = true ∧
      m.f F.LNT_CKSTAT.CUR = k ∧ m.mram = n.mram) ∧
    (n.role = roleSTANDBY → ¬follows →
      SetsRaises n m ([n.counted F.LNT_CKCNT.MFAIL] ++ n.recordedOnce F.LNT_EVT.MIRROR) 0x23 4 1)

/-! ## Field update (spec/17) -/

/-- R422 to R428: a block is handled when its CRC holds, stored once into the slot of its transfer and queued for the next node; an
image whose blocks are all stored is verified; a transfer that stands still ends. -/
def Obligations.TransfersStored : Prop :=
  (OnEvent dAUX .blockHandle fun n m =>
    (n.upd.blocks = [] → m = n) ∧
    ∀ b rest, n.upd.blocks = b :: rest →
      let good := crc32 (wordsBytes b.words) = b.crc.toNat ∧ n.injArmed 0xE0 b.block = false
      m.upd.blocks = rest ∧
      (¬good → m.upd.xfer = n.upd.xfer ∧ m.upd.queue = n.upd.queue ∧ m.mram = n.mram ∧ m.on F.UPD_EVT.BLOCKERR = true ∧
        Raised n m 0xE0 1 b.block) ∧
      (good → m.upd.queue = (if n.on F.UPD_RELAY.SENDER then n.upd.queue ++ [b] else n.upd.queue)) ∧
      ∀ x s, good → n.upd.xfer = some x → x.tag = b.tag → x.verify = false → x.slot = some s → b.block < x.nblk →
        x.decided = true ∨ b.block ≠ 0 →
        (b.block ∈ x.stored → m.mram = n.mram) ∧
        (b.block ∉ x.stored →
          (let img := Cells.get [] n.mram.slots s
           Cells.get [] m.mram.slots s =
             (img.take (4096 * b.block) ++ b.bytes ++ img.drop (4096 * b.block + 4096)).take img.length) ∧
          (∀ z, z ≠ s → Cells.get [] m.mram.slots z = Cells.get [] n.mram.slots z) ∧
          (∃ y, m.upd.xfer = some y ∧ y.stored = b.block :: x.stored ∧ y.verify = decide (x.stored.length + 1 = x.nblk)) ∧
          (x.stored.length + 1 = x.nblk → m.f F.UPD_STAT.XSTATE = xVERIFYING))) ∧
  (OnWrite .blockPush R.UPD_SRCCMD fun org v n m =>
    let push := F.UPD_SRCCMD.PUSH.val v = 1
    let source := n.f F.UPD_RELAY.UPNODE = n.node
    (¬push → PowerOnly n m) ∧
    (push → ¬source → Rejected n m 7 org.code R.UPD_SRCCMD true 15) ∧
    (push → source → ∃ b, m.upd.blocks = n.upd.blocks ++ [b] ∧ b.tag = F.UPD_SRCCMD.TAG.val v ∧
      b.block = F.UPD_SRCCMD.BLOCK.val v ∧ b.words = (List.range 1024).map (fun w => n.rd (R.UPD_STAGEw w)) ∧
      b.crc.toNat = crc32 (wordsBytes b.words) % 2 ^ 32 ∧ b.ready = false ∧
      (n.f F.UPD_STAT.XSTATE = xIDLE ∨ n.f F.UPD_XFER.TAG ≠ b.tag →
        m.f F.UPD_STAT.XSTATE = xRECEIVING ∧ m.f F.UPD_XFER.TAG = b.tag ∧ m.upd.xfer = some { tag := b.tag }))) ∧
  (OnEvent dAUX .imageVerifyComplete fun n m =>
    (∀ s rest, n.upd.checks = s :: rest →
      m.slotSt s = (if n.verified (s / 2 + 1) (n.slotImg s) then lSTORED else lREFUSED) ∧ (∀ z, z ≠ s → m.slotSt z = n.slotSt z) ∧
      m.upd.checks = rest ∧ m.upd.xfer = n.upd.xfer ∧ m.on F.UPD_EVT.XDONE = true) ∧
    (n.upd.checks = [] → n.upd.xfer = none → m = n) ∧
    ∀ x, n.upd.checks = [] → n.upd.xfer = some x → (x.verify = false ∨ x.slot = none → m = n) ∧
      ∀ s, x.verify = true → x.slot = some s →
        let ok := n.verified (s / 2 + 1) (n.slotImg s)
        m.slotSt s = (if ok then lSTORED else lREFUSED) ∧ (∀ z, z ≠ s → m.slotSt z = n.slotSt z) ∧ m.upd.xfer = none ∧
        m.f F.UPD_STAT.XSTATE = xDONE ∧ m.on F.UPD_EVT.XDONE = true ∧
        (ok = false → ∃ y ∈ m.kst.msgs, y.src = 0xE1 ∧ y.kind = 2 ∧ y.word = s % 2 ^ 16)) ∧
  OnEvent dAUX .transferTimeout fun n m =>
    (n.upd.xfer = none → m = n) ∧
    ∀ x, n.upd.xfer = some x → (x.verify = true ∨ x.idle < n.f F.UPD_XFERTO.TIMEOUT → m = n) ∧
      (x.verify = false → n.f F.UPD_XFERTO.TIMEOUT ≤ x.idle → m.upd.xfer = none ∧
        (∀ s, x.slot = some s → m.slotSt s = lEMPTY ∧ m.f F.UPD_STAT.XSTATE = xFAILED ∧ m.on F.UPD_EVT.XFAIL = true ∧
          ∃ y ∈ m.kst.msgs, y.src = 0xE1 ∧ y.kind = 2) ∧
        (x.slot = none → m.f F.UPD_STAT.XSTATE = xIDLE ∧ m.mram = n.mram))

/-- R429, R430, R432 to R435: activation, confirmation and reversion move the two slots of an image type; a policy image is prepared in
the shadow bank and starts with cleared data memory; tables are copied and swapped in. -/
def Obligations.ImagesActivated : Prop :=
  (OnWrite .activate R.UPD_ACTCMD fun org v n m =>
    let ty := F.UPD_ACTCMD.TYPE.val v
    let s := n.inactiveSlot ty
    let may := 1 ≤ ty ∧ (n.slotSt s = lSTORED ∨ n.slotSt s = lACCEPTED) ∧ n.upd.act = none ∧ (ty = tPOLICY → n.roleHolds = false) ∧
      (ty = tASHLAR → n.service = true)
    F.UPD_ACTCMD.CMD.val v = 1 →
      (¬may → Rejected n m 7 org.code R.UPD_ACTCMD true 15) ∧
      (may → ty = tPOLICY → m.f F.UPD_HOSTAT.STEP = 1 ∧ m.f F.UPD_HOSTAT.RESULT = 0 ∧
        ∃ a, m.upd.act = some a ∧ a.ty = tPOLICY ∧ a.slot = s ∧ a.phase = 1 ∧ a.back = false ∧ a.old = n.activeSlot tPOLICY) ∧
      (may → ty = tASHLAR → m.slotSt s = lPENDING ∧ m.slotSt (partner s) = n.slotSt (partner s)) ∧
      (may → ty = tTABLES → n.domOn dCFE = true → n.tabRefused (n.slotMask s) (n.f F.CFE_TBLSTAT.BANK) = false →
        ∃ a, m.upd.act = some a ∧ a.ty = tTABLES ∧ a.slot = s ∧ a.b = n.now ∧ a.revert = false)) ∧
  (OnWrite .confirm R.UPD_ACTCMD fun org v n m =>
    let ty := F.UPD_ACTCMD.TYPE.val v
    F.UPD_ACTCMD.CMD.val v = 2 →
      (ty = 0 ∨ (∀ s ∈ typeSlots ty, n.slotSt s ≠ lTRIAL) → Rejected n m 7 org.code R.UPD_ACTCMD true 15) ∧
      ∀ s ∈ typeSlots ty, ty ≠ 0 → n.slotSt s = lTRIAL → n.slotSt (partner s) ≠ lTRIAL →
        (∀ a, n.upd.act = some a → a.ty ≠ tPOLICY) → m.slotSt s = lACTIVE ∧ m.slotSt (partner s) = lACCEPTED) ∧
  (OnWrite .revert R.UPD_ACTCMD fun org v n m =>
    let ty := F.UPD_ACTCMD.TYPE.val v
    F.UPD_ACTCMD.CMD.val v = 3 →
      (ty = 0 ∨ ty = tPOLICY ∨ (ty = tASHLAR ∧ n.service = false) → Rejected n m 7 org.code R.UPD_ACTCMD true 15) ∧
      (ty = tASHLAR → n.service = true → ∀ s ∈ typeSlots tASHLAR,
        (n.slotSt s = lPENDING → n.slotSt (partner s) ≠ lPENDING → m.slotSt s = lSTORED) ∧
        (n.slotSt s = lTRIAL → n.slotSt (partner s) = lACCEPTED → m.slotSt s = lSTORED ∧ m.slotSt (partner s) = lPENDING)) ∧
      (ty = tTABLES → n.upd.act = none → n.domOn dCFE = true → ∀ s ∈ typeSlots tTABLES, n.slotSt s = lTRIAL →
        n.slotSt (partner s) = lACCEPTED → n.tabRefused (n.slotMask (partner s)) (n.f F.CFE_TBLSTAT.BANK) = false →
        ∃ a, m.upd.act = some a ∧ a.ty = tTABLES ∧ a.slot = partner s ∧ a.old = some s ∧ a.revert = true)) ∧
  (OnEvent dAUX .policyPrepareComplete fun n m => ∀ a, n.upd.act = some a →
    (a.ty ≠ tPOLICY ∨ a.phase ≠ 1 → m = n) ∧
    (a.ty = tPOLICY → a.phase = 1 → m.f F.UPD_HOSTAT.STEP = 2 ∧ m.upd.act = some { a with phase := 2 } ∧
      m.oap.active = n.oap.active ∧ m.oap.bank = n.oap.bank ∧
      ∀ i, Cells.get 0#8 m.oap.shadow i =
        if i < imgBodyLen (n.slotImg a.slot) then (Cells.get [] n.mram.slots a.slot).getD (128 + i) 0#8 else 0#8)) ∧
  (OnEvent dAUX .dataClearComplete fun n m => ∀ a, n.upd.act = some a →
    let due := a.ty = tPOLICY ∧ a.phase = 4 ∧ n.oap.running = false ∧ a.clr + 65536 ≤ n.now
    (¬due → m = n) ∧
    (due → m.oap.running = true ∧ m.oap.data = [] ∧ m.oap.handler = none ∧ m.oap.pc = 0#32 ∧ (∀ r, m.gpr r = 0#32) ∧
      m.evPending 0 = true ∧ Cells.get 0#32 m.oap.evData 0 = 3#32 ∧ m.oap.active = n.oap.active ∧ m.upd.act = n.upd.act)) ∧
  (OnEvent dAUX .tableCopyComplete fun n m => ∀ a, n.upd.act = some a →
    let mask := n.slotMask a.slot
    let due := a.ty = tTABLES ∧ a.b + 25088 * popBits mask ≤ n.now
    (¬due → m = n) ∧
    (due → n.domOn dCFE = true → n.tabRefused mask a.banks = true →
      m.upd.act = none ∧ m.f F.UPD_HOSTAT.RESULT = 3 ∧ m.on F.UPD_EVT.ACT = true ∧ m.mram = n.mram ∧
      ∃ y ∈ m.kst.msgs, y.src = 0xE3 ∧ y.kind = 4) ∧
    (due → n.domOn dCFE = true → n.tabRefused mask a.banks = false → n.slotSt a.slot = lSTORED ∨ n.slotSt a.slot = lACCEPTED →
      m.upd.act = none ∧ m.f F.UPD_HOSTAT.RESULT = 1 ∧ m.on F.UPD_EVT.ACT = true ∧
      (∀ g < 2, m.bit F.CFE_TBLSTAT.PEND g = (n.bit F.CFE_TBLSTAT.PEND g || mask.testBit g)) ∧
      (a.old = none → m.slotSt a.slot = if a.revert then lACTIVE else lTRIAL) ∧
      ∀ s, a.old = some s → s ≠ a.slot → m.slotSt a.slot = (if a.revert then lACTIVE else lTRIAL) ∧
        m.slotSt s = if a.revert then lSTORED else lACCEPTED)) ∧
  OnWrite .updBlockEnable R.UPD_CTRL fun org v n m =>
    let busy := n.on F.UPD_CTRL.EN = true ∧ (n.upd.xfer ≠ none ∨ n.upd.act ≠ none)
    (F.UPD_CTRL.EN.val v = 0 → busy → Rejected n m 7 org.code R.UPD_CTRL true 15) ∧
    (F.UPD_CTRL.EN.val v = 1 ∨ ¬busy → Sets n m [(F.UPD_CTRL.EN, F.UPD_CTRL.EN.val v)])

/-- R436 to R438: a commit of a record whose header holds makes the work area live and the former record the retired one. -/
def Obligations.SettingsCommitted : Prop :=
  OnWrite .settingsCommit R.UPD_SETCMD fun _ v n m =>
    let asked := F.UPD_SETCMD.COMMIT.val v = 1
    let w := n.workArea
    let len := (n.setWord w 2).toNat
    let may := n.setWord w 0 = 0x47544553#32 ∧ len % 4 = 0 ∧ len ≤ 16352 ∧
      crc32 (wordsBytes ((List.range (len / 4)).map fun i => n.setWord w (8 + i))) = (n.setWord w 4).toNat ∧
      n.verIn (n.setVer w) = true ∧ (n.liveVal = true → n.setWord w 3 = n.setWord n.liveArea 3 + 1#32) ∧ n.recordKept = false
    (¬asked → PowerOnly n m) ∧
    (asked → may → m.liveArea = w ∧ m.workArea = n.liveArea ∧ m.setSt w = 1 ∧ m.setVer w = n.setVer w ∧
      m.setSt n.liveArea = (if n.liveVal then 2 else 0) ∧
      (∀ k < 2, ∀ i, i ≠ 1 → m.setWord k i = n.setWord k i) ∧ m.kst = n.kst) ∧
    (asked → ¬may → m.mram = n.mram ∧ m.on F.SYS_REGERR.FLAG = true ∧ m.on F.UPD_EVT.MIG = true ∧
      ∃ y ∈ m.kst.msgs, y.src = 0xE5 ∧ y.kind = 6 ∧ y.word = n.setVer w)

/-! ## Clocks and power domains (spec/18) -/

/-- R449 to R451: an idle domain that nothing holds enters the deepest state its ALLOW and latency permit; a held one stays ON. R451 to
R453, R455: an entry completes in its target; a wake before its cycle 24 abandons it, and a later one turns it into an exit when it
completes; an exit ends with the domain ON, and one not complete by its bound (twice its time, plus the start cost of the clock it waited
for) is recorded and repeated. -/
def Obligations.DomainsMove : Prop :=
  (∀ (s : State) (l : LaneId) (t : Nat) (d : Fin 9), let n := s.laneAt l t
     let lat := n.f (F.PWR_Dd_LAT.LAT d)
     let fits := fun x => lat = 0xFFFFFFFF ∨ x ≤ lat
     let enters := fun (st : Nat) (m : Lane) => m.domState d = 3 ∧ m.f (F.PWR_Dd_STAT.TARGET d) = st ∧ Cells.get 0 m.pwr.entT d = n.now
     n.sys.powered = true → n.domState d = 0 →
     Answers (.idleCountExpiry l t d) s fun m =>
       (∀ off, off < 0x001000 ∨ 0x003000 ≤ off → m.rd off = n.rd off) ∧ (∀ e < 9, e ≠ d.val → m.domState e = n.domState e) ∧
       (n.held d = true ∨ lat = 0 → m.domState d = 0) ∧
       (n.held d = false → lat ≠ 0 → 9 ≤ n.sys.step → d.val ≠ 0 →
         let off := n.on (F.PWR_Dd_ALLOW.OFF d) = true ∧ fits (n.f (F.PWR_Dd_EXIT.XOFF d))
         let ret := n.on (F.PWR_Dd_ALLOW.RET d) = true ∧ fits (n.f (F.PWR_Dd_EXIT.XRET d))
         (off → enters 2 m) ∧ (¬off → ret → enters 1 m) ∧ (¬off → ¬ret → m.domState d = 0))) ∧
  (∀ (s : State) (l : LaneId) (t : Nat) (d : Fin 9), let n := s.laneAt l t
     let early := n.now < Cells.get 0 n.pwr.entT d + 24
     n.sys.powered = true → n.on F.PWR_LWCFG.EN = true → (n.f F.PWR_LWCFG.DOMS).testBit d = true → d.val ≠ 0 → n.domUnusable d = false →
     n.domState d = 3 → Answers (.lintelWakeReceive l t) s fun m =>
       (early → m.domState d = (if Cells.get 0 n.pwr.leaving d = 1 then 4 else 0) ∧
         m.f (F.PWR_Dd_CNT.ABORTS d) = (n.counted (F.PWR_Dd_CNT.ABORTS d)).2) ∧
       (¬early → m.domState d = 3 ∧ m.pwr.late.contains d.val = true)) ∧
  (∀ (s : State) (l : LaneId) (t : Nat) (d : Fin 9), let n := s.laneAt l t
     n.sys.powered = true →
     (n.domState d = 3 → Cells.get 0 n.pwr.entT d + 400 ≤ n.now → Answers (.domainEntryComplete l t d) s fun m =>
       (n.pwr.late.contains d.val = true → m.domState d = 4) ∧
       (n.pwr.late.contains d.val = false → n.on (F.PWR_Dd_STAT.PVAL d) = false → d.val ≠ 0 →
         n.targetOf d = n.f (F.PWR_Dd_STAT.TARGET d) → n.targetOf d ≠ 0 → m.domState d = n.f (F.PWR_Dd_STAT.TARGET d))) ∧
     (n.domState d = 4 → 9 ≤ n.sys.step → n.sys.selfTest = none → n.pwr.stalled = [] → n.on (F.PWR_Dd_STAT.PVAL d) = false →
       Cells.get 0 n.pwr.leaving d = 1 → n.on F.CLK_STAT.LOCK = true → n.on F.CLK_STAT.REF = true → n.on F.CLK_STAT.GLIDE = false →
       Cells.get 0 n.pwr.exitT d + 400 * n.f (F.PWR_Dd_EXIT.XRET d) ≤ n.now →
       Answers (.domainExitComplete l t d) s fun m => m.domState d = 0) ∧
     (n.domState d = 4 → n.sys.selfTest = none → Cells.get 0 n.pwr.dueT d ≤ n.now →
       Answers (.domainExitTimeout l t d) s fun m =>
         m.domState d = 4 ∧ m.f (F.PWR_Dd_CNT.FAILS d) = (n.counted (F.PWR_Dd_CNT.FAILS d)).2 ∧ m.f F.PWR_EVT.DOMFAIL = 1 ∧
         Raised n m 0x0C 1 d ∧ Cells.get 0 m.pwr.exitT d = n.now ∧
         Cells.get 0 m.pwr.dueT d = n.exitBound d (Cells.get 0 n.pwr.leaving d) ∧ ∀ off, off < 0x001000 ∨ 0x003000 ≤ off → m.rd off = n.rd off))

/-- R443 to R446, R465: the clock events and what each shows and raises. R460: a supply that leaves its window while some switched
domain is not OFF is shown and raised; one that comes back is shown. -/
def Obligations.ClocksAndSupplies : Prop :=
  (∀ (s : State) (l : LaneId) (t : Nat), let n := s.laneAt l t
     n.sys.powered = true →
     (n.on F.PWR_STAT.XOON = true → n.f F.CLK_STAT.XO ≠ 2 → Answers (.xoStable l t) s fun m =>
       m.f F.CLK_STAT.XO = 2 ∧
       m.f F.CLK_STAT.GLIDE = if n.on F.CLK_STAT.LOCK = true ∧ n.on F.CLK_STAT.REF = false then 1 else n.f F.CLK_STAT.GLIDE) ∧
     (n.on F.PWR_STAT.PLLON = true → n.on F.CLK_STAT.LOCK = false → Answers (.pllLock l t) s fun m =>
       m.f F.CLK_STAT.LOCK = 1 ∧ m.pwr.pllFail = false ∧ (n.f F.CLK_STAT.XO = 2 → n.on F.CLK_STAT.REF = false → m.f F.CLK_STAT.GLIDE = 1)) ∧
     (n.on F.CLK_STAT.GLIDE = true → Answers (.glideComplete l t) s fun m =>
       m.f F.CLK_STAT.REF = 1 ∧ m.f F.CLK_STAT.GLIDE = 0 ∧ m.f F.PWR_STAT.XOREF = 1 ∧ (n.domState dACT = 0 → m.f F.CLK_STAT.REFOUT = 1)) ∧
     (n.f F.CLK_STAT.XO = 2 → Answers (.crystalFail l t) s fun m =>
       m.f F.CLK_STAT.XO = 3 ∧ m.f F.CLK_STAT.REF = 0 ∧ m.f F.CLK_STAT.REFOUT = 0 ∧ m.f F.CLK_EVT.XOFAIL = 1 ∧ Raised n m 0x09 1 0) ∧
     (n.on F.CLK_STAT.LOCK = true → Answers (.pllUnlock l t) s fun m =>
       m.f F.CLK_STAT.LOCK = 0 ∧ m.pwr.pllFail = true ∧ m.f F.CLK_EVT.UNLOCK = 1 ∧ Raised n m 0x0A 2 0) ∧
     (∀ lpt : BitVec 20, n.f F.CLK_STAT.XO = 2 → Answers (.aclkCalibration l t lpt) s fun m =>
       m.f F.CLK_ACLKCAL.LPT = lpt.toNat ∧ m.f F.CLK_ACLKCAL.VALID = 1 ∧
       (5 * 390625 < ((lpt.toNat : Int) - 390625).natAbs * 100 → m.f F.CLK_EVT.ACLK = 1 ∧ Raised n m 0x0B 3 0) ∧
       (((lpt.toNat : Int) - 390625).natAbs * 100 ≤ 5 * 390625 → n.injArmed 0x0B 0 = false → m.kst = n.kst))) ∧
  (∀ (s : State) (l : LaneId) (t : Nat) (k : Fin 3), let n := s.laneAt l t
     n.sys.powered = true →
     ((∃ d < 9, n.domState d ≠ 2) → n.pwr.supOut.contains k.val = false → Answers (.supplyOutOfWindow l t k) s fun m =>
       m.f (supplyF k) = 0 ∧ m.pwr.supOut.contains k.val = true ∧ m.f F.PWR_EVT.SUPPLY = 1 ∧ Raised n m 0x0D 2 k) ∧
     Answers (.supplyInWindow l t k) s fun m =>
       m.f (supplyF k) = 1 ∧ m.pwr.supOut.contains k.val = false ∧ m.pwr.supT = some n.now ∧ m.kst = n.kst)

/-- R452, R456 to R459: in a lane whose CORE is ON a Vetch match and a Lintel wake record their cause, and no domain a wake names, if
usable, stays in RET or OFF; with the PLL stopped and CORE in RET a Vetch match starts the PLL, and lane time goes on by the ACLK ticks that passed (R445); PEERWAKE sends the wake. R456: the Vetch port follows its lines: a start condition opens a frame, and its
eighth bit matches the own address or the broadcast. -/
def Obligations.WakesAndVetch : Prop :=
  (∀ (s : State) (l : LaneId) (t : Nat), let n := s.laneAt l t
     let woken := fun (doms : Nat) (m : Lane) => ∀ d, 0 < d → d < 9 → doms.testBit d = true → n.domUnusable d = false →
       m.domState d ≠ 1 ∧ m.domState d ≠ 2
     n.sys.powered = true →
     (n.pwr.vetch.hit = true → n.on F.PWR_VWCFG.EN = true → Answers (.vetchMatch l t) s fun m =>
       m.pwr.vetch.hit = false ∧ woken (n.f F.PWR_VWCFG.DOMS) m ∧ (n.domState dCORE = 0 → m.f F.PWR_WCAUSE.VETCH = 1) ∧
       (∀ c, n.pwr.laneHold = some c → n.on F.PWR_STAT.PLLON = false → n.domState dCORE = 1 →
         m.on F.PWR_STAT.PLLON = true ∧
         m.laneTime = n.laneTime + (Config.aclkTicks (n.now - c) * n.f F.CLK_ACLKCAL.LPT + n.pwr.laneFr) / 32)) ∧
     (n.on F.PWR_LWCFG.EN = true → Answers (.lintelWakeReceive l t) s fun m =>
       woken (n.f F.PWR_LWCFG.DOMS) m ∧ (n.domState dCORE = 0 → m.f F.PWR_WCAUSE.LINTEL = 1)) ∧
     (n.on F.PWR_WTCTL.EN = true → Answers (.wakeTimerExpiry l t) s fun m =>
       woken (n.f F.PWR_WTCTL.DOMS) m ∧ m.f F.PWR_WTCTL.EN = if n.on F.PWR_WTCTL.PERIODIC then 1 else 0) ∧
     (∀ (org : Origin) (v : W32), n.accepts org.code R.PWR_CMD v = true → F.PWR_CMD.PEERWAKE.val v = 1 →
       Answers (.peerwake l t org v) s fun m => PowerOnly { n with sys := { n.sys with tx := putFrame .wake n.sys.tx } } m)) ∧
  (∀ (s : State) (l : LaneId) (t : Nat) (clk dat : Bool), let n := s.laneAt l t
     let v := n.pwr.vetch
     n.sys.powered = true → Answers (.vetchLineChange l t clk dat) s fun m =>
       m.pwr.vetch.clk = clk ∧ m.pwr.vetch.dat = dat ∧ m = { n with pwr := { n.pwr with vetch := m.pwr.vetch } } ∧
       (n.on F.PWR_VWCFG.EN = true →
         (v.clk = true → clk = true → v.dat = true → dat = false → m.pwr.vetch.active = true ∧ m.pwr.vetch.count = 0) ∧
         (v.clk = false → clk = true → v.active = true → v.count = 7 → v.hit = false →
           let byte := (v.shift * 2 + if dat then 1 else 0) % 256
           m.pwr.vetch.count = 8 ∧ (m.pwr.vetch.hit = true ↔
             byte = n.f F.PWR_VWCFG.ADDR ∨ (byte = 0 ∧ n.on F.PWR_VWCFG.BCAST = true)))))

/-! ## Reset, start-up and life cycle (spec/02, 19) -/

/-- R466, R468, R22: what power-on, PORN, a supply loss and TRSTN leave: every register above the SAF block at its reset value, the
engine at reset, MRAM's images kept; TRSTN resets the test access port only. R467, R468: a warm start is taken from policy firmware or
the SPI host while the lane is safe or at rest, with the key; otherwise it is ignored, or refused with kind STATE. -/
def Obligations.ResetsOfALane : Prop :=
  (∀ (s : State) (l : LaneId) (t : Nat), let n := s.laneAt l t
     let cold := fun (m : Lane) => m.oap = {} ∧ m.sys.step = 1 ∧ m.mram.slots = n.mram.slots ∧ m.mram.keys = n.mram.keys ∧
       m.mram.faultLog = n.mram.faultLog ∧ (∀ off, 0x007000 ≤ off → m.rd off = mapReset off) ∧ m.f F.SYS_RSTCAUSE.AON = 1 ∧
       m.f F.SYS_LANE.LANE = m.id.num
     Answers (.vaonPowerOn l t) s (fun m => cold m ∧ m.sys.powered = true ∧ m.f F.SYS_RSTCAUSE.CAUSE = 1) ∧
     (n.sys.vaon = true → Answers (.pornReset l t) s fun m => cold m ∧ m.f F.SYS_RSTCAUSE.CAUSE = 2) ∧
     (n.sys.vaon = false → Answers (.pornReset l t) s fun m => m = n) ∧
     Answers (.vaonPowerLoss l t) s (fun m => cold m ∧ m.sys.powered = false ∧ m.sys.vaon = false) ∧
     Answers (.trstnReset l t) s (fun m => m = { n with sys := { n.sys with tap := 0 } })) ∧
  (∀ (s : State) (l : LaneId) (t : Nat) (org : Origin) (v : W32), let n := s.laneAt l t
     n.accepts org.code R.SYS_RSTCMD v = true →
     let key := F.SYS_RSTCMD.KEY.val v = 0x5354 ∧ F.SYS_RSTCMD.START.val v = 1
     let may := (org = .firmware ∨ org = .spi) ∧
       (n.on F.KST_STAT.LANESAFE = true ∨ (n.f F.SAF_STAT.SBOON = 0 ∧ ∀ g < 3, n.grp g ≠ 2 ∧ n.grp g ≠ 3 ∧ n.grp g ≠ 5))
     Answers (.warmStartRequest l t org v) s fun m =>
       (¬key → PowerOnly n m) ∧ (key → ¬may → Rejected n m 7 org.code R.SYS_RSTCMD true 15) ∧
       (key → may → m.sys.step = 1 ∧ m.f F.SYS_RSTCAUSE.CAUSE = 3 ∧ m.f F.SYS_RSTCAUSE.AON = 0 ∧ m.oap = {} ∧
         m.mram.slots = n.mram.slots ∧ ∀ off, 0x007000 ≤ off → m.rd off = mapReset off))

/-- R469, R472: steps 1 to 8 begin once the supplies are in; the start core's check decides whether the lane goes on. R471 to R478,
R484: step 9 takes the self-test's results; a failed start partition halts the lane, otherwise the load begins. R267, R268: the
comparator's injection test passes with all nineteen runs as required; otherwise the lane halts; its last injected run raises whatever an earlier
one did. -/
def Obligations.StartTests : Prop :=
  (∀ (s : State) (l : LaneId) (t : Nat) (coreOk : Bool), let n := s.laneAt l t
     n.sys.powered = true → n.sys.step = 1 → n.pwr.supOut = [] → n.step2 + 20000 ≤ n.now →
     Answers (.startSequence l t coreOk) s fun m =>
       m.sys.step = 8 ∧ m.sys.coreFail = !coreOk ∧ m.f F.YAR_STAT.BUSY = 1 ∧ m.f F.CLK_STAT.LOCK = 1 ∧
       (coreOk = false → Raised n m 0x1C 3 0) ∧ (coreOk = true → m.kst = n.kst)) ∧
  (∀ (s : State) (l : LaneId) (t : Nat) (parts : BitVec 16) (mems : BitVec 7) (words : List (BitVec 16)), let n := s.laneAt l t
     n.sys.powered = true → n.sys.step = 8 → n.sys.startT + (if n.sys.cold then 1188160 else 1140160) ≤ n.now → n.sys.coreFail = false →
     n.pwr.stalled = [] → n.sys.cold = true →
     Answers (.selftestResults l t parts mems words) s fun m =>
       m.sys.step = 9 ∧ m.f F.YAR_STARTRES.VALID = 1 ∧ m.f F.YAR_STARTRES.MEMS = mems.toNat ∧
       m.f F.YAR_STARTRES.PARTS = failedParts parts.toNat mems.toNat ∧ m.f F.YAR_UNUSABLE.PARTS = failedParts parts.toNat mems.toNat ∧
       m.f F.LSC_STARTCNT.COUNT = (n.mram.startCnt + 1) % 2 ^ 32 ∧
       (if parts.getLsbD 0 || parts.getLsbD 1 || parts.getLsbD 3 then m.f F.SYS_START.STATE = 3 ∧ m.f F.SYS_START.HALT = 2
        else m.f F.SYS_START.STATE = 1 ∧ m.f F.SYS_ASHSTAT.STATE = 1)) ∧
  (∀ (s : State) (l : LaneId) (t : Nat) (runs : BitVec 19) (item : BitVec 4) (core : Bool), let n := s.laneAt l t
     n.domOn dCORE = true → n.sys.injDue = true → n.sys.startT + (if n.sys.cold then 1188160 else 1140160) + 16000 ≤ n.now →
     Answers (.injectionTestEnd l t runs item core) s fun m =>
       m.sys.injDue = false ∧ m.f F.LSC_INJSTAT.VALID = 1 ∧ m.f F.LSC_INJSTAT.RUNS = runs.toNat ∧
       (runs = BitVec.allOnes 19 → m.f F.LSC_STAT.INJOK = 1 ∧ m.f F.LSC_INJSTAT.FAILITEM = 0 ∧ Raised n m 0x15 1 9) ∧
       (runs.getLsbD 18 = true → ∃ x ∈ m.kst.msgs, x.src = 0x15 ∧ x.kind = 1 ∧ x.word = 9) ∧
       (runs ≠ BitVec.allOnes 19 → m.f F.SYS_START.STATE = 3 ∧ m.f F.SYS_START.HALT = 4 ∧ m.bit F.YAR_UNUSABLE.PARTS 3 = true ∧
         m.f F.LSC_INJSTAT.FAILITEM = item.toNat))

/-- R58 to R62: the load ends with the structure locked; the active slot's image is loaded if every check passes; if not, the
other slot's ACCEPTED image if that one passes, and the lane is refused if none loads; the other slot where none is active is the model's
choice, slot A (log entry 98). R469: the policy image is copied into the engine's memory, the lane runs, and RESTART is pending for an
engine at reset. -/
def Obligations.LoadAndRun : Prop :=
  (∀ (s : State) (l : LaneId) (t : Nat) (up dn : BitVec 6), let n := s.laneAt l t
     n.domOn dCORE = true → n.sys.step = 9 → n.f F.SYS_ASHSTAT.STATE = 1 →
     Answers (.ashlarLoadEnd l t up dn) s fun m =>
       m.sys.step = 10 ∧ m.f F.SYS_ASHLOCK.LOCK = 1 ∧
       (∀ k, n.activeSlot tASHLAR = some k → n.ashlarBad (n.slotImg k) = none →
         m.f F.SYS_ASHSTAT.STATE = 2 ∧ m.f F.SYS_ASHSTAT.SLOT = k % 2 ∧ m.f F.SYS_ASHSTAT.FALLBACK = 0 ∧
         m.f F.SYS_ASHVER.VERSION = imgVersion (n.slotImg k) % 2 ^ (F.SYS_ASHVER.VERSION.hi + 1 - F.SYS_ASHVER.VERSION.lo)) ∧
       ((∀ k, n.activeSlot tASHLAR = some k → n.ashlarBad (n.slotImg k) ≠ none) →
         let other := match n.activeSlot tASHLAR with
           | some k => partner k
           | none => 2
         (n.slotSt other = lACCEPTED → n.ashlarBad (n.slotImg other) = none →
           m.f F.SYS_ASHSTAT.STATE = 2 ∧ m.f F.SYS_ASHSTAT.SLOT = other % 2 ∧ m.f F.SYS_ASHSTAT.FALLBACK = 1) ∧
         (n.slotSt other ≠ lACCEPTED ∨ n.ashlarBad (n.slotImg other) ≠ none →
           m.f F.SYS_ASHSTAT.STATE = 3 ∧ m.f F.SYS_ASHPEER.STATE = 5))) ∧
  (∀ (s : State) (l : LaneId) (t : Nat), let n := s.laneAt l t
     n.domOn dCORE = true → n.sys.step = 10 → n.f F.SYS_START.STATE ≠ 3 → n.sys.injDue = false →
     Answers (.startupImageCopyEnd l t) s fun m =>
       m.sys.step = 13 ∧ m.f F.SYS_START.STATE = 2 ∧
       ∀ k, n.activeSlot tPOLICY = some k → n.verified tPOLICY (n.slotImg k) = true →
         m.f F.SYS_START.POLICY = 1 ∧ m.oap.running = true ∧ m.oap.pc = 0#32 ∧ m.oap.data = [] ∧ m.evPending 0 = true ∧
         (∀ i, Cells.get 0#8 m.oap.active i =
           if i < imgBodyLen (n.slotImg k) then (Cells.get [] n.mram.slots k).getD (128 + i) 0#8 else 0#8) ∧
         (∀ i, m.gpr i = 0#32) ∧ Cells.get 0#32 m.oap.evData 0 = 0#32)

/-- R64 to R67: what a status message decides in a lane that waits, what a lane sends, and what the wait's end decides, where no
message that decides waits from that cycle. R479: a lane is
released exactly where every condition of release holds. R480, R481: an unarmed group of a released lane that may be armed becomes IDLE
and nothing else is armed; any other is refused. -/
def Obligations.ReleaseToActuation : Prop :=
  (∀ (s : State) (l : LaneId) (t : Nat) (d : List Byte), let n := s.laneAt l t
     n.domOn dCORE = true →
     (n.f F.SYS_ASHPEER.STATE = 0 → n.f F.SYS_ASHSTAT.STATE = 2 → d.length = 32 →
       Answers (.statusMessageReceive l t true (.digest d)) s fun m =>
         m.sys.peerDue = none ∧ m.f F.SYS_ASHPEER.STATE = (if d = n.regBytes (R.SYS_ASHDIGn 0) 8 then 1 else 2) ∧
         (d ≠ n.regBytes (R.SYS_ASHDIGn 0) 8 → m.f F.SYS_ASHEVT.DIFFER = 1 ∧ Raised n m 0x03 4 0)) ∧
     (n.f F.SYS_ASHPEER.STATE = 0 → n.f F.SYS_ASHSTAT.STATE = 2 → n.sys.peerDue ≠ none →
       Answers (.statusMessageReceive l t true .refused) s fun m =>
         m.sys.peerDue = none ∧ m.f F.SYS_ASHPEER.STATE = 4 ∧ Raised n m 0x03 4 0) ∧
     (n.f F.SYS_ASHPEER.STATE = 0 → n.sys.sentT + 40000 ≤ n.now →
       Answers (.statusResend l t) s fun m => m = { n with sys := { n.sys with tx := putFrame n.statusNow n.sys.tx, sentT := n.now } }) ∧
     (∀ due, n.sys.peerDue = some due → due ≤ n.now → n.f F.SYS_ASHPEER.STATE = 0 → peerFirst l n.now s.pending = false →
       Answers (.peerWaitExpiry l t) s fun m =>
         m.sys.peerDue = none ∧ m.f F.SYS_ASHEVT.TIMEOUT = 1 ∧ Raised n m 0x03 4 0 ∧
         m.f F.SYS_ASHPEER.STATE = if n.on F.LNT_PERMIT.SOLO then 3 else 0)) ∧
  (∀ (s : State) (l : LaneId) (t : Nat) (org : Origin) (v : W32), let n := s.laneAt l t
     n.accepts org.code R.SYS_ARMCMD v = true → F.SYS_ARMCMD.LANE.val v = 1 → F.SYS_ARMCMD.GROUPS.val v = 0 →
     let peer := n.f F.SYS_ASHPEER.STATE
     Answers (.laneRelease l t org v) s fun m =>
       if n.f F.SYS_ASHSTAT.STATE = 2 ∧ (peer = 1 ∨ peer = 3 ∨ (peer = 4 ∧ n.on F.LNT_PERMIT.SOLO = true)) ∧ n.f F.SYS_START.STATE = 2 ∧
         n.on F.SAF_CTRL.EN = true ∧ n.on F.SAF_STAT.SEALOK = true ∧ n.on F.KST_STAT.LANESAFE = false ∧ n.f F.SYS_LCS.STATE ≠ 5
       then m.f F.SYS_ARMSTAT.RELEASED = 1
       else Rejected n m 7 org.code R.SYS_ARMCMD true 15) ∧
  (∀ (s : State) (l : LaneId) (t g : Nat) (org : Origin) (v : W32), let n := s.laneAt l t
     n.accepts org.code R.SYS_ARMCMD v = true → g < 3 → F.SYS_ARMCMD.LANE.val v = 0 → F.SYS_ARMCMD.GROUPS.val v = 2 ^ g →
     Answers (.groupArm l t org v) s fun m =>
       (∀ h < 3, h ≠ g → m.grp h = n.grp h) ∧
       if n.on F.SYS_ARMSTAT.RELEASED = true ∧ n.mayArm g = true then
         m.grp g = (if n.bit F.KST_STAT.GSAFE g then 5 else 1) ∧ m.bit F.SYS_ARMSTAT.ARMED g = true
       else Rejected n m 7 org.code R.SYS_ARMCMD true 15)

/-- R483, R484, R488, R489: the four life-cycle commands, each from its state; every other one is refused with kind STATE. R484, R488,
R489: how the life-cycle commands end. R490, R491: a self-test on command begins where it may, and ends with its results and the failed
partitions out of service. -/
def Obligations.LifeCycle : Prop :=
  (∀ (s : State) (l : LaneId) (t : Nat) (org : Origin) (v : W32), let n := s.laneAt l t
     let st := n.f F.SYS_LCS.STATE
     let cmd := F.SYS_LCCMD.CMD.val v
     let host := (org = .firmware ∨ org = .spi) ∧ n.on F.SYS_LCSTAT.BUSY = false
     let begins := fun (p : LcPending) (m : Lane) => Sets { n with sys := { n.sys with lc := some p } } m [(F.SYS_LCSTAT.BUSY, 1)]
     let refused := fun (m : Lane) => Rejected n m 7 org.code R.SYS_LCCMD true 15
     n.accepts org.code R.SYS_LCCMD v = true → F.SYS_LCCMD.KEY.val v = 0x4C43 →
     (cmd = 1 → Answers (.lcProvision l t org v) s fun m =>
       if host ∧ st = 1 ∧ n.f F.SYS_KEYSTAT.SET ≠ 0 then begins { toState := 2, toBase := 2, cmd := 1 } m else refused m) ∧
     (cmd = 2 → Answers (.lcField l t org v) s fun m =>
       if host ∧ st = 2 ∧ n.f F.SYS_ASHSTAT.STATE = 2 then begins { toState := 3, toBase := 3, cmd := 2 } m else refused m) ∧
     (cmd = 3 → Answers (.lcToken l t org v) s fun m =>
       if host ∧ 2 ≤ st ∧ st ≤ 4 then Sets { n with sys := { n.sys with token := some org.code } } m [(F.SYS_LCSTAT.BUSY, 1)] else refused m) ∧
     (cmd = 4 → Answers (.lcReturn l t org v) s fun m =>
       if host ∧ st = 1 ∧ n.atRest = true then begins { toState := 5, toBase := 5, cmd := 4, ret := true } m else refused m)) ∧
  (∀ (s : State) (l : LaneId) (t : Nat), let n := s.laneAt l t
     n.domOn dCORE = true →
     (∀ org, n.sys.token = some org → Answers (.tokenCheckComplete l t) s fun m =>
       m.sys.token = none ∧ m.sys.nonceL = n.free n.sys.draws ∧ m.sys.nonceH = n.free (n.sys.draws + 1) ∧
       (∀ res, n.tokenBad n.tokenBytes = some res → m.f F.SYS_LCSTAT.RESULT = res ∧ m.f F.SYS_LCSTAT.CMD = 3 ∧ m.f F.SYS_LCSTAT.BUSY = 0 ∧
         m.f F.SYS_LCSTAT.DONE = 1 ∧ m.f F.SYS_LCS.STATE = n.f F.SYS_LCS.STATE) ∧
       (n.tokenBad n.tokenBytes = none → u16 n.tokenBytes 6 = 1 → n.f F.SYS_LCS.STATE = 2 ∨ n.f F.SYS_LCS.STATE = 3 →
         m.f F.SYS_LCS.STATE = 4 ∧ m.f F.SYS_LCS.BASE = n.f F.SYS_LCS.BASE ∧ m.f F.SYS_LCSTAT.RESULT = 1)) ∧
     (∀ p, n.sys.lc = some p → Answers (.lifecycleWriteComplete l t) s fun m =>
       m.f F.SYS_LCS.STATE = p.toState % 16 ∧ m.f F.SYS_LCS.BASE = p.toBase % 16 ∧ m.f F.SYS_LCSTAT.BUSY = 0 ∧ m.f F.SYS_LCSTAT.RESULT = 1 ∧
       m.sys.lc = none ∧ m.mram.lcA.state = p.toBase ∧ m.mram.lcB.state = p.toBase ∧
       max m.mram.lcA.seq m.mram.lcB.seq = max n.mram.lcA.seq n.mram.lcB.seq + 2) ∧
     (n.mram.erasing = true → n.sys.lc = none → Answers (.returnedEraseComplete l t) s fun m =>
       m.mram.slots = [] ∧ m.mram.keys = [] ∧ m.mram.cairn = [] ∧ m.mram.setA = [] ∧ m.mram.setB = [] ∧ m.mram.erasing = false ∧
       m.sys.step = 1 ∧ m.f F.SYS_RSTCAUSE.CAUSE = 6)) ∧
  (∀ (s : State) (l : LaneId) (t : Nat), let n := s.laneAt l t
     (∀ (org : Origin) (v : W32), n.accepts org.code R.YAR_CMD v = true → F.YAR_CMD.START.val v = 1 →
       let st := n.f F.SYS_LCS.STATE
       let x : SelfTest := { parts := F.YAR_CMD.PARTS.val v, mems := F.YAR_CMD.MEMS.val v }
       Answers (.commandSelfTest l t org v) s fun m =>
         if (n.on F.SYS_LCS.ENF = true ∧ (st = 2 ∨ st = 3)) ∨ n.on F.YAR_STAT.BUSY = true ∨ x.parts % 8 ≠ 0 ∨ n.atRest = false then
           Rejected n m 7 org.code R.YAR_CMD true 15
         else m.f F.YAR_STAT.STATE = 2 ∧ m.f F.YAR_STAT.BUSY = 1 ∧ m.sys.selfTest = some x) ∧
     (∀ (x : SelfTest) (parts : BitVec 16) (mems : BitVec 7) (words : List (BitVec 16)),
       n.sys.powered = true → n.sys.selfTest = some x → n.pwr.stalled = [] →
       let failed := failedParts (parts.toNat &&& x.parts) (mems.toNat &&& x.mems)
       Answers (.commandSelfTestComplete l t parts mems words) s fun m =>
         m.sys.selfTest = none ∧ m.f F.YAR_CMDRES.VALID = 1 ∧ m.f F.YAR_CMDRES.PARTS = failed ∧
         (x.restarts = true → m.sys.step = 1 ∧ m.f F.SYS_RSTCAUSE.CAUSE = 5) ∧
         (x.restarts = false → m.f F.YAR_UNUSABLE.PARTS = n.f F.YAR_UNUSABLE.PARTS ||| failed ∧ m.f F.YAR_STAT.BUSY = 0)))

/-- R58, R61, R469: in its step, the end of the Ashlar load and the end of the start-up copies complete, the first with the structure
locked and loaded or refused, the second with the lane running. R450, R451, R455: for every domain but CORE that nothing holds, the end of
its idle count begins its entry into OFF where ALLOW and its latency permit it, the entry completes, the exit from RET completes with the
domain ON, and one past its bound is counted and repeated. -/
def Obligations.LoadsAndDomainsComplete : Prop :=
  (∀ (s : State) (l : LaneId) (t : Nat) (up dn : BitVec 6), let n := s.laneAt l t
     n.domOn dCORE = true → n.sys.step = 9 → n.f F.SYS_ASHSTAT.STATE = 1 →
     ∃ m, exec (.ashlarLoadEnd l t up dn) s = .next (s.setLane l m) ∧ m.sys.step = 10 ∧ m.f F.SYS_ASHLOCK.LOCK = 1 ∧
       (m.f F.SYS_ASHSTAT.STATE = 2 ∨ m.f F.SYS_ASHSTAT.STATE = 3)) ∧
  (∀ (s : State) (l : LaneId) (t : Nat), let n := s.laneAt l t
     n.domOn dCORE = true → n.sys.step = 10 → n.f F.SYS_START.STATE ≠ 3 → n.sys.injDue = false →
     ∃ m, exec (.startupImageCopyEnd l t) s = .next (s.setLane l m) ∧ m.sys.step = 13 ∧ m.f F.SYS_START.STATE = 2) ∧
  ∀ (s : State) (l : LaneId) (t : Nat) (d : Fin 9), let n := s.laneAt l t
    let lat := n.f (F.PWR_Dd_LAT.LAT d)
    n.sys.powered = true → d.val ≠ 0 →
    (n.domState d = 0 → n.held d = false → 9 ≤ n.sys.step → n.on (F.PWR_Dd_ALLOW.OFF d) = true → lat ≠ 0 →
      n.f (F.PWR_Dd_EXIT.XOFF d) ≤ lat →
      ∃ m, exec (.idleCountExpiry l t d) s = .next (s.setLane l m) ∧ m.domState d = 3 ∧ m.f (F.PWR_Dd_STAT.TARGET d) = 2) ∧
    (n.domState d = 3 → Cells.get 0 n.pwr.entT d + 400 ≤ n.now → n.pwr.late.contains d.val = false → n.on (F.PWR_Dd_STAT.PVAL d) = false →
      n.targetOf d ≠ 0 → n.targetOf d = n.f (F.PWR_Dd_STAT.TARGET d) →
      ∃ m, exec (.domainEntryComplete l t d) s = .next (s.setLane l m) ∧ m.domState d = n.f (F.PWR_Dd_STAT.TARGET d)) ∧
    (n.domState d = 4 → 9 ≤ n.sys.step → n.sys.selfTest = none → n.pwr.stalled = [] → n.on (F.PWR_Dd_STAT.PVAL d) = false →
      Cells.get 0 n.pwr.leaving d = 1 → n.on F.CLK_STAT.LOCK = true → n.on F.CLK_STAT.REF = true → n.on F.CLK_STAT.GLIDE = false →
      Cells.get 0 n.pwr.exitT d + 400 * n.f (F.PWR_Dd_EXIT.XRET d) ≤ n.now →
      ∃ m, exec (.domainExitComplete l t d) s = .next (s.setLane l m) ∧ m.domState d = 0) ∧
    (n.domState d = 4 → n.sys.selfTest = none → Cells.get 0 n.pwr.dueT d ≤ n.now →
      ∃ m, exec (.domainExitTimeout l t d) s = .next (s.setLane l m) ∧ m.domState d = 4 ∧
        m.f (F.PWR_Dd_CNT.FAILS d) = min 255 (n.f (F.PWR_Dd_CNT.FAILS d) + 1))
end

