-- ==== Sys2Proof/Laws/Cells.lean ====
section
/-! SUPPORT. Sparse storage: what each operation leaves at each key, and that the canonical form is kept. -/

namespace Sys2Proof.Machine

variable {α : Type}

@[simp] theorem Cells.get_nil (d : α) (k : Nat) : Cells.get d [] k = d := rfl

theorem Cells.get_put (d : α) (m : List (Nat × α)) (k j : Nat) (v : α) :
    Cells.get d (Cells.put m k v) j = if j = k then v else Cells.get d m j := by
  induction m with
  | nil => simp [Cells.put, Cells.get]
  | cons c m ih =>
    obtain ⟨a, w⟩ := c
    simp only [Cells.put]
    split
    · simp [Cells.get]
    · split
      · subst_vars; simp [Cells.get]; split <;> simp_all
      · simp only [Cells.get, ih]; split <;> split <;> simp_all

theorem Cells.get_erase (d : α) (m : List (Nat × α)) (k j : Nat) :
    Cells.get d (Cells.erase m k) j = if j = k then d else Cells.get d m j := by
  induction m with
  | nil => simp [Cells.erase, Cells.get]
  | cons c m ih =>
    obtain ⟨a, w⟩ := c
    simp only [Cells.erase, Cells.get]
    split
    · subst_vars; rw [ih]; split <;> simp_all
    · simp only [Cells.get, ih]; split <;> split <;> simp_all

/-- A read after a write: the value written at its key, everything else as before. -/
theorem Cells.get_set [DecidableEq α] (d : α) (m : List (Nat × α)) (k j : Nat) (v : α) :
    Cells.get d (Cells.set d m k v) j = if j = k then v else Cells.get d m j := by
  unfold Cells.set
  split
  · subst_vars; exact Cells.get_erase _ _ _ _
  · exact Cells.get_put _ _ _ _ _

/-- A write at one key leaves every other key, whatever they read as when unlisted. -/
theorem Cells.get_set_ne [DecidableEq α] (d e : α) (m : List (Nat × α)) {k j : Nat} (v : α) (h : j ≠ k) :
    Cells.get e (Cells.set d m k v) j = Cells.get e m j := by
  unfold Cells.set
  split
  · rw [Cells.get_erase, if_neg h]
  · rw [Cells.get_put, if_neg h]

theorem Cells.get_clear (d : α) (lo hi : Nat) (m : List (Nat × α)) (j : Nat) :
    Cells.get d (Cells.clear lo hi m) j = if lo ≤ j ∧ j < hi then d else Cells.get d m j := by
  induction m with
  | nil => simp [Cells.clear]
  | cons c m ih =>
    obtain ⟨a, w⟩ := c
    simp only [Cells.clear, List.filter_cons] at ih ⊢
    by_cases h : lo ≤ a ∧ a < hi
    · have e : (!(decide (lo ≤ a) && decide (a < hi))) = false := by simp [h.1, h.2]
      simp only [e, Bool.false_eq_true, if_false, Cells.get]
      rw [ih]
      split
      · rfl
      · rw [if_neg (by rintro rfl; contradiction)]
    · have e : (!(decide (lo ≤ a) && decide (a < hi))) = true := by
        simp only [Bool.not_eq_true', Bool.and_eq_false_iff, decide_eq_false_iff_not]; omega
      simp only [e, if_true, Cells.get]
      rw [ih]
      by_cases hj : j = a
      · subst hj; simp [h]
      · simp [hj]

/-! ## The canonical form -/

/-- Every key of the cells is above `a`. -/
def Cells.above (a : Nat) (m : List (Nat × α)) : Prop := ∀ c ∈ m, a < c.1

theorem Cells.rising_cons {a : Nat} {w : α} {m : List (Nat × α)} :
    Cells.rising ((a, w) :: m) = true ↔ Cells.above a m ∧ Cells.rising m = true := by
  induction m generalizing a w with
  | nil => simp [Cells.rising, Cells.above]
  | cons c m ih =>
    obtain ⟨b, x⟩ := c
    rw [Cells.rising, Bool.and_eq_true, decide_eq_true_eq, ih]
    constructor
    · rintro ⟨h, h1, h2⟩
      exact ⟨fun c hc => by
        rcases List.mem_cons.1 hc with rfl | hc
        · exact h
        · exact lt_trans h (h1 c hc), h1, h2⟩
    · rintro ⟨h, h1, h2⟩
      exact ⟨h (b, x) (by simp), h1, h2⟩

theorem Cells.above_erase {a k : Nat} {m : List (Nat × α)} (h : Cells.above a m) : Cells.above a (Cells.erase m k) := by
  induction m with
  | nil => exact h
  | cons c m ih =>
    obtain ⟨b, x⟩ := c
    simp only [Cells.erase]
    have h1 : Cells.above a m := fun c hc => h c (by simp [hc])
    split
    · exact ih h1
    · intro c hc
      rcases List.mem_cons.1 hc with rfl | hc
      · exact h (b, x) (by simp)
      · exact ih h1 c hc

theorem Cells.above_put {a k : Nat} {v : α} {m : List (Nat × α)} (h : Cells.above a m) (hk : a < k) : Cells.above a (Cells.put m k v) := by
  induction m with
  | nil => intro c hc; simp [Cells.put] at hc; subst hc; exact hk
  | cons c m ih =>
    obtain ⟨b, x⟩ := c
    have h1 : Cells.above a m := fun c hc => h c (by simp [hc])
    have hb : a < b := h (b, x) (by simp)
    simp only [Cells.put]
    split
    · intro c hc
      rcases List.mem_cons.1 hc with rfl | hc
      · exact hk
      · exact h c hc
    · split
      · intro c hc
        rcases List.mem_cons.1 hc with rfl | hc
        · exact hk
        · exact h1 c hc
      · intro c hc
        rcases List.mem_cons.1 hc with rfl | hc
        · exact hb
        · exact ih h1 c hc

theorem Cells.rising_erase {m : List (Nat × α)} (k : Nat) (h : Cells.rising m = true) : Cells.rising (Cells.erase m k) = true := by
  induction m with
  | nil => rfl
  | cons c m ih =>
    obtain ⟨a, w⟩ := c
    obtain ⟨h1, h2⟩ := Cells.rising_cons.1 h
    simp only [Cells.erase]
    split
    · exact ih h2
    · exact Cells.rising_cons.2 ⟨Cells.above_erase h1, ih h2⟩

theorem Cells.rising_put {m : List (Nat × α)} (k : Nat) (v : α) (h : Cells.rising m = true) : Cells.rising (Cells.put m k v) = true := by
  induction m with
  | nil => rfl
  | cons c m ih =>
    obtain ⟨a, w⟩ := c
    obtain ⟨h1, h2⟩ := Cells.rising_cons.1 h
    simp only [Cells.put]
    split
    · next hk =>
      refine Cells.rising_cons.2 ⟨fun c hc => ?_, h⟩
      rcases List.mem_cons.1 hc with rfl | hc
      · exact hk
      · exact lt_trans hk (h1 c hc)
    · split
      · next hk => subst hk; exact Cells.rising_cons.2 ⟨h1, h2⟩
      · exact Cells.rising_cons.2 ⟨Cells.above_put h1 (by omega), ih h2⟩

theorem Cells.mem_erase {m : List (Nat × α)} {k : Nat} {c : Nat × α} (h : c ∈ Cells.erase m k) : c ∈ m := by
  induction m with
  | nil => exact h
  | cons e m ih =>
    obtain ⟨a, w⟩ := e
    simp only [Cells.erase] at h
    split at h
    · exact List.mem_cons_of_mem _ (ih h)
    · rcases List.mem_cons.1 h with rfl | h
      · exact List.mem_cons_self ..
      · exact List.mem_cons_of_mem _ (ih h)

theorem Cells.mem_put {m : List (Nat × α)} {k : Nat} {v : α} {c : Nat × α} (h : c ∈ Cells.put m k v) : c = (k, v) ∨ c ∈ m := by
  induction m with
  | nil => simpa [Cells.put] using h
  | cons e m ih =>
    obtain ⟨a, w⟩ := e
    simp only [Cells.put] at h
    split at h
    · simpa using h
    · split at h
      · rcases List.mem_cons.1 h with rfl | h
        · exact .inl rfl
        · exact .inr (by simp [h])
      · rcases List.mem_cons.1 h with rfl | h
        · exact .inr (by simp)
        · rcases ih h with h | h
          · exact .inl h
          · exact .inr (by simp [h])

theorem Cells.wf_nil [DecidableEq α] (d : Nat → α) : Cells.wf d ([] : List (Nat × α)) = true := rfl

/-- A write keeps the canonical form. -/
theorem Cells.wf_set [DecidableEq α] {d : Nat → α} {m : List (Nat × α)} (h : Cells.wf d m = true) (k : Nat) (v : α) :
    Cells.wf d (Cells.set (d k) m k v) = true := by
  simp only [Cells.wf, Bool.and_eq_true, List.all_eq_true, decide_eq_true_eq] at h ⊢
  unfold Cells.set
  split
  · exact ⟨Cells.rising_erase k h.1, fun c hc => h.2 c (Cells.mem_erase hc)⟩
  · next hv =>
    refine ⟨Cells.rising_put k v h.1, fun c hc => ?_⟩
    rcases Cells.mem_put hc with rfl | hc
    · exact hv
    · exact h.2 c hc

theorem Cells.rising_filter {m : List (Nat × α)} (p : Nat × α → Bool) (h : Cells.rising m = true) : Cells.rising (m.filter p) = true := by
  induction m with
  | nil => rfl
  | cons c m ih =>
    obtain ⟨a, w⟩ := c
    obtain ⟨h1, h2⟩ := Cells.rising_cons.1 h
    rw [List.filter_cons]
    split
    · exact Cells.rising_cons.2 ⟨fun c hc => h1 c (List.mem_of_mem_filter hc), ih h2⟩
    · exact ih h2

/-- Returning a range to unlisted keeps the canonical form. -/
theorem Cells.wf_clear [DecidableEq α] {d : Nat → α} {m : List (Nat × α)} (h : Cells.wf d m = true) (lo hi : Nat) :
    Cells.wf d (Cells.clear lo hi m) = true := by
  simp only [Cells.wf, Bool.and_eq_true, List.all_eq_true, decide_eq_true_eq] at h ⊢
  exact ⟨Cells.rising_filter _ h.1, fun c hc => h.2 c (List.mem_of_mem_filter hc)⟩

end Sys2Proof.Machine
end

