-- ==== Sys2Proof/Laws/State.lean ====
section
/-! SUPPORT. What each update of a lane and of the package leaves: one lemma for each update and each field. -/

namespace Sys2Proof.Machine

@[simp] theorem Lane.upKst_id (n : Lane) (g : KstState → KstState) : (n.upKst g).id = n.id := rfl
@[simp] theorem Lane.upKst_now (n : Lane) (g : KstState → KstState) : (n.upKst g).now = n.now := rfl
@[simp] theorem Lane.upKst_regs (n : Lane) (g : KstState → KstState) : (n.upKst g).regs = n.regs := rfl
@[simp] theorem Lane.upKst_kst (n : Lane) (g : KstState → KstState) : (n.upKst g).kst = g n.kst := rfl
@[simp] theorem Lane.upKst_oap (n : Lane) (g : KstState → KstState) : (n.upKst g).oap = n.oap := rfl
@[simp] theorem Lane.upKst_pwr (n : Lane) (g : KstState → KstState) : (n.upKst g).pwr = n.pwr := rfl
@[simp] theorem Lane.upKst_pwm (n : Lane) (g : KstState → KstState) : (n.upKst g).pwm = n.pwm := rfl
@[simp] theorem Lane.upKst_gdv (n : Lane) (g : KstState → KstState) : (n.upKst g).gdv = n.gdv := rfl
@[simp] theorem Lane.upKst_fbi (n : Lane) (g : KstState → KstState) : (n.upKst g).fbi = n.fbi := rfl
@[simp] theorem Lane.upKst_adc (n : Lane) (g : KstState → KstState) : (n.upKst g).adc = n.adc := rfl
@[simp] theorem Lane.upKst_cfe (n : Lane) (g : KstState → KstState) : (n.upKst g).cfe = n.cfe := rfl
@[simp] theorem Lane.upKst_cle (n : Lane) (g : KstState → KstState) : (n.upKst g).cle = n.cle := rfl
@[simp] theorem Lane.upKst_tpe (n : Lane) (g : KstState → KstState) : (n.upKst g).tpe = n.tpe := rfl
@[simp] theorem Lane.upKst_saf (n : Lane) (g : KstState → KstState) : (n.upKst g).saf = n.saf := rfl
@[simp] theorem Lane.upKst_sys (n : Lane) (g : KstState → KstState) : (n.upKst g).sys = n.sys := rfl
@[simp] theorem Lane.upKst_mram (n : Lane) (g : KstState → KstState) : (n.upKst g).mram = n.mram := rfl
@[simp] theorem Lane.upKst_can (n : Lane) (g : KstState → KstState) : (n.upKst g).can = n.can := rfl
@[simp] theorem Lane.upKst_hst (n : Lane) (g : KstState → KstState) : (n.upKst g).hst = n.hst := rfl
@[simp] theorem Lane.upKst_lnt (n : Lane) (g : KstState → KstState) : (n.upKst g).lnt = n.lnt := rfl
@[simp] theorem Lane.upKst_upd (n : Lane) (g : KstState → KstState) : (n.upKst g).upd = n.upd := rfl

@[simp] theorem Lane.upOap_id (n : Lane) (g : OapState → OapState) : (n.upOap g).id = n.id := rfl
@[simp] theorem Lane.upOap_now (n : Lane) (g : OapState → OapState) : (n.upOap g).now = n.now := rfl
@[simp] theorem Lane.upOap_regs (n : Lane) (g : OapState → OapState) : (n.upOap g).regs = n.regs := rfl
@[simp] theorem Lane.upOap_kst (n : Lane) (g : OapState → OapState) : (n.upOap g).kst = n.kst := rfl
@[simp] theorem Lane.upOap_oap (n : Lane) (g : OapState → OapState) : (n.upOap g).oap = g n.oap := rfl
@[simp] theorem Lane.upOap_pwr (n : Lane) (g : OapState → OapState) : (n.upOap g).pwr = n.pwr := rfl
@[simp] theorem Lane.upOap_pwm (n : Lane) (g : OapState → OapState) : (n.upOap g).pwm = n.pwm := rfl
@[simp] theorem Lane.upOap_gdv (n : Lane) (g : OapState → OapState) : (n.upOap g).gdv = n.gdv := rfl
@[simp] theorem Lane.upOap_fbi (n : Lane) (g : OapState → OapState) : (n.upOap g).fbi = n.fbi := rfl
@[simp] theorem Lane.upOap_adc (n : Lane) (g : OapState → OapState) : (n.upOap g).adc = n.adc := rfl
@[simp] theorem Lane.upOap_cfe (n : Lane) (g : OapState → OapState) : (n.upOap g).cfe = n.cfe := rfl
@[simp] theorem Lane.upOap_cle (n : Lane) (g : OapState → OapState) : (n.upOap g).cle = n.cle := rfl
@[simp] theorem Lane.upOap_tpe (n : Lane) (g : OapState → OapState) : (n.upOap g).tpe = n.tpe := rfl
@[simp] theorem Lane.upOap_saf (n : Lane) (g : OapState → OapState) : (n.upOap g).saf = n.saf := rfl
@[simp] theorem Lane.upOap_sys (n : Lane) (g : OapState → OapState) : (n.upOap g).sys = n.sys := rfl
@[simp] theorem Lane.upOap_mram (n : Lane) (g : OapState → OapState) : (n.upOap g).mram = n.mram := rfl
@[simp] theorem Lane.upOap_can (n : Lane) (g : OapState → OapState) : (n.upOap g).can = n.can := rfl
@[simp] theorem Lane.upOap_hst (n : Lane) (g : OapState → OapState) : (n.upOap g).hst = n.hst := rfl
@[simp] theorem Lane.upOap_lnt (n : Lane) (g : OapState → OapState) : (n.upOap g).lnt = n.lnt := rfl
@[simp] theorem Lane.upOap_upd (n : Lane) (g : OapState → OapState) : (n.upOap g).upd = n.upd := rfl

@[simp] theorem Lane.upPwr_id (n : Lane) (g : PwrState → PwrState) : (n.upPwr g).id = n.id := rfl
@[simp] theorem Lane.upPwr_now (n : Lane) (g : PwrState → PwrState) : (n.upPwr g).now = n.now := rfl
@[simp] theorem Lane.upPwr_regs (n : Lane) (g : PwrState → PwrState) : (n.upPwr g).regs = n.regs := rfl
@[simp] theorem Lane.upPwr_kst (n : Lane) (g : PwrState → PwrState) : (n.upPwr g).kst = n.kst := rfl
@[simp] theorem Lane.upPwr_oap (n : Lane) (g : PwrState → PwrState) : (n.upPwr g).oap = n.oap := rfl
@[simp] theorem Lane.upPwr_pwr (n : Lane) (g : PwrState → PwrState) : (n.upPwr g).pwr = g n.pwr := rfl
@[simp] theorem Lane.upPwr_pwm (n : Lane) (g : PwrState → PwrState) : (n.upPwr g).pwm = n.pwm := rfl
@[simp] theorem Lane.upPwr_gdv (n : Lane) (g : PwrState → PwrState) : (n.upPwr g).gdv = n.gdv := rfl
@[simp] theorem Lane.upPwr_fbi (n : Lane) (g : PwrState → PwrState) : (n.upPwr g).fbi = n.fbi := rfl
@[simp] theorem Lane.upPwr_adc (n : Lane) (g : PwrState → PwrState) : (n.upPwr g).adc = n.adc := rfl
@[simp] theorem Lane.upPwr_cfe (n : Lane) (g : PwrState → PwrState) : (n.upPwr g).cfe = n.cfe := rfl
@[simp] theorem Lane.upPwr_cle (n : Lane) (g : PwrState → PwrState) : (n.upPwr g).cle = n.cle := rfl
@[simp] theorem Lane.upPwr_tpe (n : Lane) (g : PwrState → PwrState) : (n.upPwr g).tpe = n.tpe := rfl
@[simp] theorem Lane.upPwr_saf (n : Lane) (g : PwrState → PwrState) : (n.upPwr g).saf = n.saf := rfl
@[simp] theorem Lane.upPwr_sys (n : Lane) (g : PwrState → PwrState) : (n.upPwr g).sys = n.sys := rfl
@[simp] theorem Lane.upPwr_mram (n : Lane) (g : PwrState → PwrState) : (n.upPwr g).mram = n.mram := rfl
@[simp] theorem Lane.upPwr_can (n : Lane) (g : PwrState → PwrState) : (n.upPwr g).can = n.can := rfl
@[simp] theorem Lane.upPwr_hst (n : Lane) (g : PwrState → PwrState) : (n.upPwr g).hst = n.hst := rfl
@[simp] theorem Lane.upPwr_lnt (n : Lane) (g : PwrState → PwrState) : (n.upPwr g).lnt = n.lnt := rfl
@[simp] theorem Lane.upPwr_upd (n : Lane) (g : PwrState → PwrState) : (n.upPwr g).upd = n.upd := rfl

@[simp] theorem Lane.upPwm_id (n : Lane) (g : PwmState → PwmState) : (n.upPwm g).id = n.id := rfl
@[simp] theorem Lane.upPwm_now (n : Lane) (g : PwmState → PwmState) : (n.upPwm g).now = n.now := rfl
@[simp] theorem Lane.upPwm_regs (n : Lane) (g : PwmState → PwmState) : (n.upPwm g).regs = n.regs := rfl
@[simp] theorem Lane.upPwm_kst (n : Lane) (g : PwmState → PwmState) : (n.upPwm g).kst = n.kst := rfl
@[simp] theorem Lane.upPwm_oap (n : Lane) (g : PwmState → PwmState) : (n.upPwm g).oap = n.oap := rfl
@[simp] theorem Lane.upPwm_pwr (n : Lane) (g : PwmState → PwmState) : (n.upPwm g).pwr = n.pwr := rfl
@[simp] theorem Lane.upPwm_pwm (n : Lane) (g : PwmState → PwmState) : (n.upPwm g).pwm = g n.pwm := rfl
@[simp] theorem Lane.upPwm_gdv (n : Lane) (g : PwmState → PwmState) : (n.upPwm g).gdv = n.gdv := rfl
@[simp] theorem Lane.upPwm_fbi (n : Lane) (g : PwmState → PwmState) : (n.upPwm g).fbi = n.fbi := rfl
@[simp] theorem Lane.upPwm_adc (n : Lane) (g : PwmState → PwmState) : (n.upPwm g).adc = n.adc := rfl
@[simp] theorem Lane.upPwm_cfe (n : Lane) (g : PwmState → PwmState) : (n.upPwm g).cfe = n.cfe := rfl
@[simp] theorem Lane.upPwm_cle (n : Lane) (g : PwmState → PwmState) : (n.upPwm g).cle = n.cle := rfl
@[simp] theorem Lane.upPwm_tpe (n : Lane) (g : PwmState → PwmState) : (n.upPwm g).tpe = n.tpe := rfl
@[simp] theorem Lane.upPwm_saf (n : Lane) (g : PwmState → PwmState) : (n.upPwm g).saf = n.saf := rfl
@[simp] theorem Lane.upPwm_sys (n : Lane) (g : PwmState → PwmState) : (n.upPwm g).sys = n.sys := rfl
@[simp] theorem Lane.upPwm_mram (n : Lane) (g : PwmState → PwmState) : (n.upPwm g).mram = n.mram := rfl
@[simp] theorem Lane.upPwm_can (n : Lane) (g : PwmState → PwmState) : (n.upPwm g).can = n.can := rfl
@[simp] theorem Lane.upPwm_hst (n : Lane) (g : PwmState → PwmState) : (n.upPwm g).hst = n.hst := rfl
@[simp] theorem Lane.upPwm_lnt (n : Lane) (g : PwmState → PwmState) : (n.upPwm g).lnt = n.lnt := rfl
@[simp] theorem Lane.upPwm_upd (n : Lane) (g : PwmState → PwmState) : (n.upPwm g).upd = n.upd := rfl

@[simp] theorem Lane.upGdv_id (n : Lane) (g : GdvState → GdvState) : (n.upGdv g).id = n.id := rfl
@[simp] theorem Lane.upGdv_now (n : Lane) (g : GdvState → GdvState) : (n.upGdv g).now = n.now := rfl
@[simp] theorem Lane.upGdv_regs (n : Lane) (g : GdvState → GdvState) : (n.upGdv g).regs = n.regs := rfl
@[simp] theorem Lane.upGdv_kst (n : Lane) (g : GdvState → GdvState) : (n.upGdv g).kst = n.kst := rfl
@[simp] theorem Lane.upGdv_oap (n : Lane) (g : GdvState → GdvState) : (n.upGdv g).oap = n.oap := rfl
@[simp] theorem Lane.upGdv_pwr (n : Lane) (g : GdvState → GdvState) : (n.upGdv g).pwr = n.pwr := rfl
@[simp] theorem Lane.upGdv_pwm (n : Lane) (g : GdvState → GdvState) : (n.upGdv g).pwm = n.pwm := rfl
@[simp] theorem Lane.upGdv_gdv (n : Lane) (g : GdvState → GdvState) : (n.upGdv g).gdv = g n.gdv := rfl
@[simp] theorem Lane.upGdv_fbi (n : Lane) (g : GdvState → GdvState) : (n.upGdv g).fbi = n.fbi := rfl
@[simp] theorem Lane.upGdv_adc (n : Lane) (g : GdvState → GdvState) : (n.upGdv g).adc = n.adc := rfl
@[simp] theorem Lane.upGdv_cfe (n : Lane) (g : GdvState → GdvState) : (n.upGdv g).cfe = n.cfe := rfl
@[simp] theorem Lane.upGdv_cle (n : Lane) (g : GdvState → GdvState) : (n.upGdv g).cle = n.cle := rfl
@[simp] theorem Lane.upGdv_tpe (n : Lane) (g : GdvState → GdvState) : (n.upGdv g).tpe = n.tpe := rfl
@[simp] theorem Lane.upGdv_saf (n : Lane) (g : GdvState → GdvState) : (n.upGdv g).saf = n.saf := rfl
@[simp] theorem Lane.upGdv_sys (n : Lane) (g : GdvState → GdvState) : (n.upGdv g).sys = n.sys := rfl
@[simp] theorem Lane.upGdv_mram (n : Lane) (g : GdvState → GdvState) : (n.upGdv g).mram = n.mram := rfl
@[simp] theorem Lane.upGdv_can (n : Lane) (g : GdvState → GdvState) : (n.upGdv g).can = n.can := rfl
@[simp] theorem Lane.upGdv_hst (n : Lane) (g : GdvState → GdvState) : (n.upGdv g).hst = n.hst := rfl
@[simp] theorem Lane.upGdv_lnt (n : Lane) (g : GdvState → GdvState) : (n.upGdv g).lnt = n.lnt := rfl
@[simp] theorem Lane.upGdv_upd (n : Lane) (g : GdvState → GdvState) : (n.upGdv g).upd = n.upd := rfl

@[simp] theorem Lane.upFbi_id (n : Lane) (g : FbiState → FbiState) : (n.upFbi g).id = n.id := rfl
@[simp] theorem Lane.upFbi_now (n : Lane) (g : FbiState → FbiState) : (n.upFbi g).now = n.now := rfl
@[simp] theorem Lane.upFbi_regs (n : Lane) (g : FbiState → FbiState) : (n.upFbi g).regs = n.regs := rfl
@[simp] theorem Lane.upFbi_kst (n : Lane) (g : FbiState → FbiState) : (n.upFbi g).kst = n.kst := rfl
@[simp] theorem Lane.upFbi_oap (n : Lane) (g : FbiState → FbiState) : (n.upFbi g).oap = n.oap := rfl
@[simp] theorem Lane.upFbi_pwr (n : Lane) (g : FbiState → FbiState) : (n.upFbi g).pwr = n.pwr := rfl
@[simp] theorem Lane.upFbi_pwm (n : Lane) (g : FbiState → FbiState) : (n.upFbi g).pwm = n.pwm := rfl
@[simp] theorem Lane.upFbi_gdv (n : Lane) (g : FbiState → FbiState) : (n.upFbi g).gdv = n.gdv := rfl
@[simp] theorem Lane.upFbi_fbi (n : Lane) (g : FbiState → FbiState) : (n.upFbi g).fbi = g n.fbi := rfl
@[simp] theorem Lane.upFbi_adc (n : Lane) (g : FbiState → FbiState) : (n.upFbi g).adc = n.adc := rfl
@[simp] theorem Lane.upFbi_cfe (n : Lane) (g : FbiState → FbiState) : (n.upFbi g).cfe = n.cfe := rfl
@[simp] theorem Lane.upFbi_cle (n : Lane) (g : FbiState → FbiState) : (n.upFbi g).cle = n.cle := rfl
@[simp] theorem Lane.upFbi_tpe (n : Lane) (g : FbiState → FbiState) : (n.upFbi g).tpe = n.tpe := rfl
@[simp] theorem Lane.upFbi_saf (n : Lane) (g : FbiState → FbiState) : (n.upFbi g).saf = n.saf := rfl
@[simp] theorem Lane.upFbi_sys (n : Lane) (g : FbiState → FbiState) : (n.upFbi g).sys = n.sys := rfl
@[simp] theorem Lane.upFbi_mram (n : Lane) (g : FbiState → FbiState) : (n.upFbi g).mram = n.mram := rfl
@[simp] theorem Lane.upFbi_can (n : Lane) (g : FbiState → FbiState) : (n.upFbi g).can = n.can := rfl
@[simp] theorem Lane.upFbi_hst (n : Lane) (g : FbiState → FbiState) : (n.upFbi g).hst = n.hst := rfl
@[simp] theorem Lane.upFbi_lnt (n : Lane) (g : FbiState → FbiState) : (n.upFbi g).lnt = n.lnt := rfl
@[simp] theorem Lane.upFbi_upd (n : Lane) (g : FbiState → FbiState) : (n.upFbi g).upd = n.upd := rfl

@[simp] theorem Lane.upAdc_id (n : Lane) (g : AdcState → AdcState) : (n.upAdc g).id = n.id := rfl
@[simp] theorem Lane.upAdc_now (n : Lane) (g : AdcState → AdcState) : (n.upAdc g).now = n.now := rfl
@[simp] theorem Lane.upAdc_regs (n : Lane) (g : AdcState → AdcState) : (n.upAdc g).regs = n.regs := rfl
@[simp] theorem Lane.upAdc_kst (n : Lane) (g : AdcState → AdcState) : (n.upAdc g).kst = n.kst := rfl
@[simp] theorem Lane.upAdc_oap (n : Lane) (g : AdcState → AdcState) : (n.upAdc g).oap = n.oap := rfl
@[simp] theorem Lane.upAdc_pwr (n : Lane) (g : AdcState → AdcState) : (n.upAdc g).pwr = n.pwr := rfl
@[simp] theorem Lane.upAdc_pwm (n : Lane) (g : AdcState → AdcState) : (n.upAdc g).pwm = n.pwm := rfl
@[simp] theorem Lane.upAdc_gdv (n : Lane) (g : AdcState → AdcState) : (n.upAdc g).gdv = n.gdv := rfl
@[simp] theorem Lane.upAdc_fbi (n : Lane) (g : AdcState → AdcState) : (n.upAdc g).fbi = n.fbi := rfl
@[simp] theorem Lane.upAdc_adc (n : Lane) (g : AdcState → AdcState) : (n.upAdc g).adc = g n.adc := rfl
@[simp] theorem Lane.upAdc_cfe (n : Lane) (g : AdcState → AdcState) : (n.upAdc g).cfe = n.cfe := rfl
@[simp] theorem Lane.upAdc_cle (n : Lane) (g : AdcState → AdcState) : (n.upAdc g).cle = n.cle := rfl
@[simp] theorem Lane.upAdc_tpe (n : Lane) (g : AdcState → AdcState) : (n.upAdc g).tpe = n.tpe := rfl
@[simp] theorem Lane.upAdc_saf (n : Lane) (g : AdcState → AdcState) : (n.upAdc g).saf = n.saf := rfl
@[simp] theorem Lane.upAdc_sys (n : Lane) (g : AdcState → AdcState) : (n.upAdc g).sys = n.sys := rfl
@[simp] theorem Lane.upAdc_mram (n : Lane) (g : AdcState → AdcState) : (n.upAdc g).mram = n.mram := rfl
@[simp] theorem Lane.upAdc_can (n : Lane) (g : AdcState → AdcState) : (n.upAdc g).can = n.can := rfl
@[simp] theorem Lane.upAdc_hst (n : Lane) (g : AdcState → AdcState) : (n.upAdc g).hst = n.hst := rfl
@[simp] theorem Lane.upAdc_lnt (n : Lane) (g : AdcState → AdcState) : (n.upAdc g).lnt = n.lnt := rfl
@[simp] theorem Lane.upAdc_upd (n : Lane) (g : AdcState → AdcState) : (n.upAdc g).upd = n.upd := rfl

@[simp] theorem Lane.upCfe_id (n : Lane) (g : CfeState → CfeState) : (n.upCfe g).id = n.id := rfl
@[simp] theorem Lane.upCfe_now (n : Lane) (g : CfeState → CfeState) : (n.upCfe g).now = n.now := rfl
@[simp] theorem Lane.upCfe_regs (n : Lane) (g : CfeState → CfeState) : (n.upCfe g).regs = n.regs := rfl
@[simp] theorem Lane.upCfe_kst (n : Lane) (g : CfeState → CfeState) : (n.upCfe g).kst = n.kst := rfl
@[simp] theorem Lane.upCfe_oap (n : Lane) (g : CfeState → CfeState) : (n.upCfe g).oap = n.oap := rfl
@[simp] theorem Lane.upCfe_pwr (n : Lane) (g : CfeState → CfeState) : (n.upCfe g).pwr = n.pwr := rfl
@[simp] theorem Lane.upCfe_pwm (n : Lane) (g : CfeState → CfeState) : (n.upCfe g).pwm = n.pwm := rfl
@[simp] theorem Lane.upCfe_gdv (n : Lane) (g : CfeState → CfeState) : (n.upCfe g).gdv = n.gdv := rfl
@[simp] theorem Lane.upCfe_fbi (n : Lane) (g : CfeState → CfeState) : (n.upCfe g).fbi = n.fbi := rfl
@[simp] theorem Lane.upCfe_adc (n : Lane) (g : CfeState → CfeState) : (n.upCfe g).adc = n.adc := rfl
@[simp] theorem Lane.upCfe_cfe (n : Lane) (g : CfeState → CfeState) : (n.upCfe g).cfe = g n.cfe := rfl
@[simp] theorem Lane.upCfe_cle (n : Lane) (g : CfeState → CfeState) : (n.upCfe g).cle = n.cle := rfl
@[simp] theorem Lane.upCfe_tpe (n : Lane) (g : CfeState → CfeState) : (n.upCfe g).tpe = n.tpe := rfl
@[simp] theorem Lane.upCfe_saf (n : Lane) (g : CfeState → CfeState) : (n.upCfe g).saf = n.saf := rfl
@[simp] theorem Lane.upCfe_sys (n : Lane) (g : CfeState → CfeState) : (n.upCfe g).sys = n.sys := rfl
@[simp] theorem Lane.upCfe_mram (n : Lane) (g : CfeState → CfeState) : (n.upCfe g).mram = n.mram := rfl
@[simp] theorem Lane.upCfe_can (n : Lane) (g : CfeState → CfeState) : (n.upCfe g).can = n.can := rfl
@[simp] theorem Lane.upCfe_hst (n : Lane) (g : CfeState → CfeState) : (n.upCfe g).hst = n.hst := rfl
@[simp] theorem Lane.upCfe_lnt (n : Lane) (g : CfeState → CfeState) : (n.upCfe g).lnt = n.lnt := rfl
@[simp] theorem Lane.upCfe_upd (n : Lane) (g : CfeState → CfeState) : (n.upCfe g).upd = n.upd := rfl

@[simp] theorem Lane.upCle_id (n : Lane) (g : CleState → CleState) : (n.upCle g).id = n.id := rfl
@[simp] theorem Lane.upCle_now (n : Lane) (g : CleState → CleState) : (n.upCle g).now = n.now := rfl
@[simp] theorem Lane.upCle_regs (n : Lane) (g : CleState → CleState) : (n.upCle g).regs = n.regs := rfl
@[simp] theorem Lane.upCle_kst (n : Lane) (g : CleState → CleState) : (n.upCle g).kst = n.kst := rfl
@[simp] theorem Lane.upCle_oap (n : Lane) (g : CleState → CleState) : (n.upCle g).oap = n.oap := rfl
@[simp] theorem Lane.upCle_pwr (n : Lane) (g : CleState → CleState) : (n.upCle g).pwr = n.pwr := rfl
@[simp] theorem Lane.upCle_pwm (n : Lane) (g : CleState → CleState) : (n.upCle g).pwm = n.pwm := rfl
@[simp] theorem Lane.upCle_gdv (n : Lane) (g : CleState → CleState) : (n.upCle g).gdv = n.gdv := rfl
@[simp] theorem Lane.upCle_fbi (n : Lane) (g : CleState → CleState) : (n.upCle g).fbi = n.fbi := rfl
@[simp] theorem Lane.upCle_adc (n : Lane) (g : CleState → CleState) : (n.upCle g).adc = n.adc := rfl
@[simp] theorem Lane.upCle_cfe (n : Lane) (g : CleState → CleState) : (n.upCle g).cfe = n.cfe := rfl
@[simp] theorem Lane.upCle_cle (n : Lane) (g : CleState → CleState) : (n.upCle g).cle = g n.cle := rfl
@[simp] theorem Lane.upCle_tpe (n : Lane) (g : CleState → CleState) : (n.upCle g).tpe = n.tpe := rfl
@[simp] theorem Lane.upCle_saf (n : Lane) (g : CleState → CleState) : (n.upCle g).saf = n.saf := rfl
@[simp] theorem Lane.upCle_sys (n : Lane) (g : CleState → CleState) : (n.upCle g).sys = n.sys := rfl
@[simp] theorem Lane.upCle_mram (n : Lane) (g : CleState → CleState) : (n.upCle g).mram = n.mram := rfl
@[simp] theorem Lane.upCle_can (n : Lane) (g : CleState → CleState) : (n.upCle g).can = n.can := rfl
@[simp] theorem Lane.upCle_hst (n : Lane) (g : CleState → CleState) : (n.upCle g).hst = n.hst := rfl
@[simp] theorem Lane.upCle_lnt (n : Lane) (g : CleState → CleState) : (n.upCle g).lnt = n.lnt := rfl
@[simp] theorem Lane.upCle_upd (n : Lane) (g : CleState → CleState) : (n.upCle g).upd = n.upd := rfl

@[simp] theorem Lane.upTpe_id (n : Lane) (g : TpeState → TpeState) : (n.upTpe g).id = n.id := rfl
@[simp] theorem Lane.upTpe_now (n : Lane) (g : TpeState → TpeState) : (n.upTpe g).now = n.now := rfl
@[simp] theorem Lane.upTpe_regs (n : Lane) (g : TpeState → TpeState) : (n.upTpe g).regs = n.regs := rfl
@[simp] theorem Lane.upTpe_kst (n : Lane) (g : TpeState → TpeState) : (n.upTpe g).kst = n.kst := rfl
@[simp] theorem Lane.upTpe_oap (n : Lane) (g : TpeState → TpeState) : (n.upTpe g).oap = n.oap := rfl
@[simp] theorem Lane.upTpe_pwr (n : Lane) (g : TpeState → TpeState) : (n.upTpe g).pwr = n.pwr := rfl
@[simp] theorem Lane.upTpe_pwm (n : Lane) (g : TpeState → TpeState) : (n.upTpe g).pwm = n.pwm := rfl
@[simp] theorem Lane.upTpe_gdv (n : Lane) (g : TpeState → TpeState) : (n.upTpe g).gdv = n.gdv := rfl
@[simp] theorem Lane.upTpe_fbi (n : Lane) (g : TpeState → TpeState) : (n.upTpe g).fbi = n.fbi := rfl
@[simp] theorem Lane.upTpe_adc (n : Lane) (g : TpeState → TpeState) : (n.upTpe g).adc = n.adc := rfl
@[simp] theorem Lane.upTpe_cfe (n : Lane) (g : TpeState → TpeState) : (n.upTpe g).cfe = n.cfe := rfl
@[simp] theorem Lane.upTpe_cle (n : Lane) (g : TpeState → TpeState) : (n.upTpe g).cle = n.cle := rfl
@[simp] theorem Lane.upTpe_tpe (n : Lane) (g : TpeState → TpeState) : (n.upTpe g).tpe = g n.tpe := rfl
@[simp] theorem Lane.upTpe_saf (n : Lane) (g : TpeState → TpeState) : (n.upTpe g).saf = n.saf := rfl
@[simp] theorem Lane.upTpe_sys (n : Lane) (g : TpeState → TpeState) : (n.upTpe g).sys = n.sys := rfl
@[simp] theorem Lane.upTpe_mram (n : Lane) (g : TpeState → TpeState) : (n.upTpe g).mram = n.mram := rfl
@[simp] theorem Lane.upTpe_can (n : Lane) (g : TpeState → TpeState) : (n.upTpe g).can = n.can := rfl
@[simp] theorem Lane.upTpe_hst (n : Lane) (g : TpeState → TpeState) : (n.upTpe g).hst = n.hst := rfl
@[simp] theorem Lane.upTpe_lnt (n : Lane) (g : TpeState → TpeState) : (n.upTpe g).lnt = n.lnt := rfl
@[simp] theorem Lane.upTpe_upd (n : Lane) (g : TpeState → TpeState) : (n.upTpe g).upd = n.upd := rfl

@[simp] theorem Lane.upSaf_id (n : Lane) (g : SafState → SafState) : (n.upSaf g).id = n.id := rfl
@[simp] theorem Lane.upSaf_now (n : Lane) (g : SafState → SafState) : (n.upSaf g).now = n.now := rfl
@[simp] theorem Lane.upSaf_regs (n : Lane) (g : SafState → SafState) : (n.upSaf g).regs = n.regs := rfl
@[simp] theorem Lane.upSaf_kst (n : Lane) (g : SafState → SafState) : (n.upSaf g).kst = n.kst := rfl
@[simp] theorem Lane.upSaf_oap (n : Lane) (g : SafState → SafState) : (n.upSaf g).oap = n.oap := rfl
@[simp] theorem Lane.upSaf_pwr (n : Lane) (g : SafState → SafState) : (n.upSaf g).pwr = n.pwr := rfl
@[simp] theorem Lane.upSaf_pwm (n : Lane) (g : SafState → SafState) : (n.upSaf g).pwm = n.pwm := rfl
@[simp] theorem Lane.upSaf_gdv (n : Lane) (g : SafState → SafState) : (n.upSaf g).gdv = n.gdv := rfl
@[simp] theorem Lane.upSaf_fbi (n : Lane) (g : SafState → SafState) : (n.upSaf g).fbi = n.fbi := rfl
@[simp] theorem Lane.upSaf_adc (n : Lane) (g : SafState → SafState) : (n.upSaf g).adc = n.adc := rfl
@[simp] theorem Lane.upSaf_cfe (n : Lane) (g : SafState → SafState) : (n.upSaf g).cfe = n.cfe := rfl
@[simp] theorem Lane.upSaf_cle (n : Lane) (g : SafState → SafState) : (n.upSaf g).cle = n.cle := rfl
@[simp] theorem Lane.upSaf_tpe (n : Lane) (g : SafState → SafState) : (n.upSaf g).tpe = n.tpe := rfl
@[simp] theorem Lane.upSaf_saf (n : Lane) (g : SafState → SafState) : (n.upSaf g).saf = g n.saf := rfl
@[simp] theorem Lane.upSaf_sys (n : Lane) (g : SafState → SafState) : (n.upSaf g).sys = n.sys := rfl
@[simp] theorem Lane.upSaf_mram (n : Lane) (g : SafState → SafState) : (n.upSaf g).mram = n.mram := rfl
@[simp] theorem Lane.upSaf_can (n : Lane) (g : SafState → SafState) : (n.upSaf g).can = n.can := rfl
@[simp] theorem Lane.upSaf_hst (n : Lane) (g : SafState → SafState) : (n.upSaf g).hst = n.hst := rfl
@[simp] theorem Lane.upSaf_lnt (n : Lane) (g : SafState → SafState) : (n.upSaf g).lnt = n.lnt := rfl
@[simp] theorem Lane.upSaf_upd (n : Lane) (g : SafState → SafState) : (n.upSaf g).upd = n.upd := rfl

@[simp] theorem Lane.upSys_id (n : Lane) (g : SysState → SysState) : (n.upSys g).id = n.id := rfl
@[simp] theorem Lane.upSys_now (n : Lane) (g : SysState → SysState) : (n.upSys g).now = n.now := rfl
@[simp] theorem Lane.upSys_regs (n : Lane) (g : SysState → SysState) : (n.upSys g).regs = n.regs := rfl
@[simp] theorem Lane.upSys_kst (n : Lane) (g : SysState → SysState) : (n.upSys g).kst = n.kst := rfl
@[simp] theorem Lane.upSys_oap (n : Lane) (g : SysState → SysState) : (n.upSys g).oap = n.oap := rfl
@[simp] theorem Lane.upSys_pwr (n : Lane) (g : SysState → SysState) : (n.upSys g).pwr = n.pwr := rfl
@[simp] theorem Lane.upSys_pwm (n : Lane) (g : SysState → SysState) : (n.upSys g).pwm = n.pwm := rfl
@[simp] theorem Lane.upSys_gdv (n : Lane) (g : SysState → SysState) : (n.upSys g).gdv = n.gdv := rfl
@[simp] theorem Lane.upSys_fbi (n : Lane) (g : SysState → SysState) : (n.upSys g).fbi = n.fbi := rfl
@[simp] theorem Lane.upSys_adc (n : Lane) (g : SysState → SysState) : (n.upSys g).adc = n.adc := rfl
@[simp] theorem Lane.upSys_cfe (n : Lane) (g : SysState → SysState) : (n.upSys g).cfe = n.cfe := rfl
@[simp] theorem Lane.upSys_cle (n : Lane) (g : SysState → SysState) : (n.upSys g).cle = n.cle := rfl
@[simp] theorem Lane.upSys_tpe (n : Lane) (g : SysState → SysState) : (n.upSys g).tpe = n.tpe := rfl
@[simp] theorem Lane.upSys_saf (n : Lane) (g : SysState → SysState) : (n.upSys g).saf = n.saf := rfl
@[simp] theorem Lane.upSys_sys (n : Lane) (g : SysState → SysState) : (n.upSys g).sys = g n.sys := rfl
@[simp] theorem Lane.upSys_mram (n : Lane) (g : SysState → SysState) : (n.upSys g).mram = n.mram := rfl
@[simp] theorem Lane.upSys_can (n : Lane) (g : SysState → SysState) : (n.upSys g).can = n.can := rfl
@[simp] theorem Lane.upSys_hst (n : Lane) (g : SysState → SysState) : (n.upSys g).hst = n.hst := rfl
@[simp] theorem Lane.upSys_lnt (n : Lane) (g : SysState → SysState) : (n.upSys g).lnt = n.lnt := rfl
@[simp] theorem Lane.upSys_upd (n : Lane) (g : SysState → SysState) : (n.upSys g).upd = n.upd := rfl

@[simp] theorem Lane.upMram_id (n : Lane) (g : Mram → Mram) : (n.upMram g).id = n.id := rfl
@[simp] theorem Lane.upMram_now (n : Lane) (g : Mram → Mram) : (n.upMram g).now = n.now := rfl
@[simp] theorem Lane.upMram_regs (n : Lane) (g : Mram → Mram) : (n.upMram g).regs = n.regs := rfl
@[simp] theorem Lane.upMram_kst (n : Lane) (g : Mram → Mram) : (n.upMram g).kst = n.kst := rfl
@[simp] theorem Lane.upMram_oap (n : Lane) (g : Mram → Mram) : (n.upMram g).oap = n.oap := rfl
@[simp] theorem Lane.upMram_pwr (n : Lane) (g : Mram → Mram) : (n.upMram g).pwr = n.pwr := rfl
@[simp] theorem Lane.upMram_pwm (n : Lane) (g : Mram → Mram) : (n.upMram g).pwm = n.pwm := rfl
@[simp] theorem Lane.upMram_gdv (n : Lane) (g : Mram → Mram) : (n.upMram g).gdv = n.gdv := rfl
@[simp] theorem Lane.upMram_fbi (n : Lane) (g : Mram → Mram) : (n.upMram g).fbi = n.fbi := rfl
@[simp] theorem Lane.upMram_adc (n : Lane) (g : Mram → Mram) : (n.upMram g).adc = n.adc := rfl
@[simp] theorem Lane.upMram_cfe (n : Lane) (g : Mram → Mram) : (n.upMram g).cfe = n.cfe := rfl
@[simp] theorem Lane.upMram_cle (n : Lane) (g : Mram → Mram) : (n.upMram g).cle = n.cle := rfl
@[simp] theorem Lane.upMram_tpe (n : Lane) (g : Mram → Mram) : (n.upMram g).tpe = n.tpe := rfl
@[simp] theorem Lane.upMram_saf (n : Lane) (g : Mram → Mram) : (n.upMram g).saf = n.saf := rfl
@[simp] theorem Lane.upMram_sys (n : Lane) (g : Mram → Mram) : (n.upMram g).sys = n.sys := rfl
@[simp] theorem Lane.upMram_mram (n : Lane) (g : Mram → Mram) : (n.upMram g).mram = g n.mram := rfl
@[simp] theorem Lane.upMram_can (n : Lane) (g : Mram → Mram) : (n.upMram g).can = n.can := rfl
@[simp] theorem Lane.upMram_hst (n : Lane) (g : Mram → Mram) : (n.upMram g).hst = n.hst := rfl
@[simp] theorem Lane.upMram_lnt (n : Lane) (g : Mram → Mram) : (n.upMram g).lnt = n.lnt := rfl
@[simp] theorem Lane.upMram_upd (n : Lane) (g : Mram → Mram) : (n.upMram g).upd = n.upd := rfl

@[simp] theorem Lane.upCan_id (n : Lane) (g : CanState → CanState) : (n.upCan g).id = n.id := rfl
@[simp] theorem Lane.upCan_now (n : Lane) (g : CanState → CanState) : (n.upCan g).now = n.now := rfl
@[simp] theorem Lane.upCan_regs (n : Lane) (g : CanState → CanState) : (n.upCan g).regs = n.regs := rfl
@[simp] theorem Lane.upCan_kst (n : Lane) (g : CanState → CanState) : (n.upCan g).kst = n.kst := rfl
@[simp] theorem Lane.upCan_oap (n : Lane) (g : CanState → CanState) : (n.upCan g).oap = n.oap := rfl
@[simp] theorem Lane.upCan_pwr (n : Lane) (g : CanState → CanState) : (n.upCan g).pwr = n.pwr := rfl
@[simp] theorem Lane.upCan_pwm (n : Lane) (g : CanState → CanState) : (n.upCan g).pwm = n.pwm := rfl
@[simp] theorem Lane.upCan_gdv (n : Lane) (g : CanState → CanState) : (n.upCan g).gdv = n.gdv := rfl
@[simp] theorem Lane.upCan_fbi (n : Lane) (g : CanState → CanState) : (n.upCan g).fbi = n.fbi := rfl
@[simp] theorem Lane.upCan_adc (n : Lane) (g : CanState → CanState) : (n.upCan g).adc = n.adc := rfl
@[simp] theorem Lane.upCan_cfe (n : Lane) (g : CanState → CanState) : (n.upCan g).cfe = n.cfe := rfl
@[simp] theorem Lane.upCan_cle (n : Lane) (g : CanState → CanState) : (n.upCan g).cle = n.cle := rfl
@[simp] theorem Lane.upCan_tpe (n : Lane) (g : CanState → CanState) : (n.upCan g).tpe = n.tpe := rfl
@[simp] theorem Lane.upCan_saf (n : Lane) (g : CanState → CanState) : (n.upCan g).saf = n.saf := rfl
@[simp] theorem Lane.upCan_sys (n : Lane) (g : CanState → CanState) : (n.upCan g).sys = n.sys := rfl
@[simp] theorem Lane.upCan_mram (n : Lane) (g : CanState → CanState) : (n.upCan g).mram = n.mram := rfl
@[simp] theorem Lane.upCan_can (n : Lane) (g : CanState → CanState) : (n.upCan g).can = g n.can := rfl
@[simp] theorem Lane.upCan_hst (n : Lane) (g : CanState → CanState) : (n.upCan g).hst = n.hst := rfl
@[simp] theorem Lane.upCan_lnt (n : Lane) (g : CanState → CanState) : (n.upCan g).lnt = n.lnt := rfl
@[simp] theorem Lane.upCan_upd (n : Lane) (g : CanState → CanState) : (n.upCan g).upd = n.upd := rfl

@[simp] theorem Lane.upHst_id (n : Lane) (g : HstState → HstState) : (n.upHst g).id = n.id := rfl
@[simp] theorem Lane.upHst_now (n : Lane) (g : HstState → HstState) : (n.upHst g).now = n.now := rfl
@[simp] theorem Lane.upHst_regs (n : Lane) (g : HstState → HstState) : (n.upHst g).regs = n.regs := rfl
@[simp] theorem Lane.upHst_kst (n : Lane) (g : HstState → HstState) : (n.upHst g).kst = n.kst := rfl
@[simp] theorem Lane.upHst_oap (n : Lane) (g : HstState → HstState) : (n.upHst g).oap = n.oap := rfl
@[simp] theorem Lane.upHst_pwr (n : Lane) (g : HstState → HstState) : (n.upHst g).pwr = n.pwr := rfl
@[simp] theorem Lane.upHst_pwm (n : Lane) (g : HstState → HstState) : (n.upHst g).pwm = n.pwm := rfl
@[simp] theorem Lane.upHst_gdv (n : Lane) (g : HstState → HstState) : (n.upHst g).gdv = n.gdv := rfl
@[simp] theorem Lane.upHst_fbi (n : Lane) (g : HstState → HstState) : (n.upHst g).fbi = n.fbi := rfl
@[simp] theorem Lane.upHst_adc (n : Lane) (g : HstState → HstState) : (n.upHst g).adc = n.adc := rfl
@[simp] theorem Lane.upHst_cfe (n : Lane) (g : HstState → HstState) : (n.upHst g).cfe = n.cfe := rfl
@[simp] theorem Lane.upHst_cle (n : Lane) (g : HstState → HstState) : (n.upHst g).cle = n.cle := rfl
@[simp] theorem Lane.upHst_tpe (n : Lane) (g : HstState → HstState) : (n.upHst g).tpe = n.tpe := rfl
@[simp] theorem Lane.upHst_saf (n : Lane) (g : HstState → HstState) : (n.upHst g).saf = n.saf := rfl
@[simp] theorem Lane.upHst_sys (n : Lane) (g : HstState → HstState) : (n.upHst g).sys = n.sys := rfl
@[simp] theorem Lane.upHst_mram (n : Lane) (g : HstState → HstState) : (n.upHst g).mram = n.mram := rfl
@[simp] theorem Lane.upHst_can (n : Lane) (g : HstState → HstState) : (n.upHst g).can = n.can := rfl
@[simp] theorem Lane.upHst_hst (n : Lane) (g : HstState → HstState) : (n.upHst g).hst = g n.hst := rfl
@[simp] theorem Lane.upHst_lnt (n : Lane) (g : HstState → HstState) : (n.upHst g).lnt = n.lnt := rfl
@[simp] theorem Lane.upHst_upd (n : Lane) (g : HstState → HstState) : (n.upHst g).upd = n.upd := rfl

@[simp] theorem Lane.upLnt_id (n : Lane) (g : LntState → LntState) : (n.upLnt g).id = n.id := rfl
@[simp] theorem Lane.upLnt_now (n : Lane) (g : LntState → LntState) : (n.upLnt g).now = n.now := rfl
@[simp] theorem Lane.upLnt_regs (n : Lane) (g : LntState → LntState) : (n.upLnt g).regs = n.regs := rfl
@[simp] theorem Lane.upLnt_kst (n : Lane) (g : LntState → LntState) : (n.upLnt g).kst = n.kst := rfl
@[simp] theorem Lane.upLnt_oap (n : Lane) (g : LntState → LntState) : (n.upLnt g).oap = n.oap := rfl
@[simp] theorem Lane.upLnt_pwr (n : Lane) (g : LntState → LntState) : (n.upLnt g).pwr = n.pwr := rfl
@[simp] theorem Lane.upLnt_pwm (n : Lane) (g : LntState → LntState) : (n.upLnt g).pwm = n.pwm := rfl
@[simp] theorem Lane.upLnt_gdv (n : Lane) (g : LntState → LntState) : (n.upLnt g).gdv = n.gdv := rfl
@[simp] theorem Lane.upLnt_fbi (n : Lane) (g : LntState → LntState) : (n.upLnt g).fbi = n.fbi := rfl
@[simp] theorem Lane.upLnt_adc (n : Lane) (g : LntState → LntState) : (n.upLnt g).adc = n.adc := rfl
@[simp] theorem Lane.upLnt_cfe (n : Lane) (g : LntState → LntState) : (n.upLnt g).cfe = n.cfe := rfl
@[simp] theorem Lane.upLnt_cle (n : Lane) (g : LntState → LntState) : (n.upLnt g).cle = n.cle := rfl
@[simp] theorem Lane.upLnt_tpe (n : Lane) (g : LntState → LntState) : (n.upLnt g).tpe = n.tpe := rfl
@[simp] theorem Lane.upLnt_saf (n : Lane) (g : LntState → LntState) : (n.upLnt g).saf = n.saf := rfl
@[simp] theorem Lane.upLnt_sys (n : Lane) (g : LntState → LntState) : (n.upLnt g).sys = n.sys := rfl
@[simp] theorem Lane.upLnt_mram (n : Lane) (g : LntState → LntState) : (n.upLnt g).mram = n.mram := rfl
@[simp] theorem Lane.upLnt_can (n : Lane) (g : LntState → LntState) : (n.upLnt g).can = n.can := rfl
@[simp] theorem Lane.upLnt_hst (n : Lane) (g : LntState → LntState) : (n.upLnt g).hst = n.hst := rfl
@[simp] theorem Lane.upLnt_lnt (n : Lane) (g : LntState → LntState) : (n.upLnt g).lnt = g n.lnt := rfl
@[simp] theorem Lane.upLnt_upd (n : Lane) (g : LntState → LntState) : (n.upLnt g).upd = n.upd := rfl

@[simp] theorem Lane.upUpd_id (n : Lane) (g : UpdState → UpdState) : (n.upUpd g).id = n.id := rfl
@[simp] theorem Lane.upUpd_now (n : Lane) (g : UpdState → UpdState) : (n.upUpd g).now = n.now := rfl
@[simp] theorem Lane.upUpd_regs (n : Lane) (g : UpdState → UpdState) : (n.upUpd g).regs = n.regs := rfl
@[simp] theorem Lane.upUpd_kst (n : Lane) (g : UpdState → UpdState) : (n.upUpd g).kst = n.kst := rfl
@[simp] theorem Lane.upUpd_oap (n : Lane) (g : UpdState → UpdState) : (n.upUpd g).oap = n.oap := rfl
@[simp] theorem Lane.upUpd_pwr (n : Lane) (g : UpdState → UpdState) : (n.upUpd g).pwr = n.pwr := rfl
@[simp] theorem Lane.upUpd_pwm (n : Lane) (g : UpdState → UpdState) : (n.upUpd g).pwm = n.pwm := rfl
@[simp] theorem Lane.upUpd_gdv (n : Lane) (g : UpdState → UpdState) : (n.upUpd g).gdv = n.gdv := rfl
@[simp] theorem Lane.upUpd_fbi (n : Lane) (g : UpdState → UpdState) : (n.upUpd g).fbi = n.fbi := rfl
@[simp] theorem Lane.upUpd_adc (n : Lane) (g : UpdState → UpdState) : (n.upUpd g).adc = n.adc := rfl
@[simp] theorem Lane.upUpd_cfe (n : Lane) (g : UpdState → UpdState) : (n.upUpd g).cfe = n.cfe := rfl
@[simp] theorem Lane.upUpd_cle (n : Lane) (g : UpdState → UpdState) : (n.upUpd g).cle = n.cle := rfl
@[simp] theorem Lane.upUpd_tpe (n : Lane) (g : UpdState → UpdState) : (n.upUpd g).tpe = n.tpe := rfl
@[simp] theorem Lane.upUpd_saf (n : Lane) (g : UpdState → UpdState) : (n.upUpd g).saf = n.saf := rfl
@[simp] theorem Lane.upUpd_sys (n : Lane) (g : UpdState → UpdState) : (n.upUpd g).sys = n.sys := rfl
@[simp] theorem Lane.upUpd_mram (n : Lane) (g : UpdState → UpdState) : (n.upUpd g).mram = n.mram := rfl
@[simp] theorem Lane.upUpd_can (n : Lane) (g : UpdState → UpdState) : (n.upUpd g).can = n.can := rfl
@[simp] theorem Lane.upUpd_hst (n : Lane) (g : UpdState → UpdState) : (n.upUpd g).hst = n.hst := rfl
@[simp] theorem Lane.upUpd_lnt (n : Lane) (g : UpdState → UpdState) : (n.upUpd g).lnt = n.lnt := rfl
@[simp] theorem Lane.upUpd_upd (n : Lane) (g : UpdState → UpdState) : (n.upUpd g).upd = g n.upd := rfl

@[simp] theorem Lane.wr_id (n : Lane) (k : Nat) (v : W32) : (n.wr k v).id = n.id := rfl
@[simp] theorem Lane.wr_now (n : Lane) (k : Nat) (v : W32) : (n.wr k v).now = n.now := rfl
@[simp] theorem Lane.wr_kst (n : Lane) (k : Nat) (v : W32) : (n.wr k v).kst = n.kst := rfl
@[simp] theorem Lane.wr_oap (n : Lane) (k : Nat) (v : W32) : (n.wr k v).oap = n.oap := rfl
@[simp] theorem Lane.wr_pwr (n : Lane) (k : Nat) (v : W32) : (n.wr k v).pwr = n.pwr := rfl
@[simp] theorem Lane.wr_pwm (n : Lane) (k : Nat) (v : W32) : (n.wr k v).pwm = n.pwm := rfl
@[simp] theorem Lane.wr_gdv (n : Lane) (k : Nat) (v : W32) : (n.wr k v).gdv = n.gdv := rfl
@[simp] theorem Lane.wr_fbi (n : Lane) (k : Nat) (v : W32) : (n.wr k v).fbi = n.fbi := rfl
@[simp] theorem Lane.wr_adc (n : Lane) (k : Nat) (v : W32) : (n.wr k v).adc = n.adc := rfl
@[simp] theorem Lane.wr_cfe (n : Lane) (k : Nat) (v : W32) : (n.wr k v).cfe = n.cfe := rfl
@[simp] theorem Lane.wr_cle (n : Lane) (k : Nat) (v : W32) : (n.wr k v).cle = n.cle := rfl
@[simp] theorem Lane.wr_tpe (n : Lane) (k : Nat) (v : W32) : (n.wr k v).tpe = n.tpe := rfl
@[simp] theorem Lane.wr_saf (n : Lane) (k : Nat) (v : W32) : (n.wr k v).saf = n.saf := rfl
@[simp] theorem Lane.wr_sys (n : Lane) (k : Nat) (v : W32) : (n.wr k v).sys = n.sys := rfl
@[simp] theorem Lane.wr_mram (n : Lane) (k : Nat) (v : W32) : (n.wr k v).mram = n.mram := rfl
@[simp] theorem Lane.wr_can (n : Lane) (k : Nat) (v : W32) : (n.wr k v).can = n.can := rfl
@[simp] theorem Lane.wr_hst (n : Lane) (k : Nat) (v : W32) : (n.wr k v).hst = n.hst := rfl
@[simp] theorem Lane.wr_lnt (n : Lane) (k : Nat) (v : W32) : (n.wr k v).lnt = n.lnt := rfl
@[simp] theorem Lane.wr_upd (n : Lane) (k : Nat) (v : W32) : (n.wr k v).upd = n.upd := rfl
@[simp] theorem Lane.setF_id (n : Lane) (r : FRef) (x : Nat) : (n.setF r x).id = n.id := rfl
@[simp] theorem Lane.setF_now (n : Lane) (r : FRef) (x : Nat) : (n.setF r x).now = n.now := rfl
@[simp] theorem Lane.setF_kst (n : Lane) (r : FRef) (x : Nat) : (n.setF r x).kst = n.kst := rfl
@[simp] theorem Lane.setF_oap (n : Lane) (r : FRef) (x : Nat) : (n.setF r x).oap = n.oap := rfl
@[simp] theorem Lane.setF_pwr (n : Lane) (r : FRef) (x : Nat) : (n.setF r x).pwr = n.pwr := rfl
@[simp] theorem Lane.setF_pwm (n : Lane) (r : FRef) (x : Nat) : (n.setF r x).pwm = n.pwm := rfl
@[simp] theorem Lane.setF_gdv (n : Lane) (r : FRef) (x : Nat) : (n.setF r x).gdv = n.gdv := rfl
@[simp] theorem Lane.setF_fbi (n : Lane) (r : FRef) (x : Nat) : (n.setF r x).fbi = n.fbi := rfl
@[simp] theorem Lane.setF_adc (n : Lane) (r : FRef) (x : Nat) : (n.setF r x).adc = n.adc := rfl
@[simp] theorem Lane.setF_cfe (n : Lane) (r : FRef) (x : Nat) : (n.setF r x).cfe = n.cfe := rfl
@[simp] theorem Lane.setF_cle (n : Lane) (r : FRef) (x : Nat) : (n.setF r x).cle = n.cle := rfl
@[simp] theorem Lane.setF_tpe (n : Lane) (r : FRef) (x : Nat) : (n.setF r x).tpe = n.tpe := rfl
@[simp] theorem Lane.setF_saf (n : Lane) (r : FRef) (x : Nat) : (n.setF r x).saf = n.saf := rfl
@[simp] theorem Lane.setF_sys (n : Lane) (r : FRef) (x : Nat) : (n.setF r x).sys = n.sys := rfl
@[simp] theorem Lane.setF_mram (n : Lane) (r : FRef) (x : Nat) : (n.setF r x).mram = n.mram := rfl
@[simp] theorem Lane.setF_can (n : Lane) (r : FRef) (x : Nat) : (n.setF r x).can = n.can := rfl
@[simp] theorem Lane.setF_hst (n : Lane) (r : FRef) (x : Nat) : (n.setF r x).hst = n.hst := rfl
@[simp] theorem Lane.setF_lnt (n : Lane) (r : FRef) (x : Nat) : (n.setF r x).lnt = n.lnt := rfl
@[simp] theorem Lane.setF_upd (n : Lane) (r : FRef) (x : Nat) : (n.setF r x).upd = n.upd := rfl
@[simp] theorem Lane.resetRange_id (n : Lane) (lo hi : Nat) : (n.resetRange lo hi).id = n.id := rfl
@[simp] theorem Lane.resetRange_now (n : Lane) (lo hi : Nat) : (n.resetRange lo hi).now = n.now := rfl
@[simp] theorem Lane.resetRange_kst (n : Lane) (lo hi : Nat) : (n.resetRange lo hi).kst = n.kst := rfl
@[simp] theorem Lane.resetRange_oap (n : Lane) (lo hi : Nat) : (n.resetRange lo hi).oap = n.oap := rfl
@[simp] theorem Lane.resetRange_pwr (n : Lane) (lo hi : Nat) : (n.resetRange lo hi).pwr = n.pwr := rfl
@[simp] theorem Lane.resetRange_pwm (n : Lane) (lo hi : Nat) : (n.resetRange lo hi).pwm = n.pwm := rfl
@[simp] theorem Lane.resetRange_gdv (n : Lane) (lo hi : Nat) : (n.resetRange lo hi).gdv = n.gdv := rfl
@[simp] theorem Lane.resetRange_fbi (n : Lane) (lo hi : Nat) : (n.resetRange lo hi).fbi = n.fbi := rfl
@[simp] theorem Lane.resetRange_adc (n : Lane) (lo hi : Nat) : (n.resetRange lo hi).adc = n.adc := rfl
@[simp] theorem Lane.resetRange_cfe (n : Lane) (lo hi : Nat) : (n.resetRange lo hi).cfe = n.cfe := rfl
@[simp] theorem Lane.resetRange_cle (n : Lane) (lo hi : Nat) : (n.resetRange lo hi).cle = n.cle := rfl
@[simp] theorem Lane.resetRange_tpe (n : Lane) (lo hi : Nat) : (n.resetRange lo hi).tpe = n.tpe := rfl
@[simp] theorem Lane.resetRange_saf (n : Lane) (lo hi : Nat) : (n.resetRange lo hi).saf = n.saf := rfl
@[simp] theorem Lane.resetRange_sys (n : Lane) (lo hi : Nat) : (n.resetRange lo hi).sys = n.sys := rfl
@[simp] theorem Lane.resetRange_mram (n : Lane) (lo hi : Nat) : (n.resetRange lo hi).mram = n.mram := rfl
@[simp] theorem Lane.resetRange_can (n : Lane) (lo hi : Nat) : (n.resetRange lo hi).can = n.can := rfl
@[simp] theorem Lane.resetRange_hst (n : Lane) (lo hi : Nat) : (n.resetRange lo hi).hst = n.hst := rfl
@[simp] theorem Lane.resetRange_lnt (n : Lane) (lo hi : Nat) : (n.resetRange lo hi).lnt = n.lnt := rfl
@[simp] theorem Lane.resetRange_upd (n : Lane) (lo hi : Nat) : (n.resetRange lo hi).upd = n.upd := rfl

@[simp] theorem Lane.upKst_rd (n : Lane) (g : KstState → KstState) (k : Nat) : (n.upKst g).rd k = n.rd k := rfl
@[simp] theorem Lane.upKst_f_ (n : Lane) (g : KstState → KstState) (r : FRef) : (n.upKst g).f r = n.f r := rfl
@[simp] theorem Lane.upOap_rd (n : Lane) (g : OapState → OapState) (k : Nat) : (n.upOap g).rd k = n.rd k := rfl
@[simp] theorem Lane.upOap_f_ (n : Lane) (g : OapState → OapState) (r : FRef) : (n.upOap g).f r = n.f r := rfl
@[simp] theorem Lane.upPwr_rd (n : Lane) (g : PwrState → PwrState) (k : Nat) : (n.upPwr g).rd k = n.rd k := rfl
@[simp] theorem Lane.upPwr_f_ (n : Lane) (g : PwrState → PwrState) (r : FRef) : (n.upPwr g).f r = n.f r := rfl
@[simp] theorem Lane.upPwm_rd (n : Lane) (g : PwmState → PwmState) (k : Nat) : (n.upPwm g).rd k = n.rd k := rfl
@[simp] theorem Lane.upPwm_f_ (n : Lane) (g : PwmState → PwmState) (r : FRef) : (n.upPwm g).f r = n.f r := rfl
@[simp] theorem Lane.upGdv_rd (n : Lane) (g : GdvState → GdvState) (k : Nat) : (n.upGdv g).rd k = n.rd k := rfl
@[simp] theorem Lane.upGdv_f_ (n : Lane) (g : GdvState → GdvState) (r : FRef) : (n.upGdv g).f r = n.f r := rfl
@[simp] theorem Lane.upFbi_rd (n : Lane) (g : FbiState → FbiState) (k : Nat) : (n.upFbi g).rd k = n.rd k := rfl
@[simp] theorem Lane.upFbi_f_ (n : Lane) (g : FbiState → FbiState) (r : FRef) : (n.upFbi g).f r = n.f r := rfl
@[simp] theorem Lane.upAdc_rd (n : Lane) (g : AdcState → AdcState) (k : Nat) : (n.upAdc g).rd k = n.rd k := rfl
@[simp] theorem Lane.upAdc_f_ (n : Lane) (g : AdcState → AdcState) (r : FRef) : (n.upAdc g).f r = n.f r := rfl
@[simp] theorem Lane.upCfe_rd (n : Lane) (g : CfeState → CfeState) (k : Nat) : (n.upCfe g).rd k = n.rd k := rfl
@[simp] theorem Lane.upCfe_f_ (n : Lane) (g : CfeState → CfeState) (r : FRef) : (n.upCfe g).f r = n.f r := rfl
@[simp] theorem Lane.upCle_rd (n : Lane) (g : CleState → CleState) (k : Nat) : (n.upCle g).rd k = n.rd k := rfl
@[simp] theorem Lane.upCle_f_ (n : Lane) (g : CleState → CleState) (r : FRef) : (n.upCle g).f r = n.f r := rfl
@[simp] theorem Lane.upTpe_rd (n : Lane) (g : TpeState → TpeState) (k : Nat) : (n.upTpe g).rd k = n.rd k := rfl
@[simp] theorem Lane.upTpe_f_ (n : Lane) (g : TpeState → TpeState) (r : FRef) : (n.upTpe g).f r = n.f r := rfl
@[simp] theorem Lane.upSaf_rd (n : Lane) (g : SafState → SafState) (k : Nat) : (n.upSaf g).rd k = n.rd k := rfl
@[simp] theorem Lane.upSaf_f_ (n : Lane) (g : SafState → SafState) (r : FRef) : (n.upSaf g).f r = n.f r := rfl
@[simp] theorem Lane.upSys_rd (n : Lane) (g : SysState → SysState) (k : Nat) : (n.upSys g).rd k = n.rd k := rfl
@[simp] theorem Lane.upSys_f_ (n : Lane) (g : SysState → SysState) (r : FRef) : (n.upSys g).f r = n.f r := rfl
@[simp] theorem Lane.upMram_rd (n : Lane) (g : Mram → Mram) (k : Nat) : (n.upMram g).rd k = n.rd k := rfl
@[simp] theorem Lane.upMram_f_ (n : Lane) (g : Mram → Mram) (r : FRef) : (n.upMram g).f r = n.f r := rfl
@[simp] theorem Lane.upCan_rd (n : Lane) (g : CanState → CanState) (k : Nat) : (n.upCan g).rd k = n.rd k := rfl
@[simp] theorem Lane.upCan_f_ (n : Lane) (g : CanState → CanState) (r : FRef) : (n.upCan g).f r = n.f r := rfl
@[simp] theorem Lane.upHst_rd (n : Lane) (g : HstState → HstState) (k : Nat) : (n.upHst g).rd k = n.rd k := rfl
@[simp] theorem Lane.upHst_f_ (n : Lane) (g : HstState → HstState) (r : FRef) : (n.upHst g).f r = n.f r := rfl
@[simp] theorem Lane.upLnt_rd (n : Lane) (g : LntState → LntState) (k : Nat) : (n.upLnt g).rd k = n.rd k := rfl
@[simp] theorem Lane.upLnt_f_ (n : Lane) (g : LntState → LntState) (r : FRef) : (n.upLnt g).f r = n.f r := rfl
@[simp] theorem Lane.upUpd_rd (n : Lane) (g : UpdState → UpdState) (k : Nat) : (n.upUpd g).rd k = n.rd k := rfl
@[simp] theorem Lane.upUpd_f_ (n : Lane) (g : UpdState → UpdState) (r : FRef) : (n.upUpd g).f r = n.f r := rfl

/-! ## The package -/

@[simp] theorem State.setLane_pending (s : State) (l : LaneId) (n : Lane) : (s.setLane l n).pending = s.pending := by cases l <;> rfl
@[simp] theorem State.lane_setLane (s : State) (l : LaneId) (n : Lane) : (s.setLane l n).lane l = n := by cases l <;> rfl
@[simp] theorem State.lane_setLane_other (s : State) (l : LaneId) (n : Lane) : (s.setLane l n).lane l.other = s.lane l.other := by cases l <;> rfl
@[simp] theorem State.setLane_lane1 (s : State) (n : Lane) : (s.setLane .lane1 n).lane1 = n := rfl
@[simp] theorem State.setLane_lane2 (s : State) (n : Lane) : (s.setLane .lane2 n).lane2 = n := rfl
@[simp] theorem State.setLane1_lane2 (s : State) (n : Lane) : (s.setLane .lane1 n).lane2 = s.lane2 := rfl
@[simp] theorem State.setLane2_lane1 (s : State) (n : Lane) : (s.setLane .lane2 n).lane1 = s.lane1 := rfl
@[simp] theorem State.lane_pending (s : State) (q : List Instr) (l : LaneId) : ({ s with pending := q } : State).lane l = s.lane l := by cases l <;> rfl
@[simp] theorem State.setLane_pend (s : State) (q : List Instr) (l : LaneId) (n : Lane) :
    ({ s with pending := q } : State).setLane l n = { s.setLane l n with pending := q } := by cases l <;> rfl

end Sys2Proof.Machine
end

