-- ==== Sys2Proof/Laws/Regs.lean ====
section
/-! SUPPORT. Registers and fields: what a read returns after a write, for words, fields and lists of fields. -/

namespace Sys2Proof.Machine

/-! ## Words -/

theorem Lane.rd_wr (n : Lane) (a b : Nat) (v : W32) : (n.wr a v).rd b = if b = a then v else n.rd b := by
  unfold Lane.rd Lane.wr
  by_cases h : b = a
  · subst h; simp [Cells.get_set]
  · simp [Cells.get_set_ne, h]

@[simp] theorem Lane.rd_wr_self (n : Lane) (a : Nat) (v : W32) : (n.wr a v).rd a = v := by rw [Lane.rd_wr, if_pos rfl]

theorem Lane.rd_wr_ne (n : Lane) {a b : Nat} (v : W32) (h : b ≠ a) : (n.wr a v).rd b = n.rd b := by rw [Lane.rd_wr, if_neg h]

theorem Lane.rd_congr {n m : Lane} (h : n.regs = m.regs) (a : Nat) : n.rd a = m.rd a := by unfold Lane.rd; rw [h]

/-- Words that agree give fields that agree. -/
theorem Lane.f_congr {n m : Lane} {r : FRef} (h : n.rd r.off = m.rd r.off) : n.f r = m.f r := by unfold Lane.f; rw [h]

theorem Lane.rd_resetRange (n : Lane) (lo hi a : Nat) :
    (n.resetRange lo hi).rd a = if lo ≤ a ∧ a < hi then mapReset a else n.rd a := by
  unfold Lane.rd Lane.resetRange
  exact Cells.get_clear _ _ _ _ _

/-! ## Bits of a word -/

theorem bits_testBit (v : W32) (hi lo j : Nat) : (bits v hi lo).testBit j = (decide (j < hi + 1 - lo) && v.toNat.testBit (lo + j)) := by
  unfold bits
  rw [Nat.testBit_mod_two_pow, Nat.testBit_shiftRight]

theorem bits_lt (v : W32) (hi lo : Nat) : bits v hi lo < 2 ^ (hi + 1 - lo) := Nat.mod_lt _ (Nat.two_pow_pos _)

/-- The three parts of a word around the field [hi:lo]. -/
theorem word_parts (v : Nat) (hi lo : Nat) (h : lo ≤ hi) :
    v = v % 2 ^ lo + v / 2 ^ lo % 2 ^ (hi + 1 - lo) * 2 ^ lo + v / 2 ^ (hi + 1) * 2 ^ (hi + 1) := by
  have h1 : 2 ^ (hi + 1) = 2 ^ (hi + 1 - lo) * 2 ^ lo := by rw [← Nat.pow_add]; congr 1; omega
  have h2 : v / 2 ^ (hi + 1) = v / 2 ^ lo / 2 ^ (hi + 1 - lo) := by rw [h1, Nat.mul_comm, Nat.div_div_eq_div_mul]
  have h3 := Nat.div_add_mod v (2 ^ lo)
  have h4 := Nat.div_add_mod (v / 2 ^ lo) (2 ^ (hi + 1 - lo))
  rw [h2, h1]
  calc v = 2 ^ lo * (v / 2 ^ lo) + v % 2 ^ lo := h3.symm
    _ = 2 ^ lo * (2 ^ (hi + 1 - lo) * (v / 2 ^ lo / 2 ^ (hi + 1 - lo)) + v / 2 ^ lo % 2 ^ (hi + 1 - lo)) + v % 2 ^ lo := by rw [h4]
    _ = _ := by ring

theorem setBits_toNat (v : W32) (hi lo x : Nat) (h : lo ≤ hi) (hw : hi < 32) :
    (setBits v hi lo x).toNat =
      v.toNat % 2 ^ lo + x % 2 ^ (hi + 1 - lo) * 2 ^ lo + v.toNat / 2 ^ (hi + 1) * 2 ^ (hi + 1) := by
  unfold setBits bits
  rw [BitVec.toNat_ofNat, Nat.shiftRight_eq_div_pow]
  have hv := word_parts v.toNat hi lo h
  have hb : v.toNat - v.toNat / 2 ^ lo % 2 ^ (hi + 1 - lo) * 2 ^ lo =
      v.toNat % 2 ^ lo + v.toNat / 2 ^ (hi + 1) * 2 ^ (hi + 1) := by omega
  rw [hb]
  have h1 : 2 ^ (hi + 1) = 2 ^ (hi + 1 - lo) * 2 ^ lo := by rw [← Nat.pow_add]; congr 1; omega
  have hlt : v.toNat % 2 ^ lo + x % 2 ^ (hi + 1 - lo) * 2 ^ lo < 2 ^ (hi + 1) := by
    have ha := Nat.mod_lt v.toNat (Nat.two_pow_pos lo)
    have hx := Nat.mod_lt x (Nat.two_pow_pos (hi + 1 - lo))
    rw [h1]
    calc _ < 2 ^ lo + x % 2 ^ (hi + 1 - lo) * 2 ^ lo := by omega
      _ = (x % 2 ^ (hi + 1 - lo) + 1) * 2 ^ lo := by ring
      _ ≤ 2 ^ (hi + 1 - lo) * 2 ^ lo := Nat.mul_le_mul_right _ hx
  have hq : v.toNat / 2 ^ (hi + 1) < 2 ^ (32 - (hi + 1)) := by
    apply Nat.div_lt_of_lt_mul
    rw [← Nat.pow_add]
    have : hi + 1 + (32 - (hi + 1)) = 32 := by omega
    rw [this]; exact v.isLt
  have h32 : 2 ^ 32 = 2 ^ (32 - (hi + 1)) * 2 ^ (hi + 1) := by rw [← Nat.pow_add]; congr 1; omega
  have htot : v.toNat % 2 ^ lo + x % 2 ^ (hi + 1 - lo) * 2 ^ lo + v.toNat / 2 ^ (hi + 1) * 2 ^ (hi + 1) < 2 ^ 32 := by
    rw [h32]
    calc _ < 2 ^ (hi + 1) + v.toNat / 2 ^ (hi + 1) * 2 ^ (hi + 1) := by omega
      _ = (v.toNat / 2 ^ (hi + 1) + 1) * 2 ^ (hi + 1) := by ring
      _ ≤ 2 ^ (32 - (hi + 1)) * 2 ^ (hi + 1) := Nat.mul_le_mul_right _ hq
  rw [Nat.mod_eq_of_lt (by omega)]
  omega

theorem setBits_testBit (v : W32) (hi lo x i : Nat) (h : lo ≤ hi) (hw : hi < 32) :
    (setBits v hi lo x).toNat.testBit i = if lo ≤ i ∧ i ≤ hi then x.testBit (i - lo) else v.toNat.testBit i := by
  rw [setBits_toNat v hi lo x h hw]
  have h1 : hi + 1 = (hi + 1 - lo) + lo := by omega
  have ha := Nat.mod_lt v.toNat (Nat.two_pow_pos lo)
  have hx := Nat.mod_lt x (Nat.two_pow_pos (hi + 1 - lo))
  have e : v.toNat % 2 ^ lo + x % 2 ^ (hi + 1 - lo) * 2 ^ lo + v.toNat / 2 ^ (hi + 1) * 2 ^ (hi + 1)
      = 2 ^ lo * (2 ^ (hi + 1 - lo) * (v.toNat / 2 ^ (hi + 1)) + x % 2 ^ (hi + 1 - lo)) + v.toNat % 2 ^ lo := by
    have hp : 2 ^ (hi + 1) = 2 ^ (hi + 1 - lo) * 2 ^ lo := by rw [← Nat.pow_add]; congr 1
    rw [hp]; ring
  rw [e]
  by_cases hlo : i < lo
  · have hn : ¬ (lo ≤ i ∧ i ≤ hi) := by omega
    rw [if_neg hn, Nat.testBit_two_pow_mul_add _ ha, if_pos hlo, Nat.testBit_mod_two_pow]
    simp [hlo]
  · rw [Nat.testBit_two_pow_mul_add _ ha, if_neg hlo, Nat.testBit_two_pow_mul_add _ hx]
    by_cases hhi : i ≤ hi
    · rw [if_pos (by omega), if_pos ⟨by omega, hhi⟩, Nat.testBit_mod_two_pow]
      have : i - lo < hi + 1 - lo := by omega
      simp [this]
    · rw [if_neg (by omega), if_neg (by omega), Nat.testBit_div_two_pow]
      congr 1; omega

/-- The field written reads the low bits of the value; every field apart from it reads as before. -/
theorem bits_setBits (v : W32) (hi lo x : Nat) (h : lo ≤ hi) (hw : hi < 32) : bits (setBits v hi lo x) hi lo = x % 2 ^ (hi + 1 - lo) := by
  apply Nat.eq_of_testBit_eq
  intro j
  rw [bits_testBit, setBits_testBit v hi lo x _ h hw, Nat.testBit_mod_two_pow]
  by_cases hj : j < hi + 1 - lo
  · rw [if_pos ⟨by omega, by omega⟩]; simp [hj]
  · simp [hj]

theorem bits_setBits_apart (v : W32) (hi lo x hi' lo' : Nat) (h : lo ≤ hi) (hw : hi < 32) (ha : hi < lo' ∨ hi' < lo) :
    bits (setBits v hi lo x) hi' lo' = bits v hi' lo' := by
  apply Nat.eq_of_testBit_eq
  intro j
  rw [bits_testBit, bits_testBit, setBits_testBit v hi lo x _ h hw]
  by_cases hj : j < hi' + 1 - lo'
  · rw [if_neg (by omega)]
  · simp [hj]

/-! ## Fields -/

theorem Lane.f_wr_self (n : Lane) (r : FRef) (v : W32) : (n.wr r.off v).f r = bits v r.hi r.lo := by
  unfold Lane.f; rw [Lane.rd_wr_self]

theorem Lane.f_wr (n : Lane) (a : Nat) (v : W32) (r : FRef) : (n.wr a v).f r = if r.off = a then bits v r.hi r.lo else n.f r := by
  unfold Lane.f; rw [Lane.rd_wr]; split <;> rfl

theorem Lane.rd_setF (n : Lane) (r : FRef) (x b : Nat) :
    (n.setF r x).rd b = if b = r.off then setBits (n.rd r.off) r.hi r.lo x else n.rd b := Lane.rd_wr _ _ _ _

theorem Lane.f_setF_self (n : Lane) (r : FRef) (x : Nat) (h : r.lo ≤ r.hi) (hw : r.hi < 32) :
    (n.setF r x).f r = x % 2 ^ (r.hi + 1 - r.lo) := by
  unfold Lane.f Lane.setF; rw [Lane.rd_wr_self, bits_setBits _ _ _ _ h hw]

/-- Two fields do not meet: other registers, or other bits. -/
def FRef.apart (r q : FRef) : Bool := decide (r.off ≠ q.off) || decide (r.hi < q.lo) || decide (q.hi < r.lo)

/-- A field of a register: its bits in order and in the word. -/
def FRef.ok (r : FRef) : Bool := decide (r.lo ≤ r.hi) && decide (r.hi < 32)

theorem Lane.f_setF_apart (n : Lane) {r q : FRef} (x : Nat) (hr : r.ok = true) (h : q.apart r = true) : (n.setF r x).f q = n.f q := by
  simp only [FRef.ok, Bool.and_eq_true, decide_eq_true_eq] at hr
  simp only [FRef.apart, Bool.or_eq_true, decide_eq_true_eq] at h
  unfold Lane.f Lane.setF
  rw [Lane.rd_wr]
  split
  · next he =>
    rw [bits_setBits_apart _ _ _ _ _ _ hr.1 hr.2, he]
    rcases h with (h | h) | h
    · exact absurd he h
    · exact .inr h
    · exact .inl h
  · rfl

theorem Lane.f_setF_eq (n : Lane) {r : FRef} (x : Nat) (hr : r.ok = true) (hx : x < 2 ^ (r.hi + 1 - r.lo)) : (n.setF r x).f r = x := by
  simp only [FRef.ok, Bool.and_eq_true, decide_eq_true_eq] at hr
  rw [Lane.f_setF_self n r x hr.1 hr.2, Nat.mod_eq_of_lt hx]

theorem Lane.rd_setF_ne (n : Lane) (r : FRef) (x : Nat) {b : Nat} (h : b ≠ r.off) : (n.setF r x).rd b = n.rd b := by
  rw [Lane.rd_setF, if_neg h]

@[simp] theorem Lane.setFs_nil (n : Lane) : n.setFs [] = n := rfl
@[simp] theorem Lane.setFs_cons (n : Lane) (p : FRef × Nat) (ps : List (FRef × Nat)) : n.setFs (p :: ps) = (n.setF p.1 p.2).setFs ps := rfl

theorem Lane.rd_setFs_ne (n : Lane) (ps : List (FRef × Nat)) {b : Nat} (h : ∀ p ∈ ps, b ≠ p.1.off) : (n.setFs ps).rd b = n.rd b := by
  induction ps generalizing n with
  | nil => rfl
  | cons p ps ih =>
    rw [Lane.setFs_cons, ih _ fun q hq => h q (by simp [hq]), Lane.rd_setF_ne _ _ _ (h p (by simp))]

@[simp] theorem forEach_nil {α : Type} (f : α → Lane → Lane) (n : Lane) : forEach [] f n = n := rfl
@[simp] theorem forEach_cons {α : Type} (x : α) (xs : List α) (f : α → Lane → Lane) (n : Lane) :
    forEach (x :: xs) f n = forEach xs f (f x n) := rfl

end Sys2Proof.Machine
end

