-- ==== Sys2Proof/Laws/Power.lean ====
section
/-! SUPPORT. What the power controller's operations can do: they change PWR and CLK registers and the state behind PWR, and nothing
else of the lane. -/

namespace Sys2Proof.Machine

theorem PowerOnly.refl (n : Lane) : PowerOnly n n := ⟨rfl, fun _ _ => rfl⟩

theorem PowerOnly.trans {a b c : Lane} (h : PowerOnly a b) (g : PowerOnly b c) : PowerOnly a c := by
  obtain ⟨h1, h2⟩ := h
  obtain ⟨g1, g2⟩ := g
  exact ⟨by rw [g1, h1], fun off ho => (g2 off ho).trans (h2 off ho)⟩

/-- An offset of the PWR or CLK block. -/
def inPwr (a : Nat) : Prop := 0x001000 ≤ a ∧ a < 0x003000

section
variable {k n : Lane} (h : PowerOnly k n)
include h

theorem PowerOnly.upPwr (g : PwrState → PwrState) : PowerOnly k (n.upPwr g) := h.trans ⟨rfl, fun _ _ => rfl⟩

theorem PowerOnly.wr {a : Nat} (v : W32) (ha : inPwr a) : PowerOnly k (n.wr a v) :=
  h.trans ⟨rfl, fun off ho => Lane.rd_wr_ne _ _ (by unfold inPwr at ha; omega)⟩

theorem PowerOnly.setF {r : FRef} (x : Nat) (ha : inPwr r.off) : PowerOnly k (n.setF r x) := h.wr _ ha

theorem PowerOnly.sqEvent {r : FRef} (ha : inPwr r.off) : PowerOnly k (n.sqEvent r) := (h.setF 1 ha).setF _ ha

theorem PowerOnly.sqEventOnce {r : FRef} (ha : inPwr r.off) : PowerOnly k (n.sqEventOnce r) := by
  unfold Lane.sqEventOnce
  split
  · exact h
  · exact h.sqEvent ha

theorem PowerOnly.stepSat {r : FRef} (ha : inPwr r.off) : PowerOnly k (n.stepSat r) := by
  unfold Lane.stepSat
  simp only
  split
  · exact h.setF _ ha
  · exact h

theorem PowerOnly.resMark (d : Nat) : PowerOnly k (n.resMark d) := by
  unfold Lane.resMark
  exact h.upPwr _

theorem PowerOnly.idleRestart (d : Nat) : PowerOnly k (n.idleRestart d) := h.upPwr _
end

theorem PowerOnly.setFs {k : Lane} (ps : List (FRef × Nat)) (hp : ∀ p ∈ ps, inPwr p.1.off) :
    ∀ {n : Lane}, PowerOnly k n → PowerOnly k (n.setFs ps) := by
  induction ps with
  | nil => exact fun h => h
  | cons p ps ih => exact fun h => ih (fun q hq => hp q (by simp [hq])) (h.setF p.2 (hp p (by simp)))

theorem PowerOnly.forEach {k : Lane} {α : Type} {f : α → Lane → Lane} : ∀ (xs : List α) {n : Lane}, PowerOnly k n →
    (∀ x ∈ xs, ∀ m, PowerOnly k m → PowerOnly k (f x m)) → PowerOnly k (forEach xs f n)
  | [], _, h, _ => h
  | x :: xs, _, h, hf => PowerOnly.forEach xs (hf x (by simp) _ h) fun y hy => hf y (by simp [hy])

/-- The registers of domain `d` stand in PWR. -/
theorem stat_in {d : Nat} (h : d < 9) : inPwr (R.PWR_Dd_STAT d) := by unfold inPwr R.PWR_Dd_STAT; omega
theorem cnt_in {d : Nat} (h : d < 9) : inPwr (R.PWR_Dd_CNT d) := by unfold inPwr R.PWR_Dd_CNT; omega
theorem evt_in : inPwr R.PWR_EVT := by unfold inPwr R.PWR_EVT; omega
theorem pstat_in : inPwr R.PWR_STAT := by unfold inPwr R.PWR_STAT; omega
theorem cstat_in : inPwr R.CLK_STAT := by unfold inPwr R.CLK_STAT; omega
theorem cal_in : inPwr R.CLK_ACLKCAL := by unfold inPwr R.CLK_ACLKCAL; omega

section
variable {k n : Lane} {d : Nat} (h : PowerOnly k n)
include h

theorem PowerOnly.setDom (st : Nat) (hd : d < 9) : PowerOnly k (n.setDom d st) := by
  unfold Lane.setDom
  have a : PowerOnly k ((n.resMark d).setF (F.PWR_Dd_STAT.STATE d) st) := (h.resMark d).setF _ (stat_in hd)
  generalize (n.resMark d).setF (F.PWR_Dd_STAT.STATE d) st = m at a ⊢
  simp only
  by_cases e : d = dACT
  · rw [if_pos e]; exact a.setF _ cstat_in
  · rw [if_neg e]; exact a

theorem PowerOnly.pwrEvt {flag : FRef} (hf : flag.off = R.PWR_EVT) : PowerOnly k (n.pwrEvt flag d) := by
  have hi : inPwr flag.off := hf ▸ evt_in
  unfold Lane.pwrEvt
  simp only
  split
  · exact h
  · generalize (!(n.on F.PWR_EVT.SUPPLY || n.on F.PWR_EVT.DOMFAIL || n.on F.PWR_EVT.SUPER || n.on F.PWR_EVT.ABORT)) = b
    cases b
    · exact h.sqEvent hi
    · exact (h.setF _ evt_in).sqEvent hi

theorem PowerOnly.laneResume : PowerOnly k n.laneResume := by
  unfold Lane.laneResume
  split
  · exact h.upPwr _
  · exact h

theorem PowerOnly.clkWake : PowerOnly k (n.clkWake d) := by
  unfold Lane.clkWake
  have a := h.upPwr fun x => { x with pllStop := none }
  generalize n.upPwr (fun x => { x with pllStop := none }) = m at a ⊢
  simp only
  have b : PowerOnly k (if m.on F.PWR_STAT.PLLON then m else (m.laneResume.setF F.PWR_STAT.PLLON 1).setF F.CLK_ACLKCAL.VALID 0) := by
    split
    · exact a
    · exact (a.laneResume.setF _ pstat_in).setF _ cal_in
  generalize (if m.on F.PWR_STAT.PLLON then m else (m.laneResume.setF F.PWR_STAT.PLLON 1).setF F.CLK_ACLKCAL.VALID 0) = m' at b ⊢
  split
  · exact ((b.setF _ cstat_in).setF _ pstat_in).upPwr _
  · exact b

theorem PowerOnly.beginExit (hd : d < 9) : PowerOnly k (n.beginExit d) := by
  unfold Lane.beginExit
  exact (((h.clkWake (d := d)).setDom 4 hd).setF 0 (stat_in hd)).upPwr _

theorem PowerOnly.beginEntry (tgt : Nat) (hd : d < 9) : PowerOnly k (n.beginEntry d tgt) := by
  unfold Lane.beginEntry
  exact ((h.setDom 3 hd).setF tgt (stat_in hd)).upPwr _

theorem PowerOnly.abandon (st : Nat) (hd : d < 9) : PowerOnly k
    ((((n.setDom d st).setFs [(F.PWR_Dd_STAT.TARGET d, 0), (F.PWR_Dd_STAT.PVAL d, 0), (F.PWR_Dd_STAT.PEND d, 0)]).stepSat
      (F.PWR_Dd_CNT.ABORTS d)).pwrEvt F.PWR_EVT.ABORT d) :=
  ((((((h.setDom st hd).setF 0 (stat_in hd)).setF 0 (stat_in hd)).setF 0 (stat_in hd)).stepSat (cnt_in hd)).pwrEvt rfl)

/-- A wake changes what the power controller holds, and nothing else. -/
theorem PowerOnly.wake (hd : d < 9) : PowerOnly k (n.wake d) := by
  unfold Lane.wake
  have a := h.idleRestart d
  generalize n.idleRestart d = m at a ⊢
  simp only
  split
  · exact a
  · split
    · exact a.beginExit hd
    · exact a.beginExit hd
    · split
      · generalize (if Cells.get 0 m.pwr.leaving d = 1 then 1 else 0) = st
        have b := a.abandon st hd
        split
        · exact b.beginExit hd
        · exact b
      · exact a.upPwr _
    · exact a

theorem PowerOnly.wakeCore (flag : FRef) : PowerOnly k (n.wakeCore flag) := by
  unfold Lane.wakeCore
  split
  · exact h.wake (by decide)
  · exact (h.upPwr _).wake (by decide)

theorem PowerOnly.wakeDoms (doms : Nat) (flag : FRef) : PowerOnly k (n.wakeDoms doms flag) := by
  unfold Lane.wakeDoms
  refine PowerOnly.forEach _ (h.wakeCore flag) fun d hd m hm => ?_
  have hd : d < 9 := by simp only [List.mem_cons, List.not_mem_nil, or_false] at hd; omega
  split
  · exact hm.wake hd
  · exact hm

theorem PowerOnly.latchReq (tgt : Nat) (hd : d < 9) : PowerOnly k (n.latchReq d tgt) := by
  unfold Lane.latchReq
  simp only
  split
  · exact h
  · generalize n.on (F.PWR_Dd_STAT.PVAL d) = b
    cases b
    · exact (h.setF _ (stat_in hd)).setF _ (stat_in hd)
    · exact (((h.stepSat (cnt_in hd)).pwrEvt rfl).setF _ (stat_in hd)).setF _ (stat_in hd)

theorem PowerOnly.evalDom (hd : d < 9) : PowerOnly k (n.evalDom d) := by
  unfold Lane.evalDom
  generalize (if n.held d then 1 else 0) = v
  have a := h.setF (r := F.PWR_Dd_STAT.HELD d) v (stat_in hd)
  generalize n.setF (F.PWR_Dd_STAT.HELD d) v = m at a ⊢
  simp only
  generalize m.targetOf d = tgt
  split
  · split
    · exact a
    · exact a.beginEntry _ hd
  · split
    · exact a.wake hd
    · split
      · exact a.beginEntry _ hd
      · exact a
  · split
    · exact a
    · exact a.wake hd
  · split
    · exact a.wake hd
    · split
      · exact a.wake hd
      · split
        · exact a.latchReq _ hd
        · exact a
  · split
    · exact a
    · exact a.latchReq _ hd

theorem PowerOnly.evalAll : PowerOnly k n.evalAll :=
  PowerOnly.forEach _ h fun d hd m hm => hm.evalDom (by simp only [List.mem_cons, List.not_mem_nil, or_false] at hd; omega)

/-- Judging the holds anew changes what the power controller holds, and nothing else. -/
theorem PowerOnly.checkHolds : PowerOnly k n.checkHolds := by
  unfold Lane.checkHolds
  refine PowerOnly.forEach _ h fun d hd m hm => ?_
  have hd : d < 9 := by simp only [List.mem_cons, List.not_mem_nil, or_false] at hd; omega
  split
  · split
    · exact hm
    · split
      · exact hm.wakeCore _
      · exact hm.wake hd
  · split
    · exact hm.evalDom hd
    · exact hm
end

theorem ite_of {α : Type} {p : α → Prop} {c : Prop} [Decidable c] {a b : α} (ha : p a) (hb : p b) : p (if c then a else b) := by
  split
  · exact ha
  · exact hb

theorem domainOf_lt {off d : Nat} (h : domainOf off = some d) : d < 9 := by
  have all : (domainOf off).all (fun d => decide (d < 9)) = true := by
    unfold domainOf
    repeat (refine ite_of (p := fun o : Option Nat => o.all (fun d => decide (d < 9)) = true) rfl ?_)
    rfl
  rw [h] at all
  simpa using all

theorem PowerOnly.wakeFor {k n : Lane} (h : PowerOnly k n) (off : Nat) : PowerOnly k (n.wakeFor off) := by
  unfold Lane.wakeFor
  have a : PowerOnly k (if n.domState dCORE = 0 then n else n.wakeCore F.PWR_WCAUSE.ACCESS) := by
    split
    · exact h
    · exact h.wakeCore _
  generalize (if n.domState dCORE = 0 then n else n.wakeCore F.PWR_WCAUSE.ACCESS) = m at a ⊢
  simp only
  split
  · next d hd => exact a.wake (domainOf_lt hd)
  · exact a

/-! Every part of a lane but PWR and CLK is as before. -/

section
variable {n m : Lane}
theorem PowerOnly.id_eq (h : PowerOnly n m) : m.id = n.id := by rw [h.parts]
theorem PowerOnly.now_eq (h : PowerOnly n m) : m.now = n.now := by rw [h.parts]
theorem PowerOnly.kst_eq (h : PowerOnly n m) : m.kst = n.kst := by rw [h.parts]
theorem PowerOnly.oap_eq (h : PowerOnly n m) : m.oap = n.oap := by rw [h.parts]
theorem PowerOnly.pwm_eq (h : PowerOnly n m) : m.pwm = n.pwm := by rw [h.parts]
theorem PowerOnly.gdv_eq (h : PowerOnly n m) : m.gdv = n.gdv := by rw [h.parts]
theorem PowerOnly.fbi_eq (h : PowerOnly n m) : m.fbi = n.fbi := by rw [h.parts]
theorem PowerOnly.adc_eq (h : PowerOnly n m) : m.adc = n.adc := by rw [h.parts]
theorem PowerOnly.cfe_eq (h : PowerOnly n m) : m.cfe = n.cfe := by rw [h.parts]
theorem PowerOnly.cle_eq (h : PowerOnly n m) : m.cle = n.cle := by rw [h.parts]
theorem PowerOnly.tpe_eq (h : PowerOnly n m) : m.tpe = n.tpe := by rw [h.parts]
theorem PowerOnly.saf_eq (h : PowerOnly n m) : m.saf = n.saf := by rw [h.parts]
theorem PowerOnly.sys_eq (h : PowerOnly n m) : m.sys = n.sys := by rw [h.parts]
theorem PowerOnly.mram_eq (h : PowerOnly n m) : m.mram = n.mram := by rw [h.parts]
theorem PowerOnly.can_eq (h : PowerOnly n m) : m.can = n.can := by rw [h.parts]
theorem PowerOnly.hst_eq (h : PowerOnly n m) : m.hst = n.hst := by rw [h.parts]
theorem PowerOnly.lnt_eq (h : PowerOnly n m) : m.lnt = n.lnt := by rw [h.parts]
theorem PowerOnly.upd_eq (h : PowerOnly n m) : m.upd = n.upd := by rw [h.parts]
theorem PowerOnly.f_eq (h : PowerOnly n m) (r : FRef) (hr : r.off < 0x001000 ∨ 0x003000 ≤ r.off) : m.f r = n.f r :=
  Lane.f_congr (h.regs _ hr)
end

end Sys2Proof.Machine
end

