-- ==== Sys2Proof/Laws/Access.lean ====
section
/-! SUPPORT. Register access: a write that is accepted has its effect and then the holds are judged; what a rejected access records. -/

namespace Sys2Proof.Machine

/-! ## Accepted writes -/

theorem Lane.wake_on {n : Lane} {d : Nat} (h : n.domState d = 0) : n.wake d = n.idleRestart d := by
  unfold Lane.wake
  have e : (n.idleRestart d).domState d = 0 := h
  simp only [e, ite_self]

theorem Lane.rd_of_regs {n m : Lane} (h : m.regs = n.regs) : m.rd = n.rd := by
  funext a; unfold Lane.rd; rw [h]

theorem Lane.f_of_regs {n m : Lane} (h : m.regs = n.regs) : m.f = n.f := by
  funext r; unfold Lane.f; rw [Lane.rd_of_regs h]

theorem Lane.on_of_regs {n m : Lane} (h : m.regs = n.regs) : m.on = n.on := by
  funext r; unfold Lane.on; rw [Lane.f_of_regs h]

/-- How a write is judged depends on the registers and on the SYS block alone. -/
theorem Lane.judge_congr {n m : Lane} (h : m.regs = n.regs) (hs : m.sys = n.sys) : m.judge = n.judge := by
  funext r off v
  unfold Lane.judge Lane.enableSet Lane.lockSet Lane.cfeOwned Lane.inTuning
  rw [Lane.on_of_regs h, Lane.f_of_regs h, hs]

theorem PowerOnly.touch {k n : Lane} (h : PowerOnly k n) (off : Nat) : PowerOnly k (n.touch off) := by
  unfold Lane.touch
  split
  · exact h.idleRestart _
  · exact h

theorem Lane.touch_regs (n : Lane) (off : Nat) : (n.touch off).regs = n.regs := by unfold Lane.touch; split <;> rfl
theorem Lane.touch_lnt (n : Lane) (off : Nat) : (n.touch off).lnt = n.lnt := by unfold Lane.touch; split <;> rfl
theorem Lane.touch_sys (n : Lane) (off : Nat) : (n.touch off).sys = n.sys := by unfold Lane.touch; split <;> rfl
@[simp] theorem Lane.touch_f (n : Lane) (off : Nat) (r : FRef) : (n.touch off).f r = n.f r := by rw [Lane.f_of_regs (Lane.touch_regs n off)]
@[simp] theorem Lane.touch_rd (n : Lane) (off a : Nat) : (n.touch off).rd a = n.rd a := by rw [Lane.rd_of_regs (Lane.touch_regs n off)]

/-- A write that reaches its block is judged there. -/
theorem Lane.regWrite_serves {n : Lane} {org off : Nat} (v : W32) (eff : Lane → Lane) (h : n.serves org off = true) :
    n.regWrite org off v eff = (n.touch off).judged org off v eff := by
  simp only [Lane.serves, Bool.and_eq_true, Bool.not_eq_true'] at h
  obtain ⟨⟨⟨⟨⟨⟨h1, h2⟩, h3⟩, h4⟩, h5⟩, h6⟩, h7⟩ := h
  have hsh : n.shut { org := org, off := off, write := true, val := v } = false := h1
  have ht : n.wakeAt off = n.touch off := by
    unfold Lane.wakeAt Lane.touch
    unfold Lane.reachable at h6
    cases hd : domainOf off with
    | none => rfl
    | some d =>
      rw [hd] at h6
      simp only [Bool.and_eq_true, Lane.domOn, beq_iff_eq] at h6
      exact Lane.wake_on h6.1.2
  have h5' : (n.touch off).outOfService off = false := by
    rw [← h5]; unfold Lane.outOfService Lane.bit; simp only [Lane.touch_f]
  have h6' : (n.touch off).reachable org off = true := by
    rw [← h6]; unfold Lane.reachable Lane.domOn Lane.domState; simp only [Lane.touch_f, Lane.touch_sys]
  have h7' : (n.touch off).mirrorWaits { org := org, off := off, write := true, val := v } = false := by
    rw [← h7]; unfold Lane.mirrorWaits Lane.mirrorFull Lane.mirrorLen; rw [Lane.touch_sys, Lane.touch_lnt]
  have hb : n.barred { org := org, off := off, write := true, val := v } = false := rfl
  unfold Lane.regWrite Lane.gate
  simp only [hsh, h2, h3, h4, hb, Bool.false_eq_true, if_false, Bool.true_eq_false, Bool.or_self]
  rw [ht]
  simp only [h5', h6', h7', Bool.false_eq_true, if_false, Bool.true_eq_false, Lane.orStall]

/-- A write that is accepted has its effect; then the holds are judged anew. -/
theorem Lane.regWrite_accepts {n : Lane} {org off : Nat} {v : W32} (eff : Lane → Lane) (h : n.accepts org off v = true) :
    n.regWrite org off v eff = (eff (n.touch off)).checkHolds := by
  unfold Lane.accepts at h
  rw [Bool.and_eq_true] at h
  rw [Lane.regWrite_serves v eff h.1]
  unfold Lane.judged
  obtain ⟨_, h2⟩ := h
  cases hr : regRow off with
  | none => rw [hr] at h2; exact absurd h2 Bool.false_ne_true
  | some r =>
    rw [hr] at h2
    simp only [Option.isNone_iff_eq_none] at h2
    simp only [Lane.judge_congr (Lane.touch_regs n off) (Lane.touch_sys n off), h2]

/-- Registers outside PWR and CLK after an accepted write are as its effect leaves them. -/
theorem Lane.regWrite_f {n : Lane} {org off : Nat} {v : W32} {eff : Lane → Lane} (h : n.accepts org off v = true) (r : FRef)
    (hr : r.off < 0x001000 ∨ 0x003000 ≤ r.off) : (n.regWrite org off v eff).f r = (eff (n.touch off)).f r := by
  rw [Lane.regWrite_accepts eff h]
  exact ((PowerOnly.refl _).checkHolds).f_eq r hr

/-! ## Commands on their lane -/

theorem answers_onLane {c : Instr} {s : State} {P : Lane → Prop} {l : LaneId} {t : Nat} {f : Lane → Lane}
    (h : exec c s = onLane l t s f) (hl : c.lane = l) (hp : P (f (s.laneAt l t))) : Answers c s P := by
  subst hl
  exact ⟨_, h, hp⟩

theorem answers_onAon {c : Instr} {s : State} {P : Lane → Prop} {l : LaneId} {t : Nat} {f : Lane → Lane}
    (h : exec c s = onAon l t s f) (hl : c.lane = l) (hw : (s.laneAt l t).sys.powered = true) (hp : P (f (s.laneAt l t))) : Answers c s P := by
  refine answers_onLane (f := fun n => if n.sys.powered then f n else n) h hl ?_
  show P (if _ then _ else _)
  rw [if_pos hw]; exact hp

theorem answers_onDomain {c : Instr} {s : State} {P : Lane → Prop} {l : LaneId} {t d : Nat} {f : Lane → Lane}
    (h : exec c s = onDomain l t d s f) (hl : c.lane = l) (hw : (s.laneAt l t).domOn d = true) (hp : P (f (s.laneAt l t))) : Answers c s P := by
  refine answers_onLane (f := fun n => if n.domOn d then f n else n) h hl ?_
  show P (if _ then _ else _)
  rw [if_pos hw]; exact hp

theorem Lane.fetch_eq (n : Lane) (fe : Bool) : n.fetch fe = n.fetched fe := by
  unfold Lane.fetch Lane.fetched; cases fe <;> cases n.oap.stall <;> rfl

/-- An instruction that is issued. -/
theorem answers_instruction {c : Instr} {s : State} {P : Lane → Prop} {l : LaneId} {t : Nat} {w : W32} {fe : Bool} {f : Lane → Lane}
    (h : exec c s = instruction l t w fe s f) (hl : c.lane = l) (hi : (s.laneAt l t).issues w = true)
    (hp : P (f ((s.laneAt l t).fetched fe))) : Answers c s P := by
  unfold Lane.issues at hi
  simp only [Bool.and_eq_true] at hi
  refine answers_onDomain h hl hi.1.1 ?_
  show P (if _ then _ else _)
  simp only [hi.1.2, hi.2, Bool.and_self, if_true, Lane.fetch_eq]
  exact hp

/-! ## Messages and records -/

@[simp] theorem Lane.raise_regs (n : Lane) (a b c : Nat) : (n.raise a b c).regs = n.regs := rfl
@[simp] theorem Lane.raise_f (n : Lane) (a b c : Nat) (r : FRef) : (n.raise a b c).f r = n.f r := rfl
@[simp] theorem Lane.raise_rd (n : Lane) (a b c k : Nat) : (n.raise a b c).rd k = n.rd k := rfl
@[simp] theorem Lane.raise_sys (n : Lane) (a b c : Nat) : (n.raise a b c).sys = n.sys := rfl

/-- A raise puts one message at the end of the collector's queue; beside it, only what the collector keeps of an injection changes. -/
theorem Lane.raise_kst (n : Lane) (a b c : Nat) :
    (n.raise a b c).kst = { n.kst with
      msgs := n.kst.msgs ++ [{ src := a, kind := b, word := c % 2 ^ 16, inj := n.injArmed a c }]
      inj := (n.raise a b c).kst.inj
      redo := (n.raise a b c).kst.redo } := rfl

theorem Lane.raise_raised (n : Lane) (a b c : Nat) : Raised n (n.raise a b c) a b c := by
  refine ⟨rfl, fun h => ?_, _, rfl, rfl, rfl, rfl, rfl⟩
  show (if n.injArmed a c then _ else _) = _
  rw [h]; rfl

end Sys2Proof.Machine
end

