-- ==== Sys2Proof/Laws/Command.lean ====
section
/-! SUPPORT. What every command has in common: it is the effect of its own lane's state on that lane alone, and leaves the queue. -/

namespace Sys2Proof.Machine

/-- A meaning on lane `l`: `f` gives the lane's next state from the commands that wait and the lane; nothing else of the package enters,
and nothing else changes. -/
def OnLane (l : LaneId) (m : State → Host.Outcome State Fault Refusal) : Prop :=
  ∃ f : List Instr → Lane → Lane, ∀ s, m s = .next (s.setLane l (f s.pending (s.lane l)))

theorem onLane_shape (l : LaneId) (t : Nat) (f : Lane → Lane) : OnLane l fun s => onLane l t s f :=
  ⟨fun _ n => f (n.advance t), fun _ => rfl⟩

theorem onDomain_shape (l : LaneId) (t d : Nat) (f : Lane → Lane) : OnLane l fun s => onDomain l t d s f :=
  onLane_shape l t fun n => if n.domOn d then f n else n

theorem onDomain_queue_shape (l : LaneId) (t d : Nat) (f : List Instr → Lane → Lane) : OnLane l fun s => onDomain l t d s (f s.pending) :=
  ⟨fun q n => let n := n.advance t; if n.domOn d then f q n else n, fun _ => rfl⟩

theorem onAon_shape (l : LaneId) (t : Nat) (f : Lane → Lane) : OnLane l fun s => onAon l t s f :=
  onLane_shape l t fun n => if n.sys.powered then f n else n

theorem instruction_shape (l : LaneId) (t : Nat) (w : W32) (fe : Bool) (f : Lane → Lane) : OnLane l fun s => instruction l t w fe s f :=
  onDomain_shape l t dCORE _

theorem regForm_shape (fn : Nat) (l : LaneId) (t : Nat) (fe : Bool) (d a b : BitVec 5) (cyc : Nat) (f : W32 → W32 → W32) :
    OnLane l fun s => regForm fn l t fe d a b s cyc f := instruction_shape l t _ fe _

theorem constForm_shape (cls : Nat) (l : LaneId) (t : Nat) (fe : Bool) (d a : BitVec 5) (k : BitVec 18) (f : W32 → W32) :
    OnLane l fun s => constForm cls l t fe d a k s f := instruction_shape l t _ fe _

theorem branchForm_shape (cnd : Nat) (l : LaneId) (t : Nat) (fe : Bool) (a b : BitVec 5) (k : BitVec 13) (p : W32 → W32 → Bool) :
    OnLane l fun s => branchForm cnd l t fe a b k s p := instruction_shape l t _ fe _

/-- What `exec` answers for the command `c`, given by its own lane and the commands that wait. -/
def Shape (c : Instr) : Prop :=
  ∃ f : List Instr → Lane → Lane, ∀ s, exec c s = if c.wellFormed then .next (s.setLane c.lane (f s.pending (s.lane c.lane))) else .fault .illFormed

theorem shape_of {c : Instr} {m : State → Host.Outcome State Fault Refusal} (h : OnLane c.lane m) (he : exec c = m)
    (hw : c.wellFormed = true) : Shape c := by
  obtain ⟨f, hf⟩ := h
  exact ⟨f, fun s => by rw [he, hf, hw]; rfl⟩

theorem shape_wf {c : Instr} {m : State → Host.Outcome State Fault Refusal} (h : OnLane c.lane m)
    (he : exec c = fun s => wellFormedOnly c.wellFormed (m s)) : Shape c := by
  obtain ⟨f, hf⟩ := h
  exact ⟨f, fun s => by rw [he]; simp only [hf, wellFormedOnly]⟩

/-- Every command a sender can form answers a next state, which its own lane's state and the queue decide and which differs in that lane
alone; every other stops with illFormed. -/
theorem exec_shape (c : Instr) : Shape c := by
  cases c with
  | vaonPowerOn l t => exact shape_of (m := execVaonPowerOn l t) (onLane_shape _ _ _) rfl rfl
  | pornReset l t => exact shape_of (m := execPornReset l t) (onLane_shape _ _ _) rfl rfl
  | trstnReset l t => exact shape_of (m := execTrstnReset l t) (onLane_shape _ _ _) rfl rfl
  | warmStartRequest l t org v => exact shape_of (m := execWarmStartRequest l t org v) (onLane_shape _ _ _) rfl rfl
  | startSequence l t coreOk => exact shape_of (m := execStartSequence l t coreOk) (onAon_shape _ _ _) rfl rfl
  | selftestResults l t parts mems words => exact shape_of (m := execSelftestResults l t parts mems words) (onAon_shape _ _ _) rfl rfl
  | injectionTestEnd l t runs item core => exact shape_of (m := execInjectionTestEnd l t runs item core) (onDomain_shape _ _ _ _) rfl rfl
  | ashlarLoadEnd l t up dn => exact shape_of (m := execAshlarLoadEnd l t up dn) (onDomain_shape _ _ _ _) rfl rfl
  | startupImageCopyEnd l t => exact shape_of (m := execStartupImageCopyEnd l t) (onDomain_shape _ _ _ _) rfl rfl
  | statusMessageReceive l t crc m => exact shape_wf (onLane_shape _ _ _) rfl
  | statusResend l t => exact shape_of (m := execStatusResend l t) (onDomain_shape _ _ _ _) rfl rfl
  | peerWaitExpiry l t =>
    exact shape_of (m := execPeerWaitExpiry l t)
      (onDomain_queue_shape _ _ _ fun q n => if peerFirst l n.now q then n else Sys2Proof.Machine.peerWaitExpiry n) rfl rfl
  | laneRelease l t org v => exact shape_of (m := execLaneRelease l t org v) (onLane_shape _ _ _) rfl rfl
  | groupArm l t org v => exact shape_of (m := execGroupArm l t org v) (onLane_shape _ _ _) rfl rfl
  | lcProvision l t org v => exact shape_of (m := execLcProvision l t org v) (onLane_shape _ _ _) rfl rfl
  | lcField l t org v => exact shape_of (m := execLcField l t org v) (onLane_shape _ _ _) rfl rfl
  | lcToken l t org v => exact shape_of (m := execLcToken l t org v) (onLane_shape _ _ _) rfl rfl
  | lcReturn l t org v => exact shape_of (m := execLcReturn l t org v) (onLane_shape _ _ _) rfl rfl
  | tokenCheckComplete l t => exact shape_of (m := execTokenCheckComplete l t) (onDomain_shape _ _ _ _) rfl rfl
  | lifecycleWriteComplete l t => exact shape_of (m := execLifecycleWriteComplete l t) (onDomain_shape _ _ _ _) rfl rfl
  | returnedEraseComplete l t => exact shape_of (m := execReturnedEraseComplete l t) (onDomain_shape _ _ _ _) rfl rfl
  | commandSelfTest l t org v => exact shape_of (m := execCommandSelfTest l t org v) (onLane_shape _ _ _) rfl rfl
  | commandSelfTestComplete l t parts mems words => exact shape_of (m := execCommandSelfTestComplete l t parts mems words) (onAon_shape _ _ _) rfl rfl
  | registerWrite l t org off size v => exact shape_wf (onLane_shape _ _ _) rfl
  | sequenceClear l t org off v => exact shape_of (m := execSequenceClear l t org off v) (onLane_shape _ _ _) rfl rfl
  | lintelWindowRead l t org off => exact shape_of (m := execLintelWindowRead l t org off) (onLane_shape _ _ _) rfl rfl
  | lintelWindowWrite l t org off v => exact shape_of (m := execLintelWindowWrite l t org off v) (onLane_shape _ _ _) rfl rfl
  | windowRequestReceive l t crc off => exact shape_of (m := execWindowRequestReceive l t crc off) (onLane_shape _ _ _) rfl rfl
  | windowResponseReceive l t crc ok data => exact shape_of (m := execWindowResponseReceive l t crc ok data) (onLane_shape _ _ _) rfl rfl
  | windowReadTimeout l t => exact shape_of (m := execWindowReadTimeout l t) (onDomain_shape _ _ _ _) rfl rfl
  | heartbeatSend l t => exact shape_of (m := execHeartbeatSend l t) (onDomain_shape _ _ _ _) rfl rfl
  | heartbeatReceive l t crc w => exact shape_of (m := execHeartbeatReceive l t crc w) (onLane_shape _ _ _) rfl rfl
  | heartbeatMissing l t => exact shape_of (m := execHeartbeatMissing l t) (onDomain_shape _ _ _ _) rfl rfl
  | kmsgReceive l t crc msg => exact shape_of (m := execKmsgReceive l t crc msg) (onLane_shape _ _ _) rfl rfl
  | lintelSyncLoss l t => exact shape_of (m := execLintelSyncLoss l t) (onDomain_shape _ _ _ _) rfl rfl
  | mirrorReceive l t crc slot off data => exact shape_wf (onLane_shape _ _ _) rfl
  | mirrorCommitReceive l t crc slot seq resync => exact shape_of (m := execMirrorCommitReceive l t crc slot seq resync) (onLane_shape _ _ _) rfl rfl
  | lintelWakeReceive l t => exact shape_of (m := execLintelWakeReceive l t) (onAon_shape _ _ _) rfl rfl
  | peerwake l t org v => exact shape_of (m := execPeerwake l t org v) (onLane_shape _ _ _) rfl rfl
  | chainTrigger l t c => exact shape_of (m := execChainTrigger l t c) (onDomain_shape _ _ _ _) rfl rfl
  | loopDispatch l t => exact shape_of (m := execLoopDispatch l t) (onDomain_shape _ _ _ _) rfl rfl
  | loopOutput l t => exact shape_of (m := execLoopOutput l t) (onDomain_shape _ _ _ _) rfl rfl
  | cfeExecution l t g => exact shape_of (m := execCfeExecution l t g) (onDomain_shape _ _ _ _) rfl rfl
  | pwmStart l t org v => exact shape_of (m := execPwmStart l t org v) (onLane_shape _ _ _) rfl rfl
  | pwmStop l t org v => exact shape_of (m := execPwmStop l t org v) (onLane_shape _ _ _) rfl rfl
  | loadAllArm l t org v => exact shape_of (m := execLoadAllArm l t org v) (onLane_shape _ _ _) rfl rfl
  | pwmEvent l t b cnt down => exact shape_of (m := execPwmEvent l t b cnt down) (onDomain_shape _ _ _ _) rfl rfl
  | compareMatch l t leg cnt down => exact shape_of (m := execCompareMatch l t leg cnt down) (onDomain_shape _ _ _ _) rfl rfl
  | turnOnDue l t leg high => exact shape_of (m := execTurnOnDue l t leg high) (onDomain_shape _ _ _ _) rfl rfl
  | overrideApply l t leg => exact shape_of (m := execOverrideApply l t leg) (onDomain_shape _ _ _ _) rfl rfl
  | groupRun l t org v => exact shape_of (m := execGroupRun l t org v) (onLane_shape _ _ _) rfl rfl
  | groupIdle l t org v => exact shape_of (m := execGroupIdle l t org v) (onLane_shape _ _ _) rfl rfl
  | tripAssert l t trip => exact shape_of (m := execTripAssert l t trip) (onDomain_shape _ _ _ _) rfl rfl
  | tripDeassert l t trip => exact shape_of (m := execTripDeassert l t trip) (onDomain_shape _ _ _ _) rfl rfl
  | tripRelease l t org v => exact shape_of (m := execTripRelease l t org v) (onLane_shape _ _ _) rfl rfl
  | pwmBlockEnable l t org v => exact shape_of (m := execPwmBlockEnable l t org v) (onLane_shape _ _ _) rfl rfl
  | edgeFrame l t k => exact shape_of (m := execEdgeFrame l t k) (onDomain_shape _ _ _ _) rfl rfl
  | edgeFrameDiscard l t k => exact shape_of (m := execEdgeFrameDiscard l t k) (onDomain_shape _ _ _ _) rfl rfl
  | returnFrame l t ok => exact shape_of (m := execReturnFrame l t ok) (onDomain_shape _ _ _ _) rfl rfl
  | gclControlWriteApply l t => exact shape_of (m := execGclControlWriteApply l t) (onDomain_shape _ _ _ _) rfl rfl
  | gclLoss l t refAbsent => exact shape_of (m := execGclLoss l t refAbsent) (onAon_shape _ _ _) rfl rfl
  | directPinTakeover l t => exact shape_of (m := execDirectPinTakeover l t) (onAon_shape _ _ _) rfl rfl
  | directPinChange l t sw level => exact shape_of (m := execDirectPinChange l t sw level) (onAon_shape _ _ _) rfl rfl
  | gclUp l t => exact shape_of (m := execGclUp l t) (onDomain_shape _ _ _ _) rfl rfl
  | gclRearm l t org v => exact shape_of (m := execGclRearm l t org v) (onLane_shape _ _ _) rfl rfl
  | cpokChange l t ok => exact shape_of (m := execCpokChange l t ok) (onAon_shape _ _ _) rfl rfl
  | uvloAssert l t sw vbs => exact shape_of (m := execUvloAssert l t sw vbs) (onAon_shape _ _ _) rfl rfl
  | uvloRecover l t sw => exact shape_of (m := execUvloRecover l t sw) (onAon_shape _ _ _) rfl rfl
  | uvloLatchClear l t org v => exact shape_of (m := execUvloLatchClear l t org v) (onLane_shape _ _ _) rfl rfl
  | feedSwitchOff l t f c => exact shape_of (m := execFeedSwitchOff l t f c) (onAon_shape _ _ _) rfl rfl
  | feedSwitchOn l t f => exact shape_of (m := execFeedSwitchOn l t f) (onAon_shape _ _ _) rfl rfl
  | reverseLatchClear l t f => exact shape_of (m := execReverseLatchClear l t f) (onAon_shape _ _ _) rfl rfl
  | blankingEnd l t sw longest cur => exact shape_of (m := execBlankingEnd l t sw longest cur) (onAon_shape _ _ _) rfl rfl
  | shortDetect l t sw hard => exact shape_of (m := execShortDetect l t sw hard) (onAon_shape _ _ _) rfl rfl
  | softPeriodEnd l t sw => exact shape_of (m := execSoftPeriodEnd l t sw) (onAon_shape _ _ _) rfl rfl
  | comparatorSelfTest l t org v => exact shape_of (m := execComparatorSelfTest l t org v) (onLane_shape _ _ _) rfl rfl
  | gateLeakageCheck l t org v => exact shape_of (m := execGateLeakageCheck l t org v) (onLane_shape _ _ _) rfl rfl
  | checkComplete l t pass slow tch vend => exact shape_of (m := execCheckComplete l t pass slow tch vend) (onDomain_shape _ _ _ _) rfl rfl
  | reflexLatchClear l t org v => exact shape_of (m := execReflexLatchClear l t org v) (onLane_shape _ _ _) rfl rfl
  | gdvBlockEnable l t org v => exact shape_of (m := execGdvBlockEnable l t org v) (onLane_shape _ _ _) rfl rfl
  | feedbackInputChange l t ch inp => exact shape_of (m := execFeedbackInputChange l t ch inp) (onDomain_shape _ _ _ _) rfl rfl
  | absoluteTimeout l t ch => exact shape_of (m := execAbsoluteTimeout l t ch) (onDomain_shape _ _ _ _) rfl rfl
  | ssiTransferComplete l t ch word pre tail => exact shape_of (m := execSsiTransferComplete l t ch word pre tail) (onDomain_shape _ _ _ _) rfl rfl
  | latchSpeedValid l t ch k => exact shape_of (m := execLatchSpeedValid l t ch k) (onDomain_shape _ _ _ _) rfl rfl
  | standstillEntry l t ch => exact shape_of (m := execStandstillEntry l t ch) (onDomain_shape _ _ _ _) rfl rfl
  | speedRefresh l t => exact shape_of (m := execSpeedRefresh l t) (onDomain_shape _ _ _ _) rfl rfl
  | compareListWrite l t org ch v => exact shape_of (m := execCompareListWrite l t org ch v) (onLane_shape _ _ _) rfl rfl
  | comparePulseEnd l t k => exact shape_of (m := execComparePulseEnd l t k) (onDomain_shape _ _ _ _) rfl rfl
  | pulseDividerStep l t => exact shape_of (m := execPulseDividerStep l t) (onDomain_shape _ _ _ _) rfl rfl
  | fbiBlockEnable l t org v => exact shape_of (m := execFbiBlockEnable l t org v) (onLane_shape _ _ _) rfl rfl
  | conversionComplete l t k code => exact shape_of (m := execConversionComplete l t k code) (onDomain_shape _ _ _ _) rfl rfl
  | overcurrentDetect l t a neg => exact shape_of (m := execOvercurrentDetect l t a neg) (onDomain_shape _ _ _ _) rfl rfl
  | overcurrentClear l t a => exact shape_of (m := execOvercurrentClear l t a) (onDomain_shape _ _ _ _) rfl rfl
  | adcCalibrationComplete l t ok => exact shape_of (m := execAdcCalibrationComplete l t ok) (onDomain_shape _ _ _ _) rfl rfl
  | adcBlockEnable l t org v => exact shape_of (m := execAdcBlockEnable l t org v) (onLane_shape _ _ _) rfl rfl
  | commandPinEdge l t high => exact shape_of (m := execCommandPinEdge l t high) (onDomain_shape _ _ _ _) rfl rfl
  | commandTimeout l t => exact shape_of (m := execCommandTimeout l t) (onDomain_shape _ _ _ _) rfl rfl
  | catchGroup l t org v => exact shape_of (m := execCatchGroup l t org v) (onLane_shape _ _ _) rfl rfl
  | catchAbort l t org v => exact shape_of (m := execCatchAbort l t org v) (onLane_shape _ _ _) rfl rfl
  | swap l t org v => exact shape_of (m := execSwap l t org v) (onLane_shape _ _ _) rfl rfl
  | catchWindowExpiry l t g => exact shape_of (m := execCatchWindowExpiry l t g) (onDomain_shape _ _ _ _) rfl rfl
  | cfeBlockEnable l t org v => exact shape_of (m := execCfeBlockEnable l t org v) (onLane_shape _ _ _) rfl rfl
  | cleBlockEnable l t org v => exact shape_of (m := execCleBlockEnable l t org v) (onLane_shape _ _ _) rfl rfl
  | eventDispatch l t => exact shape_of (m := execEventDispatch l t) (onDomain_shape _ _ _ _) rfl rfl
  | budgetExpiry l t => exact shape_of (m := execBudgetExpiry l t) (onDomain_shape _ _ _ _) rfl rfl
  | csrTimerExpiry l t k => exact shape_of (m := execCsrTimerExpiry l t k) (onDomain_shape _ _ _ _) rfl rfl
  | writeBufferDrain l t => exact shape_of (m := execWriteBufferDrain l t) (onDomain_shape _ _ _ _) rfl rfl
  | laneLoadComplete l t => exact shape_of (m := execLaneLoadComplete l t) (onDomain_shape _ _ _ _) rfl rfl
  | add l t fe d a b => exact shape_of (m := execAdd l t fe d a b) (regForm_shape _ _ _ _ _ _ _ _ _) rfl rfl
  | sub l t fe d a b => exact shape_of (m := execSub l t fe d a b) (regForm_shape _ _ _ _ _ _ _ _ _) rfl rfl
  | andR l t fe d a b => exact shape_of (m := execAndR l t fe d a b) (regForm_shape _ _ _ _ _ _ _ _ _) rfl rfl
  | iorR l t fe d a b => exact shape_of (m := execIorR l t fe d a b) (regForm_shape _ _ _ _ _ _ _ _ _) rfl rfl
  | xorR l t fe d a b => exact shape_of (m := execXorR l t fe d a b) (regForm_shape _ _ _ _ _ _ _ _ _) rfl rfl
  | shl l t fe d a b => exact shape_of (m := execShl l t fe d a b) (regForm_shape _ _ _ _ _ _ _ _ _) rfl rfl
  | shr l t fe d a b => exact shape_of (m := execShr l t fe d a b) (regForm_shape _ _ _ _ _ _ _ _ _) rfl rfl
  | sha l t fe d a b => exact shape_of (m := execSha l t fe d a b) (regForm_shape _ _ _ _ _ _ _ _ _) rfl rfl
  | clt l t fe d a b => exact shape_of (m := execClt l t fe d a b) (regForm_shape _ _ _ _ _ _ _ _ _) rfl rfl
  | cltu l t fe d a b => exact shape_of (m := execCltu l t fe d a b) (regForm_shape _ _ _ _ _ _ _ _ _) rfl rfl
  | mins l t fe d a b => exact shape_of (m := execMins l t fe d a b) (regForm_shape _ _ _ _ _ _ _ _ _) rfl rfl
  | maxs l t fe d a b => exact shape_of (m := execMaxs l t fe d a b) (regForm_shape _ _ _ _ _ _ _ _ _) rfl rfl
  | minu l t fe d a b => exact shape_of (m := execMinu l t fe d a b) (regForm_shape _ _ _ _ _ _ _ _ _) rfl rfl
  | maxu l t fe d a b => exact shape_of (m := execMaxu l t fe d a b) (regForm_shape _ _ _ _ _ _ _ _ _) rfl rfl
  | lzc l t fe d a => exact shape_of (m := execLzc l t fe d a) (instruction_shape _ _ _ _ _) rfl rfl
  | mull l t fe d a b => exact shape_of (m := execMull l t fe d a b) (regForm_shape _ _ _ _ _ _ _ _ _) rfl rfl
  | mulhs l t fe d a b => exact shape_of (m := execMulhs l t fe d a b) (regForm_shape _ _ _ _ _ _ _ _ _) rfl rfl
  | mulhu l t fe d a b => exact shape_of (m := execMulhu l t fe d a b) (regForm_shape _ _ _ _ _ _ _ _ _) rfl rfl
  | quos l t fe d a b => exact shape_of (m := execQuos l t fe d a b) (regForm_shape _ _ _ _ _ _ _ _ _) rfl rfl
  | quou l t fe d a b => exact shape_of (m := execQuou l t fe d a b) (regForm_shape _ _ _ _ _ _ _ _ _) rfl rfl
  | rmds l t fe d a b => exact shape_of (m := execRmds l t fe d a b) (regForm_shape _ _ _ _ _ _ _ _ _) rfl rfl
  | rmdu l t fe d a b => exact shape_of (m := execRmdu l t fe d a b) (regForm_shape _ _ _ _ _ _ _ _ _) rfl rfl
  | addk l t fe d a k => exact shape_of (m := execAddk l t fe d a k) (constForm_shape _ _ _ _ _ _ _ _) rfl rfl
  | andk l t fe d a k => exact shape_of (m := execAndk l t fe d a k) (constForm_shape _ _ _ _ _ _ _ _) rfl rfl
  | iork l t fe d a k => exact shape_of (m := execIork l t fe d a k) (constForm_shape _ _ _ _ _ _ _ _) rfl rfl
  | xork l t fe d a k => exact shape_of (m := execXork l t fe d a k) (constForm_shape _ _ _ _ _ _ _ _) rfl rfl
  | cltk l t fe d a k => exact shape_of (m := execCltk l t fe d a k) (constForm_shape _ _ _ _ _ _ _ _) rfl rfl
  | cltuk l t fe d a k => exact shape_of (m := execCltuk l t fe d a k) (constForm_shape _ _ _ _ _ _ _ _) rfl rfl
  | hik l t fe d k => exact shape_of (m := execHik l t fe d k) (instruction_shape _ _ _ _ _) rfl rfl
  | shk l t fe d a k => exact shape_of (m := execShk l t fe d a k) (instruction_shape _ _ _ _ _) rfl rfl
  | ldw l t fe d a k ecc => exact shape_of (m := execLdw l t fe d a k ecc) (instruction_shape _ _ _ _ _) rfl rfl
  | ldh l t fe d a k ecc => exact shape_of (m := execLdh l t fe d a k ecc) (instruction_shape _ _ _ _ _) rfl rfl
  | ldhu l t fe d a k ecc => exact shape_of (m := execLdhu l t fe d a k ecc) (instruction_shape _ _ _ _ _) rfl rfl
  | ldb l t fe d a k ecc => exact shape_of (m := execLdb l t fe d a k ecc) (instruction_shape _ _ _ _ _) rfl rfl
  | ldbu l t fe d a k ecc => exact shape_of (m := execLdbu l t fe d a k ecc) (instruction_shape _ _ _ _ _) rfl rfl
  | ldp l t fe d a k ecc ecch => exact shape_of (m := execLdp l t fe d a k ecc ecch) (instruction_shape _ _ _ _ _) rfl rfl
  | stw l t fe d a k => exact shape_of (m := execStw l t fe d a k) (instruction_shape _ _ _ _ _) rfl rfl
  | sth l t fe d a k ecc => exact shape_of (m := execSth l t fe d a k ecc) (instruction_shape _ _ _ _ _) rfl rfl
  | stb l t fe d a k ecc => exact shape_of (m := execStb l t fe d a k ecc) (instruction_shape _ _ _ _ _) rfl rfl
  | stp l t fe d a k => exact shape_of (m := execStp l t fe d a k) (instruction_shape _ _ _ _ _) rfl rfl
  | bre l t fe a b k => exact shape_of (m := execBre l t fe a b k) (branchForm_shape _ _ _ _ _ _ _ _) rfl rfl
  | brn l t fe a b k => exact shape_of (m := execBrn l t fe a b k) (branchForm_shape _ _ _ _ _ _ _ _) rfl rfl
  | brl l t fe a b k => exact shape_of (m := execBrl l t fe a b k) (branchForm_shape _ _ _ _ _ _ _ _) rfl rfl
  | brg l t fe a b k => exact shape_of (m := execBrg l t fe a b k) (branchForm_shape _ _ _ _ _ _ _ _) rfl rfl
  | brlu l t fe a b k => exact shape_of (m := execBrlu l t fe a b k) (branchForm_shape _ _ _ _ _ _ _ _) rfl rfl
  | brgu l t fe a b k => exact shape_of (m := execBrgu l t fe a b k) (branchForm_shape _ _ _ _ _ _ _ _) rfl rfl
  | call l t fe d k => exact shape_of (m := execCall l t fe d k) (instruction_shape _ _ _ _ _) rfl rfl
  | callr l t fe d a k => exact shape_of (m := execCallr l t fe d a k) (instruction_shape _ _ _ _ _) rfl rfl
  | csrrd l t fe d c => exact shape_of (m := execCsrrd l t fe d c) (instruction_shape _ _ _ _ _) rfl rfl
  | csrwr l t fe a c => exact shape_of (m := execCsrwr l t fe a c) (instruction_shape _ _ _ _ _) rfl rfl
  | post l t fe e => exact shape_of (m := execPost l t fe e) (instruction_shape _ _ _ _ _) rfl rfl
  | fence l t fe => exact shape_of (m := execFence l t fe) (instruction_shape _ _ _ _ _) rfl rfl
  | done l t fe => exact shape_of (m := execDone l t fe) (instruction_shape _ _ _ _ _) rfl rfl
  | illegalInstruction l t why => exact shape_of (m := execIllegalInstruction l t why) (onDomain_shape _ _ _ _) rfl rfl
  | lockstepMismatch l t item => exact shape_of (m := execLockstepMismatch l t item) (onDomain_shape _ _ _ _) rfl rfl
  | diagnosticVerdict l t main chk => exact shape_of (m := execDiagnosticVerdict l t main chk) (onDomain_shape _ _ _ _) rfl rfl
  | codeScrubComplete l t ok fixed => exact shape_of (m := execCodeScrubComplete l t ok fixed) (onDomain_shape _ _ _ _) rfl rfl
  | portEnable l t org v => exact shape_of (m := execPortEnable l t org v) (onLane_shape _ _ _) rfl rfl
  | portTrained l t p eq => exact shape_of (m := execPortTrained l t p eq) (onDomain_shape _ _ _ _) rfl rfl
  | portSyncLoss l t p sig => exact shape_of (m := execPortSyncLoss l t p sig) (onDomain_shape _ _ _ _) rfl rfl
  | range l t org v => exact shape_of (m := execRange l t org v) (onLane_shape _ _ _) rfl rfl
  | retrain l t org v => exact shape_of (m := execRetrain l t org v) (onLane_shape _ _ _) rfl rfl
  | rangingRequestReceive l t p token ta => exact shape_of (m := execRangingRequestReceive l t p token ta) (onDomain_shape _ _ _ _) rfl rfl
  | rangingReplyReceive l t p token node port rtt => exact shape_of (m := execRangingReplyReceive l t p token node port rtt) (onDomain_shape _ _ _ _) rfl rfl
  | rangingExchangeTimeout l t p => exact shape_of (m := execRangingExchangeTimeout l t p) (onDomain_shape _ _ _ _) rfl rfl
  | bufferFetch l t arb ix => exact shape_of (m := execBufferFetch l t arb ix) (onDomain_shape _ _ _ _) rfl rfl
  | frameSend l t arb ix late => exact shape_of (m := execFrameSend l t arb ix late) (onDomain_shape _ _ _ _) rfl rfl
  | headerReceive l t p head hcrc ta ph => exact shape_of (m := execHeaderReceive l t p head hcrc ta ph) (onDomain_shape _ _ _ _) rfl rfl
  | forwardOverrunCut l t p viol => exact shape_of (m := execForwardOverrunCut l t p viol) (onDomain_shape _ _ _ _) rfl rfl
  | frameEndReceive l t p ws fcrc =>
    exact shape_of (m := execFrameEndReceive l t p ws fcrc)
      (onDomain_queue_shape _ _ _ fun q n => frameEndAll p.val ws fcrc (endRival l n.now p.val n q) n) rfl rfl
  | bufferCommit l t org b v => exact shape_of (m := execBufferCommit l t org b v) (onLane_shape _ _ _) rfl rfl
  | acquire l t org b v => exact shape_of (m := execAcquire l t org b v) (onLane_shape _ _ _) rfl rfl
  | release l t org b v => exact shape_of (m := execRelease l t org b v) (onLane_shape _ _ _) rfl rfl
  | claimWrite l t org k v => exact shape_of (m := execClaimWrite l t org k v) (onLane_shape _ _ _) rfl rfl
  | courseBoundary l t => exact shape_of (m := execCourseBoundary l t) (onDomain_shape _ _ _ _) rfl rfl
  | mortarGapStart l t => exact shape_of (m := execMortarGapStart l t) (onDomain_shape _ _ _ _) rfl rfl
  | coldstartListenExpiry l t => exact shape_of (m := execColdstartListenExpiry l t) (onDomain_shape _ _ _ _) rfl rfl
  | syncEdge l t => exact shape_of (m := execSyncEdge l t) (onDomain_shape _ _ _ _) rfl rfl
  | syncLost l t => exact shape_of (m := execSyncLost l t) (onDomain_shape _ _ _ _) rfl rfl
  | tpeBlockEnable l t org v => exact shape_of (m := execTpeBlockEnable l t org v) (onLane_shape _ _ _) rfl rfl
  | canModeWrite l t org c v => exact shape_of (m := execCanModeWrite l t org c v) (onLane_shape _ _ _) rfl rfl
  | canFrameReceive l t c fr tec rec_ => exact shape_wf (onDomain_shape _ _ _ _) rfl
  | txRequest l t org c w v => exact shape_of (m := execTxRequest l t org c w v) (onLane_shape _ _ _) rfl rfl
  | txAbort l t org c w v busy => exact shape_of (m := execTxAbort l t org c w v busy) (onLane_shape _ _ _) rfl rfl
  | txDone l t c o tec rec_ => exact shape_of (m := execTxDone l t c o tec rec_) (onDomain_shape _ _ _ _) rfl rfl
  | gatewayYieldListen l t c => exact shape_of (m := execGatewayYieldListen l t c) (onDomain_shape _ _ _ _) rfl rfl
  | busOff l t c tec rec_ => exact shape_of (m := execBusOff l t c tec rec_) (onDomain_shape _ _ _ _) rfl rfl
  | busOffRecovery l t c => exact shape_of (m := execBusOffRecovery l t c) (onDomain_shape _ _ _ _) rfl rfl
  | resend l t org v => exact shape_of (m := execResend l t org v) (onLane_shape _ _ _) rfl rfl
  | canGatewayEnable l t org v => exact shape_of (m := execCanGatewayEnable l t org v) (onLane_shape _ _ _) rfl rfl
  | spiNop l t f newp => exact shape_of (m := execSpiNop l t f newp) (onAon_shape _ _ _) rfl rfl
  | spiRead l t f newp => exact shape_of (m := execSpiRead l t f newp) (onAon_shape _ _ _) rfl rfl
  | spiWrite l t f newp => exact shape_of (m := execSpiWrite l t f newp) (onAon_shape _ _ _) rfl rfl
  | spiPartialFrame l t => exact shape_of (m := execSpiPartialFrame l t) (onAon_shape _ _ _) rfl rfl
  | mailboxIn l t org v => exact shape_of (m := execMailboxIn l t org v) (onLane_shape _ _ _) rfl rfl
  | mailboxOut l t org v => exact shape_of (m := execMailboxOut l t org v) (onLane_shape _ _ _) rfl rfl
  | remoteAccess l t k => exact shape_of (m := execRemoteAccess l t k) (onDomain_shape _ _ _ _) rfl rfl
  | hostRemoteEnable l t org v => exact shape_of (m := execHostRemoteEnable l t org v) (onLane_shape _ _ _) rfl rfl
  | keystoneMessageAccept l t ext => exact shape_of (m := execKeystoneMessageAccept l t ext) (onAon_shape _ _ _) rfl rfl
  | recordRelease l t org v => exact shape_of (m := execRecordRelease l t org v) (onLane_shape _ _ _) rfl rfl
  | firmwareRaise l t org v => exact shape_of (m := execFirmwareRaise l t org v) (onLane_shape _ _ _) rfl rfl
  | severityWrite l t org c v => exact shape_of (m := execSeverityWrite l t org c v) (onLane_shape _ _ _) rfl rfl
  | injectionArm l t org v => exact shape_of (m := execInjectionArm l t org v) (onLane_shape _ _ _) rfl rfl
  | injectionMissed l t => exact shape_of (m := execInjectionMissed l t) (onAon_shape _ _ _) rfl rfl
  | logEntryWrite l t => exact shape_of (m := execLogEntryWrite l t) (onAon_shape _ _ _) rfl rfl
  | logIndexWrite l t org v => exact shape_of (m := execLogIndexWrite l t org v) (onLane_shape _ _ _) rfl rfl
  | safBlockEnable l t org v => exact shape_of (m := execSafBlockEnable l t org v) (onLane_shape _ _ _) rfl rfl
  | contactChange l t p a b => exact shape_of (m := execContactChange l t p a b) (onAon_shape _ _ _) rfl rfl
  | discrepancyTimeout l t p => exact shape_of (m := execDiscrepancyTimeout l t p) (onAon_shape _ _ _) rfl rfl
  | testPulseStart l t k pre => exact shape_of (m := execTestPulseStart l t k pre) (onAon_shape _ _ _) rfl rfl
  | testPulseEnd l t k high => exact shape_of (m := execTestPulseEnd l t k high) (onAon_shape _ _ _) rfl rfl
  | torqueRemovalCommand l t org v => exact shape_of (m := execTorqueRemovalCommand l t org v) (onLane_shape _ _ _) rfl rfl
  | brakeReleaseRequest l t org v => exact shape_of (m := execBrakeReleaseRequest l t org v) (onLane_shape _ _ _) rfl rfl
  | offTestStart l t k => exact shape_of (m := execOffTestStart l t k) (onAon_shape _ _ _) rfl rfl
  | offTestEnd l t k below => exact shape_of (m := execOffTestEnd l t k below) (onAon_shape _ _ _) rfl rfl
  | brakeOutputFail l t k cause => exact shape_of (m := execBrakeOutputFail l t k cause) (onAon_shape _ _ _) rfl rfl
  | sealSample l t up dn => exact shape_of (m := execSealSample l t up dn) (onAon_shape _ _ _) rfl rfl
  | aliveKick l t org v ticks => exact shape_of (m := execAliveKick l t org v ticks) (onLane_shape _ _ _) rfl rfl
  | statusReadbackFail l t alive => exact shape_of (m := execStatusReadbackFail l t alive) (onAon_shape _ _ _) rfl rfl
  | lntBlockEnable l t org v => exact shape_of (m := execLntBlockEnable l t org v) (onLane_shape _ _ _) rfl rfl
  | takeoverComplete l t => exact shape_of (m := execTakeoverComplete l t) (onDomain_shape _ _ _ _) rfl rfl
  | handover l t org v => exact shape_of (m := execHandover l t org v) (onLane_shape _ _ _) rfl rfl
  | blockHandle l t => exact shape_of (m := execBlockHandle l t) (onDomain_shape _ _ _ _) rfl rfl
  | blockPush l t org v => exact shape_of (m := execBlockPush l t org v) (onLane_shape _ _ _) rfl rfl
  | imageVerifyComplete l t => exact shape_of (m := execImageVerifyComplete l t) (onDomain_shape _ _ _ _) rfl rfl
  | transferTimeout l t => exact shape_of (m := execTransferTimeout l t) (onDomain_shape _ _ _ _) rfl rfl
  | activate l t org v => exact shape_of (m := execActivate l t org v) (onLane_shape _ _ _) rfl rfl
  | confirm l t org v => exact shape_of (m := execConfirm l t org v) (onLane_shape _ _ _) rfl rfl
  | revert l t org v => exact shape_of (m := execRevert l t org v) (onLane_shape _ _ _) rfl rfl
  | policyPrepareComplete l t => exact shape_of (m := execPolicyPrepareComplete l t) (onDomain_shape _ _ _ _) rfl rfl
  | dataClearComplete l t => exact shape_of (m := execDataClearComplete l t) (onDomain_shape _ _ _ _) rfl rfl
  | tableCopyComplete l t => exact shape_of (m := execTableCopyComplete l t) (onDomain_shape _ _ _ _) rfl rfl
  | settingsCommit l t org v => exact shape_of (m := execSettingsCommit l t org v) (onLane_shape _ _ _) rfl rfl
  | updBlockEnable l t org v => exact shape_of (m := execUpdBlockEnable l t org v) (onLane_shape _ _ _) rfl rfl
  | idleCountExpiry l t d => exact shape_of (m := execIdleCountExpiry l t d) (onAon_shape _ _ _) rfl rfl
  | domainEntryComplete l t d => exact shape_of (m := execDomainEntryComplete l t d) (onAon_shape _ _ _) rfl rfl
  | domainExitComplete l t d => exact shape_of (m := execDomainExitComplete l t d) (onAon_shape _ _ _) rfl rfl
  | domainExitTimeout l t d => exact shape_of (m := execDomainExitTimeout l t d) (onAon_shape _ _ _) rfl rfl
  | vetchMatch l t => exact shape_of (m := execVetchMatch l t) (onAon_shape _ _ _) rfl rfl
  | wakeTimerExpiry l t => exact shape_of (m := execWakeTimerExpiry l t) (onAon_shape _ _ _) rfl rfl
  | supplyOutOfWindow l t k => exact shape_of (m := execSupplyOutOfWindow l t k) (onAon_shape _ _ _) rfl rfl
  | xoStable l t => exact shape_of (m := execXoStable l t) (onAon_shape _ _ _) rfl rfl
  | pllLock l t => exact shape_of (m := execPllLock l t) (onAon_shape _ _ _) rfl rfl
  | glideComplete l t => exact shape_of (m := execGlideComplete l t) (onAon_shape _ _ _) rfl rfl
  | crystalFail l t => exact shape_of (m := execCrystalFail l t) (onAon_shape _ _ _) rfl rfl
  | pllUnlock l t => exact shape_of (m := execPllUnlock l t) (onAon_shape _ _ _) rfl rfl
  | aclkCalibration l t lpt => exact shape_of (m := execAclkCalibration l t lpt) (onAon_shape _ _ _) rfl rfl
  | vaonPowerLoss l t => exact shape_of (m := execVaonPowerLoss l t) (onLane_shape _ _ _) rfl rfl
  | supplyInWindow l t k => exact shape_of (m := execSupplyInWindow l t k) (onAon_shape _ _ _) rfl rfl
  | lintelSyncAcquired l t => exact shape_of (m := execLintelSyncAcquired l t) (onDomain_shape _ _ _ _) rfl rfl
  | errorPassive l t c tec rec_ => exact shape_of (m := execErrorPassive l t c tec rec_) (onDomain_shape _ _ _ _) rfl rfl
  | vetchLineChange l t clk dat => exact shape_of (m := execVetchLineChange l t clk dat) (onAon_shape _ _ _) rfl rfl

end Sys2Proof.Machine
end

