-- ==== Sys2Proof/Tests/Slice0.lean ====
section
/-! SUPPORT. Tests on small concrete lanes. Each is named after the statement whose hypotheses it meets and the command it sends: the lane is
built to meet the hypotheses of one clause, and what the spec's rule says of that clause is checked of the answer. -/

set_option Elab.async false

namespace Sys2Proof.Tests
open Sys2Proof Sys2Proof.Machine

/-- Lane 1, started, at lane time 100,000. -/
def up : Lane := { id := .lane1, now := 100000, sys := { step := 12, cold := false } }

/-- The started lane with these fields set. -/
def with_ (fs : List (FRef × Nat)) : Lane := up.setFs fs

/-- A hypothesis on the lane in which the command is registered. -/
def meets (n : Lane) (p : Lane → Bool) : Bool := p (n.advance 100000)

/-- The command, registered at lane time `t`, answers a next state in which lane 1, with nothing waiting, satisfies `p`. -/
def givesAt (t : Nat) (c : LaneId → Nat → Instr) (n : Lane) (p : Lane → Bool) : Bool :=
  match exec (c .lane1 t) { State.reset with lane1 := n } with
  | .next s => p s.lane1
  | _ => false

/-- That at lane time 100,000. -/
def gives (c : LaneId → Nat → Instr) (n : Lane) (p : Lane → Bool) : Bool := givesAt 100000 c n p

/-- The write of `v` at `off` is accepted in the lane, and its command gives `p`. -/
def writes (c : LaneId → Nat → Origin → W32 → Instr) (off : Nat) (org : Origin) (v : W32) (n : Lane) (p : Lane → Bool) : Bool :=
  meets n (fun n => n.accepts org.code off v) && gives (fun l t => c l t org v) n p

/-- A rejection of `kind` at `off` is recorded and raised. -/
def rejected (kind off : Nat) (n : Lane) : Bool :=
  n.on F.SYS_REGERR.FLAG && n.f F.SYS_REGERR.KIND == kind && n.f F.SYS_REGADR.OFFSET == off && n.f F.SYS_REGERR.COUNT == 1 &&
    n.kst.msgs.any fun x => x.src == (if kind == 9 then 0x20 else 0) && x.kind == 1 && x.word == off / 4 % 2 ^ 16

/-- A message of source `src` and kind `kind` waits for the collector. -/
def told (n : Lane) (src kind : Nat) : Bool := n.kst.msgs.any fun x => x.src == src && x.kind == kind

/-- A word with these fields. -/
def word (fs : List (FRef × Nat)) : W32 := fs.foldl (fun w f => setBits w f.1.hi f.1.lo f.2) 0#32

/-- The hypotheses `h` hold of the lane, and the command gives `p`. -/
def ask (c : LaneId → Nat → Instr) (n : Lane) (h p : Lane → Bool) : Bool := meets n h && gives c n p

/-! ## Images (spec/02, spec/17) -/
/-- A number as bytes, lowest first, and highest first. -/
def le (k v : Nat) : List Nat := (List.range k).map fun i => v / 256 ^ i % 256
def be (k v : Nat) : List Nat := (le k v).reverse

/-- The public key of the tests' signer, compressed, and the four words of key slot 0 that hold its hash (R485). -/
def signer : List Nat := 2 :: be 32 0x70da02cf2389338f3c6e3281547b7997f64b78955cd0cce70904f02659335dad
def keyCells : List (Nat × W32) := (List.range 8).map fun w => (w, BitVec.ofNat 32 (u32 (sha256 signer) (4 * w)))

/-- An image of type `ty` with this body, its body hash, and the signature (r, s) over header and body (R418, R419). -/
def signedImage (ty ver hash r s : Nat) (body : List Nat) : List Nat :=
  le 4 0x5658494D ++ le 2 1 ++ le 2 ty ++ le 4 ver ++ le 2 0x8624 ++ le 2 0 ++ le 4 1 ++ le 12 0 ++ le 4 body.length ++ le 4 0xFFFF0000 ++ le 4 0 ++
    be 32 hash ++ signer ++ le 19 0 ++ body ++ be 32 r ++ be 32 s

/-- The sections of an Ashlar body for lane 1: legs 1 to 3 independent, no routes, node 3 of four (R43 to R55). -/
def sections : List (List Nat) := [[2, 0, 0, 0, 0, 0, 0, 0, 0, 1, 2] ++ le 21 0, [], [], [], (List.range 256).map leastFloor,
  le 4 1000 ++ [0, 0, 4, 3] ++ le 4 900 ++ le 4 40 ++ le 4 1 ++ le 4 7 ++ [0xFF] ++ le 7 0, List.replicate 1024 0, [3] ++ le 7 0, le 8 0, [],
  [1, 0, 0, 3] ++ le 4 10 ++ [3, 2] ++ le 6 0, []]

/-- The directory entries of the sections from type `ty` and body offset `off` on (R42). -/
def directory : List (List Nat) → Nat → Nat → List Nat
  | [], _, _ => []
  | s :: ss, ty, off => le 2 ty ++ le 2 0 ++ le 4 off ++ le 4 s.length ++ le 4 (crc32 s) ++ directory ss (ty + 1) (off + s.length)

/-- The shared-section digest of the sections (R63). -/
def digest : Nat := 0x6d6f5c2bd81017a06501317eb25265aec793a1c79dfde851b5f3ff0582d7cd9e
def ashlarBody : List Nat := le 4 0x4C485341 ++ le 2 1 ++ le 2 12 ++ [1, 0] ++ le 2 0x8C0 ++ be 32 digest ++ le 20 0 ++ directory sections 1 0x100 ++ sections.flatten
def ashlarImage : List Nat :=
  signedImage 2 0x01020003 0xa23724656e908ec0b0ed660141d19a68c9e4eb0649ed151ec23535eeb9fb09cb
    0xdb7f926207f8e9182188758e1e66490158e381425d19426799a6ae7a37899197 0x6baa0839fc82ee786c790dc458d865bedc1efe80935c05aea141fb68d4e57fd ashlarBody

/-- A POLICY image whose code is one DONE. -/
def policyImage : List Nat :=
  signedImage 1 1 0xd59578214ff87024e1607dbe4397331ca77afb91d51a146cf463b6552dff6a53
    0xc6b26aeeb360bddf8fb9b84944d6d82c34013f35dbb51ea755bddc422b1f9519 0x35e898d58e7ef66831cde81b4800d4889fcc452b6cfb781d7104df6c488f6cf5 (le 4 0x1000000E)

/-- Slot `k` holds the image and is active. -/
def Holds (k : Nat) (img : List Nat) (n : Lane) : Lane := n.upMram fun m => { m with slots := [(k, img.map fun b => BitVec.ofNat 8 b)], slotSt := [(k, lACTIVE)] }

/-! ## The block as a whole, and the checks of WellFormed -/

/-- A classical CAN frame with one byte of data. -/

def can1 : CanFrame := { id := BitVec.ofNat 29 (5 * 2 ^ 18), ide := false, fdf := false, brs := false, esi := false, rtr := false, dlc := 1#4, data := [7#8] }
/-- The block with one command waiting for lane 2. -/

def waits : State := { State.reset with pending := [.heartbeatSend .lane2 5] }
theorem wit_FormedCommandsComplete :
    ((Instr.heartbeatSend .lane1 0).wellFormed && (match exec (.heartbeatSend .lane1 0) State.reset with | .next _ => true | _ => false)) = true ∧
    ((match exec (.statusMessageReceive .lane1 0 true (.digest [])) State.reset with | .fault .illFormed => true | _ => false)) = true := by decide +kernel

theorem test_wellFormed_digest :
    ((Instr.statusMessageReceive .lane1 0 true (.digest (List.replicate 32 0#8))).wellFormed &&
      !(Instr.statusMessageReceive .lane1 0 true (.digest (List.replicate 31 0#8))).wellFormed) = true := by decide +kernel

theorem test_wellFormed_access :
    ((Instr.registerWrite .lane1 0 .debug 0#24 .half 0#64).wellFormed && !(Instr.registerWrite .lane1 0 .spi 0#24 .half 0#64).wellFormed &&
      !(Instr.registerWrite .lane1 0 .remote 0#24 .byte 0#64).wellFormed) = true := by decide +kernel

theorem test_wellFormed_mirror :
    ([0, 1, 2, 64, 65].map (fun k => (Instr.mirrorReceive .lane1 0 true 0 0#16 (List.replicate k 0#32)).wellFormed) == [false, false, true, true, false]) = true := by decide +kernel

theorem test_wellFormed_canFrame :
    (canFrameOk can1 && !canFrameOk { can1 with data := [] } && !canFrameOk { can1 with brs := true } && !canFrameOk { can1 with id := 1#29 } &&
      !canFrameOk { can1 with rtr := true }) = true ∧
    (canFrameOk { can1 with rtr := true, data := [] } && canFrameOk { can1 with fdf := true, dlc := 9#4, data := List.replicate 12 0#8 } &&
      !canFrameOk { can1 with fdf := true, rtr := true, data := [] } && canFrameOk { can1 with dlc := 9#4, data := List.replicate 8 0#8 }) = true ∧
    (canFrameOk { can1 with ide := true, id := 1#29 } && canFrameOk { can1 with fdf := true, brs := true, esi := true }) = true := by decide +kernel

theorem wit_StepRunsFront :
    (State.reset.pending.isEmpty && waits.pending == [.heartbeatSend .lane2 5] && (match step waits with | .next s => s.pending.isEmpty && s.lane2.now == 5 | _ => false)) = true ∧
    (decodeTableWord 32 0 == none && (State.reset.withFetchWord 32 0).pending.isEmpty) = true := by decide +kernel

theorem wit_CommandsStayInTheirLane :
    ((match step waits with | .next s => s.pending.isEmpty && s.lane1.now == 0 && s.lane1.regs == State.reset.lane1.regs && s.lane2.now == 5 | _ => false)) = true := by decide +kernel

theorem wit_PassivePins :
    (State.reset.lane1.released == false && State.reset.lane1.pin .okh == .low && State.reset.lane1.pin (.gate 13) == .low) = true ∧
    (let n := { up with sys := { up.sys with powered := false } }; n.pin .rston == .floating && n.pin (.serdes 3) == .floating && n.pin .alive == .low) = true ∧
    (up.pin .rston == .low && ({ up with sys := { up.sys with rston := true } } : Lane).pin .rston == .high && up.portSt 0 == pDARK) = true ∧
    (up.pin (.canTx 0) == .high && (with_ [(F.TPE_PORTp_STAT.STATE 0, 4)]).pin (.serdes 0) == .high &&
      (with_ [(F.TPE_PORTp_STAT.STATE 0, 4), (F.SYS_START.STATE, 3)]).pin (.serdes 0) == .floating) = true := by decide +kernel

theorem wit_StepKeepsApart : waits.Apart .lane2 waits.lane1 ∧ ∃ s', step waits = .next s' :=

  ⟨⟨by intro c h; simp only [waits, List.mem_singleton] at h; subst h; rfl, rfl⟩, _, rfl⟩

/-! ## The lane bus, the host port (WritesJudged, SequenceClearClears, LintelWindow, PairReachesTheBus, HostPort) -/

theorem wit_WritesJudged_unaligned :
    (gives (fun l t => .registerWrite l t .firmware 0x007011#24 .word 5#64) up (rejected 2 0x7011)) = true ∧
    (gives (fun l t => .registerWrite l t .debug 0x007011#24 .half 5#64) (with_ [(F.SYS_LCS.STATE, 1)]) (rejected 2 0x7011)) = true ∧
    (gives (fun l t => .registerWrite l t .firmware 0x00700A#24 .double 5#64) up (rejected 2 0x700A)) = true := by decide +kernel

theorem wit_WritesJudged_narrow :
    (meets up (fun n => n.serves 0 0x7010) && gives (fun l t => .registerWrite l t .firmware 0x007012#24 .half 5#64) up (rejected 1 0x7012)) = true ∧
    (meets up (fun n => n.serves 0 0x8000) &&
      gives (fun l t => .registerWrite l t .firmware 0x008003#24 .byte 5#64) up (fun m => !m.on F.SYS_REGERR.FLAG)) = true ∧
    (meets up (fun n => n.serves 0 0x800000) &&
      gives (fun l t => .registerWrite l t .firmware 0x800000#24 .byte 5#64) up (rejected 8 0x800000)) = true := by decide +kernel

theorem wit_WritesJudged_classes :
    (gives (fun l t => .registerWrite l t .firmware 0x060000#24 .word 5#64) up (rejected 4 0x60000)) = true ∧
    (gives (fun l t => .registerWrite l t .spi 0x06FFFC#24 .word 5#64) up (rejected 4 0x6FFFC)) = true ∧
    (gives (fun l t => .registerWrite l t .firmware 0x00F000#24 .word 5#64) up (fun m => m.kst.msgs == [])) = true ∧
    (gives (fun l t => .registerWrite l t .firmware 0x000004#24 .word 5#64) up (rejected 6 4)) = true ∧
    (gives (fun l t => .registerWrite l t .firmware 0x071004#24 .word 5#64) (with_ [(F.CAN_Cc_MODE.MODE 0, 1)]) (rejected 3 0x71004)) = true ∧
    (gives (fun l t => .registerWrite l t .firmware 0x006020#24 .word 5#64) (with_ [(F.SYS_ASHLOCK.LOCK, 1)]) (rejected 4 0x6020)) = true ∧
    (meets (with_ [(F.SYS_ASHSTAT.STATE, 1)]) (fun n => n.loadingRejects 0x7008) &&
    gives (fun l t => .registerWrite l t .firmware 0x007008#24 .word 5#64) (with_ [(F.SYS_ASHSTAT.STATE, 1)]) (rejected 7 0x7008)) = true := by decide +kernel

theorem wit_WritesJudged_stores :
    (meets up (fun n => n.accepts 0 R.LNT_GWCFG 0xFFFF1234#32) &&
    gives (fun l t => .registerWrite l t .firmware 0x00701C#24 .word 0xFFFF1234#64) up (fun m => m.rd R.LNT_GWCFG == 0x00001234#32)) = true ∧
    (gives (fun l t => .registerWrite l t .spi 0x078014#24 .word 0xFFFFFFFF#64) up (fun m => m.rd R.HST_IRQEN == 3#32)) = true := by decide +kernel

theorem wit_SequenceClearClears :
    (gives (fun l t => .sequenceClear l t .firmware 0x00700C#24 0xABCDEF05#32) (with_ [(F.LNT_EVT.DUAL, 1), (F.LNT_EVT.SEQ, 5)]) (fun m => m.rd R.LNT_EVT == 5#32)) = true ∧
    (gives (fun l t => .sequenceClear l t .firmware 0x00700C#24 0x00000006#32) (with_ [(F.LNT_EVT.DUAL, 1), (F.LNT_EVT.SEQ, 5)]) (fun m => m.on F.LNT_EVT.DUAL)) = true ∧
    (gives (fun l t => .sequenceClear l t .firmware 0x00700C#24 0#32) (with_ [(F.LNT_EVT.DUAL, 1)]) (fun m => m.on F.LNT_EVT.DUAL)) = true := by decide +kernel

theorem wit_LintelWindow_access :
    (gives (fun l t => .lintelWindowRead l t .firmware 0x000005#23) up (rejected 2 0x800005)) = true ∧
    (gives (fun l t => .lintelWindowRead l t .firmware 0x7FFFFC#23) up (fun m => m.sys.tx == [.wreq 0x7FFFFC] &&
      m.sys.win == [{ off := 0x7FFFFC, org := 0, due := 100800 }])) = true ∧
    (gives (fun l t => .lintelWindowWrite l t .spi 0x000000#23 5#32) up (rejected 8 0x800000)) = true := by decide +kernel

theorem wit_LintelWindow_request :
    (gives (fun l t => .windowRequestReceive l t true 0x000001#23) up (fun m => rejected 2 1 m && m.sys.tx == [.wrsp false 0#32])) = true ∧
    (gives (fun l t => .windowRequestReceive l t true 0x007008#23) (with_ [(F.SYS_ASHSTAT.STATE, 1)]) (fun m => rejected 7 0x7008 m &&
      m.sys.tx == [.wrsp true 0#32])) = true ∧
    (gives (fun l t => .windowRequestReceive l t true 0x003C24#23) up (fun m => m.sys.tx == [.wrsp true 0x80000004#32])) = true ∧
    (gives (fun l t => .windowRequestReceive l t true 0x070000#23) (with_ [(F.PWR_Dd_STAT.STATE 8, 1)]) (fun m => m.sys.tx == [.wrsp false 0#32] &&
      m.domState 8 == 1)) = true := by decide +kernel

theorem wit_LintelWindow_ends :
    (gives (fun l t => .windowResponseReceive l t true true 7#32) (up.upSys fun s => { s with win := [{ off := 16, org := 1, due := 100700 }] }) (fun m => m.sys.win == [] && m.kst.msgs == [])) = true ∧
    (gives (fun l t => .windowResponseReceive l t true false 7#32) (up.upSys fun s => { s with win := [{ off := 16, org := 1, due := 100700 }] }) (fun m => m.sys.win == [] && rejected 9 0x800010 m)) = true ∧
    (gives (fun l t => .windowReadTimeout l t) (up.upSys fun s => { s with win := [{ off := 16, org := 1, due := 100000 }] }) (fun m => m.sys.win == [] &&
      rejected 9 0x800010 m)) = true ∧
    (gives (fun l t => .windowResponseReceive l t true true 7#32) ((up.upSys fun s => { s with win := [{ off := 16, org := 0, due := 100700, rep := 1 }] }).upOap fun o =>
    { o with loads := [{ off := 0x800010, size := 4, signed := false, dest := 31 }] }) (fun m => m.gpr 31 == 7#32 && m.oap.loads == [] &&
      m.oap.next == 100000)) = true ∧
    (gives (fun l t => .windowReadTimeout l t) ((up.upSys fun s => { s with win := [{ off := 16, org := 0, due := 100000, rep := 1 }] }).upOap fun o =>
    { o with loads := [{ off := 0x800010, size := 4, signed := false, dest := 31 }] }) (fun m => m.gpr 31 == 0#32 &&
      m.csr 0x020 == 0x01800010#32)) = true := by decide +kernel

theorem wit_PairReachesTheBus :
    (gives .writeBufferDrain (up.upOap fun o => { o with wbuf := [{ t := 99989, off := R.LNT_GWCFG, size := 4, data := 0x0102#32 }], fence := true })
    (fun m => m.oap.wbuf == [] && !m.oap.fence && m.rd R.LNT_GWCFG == 0x0102#32)) = true ∧
    (gives .laneLoadComplete (up.upOap fun o => { o with loads := [{ off := 0x3C24, size := 4, signed := false, dest := 5 }], next := 100000 })
    (fun m => m.gpr 5 == 0x80000004#32 && m.oap.loads == [])) = true := by decide +kernel

theorem wit_HostPort_spi :
    (gives (fun l t => .spiNop l t 0x0#72 true) up (fun m => m.hst.crcErr && m.on F.HST_EVT.CRCERR && told m 0xD8 1)) = true ∧
    (let f := spiSlot 0 0 0#32; gives (fun l t => .spiNop l t f true) up (fun m => m.f F.HST_SPICNT.FRAMES == 1)) = true ∧
    (let f := spiSlot 1 R.UPD_XFERTO 0#32; gives (fun l t => .spiRead l t f true) up (fun m => m.hst.unrep == [{ off := R.UPD_XFERTO, write := false, val := 0#32, res := some (1000#32, false) }])) = true ∧
    (let f := spiSlot 2 R.LNT_GWCFG 0x55#32; gives (fun l t => .spiWrite l t f true) up (fun m => m.rd R.LNT_GWCFG == 0x55#32 &&
      m.hst.unrep == [{ off := R.LNT_GWCFG, write := true, val := 0x55#32, res := some (0#32, false) }])) = true ∧
    (gives .spiPartialFrame up (fun m => m.hst.abort && m.on F.HST_EVT.ABORT && told m 0xD8 1)) = true := by decide +kernel

theorem wit_HostPort_remote :
    (let q : RaReq := { origin := 3, words := [0x04050001#32, 0x0000701C#32, 0x77#32] };
  let n := ((with_ [(F.HST_RAALLOW.NODES, 8)]).upHst fun h => { h with run := [(2, q)] });
  meets n (fun n => n.accepts 2 R.LNT_GWCFG 0x77#32) && gives (fun l t => .remoteAccess l t 2) n (fun m => m.hst.run == [] &&
    m.f (F.HST_RAk_STAT.DONE 2) == 1 && m.rd R.LNT_GWCFG == 0x77#32)) = true ∧
    (let q : RaReq := { origin := 3, words := [0x04050001#32, 0x0000701C#32, 0x77#32] };
  let n := (up.upHst fun h => { h with run := [(2, q)] });
  gives (fun l t => .remoteAccess l t 2) n (fun m => m.hst.run == [] && rejected 7 R.LNT_GWCFG m && m.rd R.LNT_GWCFG == 0#32)) = true := by decide +kernel

theorem wit_HostPort_mailboxes :
    (writes .mailboxIn R.HST_MBOXIN .remote 5#32 up (rejected 7 R.HST_MBOXIN)) = true ∧
    (writes .mailboxIn R.HST_MBOXIN .spi 5#32 (up.setCsr 0x145 0x80000000#32) (fun m => m.rd R.HST_MBOXIN == 5#32 && m.evPending 5 &&
      Cells.get 0#32 m.oap.evData 5 == 5#32)) = true ∧
    (writes .mailboxOut R.HST_MBOXOUT .firmware 0x80000000#32 up (fun m => m.rd R.HST_MBOXOUT == 0x80000000#32 && m.on F.HST_IRQ.MBOX &&
      m.on F.HST_IRQ.KST)) = true ∧
    (writes .mailboxOut R.HST_MBOXOUT .spi 0x80000000#32 up (fun m => m.rd R.HST_IRQ == 0#32)) = true ∧
    (writes .hostRemoteEnable R.HST_CTRL .spi 1#32 up (fun m => m.on F.HST_CTRL.RAEN)) = true := by decide +kernel

/-! ## Lanes and roles, CAN (Heartbeats, RolesChange, CheckpointsMirrored, CanControllers, CanTransmission) -/

theorem wit_Heartbeats_send :
    (gives .heartbeatSend (with_ [(F.LNT_ROLE.ROLE, 3), (F.LNT_ROLE.EPOCH, 9), (F.LNT_CKSEQ.SEQ, 0x12345)])
    (fun m => m.sys.tx == [.heartbeat 0x62092345#32] && m.lnt.sentT == 100000)) = true ∧
    (gives .heartbeatSend (up.upLnt fun x => { x with sentT := 98401 }) (fun m => m.sys.tx == [])) = true := by decide +kernel

theorem wit_Heartbeats_receive :
    (gives (fun l t => .heartbeatReceive l t true 0x30000000#32) (with_ [(F.LNT_ROLE.ROLE, 3), (F.LNT_HBSTAT.LOST, 1)])
    (fun m => m.role == roleYIELDING && !m.on F.LNT_HBSTAT.LOST && m.on F.LNT_ROLE.PEERHB && m.lnt.hbT == 100000)) = true ∧
    (gives (fun l t => .heartbeatReceive l t true 0x60000000#32) { (with_ [(F.LNT_ROLE.ROLE, 3)]) with id := .lane2 } (fun m => m.role == roleSTANDBY)) = true ∧
    (gives (fun l t => .heartbeatReceive l t true 0x60000000#32) (with_ [(F.LNT_ROLE.ROLE, 4)]) (fun m => m.role == roleSTANDBY)) = true ∧
    (let n := with_ [(F.LNT_ROLE.ROLE, 1), (F.LNT_CTRL.EN, 1), (F.TPE_STAT.STATE, 4), (F.LNT_CKSEQ.SEQ, 0x10007)];
  meets n (fun n => n.eligible) && gives (fun l t => .heartbeatReceive l t true 0x80000007#32) n (fun m => m.role == roleTAKING && m.lnt.takT == 100000 &&
    m.f F.LNT_TKSTAT.COUNT == 1)) = true ∧
    (gives (fun l t => .heartbeatReceive l t false 0x60000000#32) (with_ [(F.LNT_LINKCNT.CRCERR, 0xFFFF)]) (fun m => m.f F.LNT_LINKCNT.CRCERR == 0xFFFF &&
      !m.on F.LNT_ROLE.PEERHB)) = true := by decide +kernel

theorem wit_Heartbeats_missing :
    (gives .heartbeatMissing ((with_ [(F.LNT_ROLE.ROLE, 4)]).upLnt fun x => { x with hbT := 80000 })
    (fun m => m.on F.LNT_HBSTAT.LOST && m.on F.LNT_EVT.HBLOST && told m 0x21 2 && m.role == roleACTIVE)) = true ∧
    (gives .heartbeatMissing ((with_ [(F.LNT_ROLE.ROLE, 4)]).upLnt fun x => { x with hbT := 80001 }) (fun m => !m.on F.LNT_HBSTAT.LOST &&
      m.role == roleYIELDING)) = true ∧
    (gives .heartbeatMissing (with_ [(F.LNT_ROLE.ROLE, 1), (F.LNT_CTRL.EN, 1), (F.TPE_STAT.STATE, 4), (F.LNT_GWSTAT.PEERAGE, 2)]) (fun m => m.role == roleTAKING)) = true ∧
    (gives .heartbeatMissing (with_ [(F.LNT_ROLE.ROLE, 1), (F.LNT_CTRL.EN, 1), (F.TPE_STAT.STATE, 4), (F.LNT_GWSTAT.PEERAGE, 1)]) (fun m => m.role == roleSTANDBY)) = true := by decide +kernel

theorem wit_Heartbeats_link :
    (gives .lintelSyncLoss (with_ [(F.LNT_HBSTAT.LINKUP, 1)]) (fun m => !m.on F.LNT_HBSTAT.LINKUP && m.f F.LNT_LINKCNT.LOCKLOSS == 1 &&
      m.on F.LNT_EVT.LINK && told m 0x22 3)) = true ∧
    (gives .lintelSyncLoss up (fun m => m == up.advance 100000)) = true ∧
    (gives .lintelSyncAcquired up (fun m => m.on F.LNT_HBSTAT.LINKUP)) = true := by decide +kernel

theorem wit_RolesChange_enable :
    (let n := with_ [(F.LNT_GWCFG.PEERBUF, 1), (F.TPE_BUFb_CFG.DIR 0, 1), (F.TPE_BUFb_CFG.LEN 0, 1), (F.TPE_BUFb_CFG.DIR 1, 2), (F.TPE_BUFb_CFG.LEN 1, 1), (F.SYS_ASHPEER.STATE, 1),
    (F.TPE_STAT.STATE, 4), (F.LNT_PERMIT.GWLANE, 1)];
  writes .lntBlockEnable R.LNT_CTRL .firmware 1#32 n (fun m => m.on F.LNT_CTRL.EN && m.role == roleACTIVE)) = true ∧
    (let n := with_ [(F.LNT_GWCFG.PEERBUF, 1), (F.TPE_BUFb_CFG.DIR 0, 1), (F.TPE_BUFb_CFG.LEN 0, 1), (F.TPE_BUFb_CFG.DIR 1, 2), (F.TPE_BUFb_CFG.LEN 1, 1), (F.SYS_ASHPEER.STATE, 4),
    (F.TPE_STAT.STATE, 4), (F.LNT_PERMIT.GWLANE, 2)];
  writes .lntBlockEnable R.LNT_CTRL .firmware 1#32 n (fun m => m.on F.LNT_CTRL.EN && m.role == roleSTANDBY)) = true ∧
    (writes .lntBlockEnable R.LNT_CTRL .firmware 1#32 up (rejected 7 R.LNT_CTRL)) = true ∧
    (writes .lntBlockEnable R.LNT_CTRL .firmware 0#32 (with_ [(F.LNT_CTRL.EN, 1), (F.LNT_ROLE.ROLE, 2)]) (rejected 7 R.LNT_CTRL)) = true ∧
    (writes .lntBlockEnable R.LNT_CTRL .firmware 0#32 (with_ [(F.LNT_CTRL.EN, 1), (F.LNT_ROLE.ROLE, 1)]) (fun m => !m.on F.LNT_CTRL.EN &&
      m.role == roleNONE)) = true ∧
    (let n := with_ [(F.LNT_GWCFG.PEERBUF, 1), (F.TPE_BUFb_CFG.DIR 0, 1), (F.TPE_BUFb_CFG.LEN 0, 1), (F.TPE_BUFb_CFG.DIR 1, 2), (F.TPE_BUFb_CFG.LEN 1, 1), (F.SYS_ASHPEER.STATE, 4),
    (F.TPE_STAT.STATE, 4), (F.LNT_PERMIT.GWLANE, 2), (F.LNT_HBSTAT.LOST, 1), (F.LNT_GWSTAT.PEERAGE, 2)]
  writes .lntBlockEnable R.LNT_CTRL .firmware 1#32 n fun m => m.role == roleTAKING) = true ∧
    (let n := with_ [(F.LNT_GWCFG.PEERBUF, 1), (F.TPE_BUFb_CFG.DIR 0, 1), (F.TPE_BUFb_CFG.LEN 0, 1), (F.TPE_BUFb_CFG.DIR 1, 2), (F.TPE_BUFb_CFG.LEN 1, 1), (F.SYS_ASHPEER.STATE, 4),
    (F.TPE_STAT.STATE, 4), (F.LNT_PERMIT.GWLANE, 1), (F.KST_STAT.LANESAFE, 1), (F.LNT_ROLE.PEERHB, 1), (F.LNT_PEERHB.WORD, 0x30000000)]
  meets n (fun n => n.peerCanTake) && writes .lntBlockEnable R.LNT_CTRL .firmware 1#32 n fun m => m.role == roleYIELDING) = true := by decide +kernel

theorem wit_RolesChange_handover :
    (writes .handover R.LNT_ROLECMD .firmware 1#32 (with_ [(F.LNT_ROLE.ROLE, 3), (F.LNT_ROLE.PEERHB, 1), (F.LNT_PEERHB.WORD, 0x30000000), (F.CAN_Cc_MODE.MODE 1, 2)])
    (fun m => m.role == roleYIELDING && told m 0x24 5 && m.can.leave == [1])) = true ∧
    (writes .handover R.LNT_ROLECMD .firmware 1#32 (with_ [(F.LNT_ROLE.ROLE, 3)]) (rejected 7 R.LNT_ROLECMD)) = true ∧
    (writes .handover R.LNT_ROLECMD .firmware 2#32 (with_ [(F.LNT_ROLE.ROLE, 3)]) (fun m => m.role == roleACTIVE &&
      m.kst.msgs == [])) = true := by decide +kernel

theorem wit_RolesChange_takeover :
    (let n := { (with_ [(F.LNT_ROLE.ROLE, 2), (F.LNT_CKSTAT.VALID, 1), (F.LNT_PEERHB.WORD, 0x00FF0000)]) with
    mram := { cairn := [(0x0C, 1#32), (0x14, 1#32), (0x20, 0x70100#32), (0x24, 0x1C#32)] }, lnt := { takT := 99992 } };
  gives .takeoverComplete n (fun m => m.role == roleACTIVE && m.f F.LNT_ROLE.EPOCH == 0 && m.rd (R.CAN_Cc_MODE 0) == 0x1E#32 && m.on F.CAN_CTRL.EN &&
    !m.on F.LNT_TKSTAT.NOCK)) = true ∧
    (let n := { (with_ [(F.LNT_ROLE.ROLE, 2), (F.LNT_CKSTAT.VALID, 1)]) with mram := { cairn := [(0x0C, 1#32)] }, lnt := { takT := 99993 } };
  gives .takeoverComplete n (fun m => m.role == roleTAKING)) = true := by decide +kernel

theorem wit_CheckpointsMirrored :
    (gives (fun l t => .mirrorReceive l t true 1 0xFFFE#16 [5#32, 6#32]) (with_ [(F.LNT_ROLE.ROLE, 1)]) (fun m => m.mram.cairn == [(0x1FFFC, 5#32)])) = true ∧
    (gives (fun l t => .mirrorReceive l t true 0 0x0008#16 [5#32, 6#32]) up (fun m => m.mram.cairn == [])) = true ∧
    (gives (fun l t => .mirrorReceive l t false 0 0x0008#16 [5#32, 6#32]) up (fun m => m.f F.LNT_LINKCNT.CRCERR == 1)) = true ∧
    (gives (fun l t => .mirrorCommitReceive l t true 1 0#32 false) (with_ [(F.LNT_ROLE.ROLE, 1), (F.LNT_CKSEQ.SEQ, 0xFFFFFFFF)])
    (fun m => m.rd R.LNT_CKSEQ == 0#32 && m.f F.LNT_CKSTAT.CUR == 1 && m.on F.LNT_CKSTAT.VALID && m.on F.LNT_CKSTAT.ORIGIN)) = true ∧
    (gives (fun l t => .mirrorCommitReceive l t true 1 9#32 true) (with_ [(F.LNT_ROLE.ROLE, 1)]) (fun m => m.rd R.LNT_CKSEQ == 9#32)) = true ∧
    (gives (fun l t => .mirrorCommitReceive l t true 1 9#32 false) (with_ [(F.LNT_ROLE.ROLE, 1)]) (fun m => m.f F.LNT_CKCNT.MFAIL == 1 && told m 0x23 4 &&
      !m.on F.LNT_CKSTAT.VALID)) = true := by decide +kernel

theorem wit_CanControllers_mode :
    (writes (fun l t org v => .canModeWrite l t org 0 v) (R.CAN_Cc_MODE 0) .firmware 0x1E#32 up (rejected 7 (R.CAN_Cc_MODE 0))) = true ∧
    (writes (fun l t org v => .canModeWrite l t org 1 v) (R.CAN_Cc_MODE 1) .firmware 0x1E#32 (with_ [(F.LNT_ROLE.ROLE, 3)]) (fun m => m.rd (R.CAN_Cc_MODE 1) == 0x1E#32)) = true ∧
    (writes (fun l t org v => .canModeWrite l t org 1 v) (R.CAN_Cc_MODE 1) .firmware 0x03#32 (with_ [(F.LNT_ROLE.ROLE, 3)]) (rejected 7 (R.CAN_Cc_MODE 1))) = true := by decide +kernel

theorem wit_CanControllers_receive :
    (let n := with_ [(F.CAN_Cc_MODE.MODE 0, 2), (F.CAN_CTRL.EN, 1), (F.CAN_Cc_OBJo_CTL.VAL 0 63, 1), (F.CAN_Cc_OBJo_CTL.IDE 0 63, 1), (F.CAN_Cc_OBJo_ID.ID 0 63, 0x1ABCDEF0),
    (F.CAN_Cc_OBJo_STAT.NEW 0 63, 1), (⟨R.CAN_GWRr_CFG 3, 31, 0⟩, 0x803F0805), (F.TPE_BUFb_CFG.DIR 5, 1), (F.TPE_BUFb_STAT.WIDX 5, 2)];
  let f : CanFrame := { id := 0x1ABCDEF0#29, ide := true, fdf := false, brs := false, esi := false, rtr := false, dlc := 3#4, data := [1#8, 2#8, 3#8] };
  meets n (fun n => n.objTakes 0 63 f) && gives (fun l t => .canFrameReceive l t 0 f 7#8 9#8) n
    (fun m => m.f (F.CAN_Cc_OBJo_RXID.ID 0 63) == 0x1ABCDEF0 && m.rd (R.CAN_Cc_OBJo_DATAw 0 63 0) == 0x00030201#32 && m.on (F.CAN_Cc_OBJo_STAT.OVWR 0 63) &&
      told m 0xD6 3 &&
      m.f (F.CAN_Cc_STAT.TEC 0) == 7 && m.f (F.CAN_Cc_STAT.REC 0) == 9 && m.f (F.CAN_GWRr_CNT.FRAMES 3) == 1 && m.rd (bufWord 5 2 8) == 0x3ABCDEF0#32 &&
        m.rd (bufWord 5 2 9) == 0x30010000#32 &&
      m.rd (bufWord 5 2 10) == 0x00030201#32 && m.f (F.TPE_BUFb_STAT.NEWEST 5) == 2)) = true ∧
    (let f : CanFrame := { id := 0x04000000#29, ide := false, fdf := true, brs := true, esi := false, rtr := false, dlc := 0#4, data := [] };
  gives (fun l t => .canFrameReceive l t 1 f 7#8 9#8) (with_ [(F.CAN_Cc_MODE.MODE 1, 1), (F.CAN_Cc_MODE.FDEN 1, 1)]) (fun m => m.f (F.CAN_Cc_STAT.TEC 1) == 0)) = true ∧
    (let f : CanFrame := { id := 0x04000000#29, ide := false, fdf := true, brs := true, esi := false, rtr := false, dlc := 0#4, data := [] };
  gives (fun l t => .canFrameReceive l t 1 f 7#8 9#8) (with_ [(F.CAN_Cc_MODE.MODE 1, 1), (F.CAN_Cc_MODE.FDEN 1, 1), (F.CAN_Cc_MODE.BRSEN 1, 1)])
    (fun m => m.f (F.CAN_Cc_STAT.TEC 1) == 7 && m.f (F.CAN_Cc_STAT.NOMATCH 1) == 1)) = true ∧
    (let f : CanFrame := { id := 0x04000000#29, ide := false, fdf := false, brs := false, esi := false, rtr := true, dlc := 8#4, data := [] };
  gives (fun l t => .canFrameReceive l t 1 f 7#8 9#8) (with_ [(F.CAN_Cc_MODE.MODE 1, 1)]) (fun m => m.on (F.CAN_Cc_EVT.RMT 1))) = true := by decide +kernel

theorem wit_CanControllers_errors :
    (gives (fun l t => .busOff l t 0 255#8 3#8) (with_ [(F.CAN_Cc_MODE.MODE 0, 2)]) (fun m => m.f (F.CAN_Cc_STAT.ESTATE 0) == 2 &&
      m.f (F.CAN_Cc_STAT.TEC 0) == 255 && told m 0xD4 1)) = true ∧
    (gives (fun l t => .busOff l t 0 255#8 3#8) (with_ [(F.CAN_Cc_MODE.MODE 0, 1)]) (fun m => m.f (F.CAN_Cc_STAT.ESTATE 0) == 0)) = true ∧
    (gives (fun l t => .busOffRecovery l t 1) (with_ [(F.CAN_Cc_MODE.MODE 1, 2), (F.CAN_Cc_MODE.AUTOREC 1, 1), (F.CAN_Cc_STAT.ESTATE 1, 2), (F.CAN_Cc_STAT.TEC 1, 255)])
    (fun m => m.f (F.CAN_Cc_STAT.ESTATE 1) == 0 && m.f (F.CAN_Cc_STAT.TEC 1) == 0)) = true ∧
    (gives (fun l t => .busOffRecovery l t 1) (with_ [(F.CAN_Cc_MODE.MODE 1, 2), (F.CAN_Cc_STAT.ESTATE 1, 2)]) (fun m => m.f (F.CAN_Cc_STAT.ESTATE 1) == 2)) = true ∧
    (gives (fun l t => .errorPassive l t 1 128#8 0#8) (with_ [(F.CAN_Cc_MODE.MODE 1, 2)]) (fun m => m.f (F.CAN_Cc_STAT.ESTATE 1) == 1 &&
      m.on (F.CAN_Cc_EVT.PASSIVE 1) && told m 0xD5 2)) = true ∧
    (gives (fun l t => .errorPassive l t 1 128#8 0#8) up (fun m => m.f (F.CAN_Cc_STAT.ESTATE 1) == 0)) = true := by decide +kernel

theorem wit_CanTransmission_requests :
    (writes (fun l t org v => .txRequest l t org 1 1 v) (R.CAN_Cc_TXREQn 1 1) .firmware 0x80000001#32 (with_ [(F.CAN_Cc_OBJo_CTL.VAL 1 63, 1), (F.CAN_Cc_OBJo_CTL.DIR 1 63, 1), (F.CAN_Cc_OBJo_CTL.VAL 1 32, 1)])
    (fun m => m.rd (R.CAN_Cc_TXPENDn 1 1) == 0x80000000#32)) = true ∧
    (writes (fun l t org v => .txAbort l t org 1 1 v (some 63#6)) (R.CAN_Cc_TXABTn 1 1) .firmware 0x80000001#32 (with_ [(F.CAN_Cc_TXPENDn.OBJ 1 1, 0x80000003)])
    (fun m => m.rd (R.CAN_Cc_TXPENDn 1 1) == 0x80000002#32)) = true ∧
    (gives (fun l t => .txDone l t 1 32#6 3#8 4#8) (with_ [(F.CAN_Cc_MODE.MODE 1, 2), (F.CAN_Cc_TXPENDn.OBJ 1 1, 0x80000003)])
    (fun m => m.rd (R.CAN_Cc_TXPENDn 1 1) == 0x80000002#32 && m.on (F.CAN_Cc_EVT.TXDONE 1) && m.f (F.CAN_Cc_STAT.TEC 1) == 3)) = true ∧
    (gives (fun l t => .txDone l t 1 63#6 3#8 4#8) (with_ [(F.CAN_Cc_MODE.MODE 1, 2), (F.CAN_Cc_TXPENDn.OBJ 1 1, 0x80000003)]) (fun m => m.rd (R.CAN_Cc_TXPENDn 1 1) == 0x80000003#32)) = true ∧
    (gives (fun l t => .gatewayYieldListen l t 1) ((with_ [(F.CAN_Cc_MODE.MODE 1, 2)]).upCan fun c => { c with leave := [0, 1] }) (fun m => m.canMode 1 == 1 && m.can.leave == [0])) = true ∧
    (gives (fun l t => .gatewayYieldListen l t 1) (with_ [(F.CAN_Cc_MODE.MODE 1, 2)]) (fun m => m.canMode 1 == 2)) = true := by decide +kernel

theorem wit_CanTransmission_routes :
    (writes .canGatewayEnable R.CAN_CTRL .firmware 1#32 (with_ [(⟨R.CAN_GWRr_CFG 31, 31, 0⟩, 0xC0000005), (F.TPE_BUFb_CFG.DIR 5, 2), (F.TPE_BUFb_CFG.LEN 5, 8)]) (rejected 7 R.CAN_CTRL)) = true ∧
    (writes .canGatewayEnable R.CAN_CTRL .firmware 1#32 (with_ [(⟨R.CAN_GWRr_CFG 31, 31, 0⟩, 0xC0000005), (F.TPE_BUFb_CFG.DIR 5, 2), (F.TPE_BUFb_CFG.LEN 5, 9)]) (fun m => m.on F.CAN_CTRL.EN)) = true ∧
    (writes .canGatewayEnable R.CAN_CTRL .firmware 0#32 (with_ [(F.CAN_CTRL.EN, 1)]) (fun m => !m.on F.CAN_CTRL.EN)) = true ∧
    (let n := (with_ [(⟨R.CAN_GWRr_CFG 7, 31, 0⟩, 0xE0020005), (F.CAN_CTRL.EN, 1), (F.CAN_Cc_MODE.MODE 1, 2)]).upCan fun c => { c with last := [(7, [0x20000123#32, 0x80000000#32, 0xAA#32])] };
  writes .resend R.CAN_GWCMD .firmware 1#32 n (fun m => m.objPending 1 2 && m.f (F.CAN_Cc_OBJo_ID.ID 1 2) == 0x123 &&
    m.rd (R.CAN_Cc_OBJo_DATAw 1 2 0) == 0xAA#32 && m.f (F.CAN_GWRr_CNT.FRAMES 7) == 1)) = true ∧
    (let n := (with_ [(⟨R.CAN_GWRr_CFG 7, 31, 0⟩, 0xE0020005), (F.CAN_CTRL.EN, 1), (F.CAN_Cc_MODE.MODE 1, 2)]).upCan fun c => { c with last := [(7, [0x80000123#32])] };
  writes .resend R.CAN_GWCMD .firmware 1#32 n (fun m => m.f (F.CAN_GWRr_CNT.BAD 7) == 1 && told m 0xD7 4)) = true := by decide +kernel

theorem wit_published_vectors :
    (sha256 [0x61, 0x62, 0x63] == be 32 0xba7816bf8f01cfea414140de5dae2223b00361a396177a9cb410ff61f20015ad) = true ∧
    (ecdsaOk (3 :: be 32 0x60FED4BA255A9D31C961EB74C6356D68C049B8923B61FA6CE669622E60F29FB6) [0x73, 0x61, 0x6d, 0x70, 0x6c, 0x65]
    (be 32 0xEFD48B2AACB6A8FD1140DD9CD45E81D69D2C877B56AAF991C34D0EA84EAF3716 ++ be 32 0xF7CB1C942D657C41D436C7A1B6E29F65F3E900DBB9AFF4064DC4AB2F843ACDA8)) = true ∧
    (crc32 [0x31, 0x32, 0x33, 0x34, 0x35, 0x36, 0x37, 0x38, 0x39] == 0xCBF43926 &&
      crc16 [0x31, 0x32, 0x33, 0x34, 0x35, 0x36, 0x37, 0x38, 0x39] == 0x29B1) = true := by decide +kernel

/-! ## Starts (ResetsOfALane, StartTests, LoadAndRun) -/

/-- A lane with something written everywhere a start acts on. -/

def dirty : Lane :=
  ((up.upOap fun o => { o with pc := 4#32 }).wr (R.FBI_PCOSEL) 5#32).upMram fun m => { m with slots := [(0, [1#8])], keys := [(3, 5#32)] }

/-- What every start leaves of it. -/

def fresh (m : Lane) : Bool := m.oap == {} && m.sys.step == 1 && m.mram.slots == [(0, [1#8])] && m.mram.keys == [(3, 5#32)] && m.rd R.FBI_PCOSEL == mapReset R.FBI_PCOSEL
theorem wit_ResetsOfALane :
    (gives .vaonPowerOn dirty fun m => fresh m && m.sys.powered && m.f F.SYS_RSTCAUSE.CAUSE == 1 && m.f F.SYS_RSTCAUSE.AON == 1 &&
      m.f F.SYS_LANE.LANE == 1) = true ∧
    (gives .vaonPowerLoss dirty fun m => fresh m && !m.sys.powered && !m.sys.vaon) = true ∧
    (gives .pornReset dirty fun m => fresh m && m.f F.SYS_RSTCAUSE.CAUSE == 2) = true ∧
    (gives .pornReset { dirty with sys := { dirty.sys with vaon := false } } fun m => m.oap.pc == 4#32) = true ∧
    (gives .trstnReset { dirty with sys := { dirty.sys with tap := 3 } } fun m => m.sys.tap == 0 && m.oap.pc == 4#32) = true ∧
    (writes .warmStartRequest R.SYS_RSTCMD .spi (word [(F.SYS_RSTCMD.KEY, 0x5354), (F.SYS_RSTCMD.START, 1)]) dirty fun m => fresh m &&
      m.f F.SYS_RSTCAUSE.CAUSE == 3 && m.f F.SYS_RSTCAUSE.AON == 0) = true ∧
    (writes .warmStartRequest R.SYS_RSTCMD .spi (word [(F.SYS_RSTCMD.KEY, 0x5355), (F.SYS_RSTCMD.START, 1)]) dirty fun m => m.sys.step == 12 &&
      m.oap.pc == 4#32 && !m.on F.SYS_REGERR.FLAG) = true ∧
    (writes .warmStartRequest R.SYS_RSTCMD .remote (word [(F.SYS_RSTCMD.KEY, 0x5354), (F.SYS_RSTCMD.START, 1)]) dirty (rejected 7 R.SYS_RSTCMD)) = true ∧
    (writes .warmStartRequest R.SYS_RSTCMD .firmware (word [(F.SYS_RSTCMD.KEY, 0x5354), (F.SYS_RSTCMD.START, 1)]) (dirty.setGrp 1 gRUN) (rejected 7 R.SYS_RSTCMD)) = true ∧
    (writes .warmStartRequest R.SYS_RSTCMD .firmware (word [(F.SYS_RSTCMD.KEY, 0x5354), (F.SYS_RSTCMD.START, 1)]) (dirty.setGrp 1 gRUN |>.setF F.KST_STAT.LANESAFE 1) fresh) = true := by decide +kernel

theorem wit_StartTests :
    (ask (.startSequence · · true) { id := .lane1 } (fun n => n.sys.powered && n.sys.step == 1 && n.pwr.supOut.isEmpty && decide (n.step2 + 20000 ≤ n.now))
    fun m => m.sys.step == 8 && !m.sys.coreFail && m.on F.YAR_STAT.BUSY && m.on F.CLK_STAT.LOCK && m.kst.msgs.isEmpty) = true ∧
    (gives (.startSequence · · false) { id := .lane1 } fun m => m.sys.step == 8 && m.sys.coreFail && told m 0x1C 3) = true ∧
    (let n : Lane := { id := .lane1, now := 1188160, sys := { step := 8 } }; meets n (fun n => n.sys.powered && n.sys.step == 8 &&
      decide (n.sys.startT + 1188160 ≤ n.now) && !n.sys.coreFail && n.pwr.stalled.isEmpty && n.sys.cold)) = true ∧
    (let n : Lane := { id := .lane1, now := 1204160, sys := { step := 9, injDue := true } }
  ask (.injectionTestEnd · · (BitVec.allOnes 19) 3#4 true) n (fun n => n.domOn dCORE && n.sys.injDue && n.sys.cold &&
    decide (n.sys.startT + 1188160 + 16000 ≤ n.now))
    fun m => !m.sys.injDue && m.f F.LSC_INJSTAT.RUNS == 0x7FFFF && m.on F.LSC_STAT.INJOK && m.f F.LSC_INJSTAT.FAILITEM == 0 && told m 0x15 1) = true ∧
    (let n : Lane := { id := .lane1, now := 1204160, sys := { step := 9, injDue := true } }
  gives (.injectionTestEnd · · 0x3FFFF#19 3#4 true) n fun m => m.f F.SYS_START.STATE == 3 && m.f F.SYS_START.HALT == 4 && m.bit F.YAR_UNUSABLE.PARTS 3 &&
    m.f F.LSC_INJSTAT.FAILITEM == 3) = true ∧
    (let n : Lane := { id := .lane1, now := 1204160, sys := { step := 9, injDue := true } }
  gives (.injectionTestEnd · · 0x40000#19 3#4 true) n fun m => told m 0x15 1 && m.f F.SYS_START.HALT == 4 && m.f F.LSC_INJSTAT.RUNS == 0x40000) = true := by decide +kernel

/-- A lane in BLANK whose Ashlar load runs. -/

def loading : Lane := { (with_ [(F.SYS_LCS.STATE, 1), (F.SYS_START.STATE, 1), (F.SYS_ASHSTAT.STATE, 1)]) with sys := { step := 9 } }
theorem wit_LoadAndRun_loaded :
    (meets (Holds 2 ashlarImage loading) (fun n => n.domOn dCORE && n.sys.step == 9 && n.f F.SYS_ASHSTAT.STATE == 1 &&
      n.activeSlot tASHLAR == some 2)) = true := by decide +kernel

theorem wit_LoadAndRun_refused :
    (ask (.ashlarLoadEnd · · 0#6 0#6) loading (fun n => n.domOn dCORE && n.activeSlot tASHLAR == none && n.slotSt 2 != lACCEPTED)
    fun m => m.sys.step == 10 && m.on F.SYS_ASHLOCK.LOCK && m.f F.SYS_ASHSTAT.STATE == 3 && m.f F.SYS_ASHPEER.STATE == 5) = true := by decide +kernel

/-- Slot A, in `st`, holds the image, and no slot is active. -/
def fallback (st : Nat) : Lane := loading.upMram fun m => { m with slots := [(2, ashlarImage.map fun b => BitVec.ofNat 8 b)], slotSt := [(2, st)] }
theorem wit_LoadAndRun_fallback :
    (meets (fallback lACCEPTED) (fun n => n.activeSlot tASHLAR == none && n.slotSt 2 == lACCEPTED) &&
      meets (fallback lSTORED) (fun n => n.activeSlot tASHLAR == none && n.slotSt 2 != lACCEPTED)) = true := by decide +kernel

theorem wit_LoadAndRun_runs :
    (let n := Holds 0 policyImage { (with_ [(F.SYS_LCS.STATE, 1), (F.SYS_START.STATE, 1)]) with sys := { step := 10 }, oap := { gpr := [(3, 5#32)], data := [(1, 2#8)] } }
  ask .startupImageCopyEnd n (fun n => n.domOn dCORE && n.sys.step == 10 && n.f F.SYS_START.STATE != 3 && !n.sys.injDue && n.activeSlot tPOLICY == some 0)
    fun m => m.sys.step == 13 && m.f F.SYS_START.STATE == 2 && m.on F.SYS_START.POLICY && m.oap.running && m.oap.pc == 0#32 && m.oap.data.isEmpty &&
      m.evPending 0 && m.gpr 3 == 0#32 && m.codeWord == some 0x1000000E#32) = true ∧
    (gives .startupImageCopyEnd { (with_ [(F.SYS_START.STATE, 1)]) with sys := { step := 10 } } fun m => m.sys.step == 13 && m.f F.SYS_START.STATE == 2 &&
      !m.oap.running) = true := by decide +kernel

theorem wit_LoadsAndDomainsComplete_load :
    (meets loading (fun n => n.domOn dCORE && n.sys.step == 9 && n.f F.SYS_ASHSTAT.STATE == 1) &&
      gives (.ashlarLoadEnd · · 0#6 0#6) loading fun m => m.f F.SYS_ASHSTAT.STATE == 3) = true ∧
    (let n := { (with_ [(F.SYS_START.STATE, 1)]) with sys := { step := 10 } }
  ask .startupImageCopyEnd n (fun n => n.domOn dCORE && n.sys.step == 10 && n.f F.SYS_START.STATE != 3 && !n.sys.injDue) fun m => m.sys.step == 13) = true := by decide +kernel

/-! ## Release (ReleaseToActuation, LifeCycle) -/

/-- A lane that has loaded its image and waits for the other lane's digest. -/

def waiting : Lane := { (with_ [(F.SYS_ASHSTAT.STATE, 2)]) with sys := { step := 10, peerDue := some 100000 } }
/-- A digest of thirty-two equal bytes. -/

def thirty2 (b : Byte) : List Byte := List.replicate 32 b
theorem wit_ReleaseToActuation_digest :
    (ask (.statusMessageReceive · · true (.digest (thirty2 0#8))) waiting (fun n => n.domOn dCORE && n.f F.SYS_ASHPEER.STATE == 0 &&
      n.f F.SYS_ASHSTAT.STATE == 2)
    fun m => m.sys.peerDue == none && m.f F.SYS_ASHPEER.STATE == 1 && !m.on F.SYS_ASHEVT.DIFFER) = true ∧
    (gives (.statusMessageReceive · · true (.digest (thirty2 1#8))) waiting fun m => m.sys.peerDue == none && m.f F.SYS_ASHPEER.STATE == 2 &&
      m.on F.SYS_ASHEVT.DIFFER && told m 0x03 4) = true ∧
    (gives (.statusMessageReceive · · true .refused) waiting fun m => m.sys.peerDue == none && m.f F.SYS_ASHPEER.STATE == 4 && told m 0x03 4) = true ∧
    (ask .statusResend waiting (fun n => n.f F.SYS_ASHPEER.STATE == 0 && decide (n.sys.sentT + 40000 ≤ n.now))
      fun m => m.sys.tx == [.digest (thirty2 0#8)] && m.sys.sentT == 100000) = true ∧
    (ask .peerWaitExpiry waiting (fun n => n.sys.peerDue == some 100000) fun m => m.sys.peerDue == none && m.on F.SYS_ASHEVT.TIMEOUT &&
      m.f F.SYS_ASHPEER.STATE == 0 && told m 0x03 4) = true ∧
    (gives .peerWaitExpiry (waiting.setF F.LNT_PERMIT.SOLO 1) fun m => m.f F.SYS_ASHPEER.STATE == 3) = true := by decide +kernel

/-- A lane that meets every condition of release. -/

def ready : Lane := with_ [(F.SYS_ASHSTAT.STATE, 2), (F.SYS_ASHPEER.STATE, 1), (F.SYS_START.STATE, 2), (F.SAF_CTRL.EN, 1), (F.SAF_STAT.SEALOK, 1)]
theorem wit_ReleaseToActuation_release :
    (writes .laneRelease R.SYS_ARMCMD .firmware (word [(F.SYS_ARMCMD.LANE, 1)]) ready fun m => m.on F.SYS_ARMSTAT.RELEASED) = true ∧
    (writes .laneRelease R.SYS_ARMCMD .firmware (word [(F.SYS_ARMCMD.LANE, 1)]) (ready.setF F.SYS_ASHPEER.STATE 4) (rejected 7 R.SYS_ARMCMD)) = true ∧
    (writes .laneRelease R.SYS_ARMCMD .firmware (word [(F.SYS_ARMCMD.LANE, 1)]) (ready.setFs [(F.SYS_ASHPEER.STATE, 4), (F.LNT_PERMIT.SOLO, 1)])
      fun m => m.on F.SYS_ARMSTAT.RELEASED) = true ∧
    ([F.SAF_CTRL.EN, F.SAF_STAT.SEALOK, F.SYS_ASHSTAT.STATE].all fun f => gives (.laneRelease · · .firmware (word [(F.SYS_ARMCMD.LANE, 1)])) (ready.setF f 0) (rejected 7 R.SYS_ARMCMD)) = true ∧
    ([(F.KST_STAT.LANESAFE, 1), (F.SYS_LCS.STATE, 5), (F.SYS_START.STATE, 1), (F.SYS_ASHPEER.STATE, 2)].all fun f => gives (.laneRelease · · .firmware (word [(F.SYS_ARMCMD.LANE, 1)])) (ready.setFs [f]) (rejected 7 R.SYS_ARMCMD)) = true := by decide +kernel

/-- A released lane in which group 0 of independent legs may be armed. -/

def released : Lane :=
  { (ready.setFs [(F.SYS_ARMSTAT.RELEASED, 1), (F.PWM_CTRL.EN, 1), (F.GDV_CTRL.EN, 1), (F.ADC_CTRL.EN, 1), (F.CLE_CTRL.EN, 1), (F.ADC_STAT.READY, 1),

      (F.GDV_STAT.LINK, 2)]) with sys := { step := 13, ash := { modes := [2, 0, 1] } } }

theorem wit_ReleaseToActuation_arm :
    (meets released (fun n => n.mayArm 0 && n.mayArm 2 && !n.mayArm 1) &&
      writes .groupArm R.SYS_ARMCMD .spi (word [(F.SYS_ARMCMD.GROUPS, 1)]) released fun m => m.grp 0 == 1 && m.grp 1 == 0 && m.grp 2 == 0 &&
        m.bit F.SYS_ARMSTAT.ARMED 0) = true ∧
    (writes .groupArm R.SYS_ARMCMD .spi (word [(F.SYS_ARMCMD.GROUPS, 4)]) (released.setF F.KST_STAT.GSAFE 4) fun m => m.grp 2 == 5 &&
      m.bit F.SYS_ARMSTAT.ARMED 2) = true ∧
    (writes .groupArm R.SYS_ARMCMD .spi (word [(F.SYS_ARMCMD.GROUPS, 2)]) released (rejected 7 R.SYS_ARMCMD)) = true ∧
    (writes .groupArm R.SYS_ARMCMD .spi (word [(F.SYS_ARMCMD.GROUPS, 1)]) (released.setF F.SYS_ARMSTAT.RELEASED 0) fun m => rejected 7 R.SYS_ARMCMD m &&
      m.grp 0 == 0) = true := by decide +kernel

/-- The word of life-cycle command `c`. -/

def lcWord (c : Nat) : W32 := word [(F.SYS_LCCMD.KEY, 0x4C43), (F.SYS_LCCMD.CMD, c)]
theorem wit_LifeCycle_commands :
    (writes .lcProvision R.SYS_LCCMD .spi (lcWord 1) (with_ [(F.SYS_LCS.STATE, 1), (F.SYS_KEYSTAT.SET, 1)])
      fun m => m.sys.lc == some { toState := 2, toBase := 2, cmd := 1 } && m.on F.SYS_LCSTAT.BUSY) = true ∧
    (writes .lcProvision R.SYS_LCCMD .spi (lcWord 1) (with_ [(F.SYS_LCS.STATE, 1)]) (rejected 7 R.SYS_LCCMD)) = true ∧
    (writes .lcField R.SYS_LCCMD .firmware (lcWord 2) (with_ [(F.SYS_LCS.STATE, 2), (F.SYS_ASHSTAT.STATE, 2)])
      fun m => m.sys.lc == some { toState := 3, toBase := 3, cmd := 2 }) = true ∧
    (writes .lcField R.SYS_LCCMD .remote (lcWord 2) (with_ [(F.SYS_LCS.STATE, 2), (F.SYS_ASHSTAT.STATE, 2)]) (rejected 7 R.SYS_LCCMD)) = true ∧
    (writes .lcToken R.SYS_LCCMD .spi (lcWord 3) (with_ [(F.SYS_LCS.STATE, 4)]) fun m => m.sys.token == some 1 && m.on F.SYS_LCSTAT.BUSY) = true ∧
    (writes .lcToken R.SYS_LCCMD .spi (lcWord 3) (with_ [(F.SYS_LCS.STATE, 5)]) (rejected 7 R.SYS_LCCMD)) = true ∧
    (writes .lcReturn R.SYS_LCCMD .spi (lcWord 4) (with_ [(F.SYS_LCS.STATE, 1)])
      fun m => m.sys.lc == some { toState := 5, toBase := 5, cmd := 4, ret := true }) = true ∧
    (writes .lcReturn R.SYS_LCCMD .spi (lcWord 4) ((with_ [(F.SYS_LCS.STATE, 1)]).setGrp 2 gPENDING) (rejected 7 R.SYS_LCCMD)) = true := by decide +kernel

/-- The 96 signed bytes of a service token for permissions `p`, UID 0 and nonce 0, then its signature (R487). -/

def token (p r s : Nat) : List Nat := le 4 0x4E4B4F54 ++ le 2 1 ++ le 2 p ++ le 24 0 ++ signer ++ le 31 0 ++ be 32 r ++ be 32 s
/-- A provisioned lane whose mailbox holds the token. -/

def tokened (t : List Nat) : Lane :=
  (({ (with_ [(F.SYS_LCS.STATE, 3), (F.SYS_LCS.BASE, 3), (F.SYS_LCSTAT.BUSY, 1)]) with sys := { step := 13, token := some 1 } }).putBytes (R.SYS_TOKw 0) 40 t).upMram

    fun m => { m with keys := keyCells }

theorem wit_LifeCycle_token :
    (ask .tokenCheckComplete (tokened (token 1 0xfcb8b694d9a88e04bb9af17846eca72724dfef58ff12a74c3ceb14eeaf088cc9 0x5b158773faf36e861067d0e9b59f1ea5893a7fb17d91979e50cdc41962e6069)) (fun n => n.domOn dCORE && n.sys.token == some 1 && n.tokenBad n.tokenBytes == none && u16 n.tokenBytes 6 == 1 && n.f F.SYS_LCS.STATE == 3)
    fun m => m.sys.token == none && m.f F.SYS_LCS.STATE == 4 && m.f F.SYS_LCS.BASE == 3 && m.f F.SYS_LCSTAT.RESULT == 1 && m.on F.SYS_LCSTAT.DONE &&
      !m.on F.SYS_LCSTAT.BUSY) = true ∧
    (gives .tokenCheckComplete (tokened (token 3 0xfcb8b694d9a88e04bb9af17846eca72724dfef58ff12a74c3ceb14eeaf088cc9 0x5b158773faf36e861067d0e9b59f1ea5893a7fb17d91979e50cdc41962e6069)) fun m => m.f F.SYS_LCS.STATE == 3 && m.f F.SYS_LCSTAT.RESULT == 6 && m.f F.SYS_LCSTAT.CMD == 3 && m.on F.SYS_LCSTAT.DONE) = true ∧
    (gives .tokenCheckComplete (tokened (le 160 0)) fun m => m.f F.SYS_LCSTAT.RESULT == 2) = true := by decide +kernel

theorem wit_LifeCycle_ends :
    (let n : Lane := { (with_ [(F.SYS_LCS.STATE, 2), (F.SYS_LCSTAT.BUSY, 1)]) with sys := { step := 13, lc := some { toState := 3, toBase := 3, cmd := 2 } }, mram := { lcA := { seq := 5, state := 2 }, lcB := { seq := 4, state := 2 } } }
  gives .lifecycleWriteComplete n fun m => m.f F.SYS_LCS.STATE == 3 && m.f F.SYS_LCS.BASE == 3 && m.sys.lc == none &&
    m.mram.lcA == { seq := 7, state := 3 } && m.mram.lcB == { seq := 6, state := 3 } && m.f F.SYS_LCSTAT.RESULT == 1) = true ∧
    (let n := up.upMram fun m => { m with slots := [(1, [1#8])], keys := [(0, 1#32)], cairn := [(0, 1#32)], setA := [(0, 1#32)], erasing := true }
  ask .returnedEraseComplete n (fun n => n.domOn dCORE && n.mram.erasing && n.sys.lc == none) fun m => m.mram == { } && m.sys.step == 1 &&
    m.f F.SYS_RSTCAUSE.CAUSE == 6) = true := by decide +kernel

theorem wit_LifeCycle_selftest :
    (writes .commandSelfTest R.YAR_CMD .spi (word [(F.YAR_CMD.START, 1), (F.YAR_CMD.PARTS, 0x0080)]) up fun m => m.f F.YAR_STAT.STATE == 2 &&
      m.on F.YAR_STAT.BUSY && m.sys.selfTest == some { parts := 0x80, mems := 0 } && m.domState dCLE == 4) = true ∧
    ([(F.YAR_CMD.PARTS, 0x0001)].all fun f => writes .commandSelfTest R.YAR_CMD .spi (word [(F.YAR_CMD.START, 1), f]) up (rejected 7 R.YAR_CMD)) = true ∧
    (writes .commandSelfTest R.YAR_CMD .spi (word [(F.YAR_CMD.START, 1)]) (with_ [(F.SYS_LCS.ENF, 1), (F.SYS_LCS.STATE, 3)]) (rejected 7 R.YAR_CMD)) = true ∧
    (let n : Lane := { (with_ [(F.YAR_STAT.BUSY, 1)]) with sys := { step := 13, selfTest := some { parts := 0x80, mems := 0x20 } } }; meets n (fun n => n.sys.powered && n.pwr.stalled.isEmpty)) = true := by decide +kernel

/-! ## The PWM generator and the actuation chain (TimeBases to ResultsWritten) -/

/-- An enabled PWM block with time base 0 counting UP to PER 1000, group 0 in state `st`. -/

def pwm (st : Nat) : Lane := with_ [(F.PWM_CTRL.EN, 1), (F.PWM_TBb_PER.PER 0, 1000), (F.PWM_TBb_PERACT.PER 0, 1000), (F.PWM_TBb_CNT.RUN 0, 1), (F.PWM_GRPSTAT.ST_M0, st)]
theorem wit_TimeBases_start :
    (let n := with_ [(F.PWM_CTRL.EN, 1), (F.PWM_TBb_PER.PER 1, 1000), (F.PWM_TBb_PHASE.VALUE 1, 999), (F.PWM_LEGn_CMP.CMP 5, 77)]
  meets n (fun n => inSeq (n.f (F.PWM_TBb_CFG.MODE 1)) (n.f (F.PWM_TBb_PER.PER 1)) (n.f (F.PWM_TBb_PHASE.VALUE 1))) &&
    writes .pwmStart R.PWM_START .firmware (word [(F.PWM_START.START, 2)]) n fun m => m.tbRun 1 && !m.tbRun 0 && m.f (F.PWM_TBb_CNT.CNT 1) == 999 &&
      m.f (F.PWM_TBb_PERACT.PER 1) == 1000 && m.f (F.PWM_LEGn_ACT.CMP 5) == 77) = true ∧
    (writes .pwmStart R.PWM_START .firmware (word [(F.PWM_START.START, 2)]) up (rejected 7 R.PWM_START)) = true ∧
    (writes .pwmStop R.PWM_START .firmware (word [(F.PWM_START.STOP, 1)]) ((pwm 1).setF (F.PWM_TBb_CNT.CNT 0) 9) fun m => !m.tbRun 0 &&
      m.f (F.PWM_TBb_CNT.CNT 0) == 9 && m.grp 0 == 1 && !m.on F.SYS_REGERR.FLAG) = true ∧
    (writes .pwmStop R.PWM_START .firmware (word [(F.PWM_START.STOP, 1)]) (pwm 3) fun m => m.tbRun 0 && rejected 7 R.PWM_START m) = true ∧
    (writes .loadAllArm R.PWM_LOADALL .firmware (word [(F.PWM_LOADALL.ARM, 3)]) ((pwm 1).setF (F.PWM_TBb_CFG.SRC 1) 1) fun m => m.f F.PWM_STAT.ARMED == 1 &&
      rejected 7 R.PWM_LOADALL m) = true := by decide +kernel

theorem wit_TimeBases_events :
    (ask (.pwmEvent · · 0 500#16 false) ((pwm 2).setF (F.PWM_TBb_CNT.CNT 0) 500) (fun n => n.domOn dACT && n.tbSteps 0 && n.tbAt 0 500 false)
      fun m => m.f (F.PWM_TBb_CNT.CNT 0) == 500 && m.grp 0 == 2 && m.f (F.PWM_TBb_PERACT.PER 0) == 1000) = true ∧
    (ask (.pwmEvent · · 0 0#16 false) ((pwm 2).setFs [(F.PWM_STAT.ARMED, 1), (F.PWM_TBb_PER.PER 0, 800), (F.PWM_LEGn_CMP.CMP 2, 33)]) (fun n => n.tbSteps 0 &&
      n.tbAt 0 0 false)
    fun m => m.grp 0 == 3 && m.f (F.PWM_TBb_PERACT.PER 0) == 800 && m.f (F.PWM_LEGn_ACT.CMP 2) == 33 && !m.bit F.PWM_STAT.ARMED 0) = true ∧
    (gives (.pwmEvent · · 0 0#16 false) ((pwm 3).setFs [(F.PWM_TBb_LDCFG.LOADMODE 0, 1), (F.PWM_TBb_PER.PER 0, 800)]) fun m => m.grp 0 == 3 &&
      m.f (F.PWM_TBb_PERACT.PER 0) == 800) = true ∧
    (gives (.pwmEvent · · 0 0#16 false) ((pwm 3).setFs [(F.PWM_TBb_CFG.SRC 0, 1), (F.PWM_TBb_PER.PER 0, 800), (F.PWM_LEGn_CMP.CMP 2, 33)])
      fun m => m.f (F.PWM_TBb_PERACT.PER 0) == 1000 && m.f (F.PWM_TBb_PER.PER 0) == 1000 && m.f (F.PWM_LEGn_CMP.CMP 2) == 0xFFFF) = true ∧
    (gives (.pwmEvent · · 1 0#16 false) (pwm 3) fun m => m.f (F.PWM_TBb_CNT.CNT 1) == 0 && !m.tbRun 1) = true ∧
    (ask (.pwmEvent · · 0 1000#16 false) ((pwm 3).setFs [(F.PWM_TBb_CFG.MODE 0, 1), (F.PWM_TBb_CNT.CNT 0, 1000), (F.PWM_STAT.ARMED, 1), (F.PWM_TBb_PER.PER 0, 800)]) (fun n => n.tbSteps 0 && n.tbAt 0 1000 false) fun m => m.f (F.PWM_TBb_CNT.CNT 0) == 1000 && m.f (F.PWM_TBb_PERACT.PER 0) == 1000 && m.bit F.PWM_STAT.ARMED 0) = true := by decide +kernel

/-- Leg 1 governed by REF with dead times 60 and 70, its high side off and its low side on. -/

def legRef1 : Lane := ((pwm 3).setFs [(F.PWM_TBb_CNT.CNT 0, 400), (F.PWM_LEGn_ACT.CMP 1, 400), (F.PWM_LEGn_ACT.L 1, 1)]).setLeg 1 { rise := 60, fall := 70, gov := .ref }
theorem wit_DeadTimeStage :
    (ask (.compareMatch · · 0 400#16 false) legRef1 (fun n => n.domOn dACT && n.tbRun 0 && n.tbAt 0 400 false && (n.leg 1).gov == .ref &&
      !n.on (F.PWM_LEGn_ACT.REF 1))
    fun m => m.on (F.PWM_LEGn_ACT.REF 1) && !m.on (F.PWM_LEGn_ACT.L 1) && !m.on (F.PWM_LEGn_ACT.H 1) && (m.leg 1).pend true == some 100060 &&
      m.gdv.edges == [{ sw := 1, on := false, ts := 100000 }]) = true ∧
    (gives (.compareMatch · · 0 399#16 false) legRef1 fun m => !m.on (F.PWM_LEGn_ACT.REF 1) && m.on (F.PWM_LEGn_ACT.L 1)) = true ∧
    (gives (.compareMatch · · 0 400#16 false) (legRef1.setLeg 1 {}) fun m => m.on (F.PWM_LEGn_ACT.REF 1) && m.on (F.PWM_LEGn_ACT.L 1) &&
      m.gdv.edges.isEmpty) = true ∧
    (gives (.compareMatch · · 0 400#16 true) (legRef1.setFs [(F.PWM_TBb_CFG.MODE 0, 1), (F.PWM_TBb_CNT.DIR 0, 1)]) fun m => !m.on (F.PWM_LEGn_ACT.REF 1)) = true ∧
    (ask (.turnOnDue · · 0 true) (legRef1.setLeg 1 { gov := .ref, pendH := some 100000 }) (fun n => (n.leg 1).pend true == some 100000)
      fun m => m.on (F.PWM_LEGn_ACT.H 1) && (m.leg 1).pend true == none && m.gdv.edges == [{ sw := 0, on := true, ts := 100000 }]) = true ∧
    (gives (.turnOnDue · · 0 true) (legRef1.setLeg 1 { gov := .ref, pendH := some 100001 }) fun m => !m.on (F.PWM_LEGn_ACT.H 1) &&
      (m.leg 1).pend true == some 100001) = true ∧
    (gives (.turnOnDue · · 0 true) (legRef1.setLeg 1 { gov := .ref, pendH := some 100000, ovrDue := [(100000, .off)] }) fun m => !m.on (F.PWM_LEGn_ACT.H 1)) = true ∧
    (let n := { ((pwm 5).setF (F.PWM_LEGn_ACT.H 1) 1) with sys := { step := 13, ash := { modes := [1, 0, 0] } } }
  ask (.overrideApply · · 0) (n.setLeg 1 { gov := .ref, ovrDue := [(100000, .safe .ascLow)] }) (fun n => (n.leg 1).gov != .safe .ascLow && n.govNow 1 == .safe .ascLow)
    fun m => (m.leg 1).gov == .safe .ascLow && !m.on (F.PWM_LEGn_ACT.H 1) && (m.leg 1).pendL == some 100100) = true ∧
    (gives (.overrideApply · · 0) (((pwm 1).setF (F.PWM_LEGn_ACT.L 1) 1).setLeg 1 { gov := .ref, ovrDue := [(99999, .off)] }) fun m => (m.leg 1).gov == .off &&
      !m.on (F.PWM_LEGn_ACT.L 1)) = true ∧
    (gives (.overrideApply · · 0) (((pwm 1).setF (F.PWM_LEGn_ACT.L 1) 1).setLeg 1 { gov := .ref, ovrDue := [(100001, .off)] }) fun m => (m.leg 1).gov == .ref &&
      m.on (F.PWM_LEGn_ACT.L 1)) = true := by decide +kernel

theorem wit_GroupsAndTrips :
    (writes .groupRun R.PWM_GRPCMD .firmware (word [(F.PWM_GRPCMD.CMD_M0, 1)]) ((pwm 1).setF F.SAF_STAT.PERMIT 1) fun m => m.grp 0 == 2 && m.grp 1 == 0 &&
      !m.on F.SYS_REGERR.FLAG) = true ∧
    (writes .groupRun R.PWM_GRPCMD .firmware (word [(F.PWM_GRPCMD.CMD_M0, 1)]) (pwm 5) fun m => m.grp 0 == 5 && rejected 7 R.PWM_GRPCMD m) = true ∧
    (writes .groupIdle R.PWM_GRPCMD .firmware (word [(F.PWM_GRPCMD.CMD_M0, 2)]) (pwm 3) fun m => m.grp 0 == 1 && (m.leg 1).ovrDue == [(100004, .off)]) = true ∧
    (writes .groupIdle R.PWM_GRPCMD .firmware (word [(F.PWM_GRPCMD.CMD_L7, 2)]) (pwm 3) fun m => m.grp 0 == 3 && m.grp 2 == 0 &&
      rejected 7 R.PWM_GRPCMD m) = true ∧
    (let n := (pwm 3).setFs [(F.SYS_PINFn.FUNC 2, 2), (F.PWM_TRIPt_CFG.EN 1, 1), (F.PWM_TRIPt_ROUTE.GROUPS 1, 1)]
  ask (.tripAssert · · 1) n (fun n => n.domOn dACT && n.tripLive 1 && !n.bit F.PWM_TRIPIN.FILT 1 && !n.on (F.PWM_TRIPt_CFG.MODE 1)) fun m => m.grp 0 == 4 &&
    m.bit F.PWM_TRIPIN.LATCH 1 && m.f F.PWM_TRIPSTAT.EVT == 2 && told m 0x41 1 && m.f (F.PWM_TRIPt_CNT.COUNT 1) == 1) = true ∧
    (let n := (pwm 3).setFs [(F.SYS_PINFn.FUNC 2, 2), (F.PWM_TRIPt_CFG.EN 1, 1), (F.PWM_TRIPt_CFG.MODE 1, 1), (F.PWM_TRIPt_ROUTE.GROUPS 1, 1)]
  gives (.tripAssert · · 1) n fun m => m.grp 0 == 3 && m.f F.PWM_TRIPIN.LATCH == 0 && m.bit F.PWM_GRPSTAT.CYC 0) = true ∧
    (gives (.tripAssert · · 1) (pwm 3) fun m => m.f F.PWM_TRIPIN.FILT == 0) = true ∧
    (ask (.tripDeassert · · 1) (with_ [(F.PWM_TRIPIN.FILT, 7), (F.PWM_TRIPIN.LATCH, 2)]) (fun n => n.domOn dACT) fun m => m.f F.PWM_TRIPIN.FILT == 5 &&
      m.f F.PWM_TRIPIN.LATCH == 2) = true ∧
    (writes .tripRelease R.PWM_TRIPCLR .spi (word [(F.PWM_TRIPCLR.REL, 3)]) ((pwm 4).setFs [(F.PWM_TRIPIN.LATCH, 7), (F.PWM_TRIPIN.FILT, 2), (F.PWM_TRIPt_ROUTE.GROUPS 0, 1)]) fun m => m.f F.PWM_TRIPIN.LATCH == 6 && m.grp 0 == 1 && rejected 7 R.PWM_TRIPCLR m) = true ∧
    (writes .tripRelease R.PWM_TRIPCLR .spi (word [(F.PWM_TRIPCLR.REL, 1)]) ((pwm 4).setFs [(F.PWM_TRIPIN.LATCH, 3), (F.PWM_TRIPt_ROUTE.GROUPS 1, 1)])
      fun m => m.f F.PWM_TRIPIN.LATCH == 2 && m.grp 0 == 4) = true ∧
    (let n := (pwm 3).setFs [(F.SYS_PINFn.FUNC 2, 2), (F.PWM_TRIPt_ROUTE.GROUPS 1, 1)]
  ask (.tripAssert · · 1) n (fun n => n.tripPinned 1 && !n.on (F.PWM_TRIPt_CFG.EN 1)) fun m => m.bit F.PWM_TRIPIN.RAW 1 && m.f F.PWM_TRIPIN.FILT == 0 &&
    m.grp 0 == 3 && m.kst.msgs.isEmpty) = true ∧
    (ask (.tripDeassert · · 1) ((with_ [(F.PWM_TRIPIN.FILT, 7), (F.PWM_TRIPt_CFG.FILT 1, 9)]).upPwm fun x => { x with tripT := [0, 99992, 0, 0] })
    (fun n => n.domOn dACT && n.bit F.PWM_TRIPIN.FILT 1 && !n.tripSettled 1) fun m => m.f F.PWM_TRIPIN.FILT == 7) = true := by decide +kernel

/-- An enabled CLE whose loops 0 and 3 run on chain 2, with a trigger registered in cycle 99,999. -/

def cle : Lane :=
  (with_ [(F.CLE_CTRL.EN, 1), (F.CLE_Ln_CFG.LAW 0, 1), (F.CLE_Ln_CFG.CHAIN 0, 2), (F.CLE_Ln_CFG.LAW 3, 4), (F.CLE_Ln_CFG.CHAIN 3, 2), (F.CLE_CHc_TRIG.VAL 2, 1)]).upCle

    fun c => { c with due := [(2, 99999, 0)] }

theorem wit_ChainsRun_trigger :
    (ask (.chainTrigger · · 2) ((cle.wr (R.CLE_Ln_CUR 3) 7#32)) (fun n => n.domOn dCLE && n.on F.CLE_CTRL.EN && n.chainEx 2 == none && n.chainLoops 2 == [0, 3] && !n.cle.pub.contains (2, 99999))
    fun m => m.rd (R.CLE_Ln_OUT 3) == 7#32 && m.on (F.CLE_CHc_STAT.BUSY 2) &&
      (m.chainEx 2).map (fun x => (x.trigT, x.loops.map fun y => y.slot)) == some (99999, [0, 3])) = true ∧
    (gives (.chainTrigger · · 2) ((cle.wr (R.CLE_Ln_CUR 3) 7#32).setChainEx 2 { trigT := 90000, src := 0, loops := [] })
      fun m => m.f (F.CLE_CHc_STAT.ABANDON 2) == 1 && m.on F.CLE_EVT.OVERRUN && m.rd (R.CLE_Ln_OUT 3) == 0#32 &&
        (m.chainEx 2).map (·.trigT) == some 99999 && told m 0xC0 1) = true := by decide +kernel

/-- Chain 2's execution with its loops ready; loop 0 OFF and loop 3 in HOLD. -/

def ready2 : Lane := (cle.wr (R.CLE_Ln_CUR 3) 0xFFFFFFF9#32).setChainEx 2 { trigT := 99000, src := 0, loops := [{ slot := 3, mode := 2 }] }
/-- The engine carries out loop 3 until cycle `due`. -/

def running3 (due : Nat) (dead : Bool) : Lane := (ready2.setFs [(F.CLE_STAT.BUSY, 1), (F.CLE_CHc_STAT.BUSY 2, 1)]).upCle fun c =>
  { c with run := some { slot := 3, chain := 2, trigT := 99000, start := 99900, due := due, dead := dead, uo := -5, st := [0, 0, 0, 0], first := false, y := none, e := 0, hiU := false, loU := false, limHi := false, limLo := false, oclamp := false } }

theorem wit_ChainsRun_loops :
    (ask .loopDispatch ready2 (fun n => n.cle.run.isNone && n.on F.CLE_CTRL.EN && n.cle.ex.map (fun p => p.2.loops.map LoopEx.ready) == [[true]])
    fun m => m.cle.run.map (fun r => (r.slot, r.start, r.due, r.uo)) == some (3, 100000, 100016, -7) && m.on F.CLE_STAT.BUSY &&
      m.f F.CLE_STAT.LOOP == 3) = true ∧
    (gives .loopDispatch (ready2.setChainEx 2 { trigT := 99000, src := 0, loops := [{ slot := 3, mode := 2 }, { slot := 0, mode := 0 }] })
      fun m => m.cle.run.map (fun r => (r.slot, r.uo)) == some (0, 0)) = true ∧
    (ask .loopOutput (running3 100000 false) (fun n => n.domOn dCLE && n.loopGroup 3 == none &&
      n.chainEx 2 == some { trigT := 99000, src := 0, loops := [{ slot := 3, mode := 2 }] })
    fun m => m.cle.run.isNone && m.rd (R.CLE_Ln_CUR 3) == 0xFFFFFFFB#32 && m.rd R.CLE_STAT == 0#32 && m.f (F.CLE_Ln_STAT.EXECS 3) == 1 &&
      m.chainEx 2 == none && !m.on (F.CLE_CHc_STAT.BUSY 2) && m.f (F.CLE_CHc_STAT.RUNS 2) == 1) = true ∧
    (gives .loopOutput (running3 100000 true) fun m => m.rd (R.CLE_Ln_CUR 3) == 0xFFFFFFFB#32 && (m.chainEx 2).isSome && m.on (F.CLE_CHc_STAT.BUSY 2)) = true ∧
    (gives .loopOutput (running3 100001 false) fun m => m.cle.run.isSome && m.rd (R.CLE_Ln_CUR 3) == 0xFFFFFFF9#32) = true := by decide +kernel

/-- A finished CFE execution of group 1 that started in cycle `s`. -/

def exe (s : Nat) : Lane := (with_ [(F.CFE_CTRL.EN, 1)]).upCfe fun c => { c with exes := [{ g := 1, inst := 5, start := some s, stage := 6, per := 900, cmp := [1, 2, 3] }] }
/-- An enabled converter A with entry 0 of sequence 1, converting `input`, due for its result. -/

def conv (input : Nat) (drop : Bool) : Lane := (with_ [(F.ADC_CTRL.EN, 1), (F.ADC_STAT.READY, 1), (F.ADC_SQq_ENTe.INPUT 1 0, input), (F.ADC_OFSn.OFS 3, 0xFFFB)]).upAdc fun a =>
  { a with cv := [{ run := [{ c := { q := 1, e := 0, trig := 99900 }, start := 99918, drop := drop }] }, {}], left := [(1, 1)], trig := [(1, 99900)] }

theorem wit_ResultsWritten :
    (ask (.cfeExecution · · 1) (exe 99926) (fun n => n.domOn dCFE && n.cfe.head.map (fun e => (e.g, e.start, e.stage)) == some (1, some 99926, 6) &&
      !(n.cg 1).runDue)
    fun m => m.cfe.free == 100001 && m.cfe.exes.isEmpty && m.bit F.PWM_STAT.ARMED 1 &&
      m.f (F.PWM_LEGn_CMP.CMP 6) == 3 && [4, 5].all fun k => m.rd (R.PWM_LEGn_CMP k) == mapReset (R.PWM_LEGn_CMP k)) = true ∧
    (gives (.cfeExecution · · 1) (exe 99927) fun m => m.cfe.exes.length == 1 && m.f F.PWM_STAT.ARMED == 0) = true ∧
    (gives (.cfeExecution · · 1) ((exe 99926).setF F.CFE_CTRL.EN 0) fun m => m.cfe.exes.isEmpty && m.f F.PWM_STAT.ARMED == 0 &&
      m.rd (R.PWM_TBb_PER 1) == mapReset (R.PWM_TBb_PER 1)) = true ∧
    (ask (.conversionComplete · · 0 100#16) (conv 2 false) (fun n => n.domOn dACT &&
      (n.convDue 0).map (fun r => (r.c.q, r.c.e, r.drop)) == some (1, 0, false)) fun m => m.sf (F.ADC_RESq_e.SAMPLE 1 0) == 105 &&
        m.f (F.ADC_RESq_e.TAG 1 0) == 1 && m.f (F.ADC_SQq_STAT.RUNS 1) == 1) = true ∧
    (gives (.conversionComplete · · 0 0x7FFF#16) (conv 2 false) fun m => m.sf (F.ADC_RESq_e.SAMPLE 1 0) == 8191) = true ∧
    (gives (.conversionComplete · · 0 0x8000#16) (conv 2 false) fun m => m.sf (F.ADC_RESq_e.SAMPLE 1 0) == -8192) = true ∧
    (gives (.conversionComplete · · 0 0xFFFF#16) (conv 7 false) fun m => m.sf (F.ADC_RESq_e.SAMPLE 1 0) == 0 && m.f (F.ADC_RESq_e.TAG 1 0) == 1) = true ∧
    (gives (.conversionComplete · · 0 100#16) (conv 2 true) fun m => m.rd (R.ADC_RESq_e 1 0) == 0#32 && m.adc.cv.all fun x => x.run.isEmpty) = true ∧
    (let n := up.setFch 1 { lats := [{}, { pend := some { due := 100000, spd := 0xFFFFFF00#32, age := 7, ovf := true } }] }
  ask (.latchSpeedValid · · 1 1) n (fun n => n.domOn dFBI && ((n.fch 1).lats.getD 1 {}).pend.map (·.due) == some 100000)
    fun m => m.rd (R.FBI_CHn_LATk_SPD 1 1) == 0xFFFFFF00#32 && m.f (F.FBI_CHn_LATk_AGE.AGE 1 1) == 7 && m.on (F.FBI_CHn_EVT.OVF 1)) = true ∧
    (gives (.latchSpeedValid · · 1 1) (up.setFch 1 { lats := [{}, { pend := some { due := 100001, spd := 1#32, age := 7, ovf := false } }] })
      fun m => m.rd (R.FBI_CHn_LATk_SPD 1 1) == 0#32) = true ∧
    (gives (.latchSpeedValid · · 1 1) up fun m => m.rd (R.FBI_CHn_LATk_SPD 1 1) == 0#32) = true := by decide +kernel

/-! ## Gate drive (GateFrames to ChecksAndClears) -/

/-- An enabled gate-drive die whose link is armed. -/

def gate : Lane := (with_ [(F.GDV_CTRL.EN, 1), (F.GDV_STAT.LINK, 2)]).upGdv fun g => { g with link := 2, cpok := true, vgdok := true }
/-- The same with switch `s` on at the gate-drive die and commanded on. -/

def gateOn (s : Nat) : Lane := (gate.upGdv fun g => { g with txLvl := 2 ^ s }).setSw s { on := true, lvl := true }
theorem wit_GateFrames :
    (((gate.upGdv fun g => { g with edges := [{ sw := 2, on := true, ts := 99998 }] }).edgeFrame 99996).toNat % 2 ^ 56 == 0x0C00) = true ∧
    (ask (.edgeFrame · · 99984) ((gateOn 2).upGdv fun g => { g with badRun := 2, upRun := 5, edges := [{ sw := 2, on := false, ts := 99984 }, { sw := 0, on := true, ts := 100000 }] })
    (fun n => n.domOn dACT && n.follows 99984 && (n.sw 2).lvl && n.gdv.due.isEmpty && [0, 1, 2, 3].all fun j => !frameLevel (n.edgeFrame 99984) 2 j)
    fun m => m.gdv.badRun == 0 && m.gdv.upRun == 6 && m.gdv.edges == [{ sw := 0, on := true, ts := 100000 }] && m.gdv.txLvl == 0 && !(m.sw 2).on &&
      (m.sw 2).offT == some 99996) = true ∧
    (gives (.edgeFrame · · 99996) (gate.upGdv fun g => { g with edges := [{ sw := 2, on := true, ts := 99998 }] }) fun m => !(m.sw 2).on &&
      m.gdv.due == [(100008, 0), (100009, 0), (100010, 4), (100011, 4)] && m.gdv.txLvl == 4) = true ∧
    (gives (.edgeFrame · · 99996) (gate.upGdv fun g => { g with link := 1, edges := [{ sw := 2, on := true, ts := 99998 }] }) fun m => !(m.sw 2).on &&
      (m.sw 2).lvl) = true ∧
    (gives (.edgeFrame · · 99997) (gateOn 2) fun m => m.gdv.upRun == 0 && (m.sw 2).on) = true ∧
    (gives (.edgeFrameDiscard · · 99996) (gateOn 2) fun m => m.gdv.badRun == 1 && (m.sw 2).on && m.f F.GDV_GCLERR.DNBAD == 1 && m.on F.GDV_EVT.FRAME &&
      told m 0x5B 1) = true ∧
    (gives (.edgeFrameDiscard · · 99996) ((gateOn 2).setF F.GDV_EVT.FRAME 1) fun m => m.gdv.badRun == 1 && m.f F.GDV_GCLERR.DNBAD == 1 &&
      m.kst.msgs.isEmpty) = true ∧
    (gives (.returnFrame · · true) (gate.upGdv fun g => { g with latch := 4, hardLt := 4, live := 8, lockLt := 8, feed1 := 1, reports := [{ src := 0x50, kind := 6, word := 2 }], upBad := 3 })
    fun m => m.f F.GDV_REFLEX.LATCH == 4 && m.f F.GDV_UVLO.LATCH == 8 && m.f F.GDV_RBSTAT.FEED1 == 1 && m.on F.GDV_STAT.CPOK && m.gdv.reports.isEmpty &&
      m.gdv.upBad == 0 && told m 0x50 6 && m.f (reqField 0) == 3 && m.f (reqField 1) == 0 && m.on F.GDV_EVT.REFLEX) = true ∧
    ([(4, 2), (8, 1), (0, 0)].all fun p => gives (.returnFrame · · true) (gate.upGdv fun g => { g with lockLt := p.1 })
      fun m => m.f (reqField 0) == p.2) = true ∧
    (gives (.returnFrame · · false) (gate.upGdv fun g => { g with upBad := 2 }) fun m => m.gdv.upBad == 3 && m.f F.GDV_GCLERR.UPBAD == 1 &&
      m.on F.GDV_EVT.FRAME && m.kst.msgs.isEmpty) = true ∧
    (gives (.returnFrame · · false) (gate.upGdv fun g => { g with upBad := 3 }) fun m => m.gdv.upBad == 4 && m.on F.GDV_EVT.LINKF && m.gdv.lossRep &&
      told m 0x5C 2) = true := by decide +kernel

theorem wit_GateLink :
    (ask .gclControlWriteApply (gate.upGdv fun g => { g with ctl := [(0x014104, 5#32), (0x014108, 6#32)] }) (fun n => n.domOn dACT && !n.gdv.lost)
      fun m => m.gdv.ctl == [(0x014108, 6#32)] && m.gateSet 0x014104 == 5#32) = true ∧
    (gives .gclControlWriteApply (gate.upGdv fun g => { g with lost := true, ctl := [(0x014104, 5#32)] }) fun m => m.gdv.ctl.length == 1) = true ∧
    (gives (.gclLoss · · false) ((gateOn 2).upGdv fun g => { g with badRun := 3 }) fun m => (m.sw 2).on && m.gdv.link == 2) = true ∧
    (gives (.gclLoss · · false) ((gateOn 2).upGdv fun g => { g with badRun := 4, latch := 1 }) fun m => !(m.sw 2).on && m.gdv.link == 0 && m.gdv.lost &&
      m.gdv.latch == 1) = true ∧
    (gives (.gclLoss · · true) (gateOn 2) fun m => !(m.sw 2).on && m.gdv.refLost && m.gdv.lost) = true ∧
    (gives .directPinTakeover ((gate.setF F.LNT_PERMIT.DIRECTPINS 1).upGdv fun g => { g with link := 0, lost := true }) fun m => m.gdv.direct) = true ∧
    (gives .directPinTakeover (gate.upGdv fun g => { g with link := 0, lost := true }) fun m => !m.gdv.direct) = true ∧
    (gives .directPinTakeover ((gate.setF F.LNT_PERMIT.DIRECTPINS 1).upGdv fun g => { g with link := 0, lost := true, dgpin := 1 })
      fun m => !m.gdv.direct) = true ∧
    (gives (.directPinChange · · 3 false) ((gateOn 3).upGdv fun g => { g with link := 0, direct := true, dgpin := 0x18 }) fun m => m.gdv.dgpin == 0x10 &&
      !(m.sw 3).on) = true ∧
    (gives (.directPinChange · · 3 true) gate fun m => m.gdv.dgpin == 8 && !(m.sw 3).on) = true ∧
    (gives .gclUp (gate.upGdv fun g => { g with link := 0, lost := true, upRun := 64 }) fun m => m.gdv.link == 1 && !m.gdv.lost) = true ∧
    (gives .gclUp (gate.upGdv fun g => { g with link := 0, lost := true, upRun := 63 }) fun m => m.gdv.link == 0 && m.gdv.lost) = true ∧
    (writes .gclRearm R.GDV_GCLCMD .firmware (word [(F.GDV_GCLCMD.REARM, 1)]) (((gateOn 2).setF F.GDV_STAT.LINK 1).upGdv fun g => { g with link := 1 }) fun m => m.gdv.link == 2 &&
      !(m.sw 2).on && m.gdv.followT == 100016) = true ∧
    (writes .gclRearm R.GDV_GCLCMD .firmware (word [(F.GDV_GCLCMD.REARM, 1)]) (gateOn 2) (rejected 7 R.GDV_GCLCMD)) = true ∧
    (writes .gclRearm R.GDV_GCLCMD .firmware (word [(F.GDV_GCLCMD.REARM, 1)]) ((gateOn 2).setFs [(F.GDV_STAT.LINK, 1), (F.PWM_GRPSTAT.ST_M1, 3)]) (rejected 7 R.GDV_GCLCMD)) = true ∧
    (writes .gclRearm R.GDV_GCLCMD .firmware 0#32 (gateOn 2) fun m => (m.sw 2).on && !m.on F.SYS_REGERR.FLAG) = true := by decide +kernel

theorem wit_GateSupplies :
    (gives (.cpokChange · · false) gate fun m => !m.gdv.cpok && m.gdv.joint && m.gdv.live == 0x1555 && m.gdv.lockLt == 0x1555 &&
      m.gdv.reports.head? == some { src := 0x5D, kind := 7, word := 0 } && m.gdv.reports.length == 8) = true ∧
    (gives (.cpokChange · · true) (gate.upGdv fun g => { g with cpok := false, joint := true, own := 4, live := 0x3555 }) fun m => m.gdv.cpok && m.gdv.reports.isEmpty &&
      !m.gdv.joint && m.gdv.live == 0x2004) = true ∧
    (gives (.cpokChange · · true) (gate.upGdv fun g => { g with cpok := false, vgdok := false }) fun m => !m.gdv.cpok) = true ∧
    (gives (.uvloAssert · · 2 false) (gateOn 2) fun m => !(m.sw 2).on && m.gdv.live == 4 && m.gdv.lockLt == 4 &&
      m.gdv.reports == [{ src := 0x53, kind := 3, word := 2 }]) = true ∧
    (gives (.uvloAssert · · 2 false) gate fun m => m.gdv.live == 0) = true ∧
    (gives (.uvloAssert · · 2 true) gate fun m => m.gdv.live == 0x1555 && m.gdv.reports.length == 7) = true ∧
    (gives (.uvloAssert · · 13 true) gate fun m => m.gdv.live == 0) = true ∧
    (gives (.uvloAssert · · 13 false) gate fun m => m.gdv.live == 0x2000 && m.gdv.reports == [{ src := 0x55, kind := 3, word := 13 }]) = true ∧
    (gives (.uvloAssert · · 13 false) (gate.upGdv fun g => { g with live := 0x2000 }) fun m => m.gdv.reports.isEmpty) = true ∧
    (gives (.uvloRecover · · 13) (gate.upGdv fun g => { g with live := 0x2001, lockLt := 0x2000 }) fun m => m.gdv.live == 1 && m.gdv.lockLt == 0x2000) = true ∧
    ([FeedCause.enable, .underVoltage, .reverse, .negative].map (fun c => ((exec (.feedSwitchOff .lane1 100000 1 c) { State.reset with lane1 := gate.upGdv fun g => { g with feed2 := 1 } }) |> fun
    | .next s => (s.lane1.gdv.feed2, s.lane1.gdv.reports.length)
    | _ => (99, 99))) == [(0, 1), (2, 1), (4, 1), (10, 1)]) = true ∧
    (gives (.feedSwitchOff · · 0 .enable) ((gate.setFs [(F.GDV_FEEDCFG.FEEDS, 1), (F.GDV_RBCTL.EN, 1)]).upGdv fun g => { g with feed1 := 1 })
      fun m => m.gdv.feed1 == 1) = true ∧
    (gives (.feedSwitchOn · · 0) (gate.setFs [(F.GDV_FEEDCFG.FEEDS, 1), (F.GDV_RBCTL.EN, 1)]) fun m => m.gdv.feed1 == 1) = true ∧
    (gives (.feedSwitchOn · · 0) ((gate.setFs [(F.GDV_FEEDCFG.FEEDS, 1), (F.GDV_RBCTL.EN, 1)]).upGdv fun g => { g with feed1 := 6 })
      fun m => m.gdv.feed1 == 4) = true ∧
    (gives (.reverseLatchClear · · 1) (gate.upGdv fun g => { g with feed2 := 6 }) fun m => m.gdv.feed2 == 2) = true ∧
    (gives (.uvloRecover · · 4) (gate.upGdv fun g => { g with live := 0x1555, lockLt := 0x1555, own := 0x10, joint := true }) fun m => m.gdv.own == 0 &&
      m.gdv.live == 0x1555 && m.gdv.lockLt == 0x1555) = true ∧
    (gives (.uvloRecover · · 2) (gate.upGdv fun g => { g with live := 0x3555, own := 0x10, joint := true }) fun m => !m.gdv.joint && m.gdv.live == 0x2010) = true := by decide +kernel

theorem wit_ReflexTurnOff :
    (gives (.shortDetect · · 2 true) ((gateOn 2).setFs [(F.GDV_LEGn_CHK.STEST 2, 1), (F.GDV_LEGn_CHK.LEAK_H 2, 1)]) fun m =>
    m.gdv.latch == 4 && m.gdv.hardLt == 4 && !(m.sw 2).on && (m.sw 2).softEnd == some 100160 && !m.on (F.GDV_LEGn_CHK.STEST 2) &&
      !m.on (F.GDV_LEGn_CHK.LEAK_H 2) && m.gdv.reports == [{ src := 0x50, kind := 6, word := 2 }]) = true ∧
    (gives (.shortDetect · · 2 false) ((gateOn 2).setSw 2 { on := true, lvl := true, blank := true, blankEnd := 100001 }) fun m => m.gdv.latch == 0 &&
      (m.sw 2).on) = true ∧
    (gives (.shortDetect · · 2 false) ((gateOn 2).setSw 2 { on := true, lvl := true, blankEnd := 99996, softq := 4 }) fun m => m.gdv.latch == 4 &&
      m.gdv.hardLt == 0) = true ∧
    (gives (.shortDetect · · 2 false) ((gateOn 2).setSw 2 { on := true, lvl := true, blankEnd := 99997, softq := 4 }) fun m => m.gdv.latch == 0) = true ∧
    (gives (.shortDetect · · 2 true) ((gateOn 2).setSw 2 { on := true, lvl := true, onT := 99999 }) fun m => m.gdv.latch == 0) = true ∧
    (gives (.shortDetect · · 2 true) gate fun m => m.gdv.latch == 0) = true ∧
    (gives (.shortDetect · · 2 true) ((gateOn 2).upGdv fun g => { g with check := some { kind := 1, target := 2 } }) fun m => m.gdv.latch == 0) = true ∧
    (gives (.blankingEnd · · 2 4 0) ((gateOn 2).setSw 2 { on := true, blank := true, blankEnd := 100000, softq := 4 }) fun m => m.gdv.latch == 4 &&
      !(m.sw 2).on) = true ∧
    (gives (.blankingEnd · · 2 3 0) ((gateOn 2).setSw 2 { on := true, blank := true, blankEnd := 100000, softq := 4 }) fun m => m.gdv.latch == 0 &&
      (m.sw 2).on && !(m.sw 2).blank && m.f (F.GDV_LEGn_CNT.BLNKSOFT 2) == 1) = true ∧
    (gives (.blankingEnd · · 2 4 0) ((gateOn 2).setSw 2 { on := true, blank := true, blankEnd := 100001, softq := 4 }) fun m => m.gdv.latch == 0 &&
      (m.sw 2).blank) = true ∧
    (gives (.softPeriodEnd · · 2) ((gate.setSw 2 { softEnd := some 100000, strength := 0 }).setSw 3 { deferred := true, lvl := true })
      fun m => (m.sw 2).softEnd == none && (m.sw 2).strength == 7 && (m.sw 3).on) = true ∧
    (gives (.softPeriodEnd · · 2) ((gate.setSw 2 { softEnd := some 100001, strength := 0 }).setSw 3 { deferred := true, lvl := true })
      fun m => (m.sw 2).softEnd == some 100001 && !(m.sw 3).on) = true ∧
    (gives (.softPeriodEnd · · 2) (gateOn 2) fun m => (m.sw 2).on) = true ∧
    (gives (.blankingEnd · · 2 3 2) ((gateOn 2).setSw 2 { on := true, blank := true, blankEnd := 100000, softq := 4 }) fun m => m.gdv.latch == 0 &&
      (m.sw 2).on && (m.sw 2).runT == some 99998 && m.f (F.GDV_LEGn_CNT.BLNKSOFT 2) == 0) = true ∧
    (gives (.shortDetect · · 2 false) ((gateOn 2).setSw 2 { on := true, lvl := true, blankEnd := 99998, softq := 4, runT := some 99996 }) fun m => m.gdv.latch == 4) = true := by decide +kernel

theorem wit_ChecksAndClears :
    (writes .comparatorSelfTest R.GDV_CHKCMD .firmware (word [(F.GDV_CHKCMD.KIND, 1), (F.GDV_CHKCMD.TARGET, 7)]) gate fun m => m.gdv.check == some { kind := 1, target := 7, start := 100000 } && m.on F.GDV_STAT.BUSY) = true ∧
    (writes .comparatorSelfTest R.GDV_CHKCMD .firmware (word [(F.GDV_CHKCMD.KIND, 1), (F.GDV_CHKCMD.TARGET, 0)]) gate (rejected 7 R.GDV_CHKCMD)) = true ∧
    (writes .gateLeakageCheck R.GDV_CHKCMD .firmware (word [(F.GDV_CHKCMD.KIND, 2), (F.GDV_CHKCMD.TARGET, 13)]) gate fun m => m.gdv.check == some { kind := 2, target := 13, start := 100000 }) = true ∧
    (writes .gateLeakageCheck R.GDV_CHKCMD .firmware (word [(F.GDV_CHKCMD.KIND, 2), (F.GDV_CHKCMD.TARGET, 13)]) (gate.setF (F.PWM_LEGn_ACT.L 7) 1) (rejected 7 R.GDV_CHKCMD)) = true ∧
    ([(true, false, 1), (false, false, 2)].all fun p => gives (.checkComplete · · p.1 p.2.1 0#16 0#12) (gate.upGdv fun g => { g with check := some { kind := 1, target := 3 } }) fun m => m.gdv.check == none && m.f F.GDV_CHKSTAT.RESULT == p.2.2 && m.on (F.GDV_LEGn_CHK.STEST 3) == p.1) = true ∧
    ([(true, 100, 100, 5), (false, 9, 100, 4), (false, 10, 19, 3), (false, 10, 20, 1)].all fun p => gives (.checkComplete · · false p.1 (BitVec.ofNat 16 p.2.1) (BitVec.ofNat 12 p.2.2.1))
    ((gate.setFs [(F.GDV_LEAKLIM.TMIN, 10), (F.GDV_LEAKLIM.VMIN, 20)]).upGdv fun g => { g with check := some { kind := 2, target := 4 } })
      fun m => m.f F.GDV_CHKSTAT.RESULT == p.2.2.2 && m.on (F.GDV_LEGn_CHK.LEAK_H 3) == (p.2.2.2 == 1)) = true ∧
    (gives (.checkComplete · · true false 0#16 0#12) gate fun m => m.f F.GDV_CHKSTAT.RESULT == 0 && !m.on F.GDV_CHKSTAT.DONE) = true ∧
    (gives (.checkComplete · · true false 0#16 0#12) (gate.upGdv fun g => { g with check := some { kind := 1, target := 3, start := 99281 } }) fun m => m.gdv.check.isSome) = true ∧
    (writes .uvloLatchClear R.GDV_CLR .firmware (word [(F.GDV_CLR.UVLO, 3)]) ((gate.setFs [(F.GDV_UVLO.LATCH, 7), (F.GDV_UVLO.LIVE, 2)]).upGdv fun g => { g with lockLt := 7 }) fun m => m.f F.GDV_UVLO.LATCH == 6 && m.gdv.lockLt == 6 && rejected 7 R.GDV_CLR m) = true ∧
    (writes .reflexLatchClear R.GDV_CLR .firmware (word [(F.GDV_CLR.REFLEX, 4)]) ((gate.setFs [(F.GDV_REFLEX.LATCH, 4), (F.GDV_LEGn_CHK.STEST 2, 1), (F.GDV_LEGn_CHK.LEAK_H 2, 1), (F.GDV_LEGn_CNT.CLR_H 2, 2)]).upGdv fun g => { g with latch := 4 }) fun m => m.f F.GDV_REFLEX.LATCH == 0 && m.gdv.latch == 0 && m.f (F.GDV_LEGn_CNT.CLR_H 2) == 3) = true ∧
    (writes .reflexLatchClear R.GDV_CLR .firmware (word [(F.GDV_CLR.REFLEX, 4)]) ((gate.setFs [(F.GDV_REFLEX.LATCH, 4), (F.GDV_LEGn_CHK.STEST 2, 1), (F.GDV_LEGn_CHK.LEAK_H 2, 1), (F.GDV_LEGn_CNT.CLR_H 2, 3)]).upGdv fun g => { g with latch := 4, clrs := [(2, 3)] }) fun m => m.gdv.latch == 4 && rejected 7 R.GDV_CLR m) = true := by decide +kernel

/-! ## Feedback, measurement, commutation and safety (the statements on spec/06, 07, 08 and 15) -/

/-- FBI enabled, channel 1 in mode `mode` with `ins` at its inputs and RAW and POS 5. -/

def fb (mode ins : Nat) : Lane := ((with_ [(F.FBI_CTRL.EN, 1), (F.FBI_CHn_CFG.MODE 1, mode), (F.FBI_CHn_STAT.INPUTS 1, ins)]).wr (R.FBI_CHn_RAW 1) 5#32).wr (R.FBI_CHn_POS 1) 5#32
/-- RAW and POS of channel 1. -/

def at_ (raw pos : Int) (m : Lane) : Bool := (m.rd (R.FBI_CHn_RAW 1)).toInt == raw && (m.rd (R.FBI_CHn_POS 1)).toInt == pos
theorem wit_FeedbackInputsCount :
    (ask (.feedbackInputChange · · 1 1#3) (fb 1 0) (fun n => n.domOn dFBI && n.fmode 1 == 1 && !n.idxCond 1 1) fun m => at_ 6 6 m &&
      m.rd (R.FBI_CHn_TSTAMP 1) == 100000#32 && !m.on (F.FBI_CHn_STAT.STILL 1)) = true ∧
    (gives (.feedbackInputChange · · 1 2#3) (fb 1 0) (at_ 4 4)) = true ∧
    (gives (.feedbackInputChange · · 1 1#3) ((fb 1 0).setF (F.FBI_CHn_CFG.DIRINV 1) 1) (at_ 4 4)) = true ∧
    (gives (.feedbackInputChange · · 1 3#3) (fb 1 0) fun m => at_ 5 5 m && m.on (F.FBI_CHn_EVT.QERR 1)) = true ∧
    (gives (.feedbackInputChange · · 1 4#3) ((fb 1 0).setFs [(F.FBI_CHn_IDX.GATE 1, 7)]) (at_ 5 5)) = true ∧
    (gives (.feedbackInputChange · · 1 1#3) ((fb 1 0).setF F.FBI_CTRL.EN 0) fun m => at_ 5 5 m && m.f (F.FBI_CHn_STAT.INPUTS 1) == 1) = true ∧
    (gives (.feedbackInputChange · · 1 1#3) ((fb 1 0).wr (R.FBI_CHn_SLMAX 1) 5#32) fun m => at_ 6 5 m && m.sf (F.FBI_CHn_EXCESS.EXCESS 1) == 1 &&
      m.on (F.FBI_CHn_STAT.ATMAX 1)) = true ∧
    (let h := fun a => hallEntry (up.f (F.FBI_CHn_HALLSEQ.SEQ 1)) a
  hallSeqOk (up.f (F.FBI_CHn_HALLSEQ.SEQ 1)) && gives (.feedbackInputChange · · 1 (BitVec.ofNat 3 (h 0))) (fb 2 (h 5)) (at_ 6 6) &&
    gives (.feedbackInputChange · · 1 (BitVec.ofNat 3 (h 5))) (fb 2 (h 0)) (at_ 4 4)) = true ∧
    (gives (.feedbackInputChange · · 1 7#3) ((fb 2 3).setF (F.FBI_CHn_STAT.VALID 1) 1) fun m => at_ 5 5 m && m.on (F.FBI_CHn_EVT.HALLST 1) &&
      !m.on (F.FBI_CHn_STAT.VALID 1)) = true ∧
    (gives (.feedbackInputChange · · 1 1#3) (((fb 1 0).setF (F.FBI_CHn_CFG.FILT 1) 8).setFch 1 { inT := [99993, 0, 0] }) fun m => at_ 5 5 m &&
      m.f (F.FBI_CHn_STAT.INPUTS 1) == 0) = true ∧
    (gives (.feedbackInputChange · · 1 1#3) (((fb 1 0).setF (F.FBI_CHn_CFG.FILT 1) 8).setFch 1 { inT := [99992, 0, 0] }) (at_ 6 6)) = true := by decide +kernel

theorem wit_FeedbackEvents_absolute :
    (ask (.absoluteTimeout · · 1) (((fb 3 0).setFs [(F.FBI_CHn_ABS.TIMEOUT 1, 2), (F.FBI_CHn_STAT.VALID 1, 1)]).setFch 1 { lastOk := 20000 }) (fun n => n.domOn dFBI && n.fbiRuns 1 && !(n.fch 1).timed)
    fun m => !m.on (F.FBI_CHn_STAT.VALID 1) && m.on (F.FBI_CHn_STAT.NOREF 1) && m.on (F.FBI_CHn_EVT.TIMEOUT 1) && at_ 5 5 m) = true ∧
    (gives (.absoluteTimeout · · 1) (((fb 3 0).setFs [(F.FBI_CHn_ABS.TIMEOUT 1, 2), (F.FBI_CHn_STAT.VALID 1, 1)]).setFch 1 { lastOk := 20001 })
      fun m => m.on (F.FBI_CHn_STAT.VALID 1)) = true ∧
    (ask (.ssiTransferComplete · · 1 0x00ABCDE1#32 true false) (((fb 4 0).setFs [(F.FBI_CHn_SSI.NBITS 1, 24), (F.FBI_CHn_SSI.DIV 1, 9), (F.FBI_CHn_ABS.POSSHIFT 1, 4), (F.FBI_CHn_ABS.POSW 1, 12)]).setFch 1 { ssi := some 99520 })
    (fun n => (n.fch 1).ssi == some 99520 && n.f (F.FBI_CHn_SSI2.DLY 1) == 0 && (n.fch 1).vPrev.isNone) fun m => m.rd (R.FBI_CHn_RAW 1) == 0xCDE#32 &&
      m.on (F.FBI_CHn_STAT.VALID 1) && m.rd (R.FBI_CHn_TSTAMP 1) == 99520#32 && (m.fch 1).ssi.isNone) = true ∧
    (gives (.ssiTransferComplete · · 1 0x00ABCDE1#32 true true) (((fb 4 0).setFs [(F.FBI_CHn_SSI.NBITS 1, 24), (F.FBI_CHn_SSI.DIV 1, 9)]).setFch 1 { ssi := some 99520 }) fun m => at_ 5 5 m && m.on (F.FBI_CHn_EVT.FRAME 1) && (m.fch 1).ssi.isNone) = true ∧
    (gives (.ssiTransferComplete · · 1 0x00ABCDE1#32 true false) (((fb 4 0).setFs [(F.FBI_CHn_SSI.NBITS 1, 24), (F.FBI_CHn_SSI.DIV 1, 9)]).setFch 1 { ssi := some 99521 }) fun m => at_ 5 5 m && (m.fch 1).ssi == some 99521) = true ∧
    (gives (.ssiTransferComplete · · 1 0#32 true false) (fb 4 0) (at_ 5 5)) = true := by decide +kernel

theorem wit_FeedbackEvents_speed :
    (ask (.standstillEntry · · 1) (((fb 1 0).setFs [(F.FBI_CHn_SPD.STILL 1, 5), (F.FBI_CHn_STAT.STILL 1, 0), (F.FBI_CHn_STAT.NOREF 1, 0)]).setFch 1 { edgeT := 80000 }) (fun n => n.fbiRuns 1 && !n.on (F.FBI_CHn_STAT.STILL 1))
    fun m => m.on (F.FBI_CHn_STAT.STILL 1) && m.on (F.FBI_CHn_STAT.NOREF 1)) = true ∧
    (gives (.standstillEntry · · 1) (((fb 1 0).setFs [(F.FBI_CHn_SPD.STILL 1, 5), (F.FBI_CHn_STAT.STILL 1, 0)]).setFch 1 { edgeT := 80001 })
      fun m => !m.on (F.FBI_CHn_STAT.STILL 1)) = true ∧
    (ask .speedRefresh (((fb 1 0).setF (F.FBI_CHn_STAT.STILL 1) 0).setFch 1 { e0 := some { t := 98000, raw := 0#32 }, e1 := some { t := 99000, raw := 5#32 } })
    (fun n => n.fbiRuns 1 && !n.on (F.FBI_CHn_LATCFG.VAL_0 1) && !n.on (F.FBI_CHn_LATCFG.VAL_1 1)) fun m => m.rd (R.FBI_CHn_SPEED 1) == 102400000#32) = true ∧
    (ask .speedRefresh (((fb 1 0).setF (F.FBI_CHn_STAT.STILL 1) 0).setFch 1 { e0 := some { t := 98000, raw := 5#32 }, e1 := some { t := 99000, raw := 4#32 } })
    (fun _ => true) fun m => (m.rd (R.FBI_CHn_SPEED 1)).toInt == -102400000) = true ∧
    (gives .speedRefresh ((fb 1 0).wr (R.FBI_CHn_SPEED 1) 9#32) fun m => m.rd (R.FBI_CHn_SPEED 1) == 0#32) = true ∧
    (gives .speedRefresh ((fb 3 0).setFch 1 { absSpd := 77#32 }) fun m => m.rd (R.FBI_CHn_SPEED 1) == 77#32) = true ∧
    (gives .speedRefresh (((fb 0 0).setF F.FBI_CTRL.EN 0).wr (R.FBI_CHn_SPEED 1) 9#32) fun m => m.rd (R.FBI_CHn_SPEED 1) == 9#32) = true := by decide +kernel

theorem wit_FeedbackEvents_compare :
    (writes (fun l t o v => .compareListWrite l t o 1 v) (R.FBI_CHn_PCCTL 1) .spi 0x3F01#32 (with_ [(F.FBI_CHn_PCSTAT.DONE 1, 1), (F.FBI_CHn_PCSTAT.MATCHES 1, 8)])
    fun m => m.on (F.FBI_CHn_PCCTL.EN 1) && m.f (F.FBI_CHn_PCSTAT.PTR 1) == 63 && m.f (F.FBI_CHn_PCSTAT.DONE 1) == 0 &&
      m.f (F.FBI_CHn_PCSTAT.MATCHES 1) == 0) = true ∧
    (gives (.comparePulseEnd · · 2) (up.upFbi fun x => { x with pco := 0xF, pulse := [(2, 100000)] }) fun m => m.fbi.pco == 0xB &&
      Cells.get 0 m.fbi.pulse 2 == 0) = true ∧
    (gives (.comparePulseEnd · · 2) (up.upFbi fun x => { x with pco := 0xF, pulse := [(2, 100001)] }) fun m => m.fbi.pco == 0xF) = true ∧
    (gives .pulseDividerStep ((with_ [(F.FBI_CTRL.EN, 1), (F.FBI_PDCFG.PDMIN, 100)]).upFbi fun x => { x with pdQ := -2, pdLast := some 99900 })
      fun m => m.fbi.pdQ == -1 && m.fbi.pdPhase == 3 && m.fbi.pdLast == some 100000) = true ∧
    (gives .pulseDividerStep ((with_ [(F.FBI_CTRL.EN, 1), (F.FBI_PDCFG.PDMIN, 100)]).upFbi fun x => { x with pdQ := 2, pdLast := some 99901 })
      fun m => m.fbi.pdQ == 2 && m.fbi.pdPhase == 0) = true ∧
    (gives .pulseDividerStep ((with_ [(F.FBI_CTRL.EN, 1)]).upFbi fun x => { x with pdQ := 1, pdPhase := 3 }) fun m => m.fbi.pdQ == 0 &&
      m.fbi.pdPhase == 0) = true := by decide +kernel

theorem wit_MeasurementAndCommutation_measure :
    (ask (.overcurrentDetect · · 6 true) (with_ [(F.ADC_CTRL.EN, 1), (F.ADC_CCFGn.EN 7, 1)]) (fun n => n.domOn dACT && !n.bit F.ADC_CMPSTAT.NEG 6)
      fun m => m.f F.ADC_CMPSTAT.NEG == 0x40 && m.f F.ADC_CMPSTAT.POS == 0 && m.on F.ADC_EVT.OVC && told m 0x78 3) = true ∧
    (gives (.overcurrentDetect · · 6 true) (with_ [(F.ADC_CTRL.EN, 1)]) fun m => m.f F.ADC_CMPSTAT.NEG == 0 && m.kst.msgs.isEmpty) = true ∧
    (gives (.overcurrentClear · · 0) (with_ [(F.ADC_CTRL.EN, 1), (F.ADC_CMPSTAT.POS, 0x7F), (F.ADC_CMPSTAT.NEG, 3)])
      fun m => m.f F.ADC_CMPSTAT.POS == 0x7E && m.f F.ADC_CMPSTAT.NEG == 2) = true ∧
    (gives (.overcurrentClear · · 0) (with_ [(F.ADC_CMPSTAT.POS, 0x7F)]) fun m => m.f F.ADC_CMPSTAT.POS == 0x7F) = true ∧
    (gives (.adcCalibrationComplete · · true) (up.upAdc fun a => { a with cal := some 100000 }) fun m => m.on F.ADC_STAT.READY && m.adc.cal.isNone) = true ∧
    (gives (.adcCalibrationComplete · · false) (up.upAdc fun a => { a with cal := some 100000 }) fun m => !m.on F.ADC_STAT.READY && m.on F.ADC_EVT.CAL &&
      told m 0x71 2) = true ∧
    (gives (.adcCalibrationComplete · · true) (up.upAdc fun a => { a with cal := some 100001 }) fun m => !m.on F.ADC_STAT.READY &&
      m.adc.cal.isSome) = true ∧
    (ask (.overcurrentDetect · · 6 true) ((with_ [(F.ADC_CTRL.EN, 1), (F.ADC_CCFGn.EN 7, 1), (F.ADC_CMPSTAT.NEG, 0x40)]).upKst fun s => { s with redo := [(0x78, 7)] })
    (fun n => n.bit F.ADC_CMPSTAT.NEG 6 && n.foundAgain 0x78 7) fun m => told m 0x78 3 && m.kst.redo.isEmpty) = true ∧
    (gives (.overcurrentDetect · · 6 true) (with_ [(F.ADC_CTRL.EN, 1), (F.ADC_CCFGn.EN 7, 1), (F.ADC_CMPSTAT.NEG, 0x40)]) fun m => m.kst.msgs.isEmpty) = true := by decide +kernel

theorem wit_MeasurementAndCommutation_pin :
    (gives (.commandPinEdge · · 600#32) ((with_ [(F.CFE_CMDCFG.MODE, 1), (F.CFE_CMDVAL.HI, 0x9999), (F.CFE_CMDVAL.LO, 0x9999)]).upCfe fun c => { c with cmdRise := some 99000 })
    fun m => m.f F.CFE_CMDMEAS.VALUE == 39321 && m.on F.CFE_CMDMEAS.VALID && m.on F.CFE_STAT.CMDVALID && m.cfe.cmdT == 100000 &&
      m.cfe.cmdRise == some 100000) = true ∧
    (gives (.commandPinEdge · · 1000#32) ((with_ [(F.CFE_CMDCFG.MODE, 1), (F.CFE_CMDVAL.HI, 0x9999)]).upCfe fun c => { c with cmdRise := some 99000 })
      fun m => m.f F.CFE_CMDMEAS.VALUE == 65535 && !m.on F.CFE_CMDMEAS.VALID) = true ∧
    (gives (.commandPinEdge · · 600#32) ((with_ [(F.CFE_CMDCFG.MODE, 2), (F.CFE_CMDVAL.HI, 0xFFFF)]).upCfe fun c => { c with cmdRise := some 60000 })
      fun m => m.f F.CFE_CMDMEAS.VALUE == 10000) = true ∧
    (gives (.commandPinEdge · · 600#32) (with_ [(F.CFE_CMDCFG.MODE, 1)]) fun m => m.f F.CFE_CMDMEAS.VALUE == 0 && m.cfe.cmdRise == some 100000) = true ∧
    (gives .commandTimeout ((with_ [(F.CFE_CMDCFG.TIMEOUT, 1), (F.CFE_STAT.CMDVALID, 1), (F.CFE_CMDMEAS.VALID, 1)]).upCfe fun c => { c with cmdT := 60000 }) fun m => !m.on F.CFE_STAT.CMDVALID && !m.on F.CFE_CMDMEAS.VALID && m.on F.CFE_EVT.COMMAND && told m 0xBB 7) = true ∧
    (gives .commandTimeout ((with_ [(F.CFE_CMDCFG.TIMEOUT, 1), (F.CFE_CMDMEAS.VALID, 1)]).upCfe fun c => { c with cmdT := 60000 })
      fun m => !m.on F.CFE_CMDMEAS.VALID && m.kst.msgs.isEmpty) = true ∧
    (gives .commandTimeout ((with_ [(F.CFE_CMDCFG.TIMEOUT, 1), (F.CFE_STAT.CMDVALID, 1)]).upCfe fun c => { c with cmdT := 60001 })
      fun m => m.on F.CFE_STAT.CMDVALID) = true ∧
    (gives .commandTimeout (((with_ [(F.CFE_CMDCFG.TIMEOUT, 1)]).upKst fun s => { s with redo := [(0xBB, 0)] }).upCfe fun c => { c with cmdT := 60000 })
      fun m => told m 0xBB 7) = true := by decide +kernel

/-- Group 1 may catch. -/

def mayCatch : Lane := (with_ [(F.SAF_STAT.PERMIT, 3), (F.CFE_Gg_BEMF.VAL 1, 1), (F.PWM_CTRL.EN, 1), (F.PWM_TBb_CNT.RUN 1, 1)]).setGrp 1 gIDLE
/-- Group 1 catches since lane time `t₀`, its highest amplitude `v`. -/

def catching (t₀ v : Nat) : Lane := (with_ [(F.CFE_Gg_CATCH.WINDOW 1, 1), (F.CFE_Gg_CATCH.BEMFMIN 1, 100), (F.CFE_Gg_STAT.CATCHING 1, 1)]).upCfe fun c => { c with grps := [{}, { catch_ := some { t0 := t₀, vpk := v } }] }
theorem wit_MeasurementAndCommutation_catch :
    (meets mayCatch (fun n => n.tbRun 1 && n.grp 1 == 1 && n.bit F.SAF_STAT.PERMIT 1 && (n.cg 1).catch_.isNone) &&
      writes .catchGroup R.CFE_GRPCMD .firmware 4#32 mayCatch fun m => m.on (F.CFE_Gg_STAT.CATCHING 1) && (m.cg 1).catch_.isSome && m.grp 1 == 1) = true ∧
    (writes .catchGroup R.CFE_GRPCMD .firmware 4#32 (mayCatch.setF F.SAF_STAT.PERMIT 1) fun m => !m.on (F.CFE_Gg_STAT.CATCHING 1) &&
      rejected 7 R.CFE_GRPCMD m) = true ∧
    (writes .catchAbort R.CFE_GRPCMD .firmware 8#32 (catching 99000 0) fun m => !m.on (F.CFE_Gg_STAT.CATCHING 1) && m.f (F.CFE_Gg_CATSTAT.RESULT 1) == 6 &&
      m.on (F.CFE_Gg_CATSTAT.DONE 1) && (m.cg 1).catch_.isNone) = true ∧
    (writes .swap R.CFE_GRPCMD .firmware 3#32 up fun m => m.f F.CFE_TBLSTAT.PEND == 1) = true ∧
    (gives (.catchWindowExpiry · · 1) ((catching 0 99).setF (F.CFE_Gg_CATCH.WINDOW 1) 0) fun m => m.f (F.CFE_Gg_CATSTAT.RESULT 1) == 2 && (m.cg 1).preset == some 0 &&
      (m.cg 1).catch_.isNone && m.kst.msgs.isEmpty) = true ∧
    (gives (.catchWindowExpiry · · 1) ((catching 0 100).setF (F.CFE_Gg_CATCH.WINDOW 1) 0) fun m => m.f (F.CFE_Gg_CATSTAT.RESULT 1) == 3 &&
      m.on F.CFE_EVT.CATCH && told m 0xB8 4) = true ∧
    (gives (.catchWindowExpiry · · 1) (catching 0 100) fun m => m.on (F.CFE_Gg_STAT.CATCHING 1)) = true := by decide +kernel

/-- SFB enabled, pair 2 in use for both groups and both brakes, in state `st` with contact A open or closed. -/

def pair2 (st : Nat) (a : Bool) : Lane :=
  (with_ [(F.SAF_CTRL.EN, 1), (F.SAF_SINp_CFG.USE 2, 1), (F.SAF_SINp_CFG.STO 2, 3), (F.SAF_SINp_CFG.BRK 2, 3), (F.SAF_SINp_STAT.STATE 2, st), (F.SAF_SINp_CFG.TYPE 2, 1), (F.SAF_STAT.SEALOK, 1),

    (F.SAF_STAT.PERMIT, 3)]).upSaf fun s => { s with pairs := [{}, {}, { a := a, b := !a }, {}] }

theorem wit_SafetyContacts :
    (ask (.contactChange · · 2 false false) (pair2 2 true) (fun n => n.sys.powered && n.pairSt 2 == 2 && (n.pair 2).a) fun m => m.pairSt 2 == 3 &&
      m.on (F.SAF_SINp_STAT.A 2) && m.on F.SAF_EVT.DEMAND && m.f (F.SAF_SINp_CNT.ACTIVATIONS 2) == 1 && m.f F.SAF_STAT.PERMIT == 0 &&
        m.f F.SAF_STAT.DEMAND == 4) = true ∧
    (gives (.contactChange · · 2 false false) ((pair2 2 true).setF F.SAF_CTRL.EN 0) fun m => m.pairSt 2 == 2 && m.f F.SAF_STAT.PERMIT == 3) = true ∧
    (gives (.contactChange · · 2 true false) (pair2 3 true) fun m => m.pairSt 2 == 2 && m.f F.SAF_STAT.DEMAND == 0 && m.f F.SAF_STAT.PERMIT == 3) = true ∧
    (gives (.discrepancyTimeout · · 2) ((pair2 3 false).upSaf fun s => { s with pairs := [{}, {}, { b := false, timer := some true }, {}] })
      fun m => m.pairSt 2 == 4 && (m.pair 2).timer.isNone && m.on F.SAF_EVT.DISC && m.f (F.SAF_SINp_CNT.DISCS 2) == 1 && told m 0x34 1 &&
        m.f F.SAF_STAT.PERMIT == 0) = true ∧
    (gives (.discrepancyTimeout · · 2) (pair2 3 false) fun m => m.pairSt 2 == 3) = true ∧
    (gives (.testPulseStart · · 1 0x10#8) (pair2 2 true) fun m => m.saf.pulse == [(1, 0x10)]) = true ∧
    (gives (.testPulseStart · · 1 0x10#8) ((pair2 2 true).setF F.SAF_CTRL.EN 0) fun m => m.saf.pulse.isEmpty) = true ∧
    (gives (.testPulseEnd · · 1 0x10#8) (((pair2 2 true).setFs [(F.SAF_SINp_CFG.STPA 2, 1)]).upSaf fun s => { s with pulse := [(1, 0x10)] })
    fun m => m.on (F.SAF_SINp_STAT.TPFA 2) && m.pairSt 2 == 5 && m.on F.SAF_EVT.TESTP && told m 0x35 2 && m.f F.SAF_STAT.PERMIT == 0 &&
      m.saf.pulse.isEmpty) = true ∧
    (gives (.testPulseEnd · · 1 0#8) (((pair2 2 true).setFs [(F.SAF_SINp_CFG.STPA 2, 1)]).upSaf fun s => { s with pulse := [(1, 0x10)] })
      fun m => !m.on (F.SAF_SINp_STAT.TPFA 2) && m.pairSt 2 == 2) = true ∧
    (gives (.testPulseEnd · · 1 0x10#8) (((pair2 2 true).setFs [(F.SAF_SINp_CFG.STPA 2, 1)]).upSaf fun s => { s with pulse := [(1, 0)] })
      fun m => !m.on (F.SAF_SINp_STAT.TPFA 2) && m.pairSt 2 == 2) = true ∧
    (let n := ((pair2 2 true).setFs [(F.SAF_SINp_CFG.STPA 2, 1)]).upSaf fun s => { s with pulse := [(1, 0x10)] }
  ask (.contactChange · · 2 false false) n (fun n => n.heldLevel 2 false == some true && n.heldLevel 2 true == none) fun m => m.pairSt 2 == 2 && (m.pair 2).a) = true ∧
    (gives (.contactChange · · 2 true false) ((pair2 2 true).setFs [(F.SAF_SINp_CFG.STPA 2, 1)] |>.upSaf fun s => { s with pulse := [(1, 0x10)] })
      fun m => m.pairSt 2 == 2 && (m.pair 2).a) = true ∧
    (gives (.testPulseEnd · · 1 0#8) (((pair2 2 true).setFs [(F.SAF_SINp_CFG.STPA 2, 1)]).upSaf fun s => { s with pulse := [(1, 0x10)] })
      fun m => m.saf.hold.contains (4, true, 100000)) = true := by decide +kernel

/-- Straps decided SEALOK in this start. -/

def sealed (rel bad : Nat) : Lane := (with_ [(F.SAF_SEALEXP.EXP, 0x2A), (F.SAF_STAT.SEALOK, 1), (F.SYS_ARMSTAT.RELEASED, rel), (F.SAF_STAT.PERMIT, 3), (F.SAF_CTRL.EN, 1)]).upSaf fun s => { s with sealRun := true, sealBad := bad }
theorem wit_SafetyOutputs_seal :
    (ask (.sealSample · · 0x2A#6 0x2A#6) ((sealed 0 1).setF F.SAF_STAT.SEALOK 0) (fun n => n.domOn dCORE && !n.bit F.YAR_UNUSABLE.PARTS 2)
      fun m => m.on F.SAF_STAT.SEALOK && m.saf.sealBad == 0 && m.f F.SAF_SEAL.READ == 0x2A && m.f F.SAF_SEAL.OPEN == 0) = true ∧
    (gives (.sealSample · · 0x2B#6 0x2A#6) (sealed 0 0) fun m => !m.on F.SAF_STAT.SEALOK && m.f F.SAF_SEAL.OPEN == 1) = true ∧
    (gives (.sealSample · · 0x2B#6 0x2B#6) (sealed 1 0) fun m => m.on F.SAF_STAT.SEALOK && m.saf.sealBad == 1 && m.f F.SAF_STAT.PERMIT == 3) = true ∧
    (gives (.sealSample · · 0x2B#6 0x2B#6) (sealed 1 1) fun m => !m.on F.SAF_STAT.SEALOK && m.f F.SAF_STAT.PERMIT == 0 && m.on F.SAF_EVT.SEAL &&
      told m 0x38 3) = true ∧
    (gives (.sealSample · · 0x2B#6 0x2B#6) ((sealed 1 1).upSaf fun s => { s with sealRun := false }) fun m => m.on F.SAF_STAT.SEALOK) = true ∧
    (gives (.statusReadbackFail · · true) up fun m => m.on F.SAF_EVT.STATUS &&
      m.kst.msgs.map (fun x => (x.src, x.kind, x.word)) == [(0x3D, 6, 1)]) = true := by decide +kernel

/-- Everything the brake outputs need, output 1 requested and on. -/

def brake : Lane := with_ [(F.SAF_CTRL.EN, 1), (F.SYS_ARMSTAT.RELEASED, 1), (F.SAF_STAT.SEALOK, 1), (F.SAF_SBOCMD.REL, 2), (F.SAF_STAT.SBOON, 2), (F.SAF_STAT.OKH, 1)]
theorem wit_SafetyOutputs_brake :
    (writes .torqueRemovalCommand R.SAF_STOCMD .spi 2#32 ((brake.setF F.SAF_STAT.PERMIT 3).setGrp 1 gRUN) fun m => m.f F.SAF_STAT.PERMIT == 1 &&
      m.f F.SAF_STOCMD.STO == 2 && told m 0x3A 4 && !told m 0x39 4) = true ∧
    (writes .torqueRemovalCommand R.SAF_STOCMD .spi 0#32 (brake.setF F.SAF_STAT.SEALOK 0) fun m => m.f F.SAF_STAT.PERMIT == 0) = true ∧
    (meets brake (fun n => !([0, 1, 2, 3].any n.demanding)) &&
      writes .brakeReleaseRequest R.SAF_SBOCMD .spi 3#32 brake fun m => m.f F.SAF_SBOCMD.REL == 3 && m.f F.SAF_STAT.SBOON == 3) = true ∧
    (writes .brakeReleaseRequest R.SAF_SBOCMD .spi 0#32 brake fun m => m.f F.SAF_STAT.SBOON == 0) = true ∧
    (writes .brakeReleaseRequest R.SAF_SBOCMD .spi 3#32 (brake.setF F.SAF_SBOSTAT.SBOF 1) (rejected 7 R.SAF_SBOCMD)) = true ∧
    (gives (.offTestStart · · 1) brake fun m => m.f F.SAF_SBOSTAT.TEST == 2 && m.f F.SAF_STAT.SBOON == 0) = true ∧
    (gives (.offTestStart · · 0) brake fun m => m.f F.SAF_SBOSTAT.TEST == 0 && m.f F.SAF_STAT.SBOON == 2) = true ∧
    (gives (.offTestEnd · · 1 true) (brake.setFs [(F.SAF_STAT.SBOON, 0), (F.SAF_SBOSTAT.TEST, 2)]) fun m => m.f F.SAF_SBOSTAT.TEST == 0 &&
      m.f F.SAF_STAT.SBOON == 2) = true ∧
    (gives (.offTestEnd · · 1 false) (brake.setFs [(F.SAF_STAT.SBOON, 0), (F.SAF_SBOSTAT.TEST, 2)]) fun m => m.f F.SAF_SBOSTAT.SBOF == 2 &&
      m.f F.SAF_SBOSTAT.CAUSE1 == 3 && m.f F.SAF_STAT.SBOON == 0 && m.f F.SAF_SBOCMD.REL == 0 && m.on F.SAF_EVT.SBOF && told m 0x3C 5) = true ∧
    (gives (.brakeOutputFail · · 1 2#2) brake fun m => m.f F.SAF_SBOSTAT.SBOF == 2 && m.f F.SAF_SBOSTAT.CAUSE1 == 2) = true ∧
    (gives (.brakeOutputFail · · 0 3#2) brake fun m => m.f F.SAF_SBOSTAT.SBOF == 1 && m.f F.SAF_SBOSTAT.CAUSE0 == 3) = true ∧
    (gives (.brakeOutputFail · · 0 1#2) brake fun m => m.f F.SAF_SBOSTAT.SBOF == 0) = true ∧
    (writes (fun l t o v => .aliveKick l t o v 100) R.SAF_KICK .firmware 0x5AA5#32 brake fun m => m.on F.SAF_STAT.ALIVE && m.saf.keyAlt &&
      m.saf.kicked) = true ∧
    (writes (fun l t o v => .aliveKick l t o v 99) R.SAF_KICK .firmware 0xA55A#32 ((brake.setF F.SAF_ALIVECFG.MINT 100).upSaf fun s => { s with keyAlt := true, kicked := true }) fun m => !m.on F.SAF_STAT.ALIVE && m.saf.keyAlt && m.on F.SAF_EVT.KICK) = true ∧
    (writes (fun l t o v => .aliveKick l t o v 201) R.SAF_KICK .firmware 0xA55A#32 ((brake.setFs [(F.SAF_ALIVECFG.MINT, 100), (F.SAF_ALIVECFG.MAXT, 200)]).upSaf fun s => { s with keyAlt := true, kicked := true }) fun m => m.on F.SAF_STAT.ALIVE && !m.saf.keyAlt && m.on F.SAF_EVT.KICK) = true := by decide +kernel

/-- The structure lock is set. -/

def locked : Lane := with_ [(F.SYS_ASHLOCK.LOCK, 1)]
theorem wit_BlockEnables :
    (writes .pwmBlockEnable R.PWM_CTRL .spi 1#32 locked fun m => m.on F.PWM_CTRL.EN) = true ∧
    (writes .pwmBlockEnable R.PWM_CTRL .spi 1#32 up (rejected 7 R.PWM_CTRL)) = true ∧
    (writes .pwmBlockEnable R.PWM_CTRL .spi 0#32 (with_ [(F.PWM_CTRL.EN, 1), (F.PWM_TBb_CNT.RUN 2, 1)]) (rejected 7 R.PWM_CTRL)) = true ∧
    (writes .pwmBlockEnable R.PWM_CTRL .spi 0#32 (with_ [(F.PWM_CTRL.EN, 1)]) fun m => !m.on F.PWM_CTRL.EN) = true ∧
    (writes .gdvBlockEnable R.GDV_CTRL .spi 1#32 locked fun m => m.on F.GDV_CTRL.EN) = true ∧
    (writes .gdvBlockEnable R.GDV_CTRL .spi 0#32 ((with_ [(F.GDV_CTRL.EN, 1)]).setGrp 2 gSAFE) (rejected 7 R.GDV_CTRL)) = true ∧
    (writes .gdvBlockEnable R.GDV_CTRL .spi 0#32 (with_ [(F.GDV_CTRL.EN, 1)]) fun m => !m.on F.GDV_CTRL.EN && m.gdv.check.isNone) = true ∧
    (writes .adcBlockEnable R.ADC_CTRL .spi 1#32 locked fun m => m.on F.ADC_CTRL.EN && m.adc.cal == some 108000) = true ∧
    (writes .adcBlockEnable R.ADC_CTRL .spi 0#32 (with_ [(F.ADC_CTRL.EN, 1), (F.ADC_STAT.READY, 1)]) fun m => !m.on F.ADC_CTRL.EN &&
      !m.on F.ADC_STAT.READY) = true ∧
    (writes .adcBlockEnable R.ADC_CTRL .spi 0#32 ((with_ [(F.ADC_CTRL.EN, 1)]).setGrp 0 3) (rejected 7 R.ADC_CTRL)) = true ∧
    (writes .fbiBlockEnable R.FBI_CTRL .spi 1#32 (((fb 1 0).setF F.FBI_CTRL.EN 0).setF F.SYS_ASHLOCK.LOCK 1) fun m => m.fbi.en0 == 100000 &&
      m.rd (R.FBI_CHn_RAW 1) == 0#32 && m.on (F.FBI_CHn_STAT.STILL 1) && m.on (F.FBI_CHn_STAT.NOREF 1)) = true ∧
    (writes .fbiBlockEnable R.FBI_CTRL .spi 0#32 ((fb 1 0).upFbi fun x => { x with pco := 3 }) fun m => at_ 5 5 m && m.fbi.pco == 0) = true ∧
    (writes .cfeBlockEnable R.CFE_CTRL .spi 1#32 (locked.setF F.CFE_STAT.CHFAIL 1) fun m => m.on F.CFE_CTRL.EN && !m.on F.CFE_STAT.CHFAIL) = true ∧
    (writes .cfeBlockEnable R.CFE_CTRL .spi 0#32 ((with_ [(F.CFE_CTRL.EN, 1), (F.PWM_TBb_CFG.SRC 0, 1)]).setGrp 0 gSAFE) (rejected 7 R.CFE_CTRL)) = true ∧
    (writes .cfeBlockEnable R.CFE_CTRL .spi 0#32 ((with_ [(F.CFE_CTRL.EN, 1)]).setGrp 0 gSAFE) fun m => !m.on F.CFE_CTRL.EN) = true ∧
    (meets locked fun n => n.accepts 1 R.CLE_CTRL 1#32 && n.on F.SYS_ASHLOCK.LOCK && !n.on F.CLE_CTRL.EN) = true ∧
    (writes .cleBlockEnable R.CLE_CTRL .spi 0#32 ((with_ [(F.CLE_CTRL.EN, 1)]).wr (R.CLE_Ln_CUR 31) 5#32) fun m => m.rd (R.CLE_Ln_CUR 31) == 5#32 &&
      m.cle == {}) = true ∧
    (writes .safBlockEnable R.SAF_CTRL .spi 1#32 (locked.setF (F.SAF_SINp_CFG.USE 2) 1) fun m => [0, 1, 2, 3].map m.pairSt == [0, 0, 1, 0]) = true ∧
    (writes .safBlockEnable R.SAF_CTRL .spi 0#32 brake (rejected 7 R.SAF_CTRL)) = true ∧
    (writes .safBlockEnable R.SAF_CTRL .spi 0#32 (with_ [(F.SAF_CTRL.EN, 1), (F.SAF_STAT.PERMIT, 3)]) fun m => !m.on F.SAF_CTRL.EN &&
      m.f F.SAF_STAT.PERMIT == 0) = true := by decide +kernel

/-! ## Field update (TransfersStored, ImagesActivated, SettingsCommitted) -/

/-- Slot states as given, no images. -/

def slots (st : List (Nat × Nat)) (n : Lane) : Lane := n.upMram fun m => { m with slotSt := st }
/-- A block of one word; its CRC is that of the bytes 01 00 00 00. -/

def blk (ok : Bool) : Relay := { tag := 9, block := 1, crc := if ok then 0x99F8B879#32 else 0#32, words := [1#32] }
/-- A transfer of two blocks into slot 3 has stored `have_`; a block waits. -/

def storing (have_ : List Nat) (ok : Bool) : Lane :=
  ((with_ [(F.UPD_CTRL.EN, 1), (F.UPD_STAT.XSTATE, 1)]).upUpd fun u => { u with xfer := some { tag := 9, slot := some 3, decided := true, nblk := 2, got := have_, stored := have_ }, blocks := [blk ok] }).upMram

    fun m => { m with slots := [(3, List.replicate 5 7#8)] }

theorem wit_TransfersStored_block :
    (crc32 [1, 0, 0, 0] == 0x99F8B879) = true ∧
    (ask .blockHandle (storing [0] true) (fun n => n.domOn dAUX && n.upd.blocks == [blk true]) fun m => m.upd.blocks.isEmpty &&
      m.upd.xfer.map (fun x => (x.stored, x.verify)) == some ([1, 0], true) && m.f F.UPD_STAT.XSTATE == 2 && m.upd.queue.isEmpty) = true ∧
    (gives .blockHandle (storing [1] true) fun m => m.upd.xfer.map (fun x => (x.stored, x.verify)) == some ([1], false) &&
      Cells.get [] m.mram.slots 3 == List.replicate 5 7#8) = true ∧
    (gives .blockHandle ((storing [] true).upUpd fun u => { u with blocks := [{ blk true with block := 0 }] })
      fun m => Cells.get [] m.mram.slots 3 == [1#8, 0#8, 0#8, 0#8] && m.upd.xfer.map (·.verify) == some false) = true ∧
    (gives .blockHandle (storing [0] false) fun m => m.on F.UPD_EVT.BLOCKERR && told m 0xE0 1 && m.upd.xfer.map (·.stored) == some [0]) = true ∧
    (gives .blockHandle ((storing [0] true).setF F.UPD_RELAY.SENDER 1) fun m => m.upd.queue == [blk true]) = true ∧
    (gives .blockHandle up fun m => !m.on F.UPD_EVT.BLOCKERR) = true := by decide +kernel

theorem wit_TransfersStored_push :
    (writes .blockPush R.UPD_SRCCMD .spi (word [(F.UPD_SRCCMD.TAG, 9), (F.UPD_SRCCMD.BLOCK, 3), (F.UPD_SRCCMD.PUSH, 1)]) (with_ [(F.UPD_RELAY.UPNODE, 5)]) (rejected 7 R.UPD_SRCCMD)) = true ∧
    (writes .blockPush R.UPD_SRCCMD .spi (word [(F.UPD_SRCCMD.TAG, 9), (F.UPD_SRCCMD.BLOCK, 3)]) up fun m => m.upd.blocks.isEmpty &&
      !m.on F.SYS_REGERR.FLAG) = true ∧
    (meets up fun n => n.accepts 1 R.UPD_SRCCMD (word [(F.UPD_SRCCMD.TAG, 9), (F.UPD_SRCCMD.BLOCK, 3), (F.UPD_SRCCMD.PUSH, 1)]) &&
      n.f F.UPD_RELAY.UPNODE == n.node && n.f F.UPD_STAT.XSTATE == xIDLE) = true := by decide +kernel

theorem wit_TransfersStored_end :
    (ask .imageVerifyComplete (slots [(3, 1)] (up.upUpd fun u => { u with xfer := some { tag := 9, slot := some 3, verify := true } })) (fun n => n.domOn dAUX && !n.verified 2 (n.slotImg 3)) fun m => m.slotSt 3 == lREFUSED && m.upd.xfer.isNone && m.f F.UPD_STAT.XSTATE == xDONE && m.on F.UPD_EVT.XDONE && told m 0xE1 2) = true ∧
    (gives .imageVerifyComplete (slots [(3, 1)] (up.upUpd fun u => { u with xfer := some { tag := 9, slot := some 3 } })) fun m => m.slotSt 3 == 1) = true ∧
    (gives .transferTimeout (slots [(3, 1)] ((with_ [(F.UPD_XFERTO.TIMEOUT, 10)]).upUpd fun u => { u with xfer := some { tag := 9, slot := some 3, idle := 10 } })) fun m => m.slotSt 3 == lEMPTY && m.f F.UPD_STAT.XSTATE == xFAILED && m.on F.UPD_EVT.XFAIL && told m 0xE1 2 && m.upd.xfer.isNone) = true ∧
    (gives .transferTimeout ((with_ [(F.UPD_XFERTO.TIMEOUT, 10), (F.UPD_STAT.XSTATE, 1)]).upUpd fun u => { u with xfer := some { tag := 9, idle := 10 } }) fun m => m.f F.UPD_STAT.XSTATE == xIDLE && !m.on F.UPD_EVT.XFAIL) = true ∧
    (gives .transferTimeout ((with_ [(F.UPD_XFERTO.TIMEOUT, 10)]).upUpd fun u => { u with xfer := some { tag := 9, idle := 9 } })
      fun m => m.upd.xfer.isSome) = true ∧
    (ask .imageVerifyComplete (slots [(3, 1)] (up.upUpd fun u => { u with checks := [3], xfer := some { tag := 9, slot := some 4 } })) (fun n => n.domOn dAUX &&
      n.upd.checks == [3] && !n.verified 2 (n.slotImg 3)) fun m => m.slotSt 3 == lREFUSED && m.upd.checks.isEmpty && m.upd.xfer.isSome) = true := by decide +kernel

/-- A write of UPD_ACTCMD. -/

def act (cmd ty : Nat) : W32 := word [(F.UPD_ACTCMD.CMD, cmd), (F.UPD_ACTCMD.TYPE, ty)]
/-- The plant is in service and at rest. -/

def inService (n : Lane) : Lane := n.setF F.SAF_STAT.SERVICE 1
theorem wit_ImagesActivated_commands :
    (writes .activate R.UPD_ACTCMD .spi (act 1 1) (slots [(0, 6), (1, 2)] up)
      fun m => m.upd.act.map (fun a => (a.ty, a.slot, a.old, a.phase, a.back)) == some (1, 1, some 0, 1, false) && m.f F.UPD_HOSTAT.STEP == 1) = true ∧
    (writes .activate R.UPD_ACTCMD .spi (act 1 1) (slots [(0, 6), (1, 3)] up) (rejected 7 R.UPD_ACTCMD)) = true ∧
    (writes .activate R.UPD_ACTCMD .spi (act 1 2) (inService (slots [(2, 6), (3, 7)] up)) fun m => m.slotSt 3 == lPENDING && m.slotSt 2 == lACTIVE) = true ∧
    (writes .activate R.UPD_ACTCMD .spi (act 1 2) (slots [(2, 6), (3, 7)] up) (rejected 7 R.UPD_ACTCMD)) = true ∧
    (writes .activate R.UPD_ACTCMD .spi (act 1 3) (slots [(4, 6), (5, 2)] up)
      fun m => m.upd.act.map (fun a => (a.ty, a.slot, a.b, a.revert)) == some (3, 5, 100000, false)) = true ∧
    (writes .confirm R.UPD_ACTCMD .spi (act 2 1) (slots [(0, 7), (1, 5)] up) fun m => m.slotSt 1 == lACTIVE && m.slotSt 0 == lACCEPTED) = true ∧
    (writes .confirm R.UPD_ACTCMD .spi (act 2 1) (slots [(0, 6), (1, 2)] up) (rejected 7 R.UPD_ACTCMD)) = true ∧
    (writes .confirm R.UPD_ACTCMD .spi (act 2 0) up (rejected 7 R.UPD_ACTCMD)) = true ∧
    (writes .revert R.UPD_ACTCMD .spi (act 3 1) (slots [(0, 7), (1, 5)] up) (rejected 7 R.UPD_ACTCMD)) = true ∧
    (writes .revert R.UPD_ACTCMD .spi (act 3 2) (inService (slots [(2, 6), (3, 4)] up)) fun m => m.slotSt 3 == lSTORED && m.slotSt 2 == lACTIVE) = true ∧
    (writes .revert R.UPD_ACTCMD .spi (act 3 2) (inService (slots [(2, 7), (3, 5)] up)) fun m => m.slotSt 3 == lSTORED && m.slotSt 2 == lPENDING) = true ∧
    (writes .revert R.UPD_ACTCMD .spi (act 3 3) (slots [(4, 7), (5, 5)] up)
      fun m => m.upd.act.map (fun a => (a.ty, a.slot, a.old, a.revert)) == some (3, 4, some 5, true)) = true ∧
    (writes .updBlockEnable R.UPD_CTRL .spi 0#32 ((with_ [(F.UPD_CTRL.EN, 1)]).upUpd fun u => { u with xfer := some { tag := 1 } }) (rejected 7 R.UPD_CTRL)) = true ∧
    (writes .updBlockEnable R.UPD_CTRL .spi 0#32 (with_ [(F.UPD_CTRL.EN, 1)]) fun m => !m.on F.UPD_CTRL.EN) = true ∧
    (writes .updBlockEnable R.UPD_CTRL .spi 1#32 up fun m => m.on F.UPD_CTRL.EN) = true := by decide +kernel

/-- An activation is in progress; the body of the TABLES image in slot 5 is its mask alone. -/

def acting (mask : Nat) (a : Activation) : Lane := (up.upUpd fun u => { u with act := some a }).upMram fun m => { m with slots := [(5, (List.replicate 128 0#8 ++ [BitVec.ofNat 8 mask]).set 0x20 1#8)], slotSt := [(4, lACTIVE), (5, lSTORED)] }
theorem wit_ImagesActivated_steps :
    (let n := (Holds 0 policyImage up).upUpd fun u => { u with act := some { ty := 1, slot := 0, old := none } }
  ask .policyPrepareComplete n (fun n => n.domOn dAUX) fun m => m.f F.UPD_HOSTAT.STEP == 2 && m.upd.act.map (·.phase) == some 2 &&
    [0, 1, 2, 3, 4].map (fun i => Cells.get 0#8 m.oap.shadow i) == [0x0E#8, 0#8, 0#8, 0x10#8, 0#8] && m.oap.bank == 0) = true ∧
    (gives .dataClearComplete ((acting 0 { ty := 1, slot := 0, old := none, phase := 4, clr := 34464 }).upOap fun o => { o with data := [(1, 2#8)], pc := 8#32 })
    fun m => m.oap.running && m.oap.data.isEmpty && m.oap.pc == 0#32 && m.evPending 0 && Cells.get 0#32 m.oap.evData 0 == 3#32 && m.upd.act.isSome) = true ∧
    (gives .dataClearComplete (acting 0 { ty := 1, slot := 0, old := none, phase := 4, clr := 34465 }) fun m => !m.oap.running) = true ∧
    (ask .tableCopyComplete (acting 0 { ty := 3, slot := 5, old := some 4, b := 100000 }) (fun n => n.domOn dCFE && n.slotMask 5 == 0 &&
      !n.tabRefused 0 0) fun m => m.upd.act.isNone && m.slotSt 5 == lTRIAL && m.slotSt 4 == lACCEPTED && m.f F.UPD_HOSTAT.RESULT == 1 &&
        m.on F.UPD_EVT.ACT) = true ∧
    (gives .tableCopyComplete (acting 0 { ty := 3, slot := 5, old := some 4, b := 100000, revert := true }) fun m => m.slotSt 5 == lACTIVE &&
      m.slotSt 4 == lSTORED) = true ∧
    (meets (acting 2 { ty := 3, slot := 5, old := some 4, b := 74912 }) fun n => n.slotMask 5 == 2 &&
      decide (74912 + 25088 * popBits (n.slotMask 5) ≤ n.now) && !n.tabRefused 2 0 && n.domOn dCFE) = true ∧
    (gives .tableCopyComplete (acting 2 { ty := 3, slot := 5, old := some 4, b := 74913 }) fun m => m.upd.act.isSome) = true ∧
    (gives .tableCopyComplete ((acting 2 { ty := 3, slot := 5, old := some 4, b := 74912 }).setF F.CFE_TBLSTAT.PEND 2) fun m => m.upd.act.isNone &&
      m.f F.UPD_HOSTAT.RESULT == 3 && told m 0xE3 4 && m.slotSt 5 == lSTORED) = true := by decide +kernel

/-- Two settings areas, the work area's header good for a commit over a record of sequence 4. -/

def settled (live seq : Nat) : Lane := (Holds 0 policyImage up).upMram fun m => { m with setA := [(0, 0x47544553#32), (1, BitVec.ofNat 32 (live * 65536)), (3, 4#32)], setB := [(0, 0x47544553#32), (3, BitVec.ofNat 32 seq)] }
theorem wit_SettingsCommitted :
    (ask (fun l t => .settingsCommit l t .firmware 1#32) (settled 1 5) (fun n => n.accepts 0 R.UPD_SETCMD 1#32 && n.workArea == 1 && n.liveVal &&
      n.verIn (n.setVer 1) && !n.recordKept) fun m => m.liveArea == 1 && m.setSt 1 == 1 && m.setSt 0 == 2 && m.kst.msgs.isEmpty) = true ∧
    (writes .settingsCommit R.UPD_SETCMD .firmware 1#32 (settled 0 9) fun m => m.liveArea == 1 && m.setSt 1 == 1 && m.setSt 0 == 0) = true ∧
    (writes .settingsCommit R.UPD_SETCMD .firmware 1#32 (settled 1 6) fun m => m.liveArea == 0 && m.on F.UPD_EVT.MIG && told m 0xE5 6 &&
      m.on F.SYS_REGERR.FLAG) = true ∧
    (writes .settingsCommit R.UPD_SETCMD .firmware 0#32 (settled 1 5) fun m => m.liveArea == 0 && !m.on F.UPD_EVT.MIG) = true := by decide +kernel

/-! ## Tlasyn (the statements on spec/11 and spec/12) -/

/-- The TPE, ACTIVE as node 3 of 8 in course 5 of 1000 macroticks since 90,000, ports 0 and 1 UP. -/

def net : Lane :=
  (with_ [(F.TPE_CTRL.EN, 1), (F.TPE_STAT.STATE, 4), (F.TPE_STAT.COURSE, 5), (F.TPE_CLNODE.NODE, 3), (F.TPE_CLSIZE.NODES, 8), (F.TPE_CLSIZE.SLOTS, 16), (F.TPE_CLCOURSE.COURSE, 1000),

    (F.TPE_CLARB.VALUE, 700), (F.TPE_CLGAP.VALUE, 50), (F.TPE_PORTp_STAT.STATE 0, 4), (F.TPE_PORTp_STAT.STATE 1, 4), (F.TPE_LNKCTL.PEN, 3), (F.TPE_ACCW.W, 50), (F.TPE_SLOTs.START 2, 250)]).upTpe

    fun s => { s with bT := 90000, listen := 90000 }

/-- The matrix entry of an owner, a buffer and a kind, on both channels, in row 1 of slot 2, every second course. -/

def cell (owner buf kind : Nat) (n : Lane) : Lane := n.wr (0x060000 + 4 * (256 * 1 + 2)) (BitVec.ofNat 32 (7 * 2 ^ 29 + owner * 2 ^ 24 + buf * 2 ^ 16 + kind * 2 ^ 12 + 1 * 2 ^ 8))
/-- A data header of node 4 in slot 2 of course 5. -/

def hd (ch len dly hop : Nat) : BitVec 64 := header 0 false ch 4 2 5 len dly hop
/-- The HCRC of a header. -/

def hc (h : BitVec 64) : BitVec 16 := BitVec.ofNat 16 (hcrcOf h)
theorem wit_PortsTrainAndRange_enable :
    (writes .portEnable R.TPE_LNKCTL .spi 5#32 (with_ [(F.SYS_ASHSTAT.STATE, 2), (F.SYS_START.STATE, 2)])
      fun m => [0, 1, 2, 3].map m.portSt == [1, 0, 1, 0] && m.f F.TPE_LNKCTL.PEN == 5) = true ∧
    (writes .portEnable R.TPE_LNKCTL .spi 5#32 (with_ [(F.SYS_ASHSTAT.STATE, 3), (F.SYS_START.STATE, 2)]) (rejected 7 R.TPE_LNKCTL)) = true ∧
    (writes .portEnable R.TPE_LNKCTL .spi 1#32 net fun m => [0, 1, 2, 3].map m.portSt == [4, 0, 0, 0]) = true ∧
    (gives (.portTrained · · 0 7#4) (net.setF (F.TPE_PORTp_STAT.STATE 0) 1) fun m => m.portSt 0 == 3 && m.on (F.TPE_PORTp_STAT.SIGDET 0) &&
      m.f (F.TPE_PORTp_STAT.EQ 0) == 7) = true ∧
    (gives (.portTrained · · 0 7#4) ((net.setF (F.TPE_PORTp_STAT.STATE 0) 1).setFs [(F.TPE_PORTp_CFG.EQMODE 0, 1), (F.TPE_PORTp_CFG.EQFIX 0, 2)])
      fun m => m.f (F.TPE_PORTp_STAT.EQ 0) == 2) = true ∧
    (gives (.portTrained · · 0 7#4) net fun m => m.portSt 0 == 4) = true ∧
    (gives (.portSyncLoss · · 1 true) (net.setF (F.TPE_PORTp_STAT.SIGDET 1) 1) fun m => [0, 1, 2, 3].map m.portSt == [4, 1, 0, 0] &&
      !m.on (F.TPE_PORTp_STAT.SIGDET 1) && m.f (F.TPE_PORTp_CUT.DOWNS 1) == 1 && m.on F.TPE_LNKEVT.DOWN && told m 0xC8 1) = true ∧
    (gives (.portSyncLoss · · 2 true) (net.setF (F.TPE_PORTp_STAT.SIGDET 2) 1) fun m => m.portSt 2 == 0 && !m.on (F.TPE_PORTp_STAT.SIGDET 2)) = true ∧
    (writes .range R.TPE_LNKCMD .spi 1#32 net fun m => (m.tport 0).rng == some { cmd := true, token := 0 } && (m.tport 1).rng.isNone) = true ∧
    (writes .range R.TPE_LNKCMD .spi 4#32 net (rejected 7 R.TPE_LNKCMD)) = true ∧
    (writes .retrain R.TPE_LNKCMD .spi 0x600#32 net fun m => [0, 1, 2, 3].map m.portSt == [4, 1, 0, 0]) = true := by decide +kernel

/-- Port 0 ranges with fifteen exchanges of `d` behind it and an exchange open since `t₀`. -/

def ranging (d : Int) (t₀ tries : Nat) : Lane := (net.setF (F.TPE_PORTp_STAT.STATE 0) 3).setTport 0 { rng := some { cmd := false, got := List.replicate 15 d, token := 9, tries := tries, sent := some t₀ } }
theorem wit_PortsTrainAndRange_range :
    (ask (.rangingRequestReceive · · 0 0x5A#8 624000) net (fun n => n.domOn dTPE && decide (2 ≤ n.portSt 0) && (n.tport 0).tx.isEmpty)
      fun m => (m.tport 0).reply == some { token := 0x5A, node := 3, port := 0, at_ := 624512 }) = true ∧
    (gives (.rangingRequestReceive · · 0 0x5A#8 624000) (net.setTport 0 { tx := [{ own := true, head := 0#64, hcrc := 0#16, start := 624543, stop := 624800 }] }) fun m => (m.tport 0).reply.isNone) = true ∧
    (gives (.rangingRequestReceive · · 2 0x5A#8 624000) net fun m => (m.tport 2).reply.isNone) = true ∧
    (ask (.rangingReplyReceive · · 0 9#8 4#5 1#2 1512) (ranging 1000 99700 2) (fun n => n.domOn dTPE && (n.tport 0).rng.isSome)
    fun m => m.portSt 0 == 4 && m.f (F.TPE_PORTp_RANGE.LINKDLY 0) == 500 && m.f (F.TPE_PORTp_STAT.NBNODE 0) == 4 && m.f (F.TPE_PORTp_STAT.NBPORT 0) == 1 &&
      m.on (F.TPE_PORTp_RANGE.VALID 0) && (m.tport 0).rng.isNone && m.kst.msgs.isEmpty) = true ∧
    (gives (.rangingReplyReceive · · 0 9#8 4#5 1#2 1529) (ranging 1000 99700 0) fun m => m.portSt 0 == 1 && m.on F.TPE_LNKEVT.RANGE && told m 0xC9 2 &&
      !m.on (F.TPE_PORTp_RANGE.VALID 0)) = true ∧
    (gives (.rangingReplyReceive · · 0 8#8 4#5 1#2 1512) (ranging 1000 99700 0) fun m => m.portSt 0 == 3 &&
      (m.tport 0).rng.map (fun r => r.got.length) == some 15) = true ∧
    (gives (.rangingReplyReceive · · 0 9#8 4#5 1#2 5000) ((ranging 0 99700 3).setTport 0 { rng := some { cmd := false, got := [7], token := 9, tries := 3, sent := some 99700 } }) fun m => (m.tport 0).rng.map (fun r => (r.got, r.tries, r.sent)) == some ([7, 4488], 0, some 100000)) = true ∧
    (gives (.rangingExchangeTimeout · · 0) (ranging 0 99200 3) fun m => (m.tport 0).rng.map (fun r => (r.tries, r.sent)) == some (4, some 100000)) = true ∧
    (gives (.rangingExchangeTimeout · · 0) (ranging 0 99200 4) fun m => m.portSt 0 == 1 && (m.tport 0).rng.isNone && m.on F.TPE_LNKEVT.RANGE &&
      told m 0xC9 2) = true ∧
    (gives (.rangingExchangeTimeout · · 0) (ranging 0 99201 4) fun m => m.portSt 0 == 3) = true := by decide +kernel

/-- Buffer 7, sent from copy 1 with two words. -/

def sendBuf (valid : Nat) : Lane :=
  ((net.setFs [(F.TPE_BUFb_CFG.DIR 7, 1), (F.TPE_BUFb_CFG.LEN 7, 1), (F.TPE_BUFb_CFG.MAXAGE 7, 255), (F.TPE_BUFb_STAT.NEWEST 7, 1), (F.TPE_BUFb_STAT.VALID 7, valid)]).wr (bufWord 7 1 0) 0xAAAA0000#32).wr (bufWord 7 1 1) 0xBBBB0000#32

theorem wit_FramesSent :
    (ask (.bufferFetch · · false 2#8) (cell 3 7 1 (sendBuf 1)) (fun n => n.domOn dTPE &&
      (n.inForce n.fetchCourse.1 2).map (fun x => (x.1, eOwner x.2, eKind x.2)) == some (1, 3, 1) && decide (n.tpe.bT + n.mt 250 ≤ n.now + 64))
    fun m => m.tpe.fet.map (fun f => (f.start, f.ty, f.payload, f.x, f.y, f.course)) == [(100000, 0, [0xAAAA0000#32, 0xBBBB0000#32], true, true, 5)] &&
      m.tpe.fetIx == [(false, 2)]) = true ∧
    (gives (.bufferFetch · · false 2#8) (cell 3 7 1 (sendBuf 0)) fun m => m.tpe.fet.map (fun f => (f.ty, f.payload)) == [(1, [])] &&
      m.f (F.TPE_BUFb_CNT.NULLS 7) == 1) = true ∧
    (gives (.bufferFetch · · false 2#8) (cell 4 7 1 (sendBuf 1)) fun m => m.tpe.fet.isEmpty && m.tpe.fetIx.isEmpty) = true ∧
    (gives (.bufferFetch · · false 2#8) (cell 3 7 1 ((sendBuf 1).upTpe fun s => { s with fetIx := [(false, 2)] })) fun m => m.tpe.fet.isEmpty) = true ∧
    (let f : Fetched := { arb := false, ix := 2, course := 5, kind := 1, buf := 7, x := true, y := false, start := 100000, ty := 0, claim := false, payload := [0xAAAA0000#32, 0xBBBB0000#32] }
  ask (.frameSend · · false 2#8 3) (net.upTpe fun s => { s with fet := [f] }) (fun n => n.domOn dTPE && n.maySend 1 && n.portUp 0 && (n.tport 0).tx.isEmpty && (n.tport 1).tx.isEmpty)
    fun m => m.tpe.fet.isEmpty && m.f (F.TPE_BUFb_CNT.FRAMES 7) == 1 && (m.tport 0).tx == (m.tport 1).tx && (m.tport 2).tx.isEmpty &&
      (m.tport 0).tx.map (fun x => (x.own, x.head, x.start, x.stop, x.cut, x.payload)) == [(true, header 0 false 0 3 2 5 1 3 0, 625003, 625003 + 25 * 8, false, [0xAAAA0000#32, 0xBBBB0000#32])]) = true ∧
    (let f : Fetched := { arb := false, ix := 2, course := 5, kind := 1, buf := 7, x := true, y := false, start := 100001, ty := 0, claim := false, payload := [] }
  gives (.frameSend · · false 2#8 0) (net.upTpe fun s => { s with fet := [f] }) fun m => m.tpe.fet == [f] && (m.tport 0).tx.isEmpty) = true ∧
    (let f : Fetched := { arb := false, ix := 2, course := 5, kind := 1, buf := 7, x := true, y := false, start := 100000, ty := 0, claim := false, payload := [] }
  gives (.frameSend · · false 2#8 0) ((net.setF F.TPE_STAT.STATE 3).upTpe fun s => { s with fet := [f] }) fun m => m.tpe.fet.isEmpty &&
    (m.tport 0).tx.isEmpty) = true ∧
    (let f : Fetched := { arb := false, ix := 2, course := 5, kind := 1, buf := 7, x := true, y := false, start := 100000, ty := 0, claim := false, payload := [] }
  gives (.frameSend · · false 2#8 0) ((net.setTport 0 { tx := [{ own := false, head := 0#64, hcrc := 0#16, start := 624900, stop := 625100 }] }).upTpe fun s => { s with fet := [f] }) fun m =>
    m.f (F.TPE_PORTp_CUT.CUTS 0) == 1 && m.on F.TPE_LNKEVT.CUT && (m.tport 0).tx.any fun x => x.own && decide (625000 ≤ x.start) && !x.cut) = true := by decide +kernel

/-- Node 4 owns slot 2, and port 0 is 10 units from its neighbour. -/

def hears : Lane := cell 4 9 1 (net.setF (F.TPE_PORTp_RANGE.LINKDLY 0) 10)
theorem wit_FramesReceived_headers :
    (gives (.headerReceive · · 0 (hd 0 1 90 2) (hc (hd 0 1 90 2)) 625100 2) hears fun m => m.f (F.TPE_PORTp_FWD.FWDS 0) == 0 &&
      (m.tport 1).tx.map (fun x => (x.start, x.due)) == [(625420, true)]) = true ∧
    (ask (.headerReceive · · 0 (hd 0 1 90 2) (hc (hd 0 1 90 2)) 624680 2) hears (fun n => n.domOn dTPE && n.portUp 0 && headOk 0 (hd 0 1 90 2) &&
      n.scheduled 0 0 4 2 5 == some (250, 1, 9) && n.deviation 5 250 625100 100 == 0 && n.units == 625000)
    fun m => m.f (F.TPE_PORTp_FWD.FWDS 0) == 1 && m.f (F.TPE_PORTp_HOP.LAST 0) == 320 &&
      (m.tport 1).tx.map (fun x => (x.head, x.start, x.own)) == [(header 0 false 0 4 2 5 1 420 3, 625000, false)] && (m.tport 0).rx.length == 1) = true ∧
    (gives (.headerReceive · · 0 (hd 0 1 90 2) 0#16 625100 2) hears fun m => m.f (F.TPE_PORTp_RXBAD.HCRC 0) == 1 && m.on F.TPE_LNKEVT.HCRC &&
      told m 0xCA 3) = true ∧
    (gives (.headerReceive · · 0 (hd 1 1 90 2) (hc (hd 1 1 90 2)) 625100 2) hears fun m => m.f (F.TPE_PORTp_FWD.REFUSED 0) == 1 && m.kst.msgs.isEmpty) = true ∧
    (gives (.headerReceive · · 0 (hd 0 33 90 2) (hc (hd 0 33 90 2)) 625100 2) hears fun m => m.f (F.TPE_PORTp_FWD.REFUSED 0) == 1) = true ∧
    (let h := header 0 false 0 5 2 5 1 90 2; gives (.headerReceive · · 0 h (hc h) 625100 2) hears fun m => m.f (F.TPE_PORTp_FWD.REFUSED 0) == 1) = true ∧
    (let h := header 0 false 0 3 2 5 1 90 2; gives (.headerReceive · · 0 h (hc h) 625100 2) hears fun m => m.f (F.TPE_PORTp_FWD.REFUSED 0) == 0 &&
      m.f (F.TPE_PORTp_FWD.FWDS 0) == 0 && (m.tport 0).rx.length == 1) = true ∧
    (gives (.headerReceive · · 0 (hd 0 1 90 2) (hc (hd 0 1 90 2)) 627601 2) hears fun m => m.on F.TPE_LNKEVT.WINDOW && told m 0xCB 4 &&
      m.f (F.TPE_PORTp_FWD.REFUSED 0) == 1) = true ∧
    (gives (.headerReceive · · 0 (hd 0 1 90 2) (hc (hd 0 1 90 2)) 626350 2) hears fun m => !m.on F.TPE_LNKEVT.WINDOW &&
      (m.tport 1).tx.length == 1) = true ∧
    (gives (.headerReceive · · 0 (hd 0 1 90 2) (hc (hd 0 1 90 2)) 626351 2) hears fun m => m.on F.TPE_LNKEVT.WINDOW) = true ∧
    (gives (.headerReceive · · 0 (hd 0 1 90 7) (hc (hd 0 1 90 7)) 625100 2) hears fun m => m.f (F.TPE_PORTp_FWD.REFUSED 0) == 1 &&
      m.f (F.TPE_PORTp_FWD.FWDS 0) == 0 && m.kst.msgs.isEmpty) = true ∧
    (gives (.headerReceive · · 2 (hd 1 1 90 2) (hc (hd 1 1 90 2)) 625100 2) hears fun m => (m.tport 2).rx.isEmpty &&
      m.f (F.TPE_PORTp_FWD.REFUSED 2) == 0) = true ∧
    (gives (.headerReceive · · 0 (hd 0 1 90 2) (hc (hd 0 1 90 2)) 624680 2) (hears.setTport 1 { tx := [{ own := true, head := 0#64, hcrc := 0#16, start := 625000, stop := 625100 }] })
    fun m => m.f (F.TPE_PORTp_FWD.REFUSED 0) == 1 && m.f (F.TPE_PORTp_FWD.FWDS 0) == 0 && (m.tport 1).tx.length == 1 && m.kst.msgs.isEmpty) = true ∧
    (gives (.headerReceive · · 0 (hd 0 1 65500 2) (hc (hd 0 1 65500 2)) 690000 2) (hears.setF F.TPE_STAT.STATE 3)
    fun m => m.f (F.TPE_PORTp_FWD.REFUSED 0) == 1 && (m.tport 1).tx.isEmpty && m.kst.msgs.isEmpty) = true := by decide +kernel

/-- A copy of node 4's frame for buffer 9 is being received on port 0. -/

def copy4 (origin : Nat) : Lane := (net.setFs [(F.TPE_BUFb_CFG.DIR 9, 2), (F.TPE_BUFb_CFG.LEN 9, 1), (F.TPE_BUFb_STAT.NEWEST 9, 0), (F.TPE_BUFb_STAT.PIN 9, 1), (F.TPE_BUFb_STAT.AGE 9, 7)]).setTport 0
  { rx := [{ ty := 0, claim := false, origin := origin, slot := 2, course := 5, len := 1, dly := 90, head := hd 0 1 90 2, kind := 1, buf := 9 }] }

/-- The FCRC of that frame with these words. -/

def fc (ws : List W32) : W32 := BitVec.ofNat 32 (fcrcOf (hd 0 1 90 2) ws)
theorem wit_FramesReceived_ends :
    (ask (.frameEndReceive · · 0 [1#32, 2#32] (fc [1#32, 2#32])) (copy4 4) (fun n => n.domOn dTPE && (n.tport 0).rx.length == 1 && n.tpe.seen.isEmpty)
    fun m => m.f (F.TPE_PORTp_RXOK.COUNT 0) == 1 && m.tpe.dlv == [{ due := 100032, buf := 9, ws := [1#32, 2#32] }] &&
      m.f (F.TPE_BUFb_STAT.NEWEST 9) == 0 && m.tpe.listen == 100000 && (m.tport 0).rx.isEmpty) = true ∧
    (let m := ((copy4 4).upTpe fun s => { s with dlv := [{ due := 100000, buf := 9, ws := [1#32, 2#32] }] }).tpeSync
  m.tpe.dlv.isEmpty && m.f (F.TPE_BUFb_STAT.NEWEST 9) == 2 && m.bufCopy 9 2 == [1#32, 2#32] && m.on (F.TPE_BUFb_STAT.VALID 9) &&
    m.f (F.TPE_BUFb_STAT.AGE 9) == 0 && m.f (F.TPE_BUFb_CNT.FRAMES 9) == 1) = true ∧
    (gives (.frameEndReceive · · 0 [1#32, 2#32] 0#32) (copy4 4) fun m => m.f (F.TPE_PORTp_RXBAD.FCRC 0) == 1 && m.on F.TPE_LNKEVT.FCRC && told m 0xCA 3 &&
      m.f (F.TPE_BUFb_CNT.FRAMES 9) == 0) = true ∧
    (gives (.frameEndReceive · · 0 [1#32, 2#32] (fc [1#32, 2#32])) ((copy4 4).setF (F.TPE_BUFb_CFG.LEN 9) 2) fun m => m.f (F.TPE_BUFb_CNT.LENERR 9) == 1 &&
      m.on F.TPE_EVT.BUF && m.f (F.TPE_BUFb_STAT.NEWEST 9) == 0) = true ∧
    (gives (.frameEndReceive · · 0 [1#32, 2#32] (fc [1#32, 2#32])) ((copy4 3).setF (F.TPE_PORTp_RANGE.LINKDLY 0) 10) fun m => (m.tport 0).span == 100 &&
      m.f (F.TPE_PORTp_RXOK.COUNT 0) == 1) = true ∧
    (gives (.frameEndReceive · · 0 [1#32, 2#32] (fc [1#32, 2#32])) ((copy4 4).upTpe fun s => { s with seen := [{ origin := 4, course := 5, slot := 2, ty := 0, fcrc := 1#32 }] })
    fun m => m.f F.TPE_COPYCNT.DUP == 1 && m.f F.TPE_COPYCNT.DIFF == 1 && m.on F.TPE_LNKEVT.COPY && told m 0xCC 5 &&
      m.f (F.TPE_BUFb_CNT.FRAMES 9) == 0) = true ∧
    (gives (.frameEndReceive · · 0 [1#32, 2#32] (fc [1#32, 2#32])) ((copy4 4).upTpe fun s => { s with seen := [{ origin := 4, course := 5, slot := 2, ty := 0, fcrc := fc [1#32, 2#32] }] }) fun m => m.f F.TPE_COPYCNT.DUP == 1 && m.f F.TPE_COPYCNT.DIFF == 0 && m.kst.msgs.isEmpty) = true ∧
    (gives (.frameEndReceive · · 0 [] 0#32) ((copy4 4).setTport 0 { rx := [{ ty := 0, claim := false, origin := 4, slot := 2, course := 5, len := 1, dly := 90, head := 0#64, dead := true }] }) fun m => (m.tport 0).rx.isEmpty && m.f (F.TPE_PORTp_RXBAD.FCRC 0) == 0) = true ∧
    (gives (.forwardOverrunCut · · 0 true) (copy4 4) fun m => (m.tport 0).rx.isEmpty && m.f (F.TPE_PORTp_CVCNT.COUNT 0) == 1) = true ∧
    (gives (.forwardOverrunCut · · 2 true) (copy4 4) fun m => m.f (F.TPE_PORTp_CVCNT.COUNT 2) == 0) = true ∧
    (let r : RxCopy := { ty := 0, claim := false, origin := 4, slot := 2, course := 5, len := 1, dly := 90, head := hd 0 1 90 2, ta := 624801 }
  gives (.forwardOverrunCut · · 0 false) (net.setTport 0 { rx := [r] }) (fun m => (m.tport 0).rx == [r]) &&
    gives (.forwardOverrunCut · · 0 false) (net.setTport 0 { rx := [{ r with ta := 624800 }] }) fun m => (m.tport 0).rx.isEmpty && m.f (F.TPE_PORTp_CUT.CUTS 0) == 0) = true ∧
    (let r : RxCopy := { ty := 0, claim := false, origin := 4, slot := 2, course := 5, len := 1, dly := 90, head := hd 0 1 90 2, ta := 624480, fwd := some (624800, 625000) }
  gives (.forwardOverrunCut · · 0 false) (net.setTport 0 { rx := [r] } |>.setTport 1 { tx := [{ own := false, head := 0#64, hcrc := 0#16, start := 624800, stop := 625000 }] })
    fun m => (m.tport 0).rx.isEmpty && m.f (F.TPE_PORTp_CUT.CUTS 0) == 1 && (m.tport 1).tx.map (·.cut) == [true]) = true := by decide +kernel

theorem wit_BuffersAndClaims :
    (writes (fun l t o v => .bufferCommit l t o 7#8 v) (R.TPE_BUFb_CMD 7) .firmware 1#32 (net.setFs [(F.TPE_BUFb_CFG.DIR 7, 1), (F.TPE_BUFb_STAT.WIDX 7, 2), (F.TPE_BUFb_STAT.AGE 7, 9)])
    fun m => m.f (F.TPE_BUFb_STAT.NEWEST 7) == 2 && m.f (F.TPE_BUFb_STAT.AGE 7) == 0 && m.on (F.TPE_BUFb_STAT.VALID 7) &&
      m.f (F.TPE_BUFb_STAT.WIDX 7) == 0) = true ∧
    (writes (fun l t o v => .bufferCommit l t o 7#8 v) (R.TPE_BUFb_CMD 7) .firmware 1#32 ((net.setFs [(F.TPE_BUFb_CFG.DIR 7, 1), (F.TPE_BUFb_STAT.WIDX 7, 2)]).upTpe fun s => { s with hold := [(7, 0, 625001)] }) fun m => m.f (F.TPE_BUFb_STAT.WIDX 7) == 1) = true ∧
    (writes (fun l t o v => .bufferCommit l t o 7#8 v) (R.TPE_BUFb_CMD 7) .firmware 1#32 (net.setF (F.TPE_BUFb_CFG.DIR 7) 2) (rejected 7 (R.TPE_BUFb_CMD 7))) = true ∧
    (writes (fun l t o v => .acquire l t o 255#8 v) (R.TPE_BUFb_CMD 255) .firmware 2#32 (net.setFs [(F.TPE_BUFb_CFG.DIR 255, 2), (F.TPE_BUFb_STAT.NEWEST 255, 2), (F.TPE_BUFb_STAT.AGE 255, 4)]) fun m => m.f (F.TPE_BUFb_STAT.PIN 255) == 2 && m.f (F.TPE_BUFb_STAT.PINAGE 255) == 4) = true ∧
    (writes (fun l t o v => .release l t o 255#8 v) (R.TPE_BUFb_CMD 255) .firmware 4#32 (net.setFs [(F.TPE_BUFb_CFG.DIR 255, 2), (F.TPE_BUFb_STAT.PIN 255, 2), (F.TPE_BUFb_STAT.PINAGE 255, 4)]) fun m => m.f (F.TPE_BUFb_STAT.PIN 255) == 3 && m.f (F.TPE_BUFb_STAT.PINAGE 255) == 0) = true ∧
    (writes (fun l t o v => .acquire l t o 7#8 v) (R.TPE_BUFb_CMD 7) .firmware 2#32 (net.setF (F.TPE_BUFb_CFG.DIR 7) 1) (rejected 7 (R.TPE_BUFb_CMD 7))) = true ∧
    (writes (fun l t o v => .claimWrite l t o 3 v) (R.TPE_CLAIMk 3) .firmware (word [(F.TPE_CLAIMk.VAL 3, 1), (F.TPE_CLAIMk.PRIO 3, 200), (F.TPE_CLAIMk.CLEN 3, 1), (F.TPE_CLAIMk.CBUF 3, 7)]) (sendBuf 1)
    fun m => m.on (F.TPE_CLAIMk.VAL 3) && m.f (F.TPE_CLAIMk.PRIO 3) == 200 && m.f (F.TPE_CLAIMk.CBUF 3) == 7) = true ∧
    (writes (fun l t o v => .claimWrite l t o 3 v) (R.TPE_CLAIMk 3) .firmware (word [(F.TPE_CLAIMk.VAL 3, 1), (F.TPE_CLAIMk.CLEN 3, 2), (F.TPE_CLAIMk.CBUF 3, 7)]) (sendBuf 1) (rejected 7 (R.TPE_CLAIMk 3))) = true ∧
    (writes (fun l t o v => .claimWrite l t o 3 v) (R.TPE_CLAIMk 3) .firmware 0#32 ((sendBuf 1).upUpd fun u => { u with queue := [{ tag := 1, block := 0, crc := 0#32, words := [] }] }) (rejected 7 (R.TPE_CLAIMk 3))) = true := by decide +kernel

/-- Where the mortar gap of `net`'s course may begin. -/

def gapDue : Lane := (net.upTpe fun s => { s with bT := 62000, vals := [(3, 4, 250), (3, 5, 250), (3, 6, 250), (3, 7, 5000)], claims := [{ prio := 1, len := 1, buf := 7, origin := 6, slot := 2 }, { prio := 9, len := 1, buf := 8, origin := 3, slot := 3 }] })
theorem wit_CoursesBegin_enable :
    (writes .tpeBlockEnable R.TPE_CTRL .spi 1#32 up (rejected 7 R.TPE_CTRL)) = true ∧
    (writes .tpeBlockEnable R.TPE_CTRL .spi 1#32 (with_ [(F.SYS_ASHLOCK.LOCK, 1), (F.TPE_ACCW.W, 40), (F.TPE_SYNCCFG.MARGIN, 30), (F.TPE_CLGAP.VALUE, 40)]) fun m => m.on F.TPE_CTRL.EN && m.tpeSt == tLISTEN && m.tpe.listen == 100000 && m.rd R.TPE_CFGERR == 0#32) = true ∧
    (writes .tpeBlockEnable R.TPE_CTRL .spi 1#32 (with_ [(F.SYS_ASHLOCK.LOCK, 1), (F.TPE_ACCW.W, 40), (F.TPE_SYNCCFG.MARGIN, 30), (F.TPE_CLGAP.VALUE, 39)]) fun m => !m.on F.TPE_CTRL.EN && m.f F.TPE_CFGERR.CAUSE == 10 && m.on F.SYS_REGERR.FLAG) = true ∧
    (meets (cell 8 0 1 (with_ [(F.SYS_ASHLOCK.LOCK, 1), (F.TPE_CLSIZE.SLOTS, 3), (F.TPE_CLSIZE.NODES, 8)])) fun n => n.scheduleFault == some (4, 1, 2)) = true ∧
    (writes .tpeBlockEnable R.TPE_CTRL .spi 0#32 net fun m => !m.on F.TPE_CTRL.EN && m.tpeSt == tOFF) = true ∧
    (meets ((net.setFs [(F.TPE_STAT.STATE, 1), (F.TPE_CLCOLD.MASK, 8), (F.TPE_CLCOURSE.COURSE, 10), (F.TPE_CLNODE.RANK, 2)]).upTpe fun s => { s with listen := 48000 })
    fun n => n.domOn dTPE && n.tpeSt == tLISTEN && n.bit F.TPE_CLCOLD.MASK n.node &&
      decide (n.tpe.listen + n.mt ((128 + n.f F.TPE_CLNODE.RANK) * n.f F.TPE_CLCOURSE.COURSE) ≤ n.now)) = true ∧
    (gives .coldstartListenExpiry ((net.setFs [(F.TPE_STAT.STATE, 1), (F.TPE_CLCOLD.MASK, 8), (F.TPE_CLCOURSE.COURSE, 10), (F.TPE_CLNODE.RANK, 2)]).upTpe fun s => { s with listen := 48001 }) fun m => m.tpeSt == tLISTEN) = true := by decide +kernel

theorem wit_CoursesBegin_gap :
    (ask .mortarGapStart gapDue (fun n => n.domOn dTPE && n.tpe.next.isNone && decide (n.tpe.bT + n.mt 950 ≤ n.now) && n.mt 1000 == 40000 &&
      n.timingValues == [250, 250, 250, 5000])
    fun m => m.tpe.next == some 102040 && m.sf F.TPE_SYNCSTAT.OFS == 40 && m.f F.TPE_SYNCSTAT.NVAL == 4 &&
      m.tpe.gnext.map (fun g => (g.buf, g.start)) == [(8, 700), (7, 753)] && m.tpe.claims.isEmpty) = true ∧
    (gives .mortarGapStart (gapDue.upTpe fun s => { s with bT := 62001 }) fun m => m.tpe.next.isNone && m.tpe.claims.length == 2) = true ∧
    (gives .mortarGapStart (gapDue.upTpe fun s => { s with vals := [(3, 4, 99999)], claims := [] }) fun m => m.sf F.TPE_SYNCSTAT.OFS == 400 &&
      m.tpe.next == some 102400) = true := by decide +kernel

/-- `net` at a boundary of its course `c`, in state `st`. -/

def atBoundary (c st : Nat) : Lane := (net.setFs [(F.TPE_STAT.COURSE, c), (F.TPE_STAT.STATE, st), (F.TPE_BUFb_CFG.DIR 9, 2), (F.TPE_BUFb_STAT.VALID 9, 1), (F.TPE_BUFb_STAT.AGE 9, 255)]).upTpe
  fun s => { s with next := some 100000, gnext := [{ prio := 1, len := 1, buf := 7, origin := 6, slot := 2, start := 700 }], obs := some 64 }

theorem wit_CoursesBegin_boundary :
    (meets (atBoundary 63 4) fun n => n.domOn dTPE && n.tpe.next == some 100000 && n.tpeSt == tACTIVE) = true ∧
    (meets (atBoundary 63 2) fun n => n.tpeSt == tCOLD && (n.f F.TPE_STAT.COURSE + 1) % 64 == 0) = true ∧
    (meets (atBoundary 63 3) fun n => n.tpeSt == tINTEG && n.tpe.obs == some 64) = true ∧
    (gives .courseBoundary ((atBoundary 5 4).upTpe fun s => { s with next := some 100001 }) fun m => m.f F.TPE_STAT.COURSE == 5) = true := by decide +kernel

/-- `net` as the external node, its last edge at `t`. -/

def ext (t : Nat) : Lane := (net.setFs [(F.TPE_EXTCFG.EN, 1), (F.TPE_EXTCFG.PERMS, 1)]).upTpe fun s => { s with edge := some t, bT := 99500, nextSt := some 30 }
theorem wit_ExternalReference :
    (let n := ({ ext 0 with now := 400000 } : Lane).upTpe fun s => { s with bT := 399500 }; givesAt 400000 .syncEdge n fun m => m.tpe.edge == some 400000 &&
      m.rd R.TPE_EXTERR == 500#32 && m.rd R.TPE_EXTREM == 470#32) = true ∧
    (let n := { ext 0 with now := 404001 }; givesAt 404001 .syncEdge n fun m => m.tpe.edge == some 0 && m.on F.TPE_EVT.EXT) = true ∧
    (gives .syncEdge ((ext 0).setF F.TPE_EXTCFG.EN 0) fun m => m.tpe.edge == some 0 && !m.on F.TPE_EVT.EXT) = true ∧
    (gives .syncEdge ((net.setFs [(F.TPE_EXTCFG.EN, 1), (F.TPE_EXTCFG.PERMS, 1)]).upTpe fun s => { s with bT := 70000 })
      fun m => m.tpe.edge == some 100000 && m.rd R.TPE_EXTERR == 0xFFFFD8F0#32) = true ∧
    (let n := { ext 0 with now := 800000 }; givesAt 800000 .syncLost n fun m => m.on F.TPE_EXTSTAT.LOST && m.on F.TPE_EVT.EXT && told m 0xD2 11) = true ∧
    (gives .syncLost (ext 0) fun m => !m.on F.TPE_EXTSTAT.LOST) = true := by decide +kernel

/-! ## Keystone and the power controller (the statements on spec/14 and spec/18) -/

/-- A message of this lane. -/

def msg (src kind word : Nat) : Msg := { src := src, kind := kind, word := word, xl := false }
/-- The lane with one message registered. -/

def Told (x : Msg) (n : Lane) : Lane := n.upKst fun s => { s with msgs := [x] }
theorem wit_MessagesRecorded_PeerMessageRegistered :
    (ask (.kmsgReceive · · true 0x30512345#32) up (fun n => n.domOn dCORE)
      fun m => m.kst.msgs == [{ src := 0x30, kind := 5, word := 0x2345, xl := true }]) = true ∧
    (gives (.kmsgReceive · · false 0x30512345#32) up fun m => m.kst.msgs.isEmpty && m.f F.LNT_LINKCNT.CRCERR == 1) = true := by decide +kernel

theorem wit_MessagesRecorded_MessageOpensRecord :
    (meets (Told (msg 0x15 2 9) up) fun n => n.sys.powered && n.kst.msgs == [msg 0x15 2 9] && !n.evEnabled 4 && (n.mergeTarget (msg 0x15 2 9)).isNone &&
      !n.recOpen 0) = true := by decide +kernel

theorem wit_MessagesRecorded_MessageMerges :
    (let n := Told (msg 0x08 2 9) ((with_ [(F.KST_RECr_INFO.OPEN 3, 1), (F.KST_RECr_INFO.COUNT 3, 0xFF), (F.KST_RECr_INFO.SEV 3, 1)]).wr (R.KST_RECr_MSG 3) 0x08100004#32)
  meets n fun n => n.mergeTarget (msg 0x08 2 9) == some 3 && decide (n.kst.logQ.length < 32)) = true := by decide +kernel

theorem wit_KeystoneWrites_release :
    (meets (with_ [(F.KST_RECr_INFO.OPEN 0, 1)]) fun n => n.accepts 1 R.KST_RELEASE 0#32 && n.recOpen 0 && !n.recActive 0 &&
      !n.on (F.KST_RECr_INFO.NOREL 0)) = true ∧
    (writes .recordRelease R.KST_RELEASE .spi 63#32 (with_ [(F.KST_RECr_INFO.OPEN 63, 1), (F.KST_RECr_INFO.NOREL 63, 1)]) (rejected 7 R.KST_RELEASE)) = true ∧
    (writes .recordRelease R.KST_RELEASE .firmware 1#32 up (rejected 7 R.KST_RELEASE)) = true := by decide +kernel

theorem wit_KeystoneWrites_raise :
    (writes .firmwareRaise R.KST_RAISE .firmware (word [(F.KST_RAISE.SOURCE, 0xF7), (F.KST_RAISE.KIND, 15), (F.KST_RAISE.WORD, 0xABCD)]) up fun m => m.kst.msgs.map (fun x => (x.src, x.kind, x.word)) == [(0xF7, 15, 0xABCD)]) = true ∧
    (writes .firmwareRaise R.KST_RAISE .spi (word [(F.KST_RAISE.SOURCE, 0xF7), (F.KST_RAISE.KIND, 15)]) up (rejected 7 R.KST_RAISE)) = true ∧
    (writes .firmwareRaise R.KST_RAISE .firmware (word [(F.KST_RAISE.SOURCE, 0xF8), (F.KST_RAISE.KIND, 1)]) up (rejected 7 R.KST_RAISE)) = true ∧
    (writes .firmwareRaise R.KST_RAISE .firmware (word [(F.KST_RAISE.SOURCE, 0xF0)]) up (rejected 7 R.KST_RAISE)) = true := by decide +kernel

theorem wit_KeystoneWrites_severity :
    (writes (fun l t o v => .severityWrite l t o 0x08#8 v) (R.KST_SEVn 8) .spi 4#32 up fun m => m.f (F.KST_SEVn.SEV 8) == 4) = true ∧
    (writes (fun l t o v => .severityWrite l t o 0x08#8 v) (R.KST_SEVn 8) .spi 2#32 (with_ [(F.KST_FLRn.FLOOR 8, 3)]) (rejected 7 (R.KST_SEVn 8))) = true ∧
    (writes (fun l t o v => .severityWrite l t o 0x08#8 v) (R.KST_SEVn 8) .spi 5#32 up (rejected 7 (R.KST_SEVn 8))) = true ∧
    (writes (fun l t o v => .severityWrite l t o 0x15#8 v) (R.KST_SEVn 0x15) .spi 1#32 up (rejected 7 (R.KST_SEVn 0x15))) = true := by decide +kernel

theorem wit_KeystoneWrites_inject :
    (writes .injectionArm R.KST_INJ .spi (word [(F.KST_INJ.SOURCE, 0x08), (F.KST_INJ.WAIT, 2), (F.KST_INJ.DRY, 1), (F.KST_INJ.TARGET, 3)]) up fun m => m.kst.inj == some { src := 8, target := 3, due := 900000, dry := true }) = true ∧
    (writes .injectionArm R.KST_INJ .spi (word [(F.KST_INJ.SOURCE, 0x08)]) up (rejected 7 R.KST_INJ)) = true ∧
    (writes .injectionArm R.KST_INJ .spi (word [(F.KST_INJ.SOURCE, 0x16), (F.KST_INJ.WAIT, 2)]) up (rejected 7 R.KST_INJ)) = true ∧
    (writes .injectionArm R.KST_INJ .spi (word [(F.KST_INJ.SOURCE, 0x08), (F.KST_INJ.WAIT, 2)]) (up.upKst fun s => { s with inj := some { src := 9, target := 0, due := 900000, dry := false } }) (rejected 7 R.KST_INJ)) = true ∧
    (writes .injectionArm R.KST_INJ .spi (word [(F.KST_INJ.SOURCE, 0x08), (F.KST_INJ.WAIT, 2)]) (with_ [(F.SYS_LCS.STATE, 3), (F.SYS_LCS.ENF, 1)]) (rejected 7 R.KST_INJ)) = true ∧
    (writes .injectionArm R.KST_INJ .spi (word [(F.KST_INJ.SOURCE, 0x08), (F.KST_INJ.WAIT, 2), (F.KST_INJ.DRY, 1)]) (with_ [(F.SYS_LCS.STATE, 3), (F.SYS_LCS.ENF, 1)]) fun m => m.kst.inj.isSome) = true := by decide +kernel

theorem wit_MessagesRecorded_LogAndInjection :
    (gives .injectionMissed (up.upKst fun s => { s with inj := some { src := 9, target := 0, due := 100000, dry := false } }) fun m => m.kst.inj.isNone &&
      m.f F.KST_INJSTAT.RESULT == 2 && m.f F.KST_INJSTAT.SOURCE == 9 && m.on F.KST_INJSTAT.DONE && m.on F.KST_EVT.INJ && told m 6 3) = true ∧
    (gives .injectionMissed (up.upKst fun s => { s with inj := some { src := 9, target := 0, due := 100001, dry := false } }) fun m => m.kst.inj.isSome &&
      m.kst.msgs.isEmpty) = true ∧
    (ask .logEntryWrite ((with_ [(F.KST_LOGSTAT.HEAD, 8191)]).upKst fun s => { s with logQ := [[1#32], [2#32]] }) (fun n => n.domOn dCORE &&
      n.kst.logQ.length == 2)
    fun m => m.kst.logQ == [[2#32]] && m.mram.faultLog == [(8191, [1#32])] && m.f F.KST_LOGSTAT.HEAD == 0 && m.on F.KST_LOGSTAT.WRAP) = true ∧
    (writes .logIndexWrite R.KST_LOGIDX .spi 8191#32 (up.upMram fun x => { x with faultLog := [(8191, [1#32, 2#32, 3#32, 4#32, 5#32, 6#32, 7#32, 8#32])] })
    fun m => (List.range 8).map (fun w => m.rd (R.KST_LOGDw w)) == [1#32, 2#32, 3#32, 4#32, 5#32, 6#32, 7#32, 8#32] &&
      m.f F.KST_LOGIDX.IDX == 8191) = true ∧
    (gives .injectionMissed (up.upKst fun s => { s with inj := some { src := 9, target := 0, due := 100000, dry := false, hit := true } }) fun m =>
      m.kst.inj.isSome && m.kst.msgs.isEmpty) = true := by decide +kernel

/-- AUX ON, allowed to go OFF and to RET. -/

def idle8 : Lane := with_ [(F.PWR_Dd_ALLOW.OFF 8, 1), (F.PWR_Dd_ALLOW.RET 8, 1), (F.PWR_Dd_LAT.LAT 8, 0xFFFFFFFF)]
theorem wit_DomainsMove_IdleDomainEnters :
    (ask (.idleCountExpiry · · 8) idle8 (fun n => n.sys.powered && n.domState 8 == 0 && !n.held 8) fun m => m.domState 8 == 3 &&
      m.f (F.PWR_Dd_STAT.TARGET 8) == 2 && Cells.get 0 m.pwr.entT 8 == 100000) = true ∧
    (gives (.idleCountExpiry · · 8) (idle8.setF (F.PWR_Dd_ALLOW.OFF 8) 0) fun m => m.domState 8 == 3 && m.f (F.PWR_Dd_STAT.TARGET 8) == 1) = true ∧
    (gives (.idleCountExpiry · · 8) (idle8.setFs [(F.PWR_Dd_LAT.LAT 8, 5), (F.PWR_Dd_EXIT.XOFF 8, 6), (F.PWR_Dd_EXIT.XRET 8, 5)])
      fun m => m.domState 8 == 3 && m.f (F.PWR_Dd_STAT.TARGET 8) == 1) = true ∧
    (gives (.idleCountExpiry · · 8) (idle8.setF (F.PWR_Dd_LAT.LAT 8) 0) fun m => m.domState 8 == 0) = true ∧
    (gives (.idleCountExpiry · · 8) (idle8.setF F.CAN_CTRL.EN 1) fun m => m.domState 8 == 0) = true ∧
    (gives (.idleCountExpiry · · 8) (idle8.setFs [(F.PWR_Dd_ALLOW.OFF 8, 0), (F.PWR_Dd_ALLOW.RET 8, 0)]) fun m => m.domState 8 == 0) = true := by decide +kernel

theorem wit_DomainsMove_DomainTransitions_entry :
    (ask (.domainEntryComplete · · 1) ((with_ [(F.PWR_Dd_STAT.STATE 1, 3), (F.PWR_Dd_STAT.TARGET 1, 2), (F.PWR_Dd_ALLOW.OFF 1, 1), (F.PWR_Dd_LAT.LAT 1, 0xFFFFFFFF)]).upPwr fun p => { p with entT := [(1, 99600)], idle := [1] })
    (fun n => n.domState 1 == 3 && decide (Cells.get 0 n.pwr.entT 1 + 400 ≤ n.now) && !n.pwr.late.contains 1 && !n.on (F.PWR_Dd_STAT.PVAL 1) &&
      n.targetOf 1 == 2) fun m => m.domState 1 == 2) = true ∧
    (gives (.domainEntryComplete · · 1) ((with_ [(F.PWR_Dd_STAT.STATE 1, 3), (F.PWR_Dd_STAT.TARGET 1, 2)]).upPwr fun p => { p with entT := [(1, 99601)] }) fun m => m.domState 1 == 3) = true ∧
    (gives (.domainEntryComplete · · 1) ((with_ [(F.PWR_Dd_STAT.STATE 1, 3), (F.PWR_Dd_STAT.TARGET 1, 2)]).upPwr fun p => { p with entT := [(1, 99600)], late := [1] }) fun m => m.domState 1 == 4) = true := by decide +kernel

/-- CLE leaves RET, its clocks available, since lane time `s`. -/

def leaving1 (s : Nat) : Lane := (with_ [(F.PWR_Dd_STAT.STATE 1, 4), (F.PWR_Dd_EXIT.XRET 1, 10), (F.CLK_STAT.LOCK, 1), (F.CLK_STAT.REF, 1), (F.CLK_STAT.XO, 2)]).upPwr fun p => { p with leaving := [(1, 1)], exitT := [(1, s)], dueT := [(1, s + 8000)] }
theorem wit_DomainsMove_DomainTransitions_exit :
    (ask (.domainExitComplete · · 1) (leaving1 96000) (fun n => n.domState 1 == 4 && decide (9 ≤ n.sys.step) && n.sys.selfTest.isNone &&
      n.pwr.stalled.isEmpty && !n.on F.CLK_STAT.GLIDE && Cells.get 0 n.pwr.leaving 1 == 1 && n.on F.CLK_STAT.LOCK && n.on F.CLK_STAT.REF)
    fun m => m.domState 1 == 0) = true ∧
    (gives (.domainExitComplete · · 1) (leaving1 96001) fun m => m.domState 1 == 4) = true ∧
    (gives (.domainExitComplete · · 1) ((leaving1 96000).setF F.CLK_STAT.LOCK 0) fun m => m.domState 1 == 4) = true ∧
    (ask (.domainExitTimeout · · 1) (leaving1 92000) (fun n => decide (Cells.get 0 n.pwr.dueT 1 ≤ n.now) && n.domState 1 == 4 && n.sys.selfTest.isNone)
    fun m => m.domState 1 == 4 && m.f (F.PWR_Dd_CNT.FAILS 1) == 1 && m.on F.PWR_EVT.DOMFAIL && m.f F.PWR_EVT.DOM == 1 && told m 0x0C 1 &&
      Cells.get 0 m.pwr.exitT 1 == 100000 && Cells.get 0 m.pwr.dueT 1 == 108000) = true ∧
    (gives (.domainExitTimeout · · 1) (leaving1 92001) fun m => m.kst.msgs.isEmpty && m.f (F.PWR_Dd_CNT.FAILS 1) == 0) = true := by decide +kernel

/-- CLE enters OFF since lane time `t₀`; a Lintel wake names it. -/
def entering1 (t₀ : Nat) : Lane := (with_ [(F.PWR_Dd_STAT.STATE 1, 3), (F.PWR_Dd_STAT.TARGET 1, 2), (F.PWR_LWCFG.EN, 1), (F.PWR_LWCFG.DOMS, 2)]).upPwr fun p => { p with entT := [(1, t₀)] }
theorem wit_DomainsMove_wakes :
    (ask .lintelWakeReceive (entering1 99977) (fun n => n.sys.powered && n.on F.PWR_LWCFG.EN && (n.f F.PWR_LWCFG.DOMS).testBit 1 && !n.domUnusable 1 &&
      n.domState 1 == 3 && decide (n.now < Cells.get 0 n.pwr.entT 1 + 24)) fun m => m.domState 1 == 0 && m.f (F.PWR_Dd_CNT.ABORTS 1) == 1) = true ∧
    (gives .lintelWakeReceive ((entering1 99977).upPwr fun p => { p with leaving := [(1, 1)] }) fun m => m.domState 1 == 4) = true ∧
    (gives .lintelWakeReceive (entering1 99976) fun m => m.domState 1 == 3 && m.pwr.late.contains 1 && m.f (F.PWR_Dd_CNT.ABORTS 1) == 0) = true := by decide +kernel

theorem wit_LoadsAndDomainsComplete_domains :
    (meets idle8 (fun n => n.sys.powered && n.domState 8 == 0 && !n.held 8 && decide (9 ≤ n.sys.step) && n.on (F.PWR_Dd_ALLOW.OFF 8) &&
      n.f (F.PWR_Dd_LAT.LAT 8) != 0 && decide (n.f (F.PWR_Dd_EXIT.XOFF 8) ≤ n.f (F.PWR_Dd_LAT.LAT 8)))) = true ∧
    (meets ((with_ [(F.PWR_Dd_STAT.STATE 1, 3), (F.PWR_Dd_STAT.TARGET 1, 2), (F.PWR_Dd_ALLOW.OFF 1, 1), (F.PWR_Dd_LAT.LAT 1, 0xFFFFFFFF)]).upPwr fun p => { p with entT := [(1, 99600)], idle := [1] })
      (fun n => n.domState 1 == 3 && decide (Cells.get 0 n.pwr.entT 1 + 400 ≤ n.now) && !n.pwr.late.contains 1 && !n.on (F.PWR_Dd_STAT.PVAL 1) &&
        n.targetOf 1 == 2 && n.f (F.PWR_Dd_STAT.TARGET 1) == 2)) = true ∧
    (meets (leaving1 96000) (fun n => n.domState 1 == 4 && decide (9 ≤ n.sys.step) && n.sys.selfTest.isNone && n.pwr.stalled.isEmpty && !n.on (F.PWR_Dd_STAT.PVAL 1) &&
      Cells.get 0 n.pwr.leaving 1 == 1 && n.on F.CLK_STAT.LOCK && n.on F.CLK_STAT.REF && !n.on F.CLK_STAT.GLIDE &&
      decide (Cells.get 0 n.pwr.exitT 1 + 400 * n.f (F.PWR_Dd_EXIT.XRET 1) ≤ n.now))) = true ∧
    (meets (leaving1 92000) (fun n => n.domState 1 == 4 && n.sys.selfTest.isNone && decide (Cells.get 0 n.pwr.dueT 1 ≤ n.now))) = true := by decide +kernel

theorem wit_ClocksAndSupplies_ClockEvents :
    (gives .xoStable (with_ [(F.PWR_STAT.XOON, 1), (F.CLK_STAT.XO, 1), (F.CLK_STAT.LOCK, 1)]) fun m => m.f F.CLK_STAT.XO == 2 && m.on F.CLK_STAT.GLIDE) = true ∧
    (gives .pllLock (with_ [(F.PWR_STAT.PLLON, 1), (F.CLK_STAT.LOCK, 0), (F.CLK_STAT.XO, 2), (F.CLK_STAT.REF, 0)]) fun m => m.on F.CLK_STAT.LOCK &&
      m.on F.CLK_STAT.GLIDE) = true ∧
    (gives .glideComplete (with_ [(F.CLK_STAT.GLIDE, 1), (F.CLK_STAT.REF, 0)]) fun m => m.on F.CLK_STAT.REF && !m.on F.CLK_STAT.GLIDE &&
      m.on F.PWR_STAT.XOREF && m.on F.CLK_STAT.REFOUT) = true ∧
    (gives .crystalFail (with_ [(F.CLK_STAT.XO, 2), (F.CLK_STAT.REF, 1), (F.CLK_STAT.REFOUT, 1)]) fun m => m.f F.CLK_STAT.XO == 3 && !m.on F.CLK_STAT.REF &&
      !m.on F.CLK_STAT.REFOUT && m.on F.CLK_EVT.XOFAIL && told m 9 1) = true ∧
    (gives .pllUnlock (with_ [(F.CLK_STAT.LOCK, 1)]) fun m => !m.on F.CLK_STAT.LOCK && m.on F.CLK_EVT.UNLOCK && told m 10 2 && m.pwr.pllFail) = true ∧
    (gives (.aclkCalibration · · 410156#20) (with_ [(F.CLK_STAT.XO, 2)]) fun m => m.f F.CLK_ACLKCAL.LPT == 410156 && m.on F.CLK_ACLKCAL.VALID &&
      m.kst.msgs.isEmpty) = true ∧
    (gives (.aclkCalibration · · 410157#20) (with_ [(F.CLK_STAT.XO, 2)]) fun m => m.on F.CLK_EVT.ACLK && told m 11 3) = true ∧
    (gives (.aclkCalibration · · 371093#20) (with_ [(F.CLK_STAT.XO, 2)]) fun m => m.on F.CLK_EVT.ACLK && told m 11 3) = true := by decide +kernel

/-- CLE in RET, AUX OFF, both named by the wakes. -/

def asleep : Lane := with_ [(F.PWR_Dd_STAT.STATE 1, 1), (F.PWR_Dd_STAT.STATE 8, 2), (F.PWR_VWCFG.EN, 1), (F.PWR_VWCFG.DOMS, 0x102), (F.PWR_LWCFG.EN, 1), (F.PWR_LWCFG.DOMS, 0x102), (F.PWR_WTCTL.EN, 1), (F.PWR_WTCTL.DOMS, 0x102)]
theorem wit_WakesAndVetch_WakesReachDomains :
    (ask .vetchMatch (asleep.upPwr fun p => { p with vetch := { hit := true } }) (fun n => n.pwr.vetch.hit && n.on F.PWR_VWCFG.EN && !n.domUnusable 8)
      fun m => !m.pwr.vetch.hit && m.domState 1 == 4 && m.domState 8 == 4 && m.on F.PWR_WCAUSE.VETCH) = true ∧
    (gives .vetchMatch asleep fun m => m.domState 1 == 1 && !m.on F.PWR_WCAUSE.VETCH) = true ∧
    (ask .vetchMatch ((asleep.setFs [(F.PWR_STAT.PLLON, 0), (F.PWR_Dd_STAT.STATE 0, 1)]).upPwr fun p => { p with
      vetch := { hit := true }, laneHold := some 90000 })
      (fun n => n.pwr.laneHold.isSome && !n.on F.PWR_STAT.PLLON && n.domState 0 == 1)
      fun m => m.on F.PWR_STAT.PLLON && m.domState 0 == 4 && m.pwr.laneHold.isNone && m.pwr.laneT == 100000) = true ∧
    (gives .lintelWakeReceive asleep fun m => m.domState 1 == 4 && m.domState 8 == 4 && m.on F.PWR_WCAUSE.LINTEL) = true ∧
    (gives .lintelWakeReceive (asleep.setF F.PWR_LWCFG.EN 0) fun m => m.domState 1 == 1) = true ∧
    (gives .wakeTimerExpiry asleep fun m => m.domState 1 == 4 && !m.on F.PWR_WCAUSE.TIMER && !m.on F.PWR_WTCTL.EN) = true ∧
    (gives .wakeTimerExpiry (asleep.setF F.PWR_WTCTL.PERIODIC 1) fun m => m.domState 8 == 4 && m.on F.PWR_WTCTL.EN) = true ∧
    (writes .peerwake R.PWR_CMD .firmware (word [(F.PWR_CMD.PEERWAKE, 1)]) up fun m => m.sys.tx == [.wake]) = true := by decide +kernel

theorem wit_WakesAndVetch_VetchLinesFollowed :
    (gives (.vetchLineChange · · true false) (with_ [(F.PWR_VWCFG.EN, 1)]) fun m => m.pwr.vetch.active && m.pwr.vetch.count == 0 && !m.pwr.vetch.dat) = true ∧
    (gives (.vetchLineChange · · true false) ((with_ [(F.PWR_VWCFG.EN, 1), (F.PWR_VWCFG.ADDR, 0x32)]).upPwr fun p => { p with vetch := { clk := false, dat := false, active := true, count := 7, shift := 0x19 } })
    fun m => m.pwr.vetch.hit && m.pwr.vetch.count == 8) = true ∧
    (gives (.vetchLineChange · · true false) ((with_ [(F.PWR_VWCFG.EN, 1), (F.PWR_VWCFG.ADDR, 0x32), (F.PWR_VWCFG.BCAST, 1)]).upPwr fun p => { p with vetch := { clk := false, dat := false, active := true, count := 7, shift := 0 } })
    fun m => m.pwr.vetch.hit) = true ∧
    (gives (.vetchLineChange · · true true) ((with_ [(F.PWR_VWCFG.EN, 1), (F.PWR_VWCFG.ADDR, 0x32), (F.PWR_VWCFG.BCAST, 1)]).upPwr fun p => { p with vetch := { clk := false, dat := true, active := true, count := 7, shift := 0x19 } })
    fun m => !m.pwr.vetch.hit && m.pwr.vetch.count == 8) = true := by decide +kernel

theorem wit_ClocksAndSupplies_SupplyEvents :
    (gives (.supplyOutOfWindow · · 0) up fun m => !m.on F.PWR_STAT.VCOREOK && m.pwr.supOut == [0] && m.on F.PWR_EVT.SUPPLY && told m 13 2) = true ∧
    (gives (.supplyInWindow · · 2) (up.upPwr fun p => { p with supOut := [2] }) fun m => m.on F.PWR_STAT.VANAOK && m.pwr.supOut.isEmpty &&
      m.pwr.supT == some 100000) = true := by decide +kernel

/-! ## The policy engine (ArithmeticInstructions to LockstepRecovery) -/

/-- A lane whose engine runs the handler of event 5, with the word `w` at its PC 0x100 and these registers. -/

def engine (w : W32) (g : List (Nat × W32)) : Lane :=
  (up.upOap fun o => { o with gpr := g, pc := 0x100#32, handler := some 5, startT := 100000, running := true, code0 := cellsPut [] 0x100 w.toNat 4 }).setCsr 0x145 0x8000FFFF#32

/-- The word is the one the engine issues, and its instruction gives `p`. -/

def runs (c : LaneId → Nat → Instr) (w : W32) (n : Lane) (p : Lane → Bool) : Bool := meets n (fun n => n.issues w) && gives c n p
/-- Register 9 takes `v`, and the next instruction follows after `cyc` cycles. -/

def nine (v : W32) (cyc : Nat) (m : Lane) : Bool := m.gpr 9 == v && m.oap.pc == 0x104#32 && m.oap.next == 100000 + cyc
/-- A register-form instruction on w7 = `a` and w8 = `b` gives w9 = `v`. -/

def reg (c : LaneId → Nat → Bool → BitVec 5 → BitVec 5 → BitVec 5 → Instr) (fn : Nat) (a b v : W32) (cyc : Nat) : Bool :=
  runs (fun l t => c l t false 9#5 7#5 8#5) (encR fn 9#5 7#5 8#5) (engine (encR fn 9#5 7#5 8#5) [(7, a), (8, b)]) (nine v cyc)

/-- A constant-form instruction on w7 = `a` and the constant `k` gives w9 = `v`. -/

def kon (c : LaneId → Nat → Bool → BitVec 5 → BitVec 5 → BitVec 18 → Instr) (cls : Nat) (a : W32) (k : BitVec 18) (v : W32) : Bool :=
  runs (fun l t => c l t false 9#5 7#5 k) (encK cls 9#5 7#5 k) (engine (encK cls 9#5 7#5 k) [(7, a)]) (nine v 1)

/-- A branch by `k` words on w7 = `a` and w8 = `b` goes to `pc`. -/

def bra (c : LaneId → Nat → Bool → BitVec 5 → BitVec 5 → BitVec 13 → Instr) (cnd : Nat) (a b : W32) (k : BitVec 13) (pc : W32) (cyc : Nat) : Bool :=
  runs (fun l t => c l t false 7#5 8#5 k) (encB cnd 7#5 8#5 k) (engine (encB cnd 7#5 8#5 k) [(7, a), (8, b)])

    (fun m => m.oap.pc == pc && m.oap.next == 100000 + cyc)

/-- The handler was abandoned with this cause. -/

def dropped (cause : Nat) (m : Lane) : Bool := m.oap.handler == none && bits (m.csr 0x021) 31 28 == cause && told m (0x0F + abandonKind cause) (abandonKind cause)
theorem wit_ArithmeticInstructions_words :
    (encK 0x7 7#5 0#5 0x1000C#18 == 0x40030077#32 && encM 0xA 0 9#5 7#5 0x011C#15 == 0x00470E9A#32 && encS 3 0#5 0#5 0#12 == 0x0C00000E#32) = true ∧
    (encK 0x7 10#5 0#5 0x10000#18 == 0x400000A7#32 && encM 0x9 0 11#5 10#5 0x0020#15 == 0x000814B9#32 && encS 4 0#5 0#5 0#12 == 0x1000000E#32) = true ∧
    (encR 0x16 1#5 2#5 3#5 == 0b010110_0000000_00011_00010_00001_0000#32 && encB 4 2#5 3#5 0x1FFE#13 == 0b1111111111110_00011_00010_00100_1011#32) = true ∧
    (encC 1#5 0x7FFFFF#23 == 0b11111111111111111111111_00001_1100#32) = true := by decide +kernel

theorem wit_ArithmeticInstructions_register :
    (reg .add 0 0xFFFFFFFF#32 2#32 1#32 1 && reg .sub 1 1#32 2#32 0xFFFFFFFF#32 1) = true ∧
    (reg .andR 2 0xF0F0#32 0xFF00#32 0xF000#32 1 && reg .iorR 3 0xF0F0#32 0xFF00#32 0xFFF0#32 1 && reg .xorR 4 0xF0F0#32 0xFF00#32 0x0FF0#32 1) = true ∧
    (reg .shl 5 1#32 0x3F#32 0x80000000#32 1 && reg .shr 6 0x80000000#32 31#32 1#32 1 && reg .sha 7 0x80000000#32 31#32 0xFFFFFFFF#32 1) = true ∧
    (reg .clt 8 0xFFFFFFFF#32 0#32 1#32 1 && reg .cltu 9 0xFFFFFFFF#32 0#32 0#32 1) = true ∧
    (reg .mins 0x0A 0xFFFFFFFF#32 0#32 0xFFFFFFFF#32 1 && reg .maxs 0x0B 0xFFFFFFFF#32 0#32 0#32 1 && reg .minu 0x0C 0xFFFFFFFF#32 0#32 0#32 1 &&
      reg .maxu 0x0D 0xFFFFFFFF#32 0#32 0xFFFFFFFF#32 1) = true ∧
    (reg .mull 0x10 0x80000001#32 2#32 2#32 2 && reg .mulhs 0x11 0xFFFFFFFF#32 2#32 0xFFFFFFFF#32 2 && reg .mulhu 0x12 0xFFFFFFFF#32 2#32 1#32 2) = true ∧
    (runs (fun l t => .lzc l t false 9#5 7#5) (encR 0x0E 9#5 7#5 0#5) (engine (encR 0x0E 9#5 7#5 0#5) [(7, 1#32)]) (nine 31#32 1)) = true ∧
    (runs (fun l t => .add l t true 0#5 7#5 8#5) (encR 0 0#5 7#5 8#5) (engine (encR 0 0#5 7#5 8#5) [(7, 1#32)]) (fun m => m.gpr 0 == 0#32 &&
      m.csr 0x40 == 0x10000#32)) = true := by decide +kernel

theorem wit_ArithmeticInstructions_division :
    (reg .quos 0x14 0x80000000#32 0xFFFFFFFF#32 0x7FFFFFFF#32 34 && reg .quos 0x14 0xFFFFFFF9#32 2#32 0xFFFFFFFD#32 34) = true ∧
    (reg .quos 0x14 0xFFFFFFFF#32 0#32 0x80000000#32 34 && reg .quos 0x14 0#32 0#32 0x7FFFFFFF#32 34) = true ∧
    (reg .quou 0x15 7#32 2#32 3#32 34 && reg .quou 0x15 7#32 0#32 0xFFFFFFFF#32 34) = true ∧
    (reg .rmds 0x16 0xFFFFFFF9#32 2#32 0xFFFFFFFF#32 34 && reg .rmds 0x16 7#32 0#32 0#32 34 && reg .rmds 0x16 0x80000000#32 0xFFFFFFFF#32 0#32 34) = true ∧
    (reg .rmdu 0x17 7#32 4#32 3#32 34 && reg .rmdu 0x17 7#32 0#32 0#32 34) = true := by decide +kernel

theorem wit_ArithmeticInstructions_constant :
    (kon .addk 1 5#32 0x3FFFF#18 4#32 && kon .andk 2 0xFFFFFFFF#32 0x3FFFF#18 0x3FFFF#32 && kon .iork 3 0x80000000#32 1#18 0x80000001#32 &&
      kon .xork 4 3#32 1#18 2#32) = true ∧
    (kon .cltk 5 0#32 0x3FFFF#18 0#32 && kon .cltuk 6 0#32 0x3FFFF#18 1#32) = true ∧
    (runs (fun l t => .hik l t false 9#5 0x1000C#18) (encK 7 9#5 0#5 0x1000C#18) (engine (encK 7 9#5 0#5 0x1000C#18) []) (nine 0x40030000#32 1)) = true ∧
    (kon .shk 8 1#32 31#18 0x80000000#32 && kon .shk 8 0x80000000#32 0x3F#18 1#32 && kon .shk 8 0x80000000#32 0x5F#18 0xFFFFFFFF#32) = true ∧
    (runs (fun l t => .shk l t false 9#5 7#5 0x60#18) (encK 8 9#5 7#5 0x60#18) (engine (encK 8 9#5 7#5 0x60#18) []) (dropped 1)) = true := by decide +kernel

theorem wit_BranchInstructions :
    (bra .bre 0 1#32 1#32 0x1FFF#13 0xFC#32 3 && bra .bre 0 1#32 2#32 0x1FFF#13 0x104#32 1 && bra .brn 1 1#32 2#32 2#13 0x108#32 3) = true ∧
    (bra .brl 2 0xFFFFFFFF#32 0#32 2#13 0x108#32 3 && bra .brg 3 0#32 0#32 2#13 0x108#32 3 && bra .brlu 4 0#32 0xFFFFFFFF#32 2#13 0x108#32 3 &&
      bra .brgu 5 0xFFFFFFFF#32 0#32 2#13 0x108#32 3) = true ∧
    (runs (fun l t => .bre l t false 0#5 0#5 0x1000#13) (encB 0 0#5 0#5 0x1000#13) (engine (encB 0 0#5 0#5 0x1000#13) []) (dropped 2)) = true ∧
    (runs (fun l t => .call l t false 31#5 0x7FFFFF#23) (encC 31#5 0x7FFFFF#23) (engine (encC 31#5 0x7FFFFF#23) []) (fun m => m.gpr 31 == 0x104#32 &&
      m.oap.pc == 0xFC#32 && m.oap.next == 100002)) = true ∧
    (runs (fun l t => .callr l t false 1#5 7#5 7#18) (encK 0xD 1#5 7#5 7#18) (engine (encK 0xD 1#5 7#5 7#18) [(7, 0x3FFF8#32)]) (fun m => m.gpr 1 == 0x104#32 && m.oap.pc == 0x3FFFC#32 && m.oap.next == 100003)) = true ∧
    (runs (fun l t => .callr l t false 1#5 7#5 8#18) (encK 0xD 1#5 7#5 8#18) (engine (encK 0xD 1#5 7#5 8#18) [(7, 0x3FFF8#32)]) (dropped 2)) = true := by decide +kernel

theorem wit_LoadInstructions :
    (let w := encM 9 0 9#5 7#5 0x7FFC#15; runs (fun l t => .ldw l t false 9#5 7#5 0x7FFC#15 .corrected) w ((engine w [(7, 0x20000008#32)]).upOap fun o => { o with data := [(4, 0x78#8), (7, 0x12#8)] }) (nine 0x12000078#32 2)) = true ∧
    (let w := encM 9 0 9#5 7#5 1#15; runs (fun l t => .ldw l t false 9#5 7#5 1#15 .good) w (engine w [(7, 0x20000000#32)]) (dropped 2)) = true ∧
    (let w := encM 9 0 9#5 7#5 0#15; runs (fun l t => .ldw l t false 9#5 7#5 0#15 .bad) w (engine w [(7, 0x20000000#32)]) (dropped 3)) = true ∧
    (let w := encM 9 0 9#5 7#5 0x24#15; runs (fun l t => .ldw l t false 9#5 7#5 0x24#15 .good) w (engine w [(7, 0x40003C00#32)]) (fun m => m.oap.loads == [{ off := 0x3C24, size := 4, signed := false, dest := 9 }] && m.oap.next == 100012)) = true ∧
    (let w := encM 9 1 9#5 7#5 0#15; runs (fun l t => .ldh l t false 9#5 7#5 0#15 .good) w ((engine w [(7, 0x20000002#32)]).upOap fun o => { o with data := [(2, 0x34#8), (3, 0x92#8)] }) (nine 0xFFFF9234#32 2)) = true ∧
    (let w := encM 9 2 9#5 7#5 0#15; runs (fun l t => .ldhu l t false 9#5 7#5 0#15 .good) w ((engine w [(7, 0x20000002#32)]).upOap fun o => { o with data := [(2, 0x34#8), (3, 0x92#8)] }) (nine 0x9234#32 2)) = true ∧
    (let w := encM 9 3 9#5 7#5 0#15; runs (fun l t => .ldb l t false 9#5 7#5 0#15 .good) w ((engine w [(7, 0x20000003#32)]).upOap fun o => { o with data := [(3, 0x92#8)] }) (nine 0xFFFFFF92#32 2)) = true ∧
    (let w := encM 9 4 9#5 7#5 0#15; runs (fun l t => .ldbu l t false 9#5 7#5 0#15 .good) w (engine w [(7, 0x00000103#32)]) (nine 0x80#32 3)) = true ∧
    (let w := encM 9 5 8#5 7#5 0#15; runs (fun l t => .ldp l t false 8#5 7#5 0#15 .good .corrected) w ((engine w [(7, 0x20000004#32)]).upOap fun o => { o with data := [(4, 1#8), (8, 2#8)] }) (fun m => m.gpr 8 == 1#32 && m.gpr 9 == 2#32 && m.oap.next == 100003)) = true ∧
    (let w := encM 9 5 9#5 7#5 0#15; runs (fun l t => .ldp l t false 9#5 7#5 0#15 .good .good) w (engine w [(7, 0x20000004#32)]) (dropped 1)) = true ∧
    (let w := encM 9 5 8#5 7#5 0#15; runs (fun l t => .ldp l t false 8#5 7#5 0#15 .good .bad) w (engine w [(7, 0x20000004#32)]) (fun m => dropped 3 m &&
      m.csr 0x22 == 0x20000008#32)) = true ∧
    (let w := encM 9 5 8#5 7#5 0#15; runs (fun l t => .ldp l t false 8#5 7#5 0#15 .good .good) w (engine w [(7, 0x40000000#32)]) (fun m => m.oap.loads.length == 2)) = true ∧
    (let w := encM 9 5 8#5 7#5 2#15; runs (fun l t => .ldp l t false 8#5 7#5 2#15 .good .good) w (engine w [(7, 0x40000000#32)]) (fun m => m.oap.loads == [{ off := 2, size := 8, signed := false, dest := 8 }])) = true ∧
    (let w := encM 9 5 8#5 7#5 2#15; runs (fun l t => .ldp l t false 8#5 7#5 2#15 .good .good) w (engine w [(7, 0x20000000#32)]) (dropped 2)) = true ∧
    (let w := encM 9 5 8#5 7#5 0#15; meets (engine w [(7, 0x2003FFFC#32)]) (fun _ => region 0x2003FFFC#32 != region 0x20040000#32) &&
      runs (fun l t => .ldp l t false 8#5 7#5 0#15 .good .good) w (engine w [(7, 0x2003FFFC#32)]) (fun m => dropped 2 m &&
        m.csr 0x22 == 0x20040000#32)) = true := by decide +kernel

theorem wit_StoreInstructions :
    (let w := encM 0xA 0 9#5 7#5 4#15; runs (fun l t => .stw l t false 9#5 7#5 4#15) w (engine w [(7, 0x20000000#32), (9, 0x12000034#32)]) (fun m => m.oap.data == [(4, 0x34#8), (7, 0x12#8)] && m.oap.next == 100001)) = true ∧
    (let w := encM 0xA 0 9#5 7#5 0x11C#15; runs (fun l t => .stw l t false 9#5 7#5 0x11C#15) w (engine w [(7, 0x40030000#32), (9, 5#32)]) (fun m => m.oap.wbuf == [{ t := 100000, off := 0x3011C, size := 4, data := 5#32 }])) = true ∧
    (let w := encM 0xA 0 9#5 7#5 0#15; runs (fun l t => .stw l t false 9#5 7#5 0#15) w (engine w [(7, 0x100#32), (9, 5#32)]) (dropped 2)) = true ∧
    (let w := encM 0xA 0 9#5 7#5 0#15; let e : WEntry := { t := 0, off := 0, size := 4, data := 0#32 };
  runs (fun l t => .stw l t false 9#5 7#5 0#15) w ((engine w [(7, 0x40000000#32)]).upOap fun o => { o with wbuf := List.replicate 8 e }) (fun m => m.oap.wbuf.length == 8 && m.oap.pc == 0x100#32)) = true ∧
    (let w := encM 0xA 1 9#5 7#5 2#15; runs (fun l t => .sth l t false 9#5 7#5 2#15 .corrected) w (engine w [(7, 0x20000000#32), (9, 0x5678#32)]) (fun m => m.oap.data == [(2, 0x78#8), (3, 0x56#8)] && m.oap.next == 100003)) = true ∧
    (let w := encM 0xA 3 9#5 7#5 0x7FFF#15; runs (fun l t => .stb l t false 9#5 7#5 0x7FFF#15 .bad) w (engine w [(7, 0x20000008#32)]) (dropped 3)) = true ∧
    (let w := encM 0xA 3 9#5 7#5 0x7FFF#15; runs (fun l t => .stb l t false 9#5 7#5 0x7FFF#15 .good) w (engine w [(7, 0x20000008#32), (9, 0x78#32)]) (fun m => m.oap.data == [(7, 0x78#8)])) = true ∧
    (let w := encM 0xA 5 8#5 7#5 0#15; runs (fun l t => .stp l t false 8#5 7#5 0#15) w (engine w [(7, 0x20000004#32), (8, 1#32), (9, 2#32)]) (fun m => m.oap.data == [(4, 1#8), (8, 2#8)] && m.oap.next == 100002)) = true ∧
    (let w := encM 0xA 5 8#5 7#5 0#15; runs (fun l t => .stp l t false 8#5 7#5 0#15) w (engine w [(7, 0x40000004#32), (8, 1#32), (9, 2#32)]) (fun m => m.oap.wbuf.map (fun e => (e.t, e.off, e.data)) == [(100000, 4, 1#32), (100001, 8, 2#32)])) = true ∧
    (let w := encM 0xA 5 8#5 7#5 2#15; runs (fun l t => .stp l t false 8#5 7#5 2#15) w (engine w [(7, 0x40000000#32), (8, 1#32)]) (fun m => m.oap.wbuf == [{ t := 100000, off := 2, size := 8, data := 1#32 }])) = true ∧
    (let w := encM 0xA 5 9#5 7#5 0#15; runs (fun l t => .stp l t false 9#5 7#5 0#15) w (engine w [(7, 0x20000004#32)]) (dropped 1)) = true ∧
    (let w := encM 0xA 5 8#5 7#5 0#15; runs (fun l t => .stp l t false 8#5 7#5 0#15) w (engine w [(7, 0x2003FFFC#32)]) (fun m => dropped 2 m &&
      m.csr 0x22 == 0x20040000#32)) = true ∧
    (let w := encM 0xA 5 8#5 7#5 2#15; runs (fun l t => .stp l t false 8#5 7#5 2#15) w (engine w [(7, 0x20000000#32)]) (dropped 2)) = true := by decide +kernel

theorem wit_SystemInstructions :
    (let w := encS 0 9#5 0#5 0#12; runs (fun l t => .csrrd l t false 9#5 0#12) w (engine w []) (nine 0x100#32 2)) = true ∧
    (let w := encS 0 9#5 0#5 8#12; runs (fun l t => .csrrd l t false 9#5 8#12) w (engine w []) (nine 100000#32 2)) = true ∧
    (let w := encS 0 9#5 0#5 0xFFF#12; runs (fun l t => .csrrd l t false 9#5 0xFFF#12) w (engine w []) (dropped 1)) = true ∧
    (let w := encS 1 0#5 9#5 0x11#12; runs (fun l t => .csrwr l t false 9#5 0x11#12) w ((engine w [(9, 3#32)]).setCsr 0x10 500#32) (fun m => m.csr 0x11 == 3#32 && m.oap.tmr == [(0, 100500)])) = true ∧
    (let w := encS 1 0#5 9#5 0#12; runs (fun l t => .csrwr l t false 9#5 0#12) w (engine w [(9, 3#32)]) (dropped 1)) = true ∧
    (let w := encS 2 0#5 0#5 63#12; runs (fun l t => .post l t false 63#12) w ((engine w []).setCsr 0x17F 0x80000000#32) (fun m => m.evPending 63 &&
      m.oap.pc == 0x104#32)) = true ∧
    (let w := encS 2 0#5 0#5 64#12; runs (fun l t => .post l t false 64#12) w (engine w []) (dropped 1)) = true ∧
    (let w := encS 3 0#5 0#5 0#12; runs (fun l t => .fence l t false) w ((engine w []).upOap fun o => { o with wbuf := [{ t := 0, off := 0, size := 4, data := 0#32 }] }) (fun m => m.oap.fence && m.oap.next == 100001)) = true := by decide +kernel

theorem wit_HandlersStartAndEnd :
    (let w := encS 4 0#5 0#5 0#12; runs (fun l t => .done l t false) w (engine w []) (fun m => m.oap.handler == none && m.oap.next == 100002)) = true ∧
    (let n := (((up.upOap fun o => { o with running := true, evData := [(3, 7#32)] }).setCsr 0xC0 0x0A#32).setCsr 0x141 0x80000000#32).setCsr 0x143 0x80000000#32;
  gives .eventDispatch (n.setCsr 0x103 0x40#32) (fun m => m.oap.handler == some 1 && m.oap.next == 100006 && !m.evPending 1 && m.evPending 3)) = true ∧
    (let n := (((up.upOap fun o => { o with running := true, evData := [(3, 7#32)] }).setCsr 0xC0 0x0A#32).setCsr 0x141 0x80000000#32).setCsr 0x143 0x90000000#32;
  gives .eventDispatch (n.setCsr 0x103 0x40#32) (fun m => m.oap.handler == some 3 && m.oap.pc == 0x40#32 && m.csr 3 == 7#32 &&
    bits (m.csr 0x183) 31 16 == 1)) = true ∧
    (let n := ((up.upOap fun o => { o with tmr := [(1, 100000)] }).setCsr 0x13 3#32).setCsr 0x143 0x80000000#32;
  gives (fun l t => .csrTimerExpiry l t 1) (n.setCsr 0x12 500#32) (fun m => m.evPending 3 && m.oap.tmr == [(1, 100500)] && (m.csr 0x13).getLsbD 0)) = true ∧
    (let n := (up.upOap fun o => { o with tmr := [(0, 99999)] }).setCsr 0x11 1#32;
  gives (fun l t => .csrTimerExpiry l t 0) n (fun m => !(m.csr 0x11).getLsbD 0 && m.oap.tmr == [])) = true := by decide +kernel

theorem wit_HandlersAbandoned :
    (gives (fun l t => .illegalInstruction l t (.illegal false)) (engine 0xF#32 []) (fun m => dropped 1 m && m.csr 0x21 == 0x10140100#32)) = true ∧
    (gives (fun l t => .illegalInstruction l t (.illegal false)) (engine 0x00000000#32 []) (fun m => m.oap.handler == some 5)) = true ∧
    (gives (fun l t => .illegalInstruction l t .access) ((engine 0#32 []).upOap fun o => { o with pc := 0x40000#32 }) (dropped 2)) = true ∧
    (gives (fun l t => .illegalInstruction l t .ecc) (engine 0#32 []) (dropped 3)) = true ∧
    (gives (fun l t => .budgetExpiry l t) (((engine 0#32 []).upOap fun o => { o with startT := 99000 }).setCsr 0x145 0x800003E8#32) (fun m => dropped 4 m &&
      bits (m.csr 0x185) 7 0 == 1)) = true ∧
    (gives (fun l t => .budgetExpiry l t) (((engine 0#32 []).upOap fun o => { o with startT := 99001 }).setCsr 0x145 0x800003E8#32) (fun m => m.oap.handler == some 5)) = true := by decide +kernel

theorem wit_LockstepRecovery :
    (gives (fun l t => .lockstepMismatch l t 8) ((engine 0#32 []).upOap fun o => { o with wbuf := [{ t := 99997, off := 4, size := 4, data := 0#32 }, { t := 99998, off := 8, size := 4, data := 0#32 }] })
    (fun m => m.oap.frozen == some 100000 && m.oap.wbuf.length == 1 && m.f F.LSC_MISMATCH.ITEM == 9 && m.f F.LSC_MISMATCH.PC == 0x100 &&
      told m 0x17 3)) = true ∧
    (gives (fun l t => .diagnosticVerdict l t true true) { (up.upOap fun o => { o with frozen := some 166400 }) with now := 400000 } (fun m => m.oap.scrub == some (1, 465536) && bits (m.csr 1) 15 8 == 1)) = true ∧
    (gives (fun l t => .diagnosticVerdict l t false true) { ((with_ [(F.LNT_PERMIT.SINGLECORE, 1)]).upOap fun o => { o with frozen := some 166400 }) with now := 400000 } (fun m => m.oap.scrub == some (2, 465536) && bits (m.csr 1) 1 0 == 2)) = true ∧
    (gives (fun l t => .diagnosticVerdict l t false true) { (up.upOap fun o => { o with frozen := some 166400 }) with now := 400000 } (fun m => m.oap.stopped)) = true ∧
    (gives (fun l t => .codeScrubComplete l t true []) (up.upOap fun o => { o with frozen := some 1, scrub := some (1, 100000), gpr := [(3, 4#32)] }) (fun m => m.oap.running && m.evPending 0 && m.gpr 3 == 0#32 && Cells.get 0#32 m.oap.evData 0 == 1#32)) = true ∧
    (gives (fun l t => .codeScrubComplete l t false []) (up.upOap fun o => { o with frozen := some 1, scrub := some (1, 100000) }) (fun m => m.oap.stopped && m.f F.LSC_STAT.MODE == 3)) = true := by decide +kernel

end Sys2Proof.Tests
end

section
/-! SUPPORT. What an operation leaves of the offsets a statement watches: registers, the step of the start, and with the registers of a
domain or of the update block the state behind them. -/

namespace Sys2Proof.Machine

/-! ## What is kept -/

/-- No offset in [lo, hi) is watched. -/
def Avoids (P : Nat → Prop) (lo hi : Nat) : Prop := ∀ a, P a → a < lo ∨ hi ≤ a

theorem Avoids.not {P : Nat → Prop} {lo hi a : Nat} (h : Avoids P lo hi) (h1 : lo ≤ a) (h2 : a < hi) : ¬ P a := fun hp => by
  have := h a hp
  omega

/-- From `n` to `m` the watched registers, the step of the start and the waiting accesses are kept; so is, where the LAT of a domain is
watched, whether it counts as idle and whether a wake of it came late, and where UPD_CTRL is watched, the update engine. -/
structure Keeps (P : Nat → Prop) (n m : Lane) : Prop where
  regs    : ∀ a, P a → m.rd a = n.rd a
  step    : m.sys.step = n.sys.step
  stalled : m.pwr.stalled = n.pwr.stalled
  idle    : ∀ d, P (R.PWR_Dd_LAT d) → m.pwr.idle.contains d = n.pwr.idle.contains d
  late    : ∀ d, P (R.PWR_Dd_LAT d) → m.pwr.late.contains d = n.pwr.late.contains d
  upd     : P R.UPD_CTRL → m.upd = n.upd

theorem Keeps.refl (P : Nat → Prop) (n : Lane) : Keeps P n n := ⟨fun _ _ => rfl, rfl, rfl, fun _ _ => rfl, fun _ _ => rfl, fun _ => rfl⟩

theorem Keeps.trans {P : Nat → Prop} {a b c : Lane} (h : Keeps P a b) (g : Keeps P b c) : Keeps P a c :=
  ⟨fun x hx => (g.regs x hx).trans (h.regs x hx), g.step.trans h.step, g.stalled.trans h.stalled,
    fun d hd => (g.idle d hd).trans (h.idle d hd), fun d hd => (g.late d hd).trans (h.late d hd), fun hu => (g.upd hu).trans (h.upd hu)⟩

/-- Fields of a watched register read as before. -/
theorem Keeps.f_eq {P : Nat → Prop} {n m : Lane} (h : Keeps P n m) {r : FRef} (hr : P r.off) : m.f r = n.f r := Lane.f_congr (h.regs _ hr)

theorem Keeps.on_eq {P : Nat → Prop} {n m : Lane} (h : Keeps P n m) {r : FRef} (hr : P r.off) : m.on r = n.on r := by
  unfold Lane.on; rw [h.f_eq hr]

theorem Keeps.each {P : Nat → Prop} {k : Lane} {α : Type} {f : α → Lane → Lane} : ∀ (xs : List α) {n : Lane}, Keeps P k n →
    (∀ x ∈ xs, ∀ m, Keeps P k m → Keeps P k (f x m)) → Keeps P k (forEach xs f n)
  | [], _, h, _ => h
  | x :: xs, _, h, hf => Keeps.each xs (hf x (by simp) _ h) fun y hy => hf y (by simp [hy])

/-- What every element of a list keeps, the whole list keeps. -/
theorem forEach_keeps {α : Type} {f : α → Lane → Lane} {I : Lane → Prop} : ∀ (xs : List α) {n : Lane}, I n →
    (∀ x ∈ xs, ∀ m, I m → I (f x m)) → I (forEach xs f n)
  | [], _, h, _ => h
  | x :: xs, _, h, hf => forEach_keeps xs (hf x (by simp) _ h) fun y hy => hf y (by simp [hy])

section
variable {P : Nat → Prop} {k n : Lane} (h : Keeps P k n)
include h

/-- An update of parts that nothing watches. -/
theorem Keeps.same {m : Lane} (hr : m.regs = n.regs) (hs : m.sys.step = n.sys.step) (hp : m.pwr = n.pwr) (hu : m.upd = n.upd) : Keeps P k m :=
  h.trans ⟨fun a _ => Lane.rd_congr hr a, hs, by rw [hp], fun _ _ => by rw [hp], fun _ _ => by rw [hp], fun _ => hu⟩

theorem Keeps.upPwr {g : PwrState → PwrState} (hs : (g n.pwr).stalled = n.pwr.stalled)
    (hi : ∀ d, P (R.PWR_Dd_LAT d) → (g n.pwr).idle.contains d = n.pwr.idle.contains d)
    (hl : ∀ d, P (R.PWR_Dd_LAT d) → (g n.pwr).late.contains d = n.pwr.late.contains d) : Keeps P k (n.upPwr g) :=
  h.trans ⟨fun _ _ => rfl, rfl, hs, hi, hl, fun _ => rfl⟩

/-- An update of the power controller's state other than the idle counts, the late wakes and the waiting accesses. -/
theorem Keeps.upPwr' {g : PwrState → PwrState} (hs : (g n.pwr).stalled = n.pwr.stalled) (hi : (g n.pwr).idle = n.pwr.idle)
    (hl : (g n.pwr).late = n.pwr.late) : Keeps P k (n.upPwr g) :=
  h.upPwr hs (fun _ _ => by rw [hi]) (fun _ _ => by rw [hl])

theorem Keeps.upUpd (g : UpdState → UpdState) (hu : ¬ P R.UPD_CTRL) : Keeps P k (n.upUpd g) :=
  h.trans ⟨fun _ _ => rfl, rfl, rfl, fun _ _ => rfl, fun _ _ => rfl, fun hc => absurd hc hu⟩

theorem Keeps.wr {a : Nat} (v : W32) (ha : ¬ P a) : Keeps P k (n.wr a v) :=
  h.trans ⟨fun _ hb => Lane.rd_wr_ne _ _ fun e => ha (e ▸ hb), rfl, rfl, fun _ _ => rfl, fun _ _ => rfl, fun _ => rfl⟩

theorem Keeps.setF {r : FRef} (x : Nat) (hr : ¬ P r.off) : Keeps P k (n.setF r x) := h.wr _ hr

theorem Keeps.setBit {r : FRef} (i : Nat) (on : Bool) (hr : ¬ P r.off) : Keeps P k (n.setBit r i on) := h.setF _ hr

theorem Keeps.sqEvent {r : FRef} (hr : ¬ P r.off) : Keeps P k (n.sqEvent r) := (h.setF 1 hr).setF _ hr

theorem Keeps.sqEventOnce {r : FRef} (hr : ¬ P r.off) : Keeps P k (n.sqEventOnce r) := by
  unfold Lane.sqEventOnce
  split
  · exact h
  · exact h.sqEvent hr

theorem Keeps.stepSat {r : FRef} (hr : ¬ P r.off) : Keeps P k (n.stepSat r) := by
  unfold Lane.stepSat
  simp only
  split
  · exact h.setF _ hr
  · exact h

theorem Keeps.raise (a b c : Nat) : Keeps P k (n.raise a b c) := h.same rfl rfl rfl rfl

theorem Keeps.setCsr (a : Nat) (v : W32) : Keeps P k (n.setCsr a v) := h.same rfl rfl rfl rfl

/-- An Oapiec event writes the engine's control registers and may raise a message. -/
theorem Keeps.event (e : Nat) (data : W32) : Keeps P k (n.event e data) := by
  unfold Lane.event
  split
  · exact h
  · split
    · have a : Keeps P k (if bits (n.csr (csrEvCnt e)) 15 8 < 255 then
          n.setCsr (csrEvCnt e) (setBits (n.csr (csrEvCnt e)) 15 8 (bits (n.csr (csrEvCnt e)) 15 8 + 1)) else n) :=
        ite_of (h.setCsr _ _) h
      simp only
      generalize (if bits (n.csr (csrEvCnt e)) 15 8 < 255 then
          n.setCsr (csrEvCnt e) (setBits (n.csr (csrEvCnt e)) 15 8 (bits (n.csr (csrEvCnt e)) 15 8 + 1)) else n) = m at a ⊢
      exact ite_of a (a.same rfl rfl rfl rfl)
    · exact h.same rfl rfl rfl rfl

theorem Keeps.laneResume : Keeps P k n.laneResume := by
  unfold Lane.laneResume
  split
  · exact h.upPwr' rfl rfl rfl
  · exact h

end

theorem Keeps.setFs {P : Nat → Prop} {k : Lane} (ps : List (FRef × Nat)) (hp : ∀ p ∈ ps, ¬ P p.1.off) :
    ∀ {n : Lane}, Keeps P k n → Keeps P k (n.setFs ps) := by
  induction ps with
  | nil => exact fun h => h
  | cons p ps ih => exact fun h => ih (fun q hq => hp q (by simp [hq])) (h.setF p.2 (hp p (by simp)))

/-! ## The power controller -/

section
variable {P : Nat → Prop} {k n : Lane} {d : Nat} (h : Keeps P k n)
include h

theorem Keeps.idleRestart (hl : ¬ P (R.PWR_Dd_LAT d)) : Keeps P k (n.idleRestart d) := by
  refine h.upPwr rfl (fun e he => ?_) fun _ _ => rfl
  have hne : e ≠ d := fun x => hl (x ▸ he)
  simp [hne]

theorem Keeps.setDom (st : Nat) (hs : ¬ P (R.PWR_Dd_STAT d)) (hc : ¬ P R.CLK_STAT) : Keeps P k (n.setDom d st) := by
  unfold Lane.setDom Lane.resMark
  simp only
  split
  · exact ((h.upPwr' rfl rfl rfl).setF _ hs).setF _ hc
  · exact (h.upPwr' rfl rfl rfl).setF _ hs

theorem Keeps.pwrEvt {flag : FRef} (hf : flag.off = R.PWR_EVT) (he : ¬ P R.PWR_EVT) (d : Nat) : Keeps P k (n.pwrEvt flag d) := by
  unfold Lane.pwrEvt
  simp only
  split
  · exact h
  · split
    · exact (h.setF _ he).sqEvent (hf ▸ he)
    · exact h.sqEvent (hf ▸ he)
end

/-- Nothing is watched of what the power controller writes for domain `d`: its shared registers, CLK, and the registers of `d`. -/
structure Unwatched (P : Nat → Prop) (d : Nat) : Prop where
  shared : Avoids P 0x001000 0x001100
  clk    : Avoids P 0x002000 0x003000
  own    : Avoids P (R.PWR_Dd_LAT d) (R.PWR_Dd_LAT d + 0x40)

section
variable {P : Nat → Prop} {d : Nat} (u : Unwatched P d)
include u

theorem Unwatched.lat : ¬ P (R.PWR_Dd_LAT d) := u.own.not (by omega) (by omega)
theorem Unwatched.stat : ¬ P (R.PWR_Dd_STAT d) :=
  u.own.not (by unfold R.PWR_Dd_STAT R.PWR_Dd_LAT; omega) (by unfold R.PWR_Dd_STAT R.PWR_Dd_LAT; omega)
theorem Unwatched.cnt : ¬ P (R.PWR_Dd_CNT d) :=
  u.own.not (by unfold R.PWR_Dd_CNT R.PWR_Dd_LAT; omega) (by unfold R.PWR_Dd_CNT R.PWR_Dd_LAT; omega)
theorem Unwatched.evt : ¬ P R.PWR_EVT := u.shared.not (by decide) (by decide)
theorem Unwatched.pstat : ¬ P R.PWR_STAT := u.shared.not (by decide) (by decide)
theorem Unwatched.cstat : ¬ P R.CLK_STAT := u.clk.not (by decide) (by decide)
theorem Unwatched.cal : ¬ P R.CLK_ACLKCAL := u.clk.not (by decide) (by decide)

variable {k n : Lane} (h : Keeps P k n)
include h

theorem Keeps.clkWake (e : Nat) : Keeps P k (n.clkWake e) := by
  unfold Lane.clkWake
  have a : Keeps P k (n.upPwr fun x => { x with pllStop := none }) := h.upPwr' rfl rfl rfl
  generalize n.upPwr (fun x => { x with pllStop := none }) = m at a ⊢
  simp only
  have b : Keeps P k (if m.on F.PWR_STAT.PLLON then m else (m.laneResume.setF F.PWR_STAT.PLLON 1).setF F.CLK_ACLKCAL.VALID 0) :=
    ite_of a ((a.laneResume.setF _ u.pstat).setF _ u.cal)
  generalize (if m.on F.PWR_STAT.PLLON then m else (m.laneResume.setF F.PWR_STAT.PLLON 1).setF F.CLK_ACLKCAL.VALID 0) = m' at b ⊢
  split
  · refine Keeps.upPwr' ?_ rfl rfl rfl
    exact (b.setF _ u.cstat).setF _ u.pstat
  · exact b

theorem Keeps.beginExit : Keeps P k (n.beginExit d) := by
  unfold Lane.beginExit
  refine Keeps.upPwr' ?_ rfl rfl rfl
  exact ((h.clkWake u d).setDom 4 u.stat u.cstat).setF _ u.stat

theorem Keeps.beginEntry (tgt : Nat) : Keeps P k (n.beginEntry d tgt) := by
  unfold Lane.beginEntry
  refine Keeps.upPwr' ?_ rfl rfl rfl
  exact (h.setDom 3 u.stat u.cstat).setF _ u.stat

/-- A wake of `d` reaches nothing that is watched. -/
theorem Keeps.wake : Keeps P k (n.wake d) := by
  unfold Lane.wake
  have a := h.idleRestart u.lat
  generalize n.idleRestart d = m at a ⊢
  simp only
  split
  · exact a
  · split
    · exact a.beginExit u
    · exact a.beginExit u
    · split
      · generalize (if Cells.get 0 m.pwr.leaving d = 1 then 1 else 0) = st
        have b : Keeps P k ((m.setDom d st).setFs [(F.PWR_Dd_STAT.TARGET d, 0), (F.PWR_Dd_STAT.PVAL d, 0), (F.PWR_Dd_STAT.PEND d, 0)]) :=
          (((a.setDom st u.stat u.cstat).setF _ u.stat).setF _ u.stat).setF _ u.stat
        have c := (b.stepSat (r := F.PWR_Dd_CNT.ABORTS d) u.cnt).pwrEvt (flag := F.PWR_EVT.ABORT) rfl u.evt d
        split
        · exact c.beginExit u
        · exact c
      · refine a.upPwr rfl (fun _ _ => rfl) fun e he => ?_
        have hne : e ≠ d := fun x => u.lat (x ▸ he)
        simp only
        split <;> simp [hne]
    · exact a

theorem Keeps.latchReq (tgt : Nat) : Keeps P k (n.latchReq d tgt) := by
  unfold Lane.latchReq
  simp only
  split
  · exact h
  · split
    · exact (((h.stepSat u.cnt).pwrEvt rfl u.evt d).setF _ u.stat).setF _ u.stat
    · exact (h.setF _ u.stat).setF _ u.stat

/-- The evaluation of `d` reaches nothing that is watched. -/
theorem Keeps.evalDom : Keeps P k (n.evalDom d) := by
  unfold Lane.evalDom
  have a := h.setF (r := F.PWR_Dd_STAT.HELD d) (if n.held d then 1 else 0) u.stat
  generalize n.setF (F.PWR_Dd_STAT.HELD d) (if n.held d then 1 else 0) = m at a ⊢
  simp only
  generalize m.targetOf d = tgt
  split
  · exact ite_of a (a.beginEntry u _)
  · exact ite_of (a.wake u) (ite_of (a.beginEntry u _) a)
  · exact ite_of a (a.wake u)
  · exact ite_of (a.wake u) (ite_of (a.wake u) (ite_of (a.latchReq u _) a))
  · exact ite_of a (a.latchReq u _)
end

section
variable {P : Nat → Prop} {k n : Lane} (u : Unwatched P dCORE) (h : Keeps P k n)
include u h

theorem Keeps.wakeCore (flag : FRef) : Keeps P k (n.wakeCore flag) := by
  unfold Lane.wakeCore
  split
  · exact h.wake u
  · exact Keeps.wake u (h.upPwr' rfl rfl rfl)

/-- An event that may wake CORE. -/
theorem Keeps.eventW (e : Nat) (data : W32) : Keeps P k (n.eventW e data) := by
  unfold Lane.eventW
  exact ite_of ((h.event e data).wakeCore u _) (h.event e data)
end

/-- The holds of a domain are judged anew: what happens to `d` reaches nothing that is watched. -/
theorem Keeps.holdStep {P : Nat → Prop} {k n : Lane} {d : Nat} (u : Unwatched P d) (h : Keeps P k n) :
    Keeps P k (if n.held d then (if n.domState d = 0 then n else if d = dCORE then n.wakeCore n.holdCause else n.wake d)
      else if n.domState d == 0 && n.pwr.idle.contains d then n.evalDom d else n) := by
  by_cases hd : d = dCORE
  · subst hd
    exact ite_of (ite_of h (ite_of (h.wakeCore u _) (h.wake u))) (ite_of (h.evalDom u) h)
  · rw [if_neg hd]
    exact ite_of (ite_of h (h.wake u)) (ite_of (h.evalDom u) h)

/-- Judging every hold anew leaves what lies outside the power controller. -/
theorem Keeps.checkHolds {P : Nat → Prop} {k n : Lane} (hp : Avoids P 0x001000 0x003000) (h : Keeps P k n) : Keeps P k n.checkHolds := by
  unfold Lane.checkHolds
  refine Keeps.each _ h fun d hd m hm => hm.holdStep ⟨?_, ?_, ?_⟩
  · exact fun a ha => by have := hp a ha; omega
  · exact fun a ha => by have := hp a ha; omega
  · intro a ha
    have h9 : d < 9 := by simp only [List.mem_cons, List.not_mem_nil, or_false] at hd; omega
    have := hp a ha
    unfold R.PWR_Dd_LAT
    omega

end Sys2Proof.Machine
end

section
/-! SUPPORT. What the link ports, the safety outputs and the states of groups leave: they write registers of their own blocks, raise
messages and wake CORE. -/

namespace Sys2Proof.Machine

/-! ## Ports (R277 to R279) -/

theorem Keeps.setTport {P : Nat → Prop} {k n : Lane} (h : Keeps P k n) (p : Nat) (x : TpePort) : Keeps P k (n.setTport p x) :=
  h.same rfl rfl rfl rfl

theorem Keeps.cutOwn {P : Nat → Prop} {k n : Lane} (h : Keeps P k n) (p : Nat) : Keeps P k (n.cutOwn p) := by
  unfold Lane.cutOwn
  exact h.setTport _ _

theorem Keeps.dropForward {P : Nat → Prop} {k n : Lane} (h : Keeps P k n) (p : Nat) : Keeps P k (n.dropForward p) := by
  unfold Lane.dropForward
  exact (h.setTport _ _).setTport _ _

section
variable {P : Nat → Prop} {k n : Lane} (c : Avoids P 0x05800C 0x058200) (h : Keeps P k n)
include c h

theorem Keeps.lnkEvent {flag : FRef} (hf : flag.off = R.TPE_LNKEVT) (kind p : Nat) : Keeps P k (n.lnkEvent flag kind p) := by
  have he : ¬ P R.TPE_LNKEVT := c.not (by decide) (by decide)
  unfold Lane.lnkEvent
  simp only
  refine Keeps.raise (ite_of h (Keeps.sqEvent (ite_of h ?_) (hf ▸ he))) _ _ _
  exact (h.setF 1 he).setF _ he

theorem Keeps.showSpan : Keeps P k n.showSpan := by
  have hs : ¬ P R.TPE_SPAN := c.not (by decide) (by decide)
  exact (h.setF _ hs).setF _ hs

theorem Keeps.cutForward {p : Nat} (hcut : ¬ P (R.TPE_PORTp_CUT p)) : Keeps P k (n.cutForward p) := by
  unfold Lane.cutForward Lane.endForward
  exact ite_of (Keeps.lnkEvent c (Keeps.stepSat ((h.setTport _ _).setTport _ _) hcut) rfl _ _) h

theorem Keeps.portDrop {p : Nat} (st : Nat) (hp : p < 4) : Keeps P k (n.portDrop p st) := by
  have hst : ¬ P (R.TPE_PORTp_STAT p) := c.not (by unfold R.TPE_PORTp_STAT; omega) (by unfold R.TPE_PORTp_STAT; omega)
  have hcut : ¬ P (R.TPE_PORTp_CUT p) := c.not (by unfold R.TPE_PORTp_CUT; omega) (by unfold R.TPE_PORTp_CUT; omega)
  unfold Lane.portDrop
  have a := ((h.cutForward c hcut).cutOwn p).dropForward p
  generalize ((n.cutForward p).cutOwn p).dropForward p = m at a ⊢
  have b := Keeps.showSpan c ((a.setTport p { m.tport p with rx := [], rng := none, span := 0, reply := none }).setF
    (r := F.TPE_PORTp_STAT.STATE p) st hst)
  exact ite_of (Keeps.lnkEvent c (b.stepSat hcut) rfl _ _) b

/-- Ports that follow their domains leave everything but their own registers. -/
theorem Keeps.portsFollow : Keeps P k n.portsFollow := by
  unfold Lane.portsFollow
  refine Keeps.each _ h fun p hp m hm => ?_
  have hp : p < 4 := by simp only [List.mem_cons, List.not_mem_nil, or_false] at hp; omega
  have hst : ¬ P (R.TPE_PORTp_STAT p) := c.not (by unfold R.TPE_PORTp_STAT; omega) (by unfold R.TPE_PORTp_STAT; omega)
  exact ite_of (hm.setF _ hst) (ite_of (hm.portDrop c _ hp) hm)
end

/-! ## Catches, the chopper and group states (R113, R213, R216) -/

section
variable {P : Nat → Prop} {k n : Lane} (c : Avoids P 0x028000 0x030000) (h : Keeps P k n)
include c h

theorem Keeps.cfeEvent {flag : FRef} (hf : flag.off = R.CFE_EVT) (g kind : Nat) : Keeps P k (n.cfeEvent flag g kind) := by
  have a := h.sqEventOnce (r := flag) (hf ▸ c.not (by decide) (by decide))
  unfold Lane.cfeEvent
  exact ite_of (a.raise _ _ _) (ite_of (a.raise _ _ _) (a.raise _ _ _))

theorem Keeps.catchEnd {g : Nat} (hg : g < 2) (res : Nat) (a0 : Int) : Keeps P k (n.catchEnd g res a0) := by
  have hstat : ¬ P (R.CFE_Gg_STAT g) := c.not (by unfold R.CFE_Gg_STAT; omega) (by unfold R.CFE_Gg_STAT; omega)
  have hcat : ¬ P (R.CFE_Gg_CATSTAT g) := c.not (by unfold R.CFE_Gg_CATSTAT; omega) (by unfold R.CFE_Gg_CATSTAT; omega)
  have hper : ¬ P (R.CFE_Gg_CATPER g) := c.not (by unfold R.CFE_Gg_CATPER; omega) (by unfold R.CFE_Gg_CATPER; omega)
  have hamp : ¬ P (R.CFE_Gg_CATAMP g) := c.not (by unfold R.CFE_Gg_CATAMP; omega) (by unfold R.CFE_Gg_CATAMP; omega)
  unfold Lane.catchEnd
  simp only
  split
  · exact h
  · next x _ =>
    refine ite_of (p := Keeps P k) (Keeps.cfeEvent c ?_ rfl _ _) ?_ <;>
    · refine Keeps.sqEvent (Keeps.wr (Keeps.wr (Keeps.setF (Keeps.setF (Keeps.setF ?_ _ hstat) _ hcat) _ hcat) _ hper) _ hamp) hcat
      exact ite_of (h.same rfl rfl rfl rfl) (h.same rfl rfl rfl rfl)

theorem Keeps.catchCheck {g : Nat} (hg : g < 2) : Keeps P k (n.catchCheck g) := by
  unfold Lane.catchCheck
  exact ite_of h (h.catchEnd c hg _ _)

theorem Keeps.chopCheck : Keeps P k n.chopCheck := by
  unfold Lane.chopCheck
  simp only
  have hs : ¬ P R.CFE_STAT := c.not (by decide) (by decide)
  refine ite_of (p := Keeps P k) (ite_of (p := Keeps P k) (Keeps.cfeEvent c ?_ rfl _ _) ?_) h <;>
  · refine Keeps.setF (r := F.CFE_STAT.CHSTATE) ?_ _ hs
    exact h.same rfl rfl rfl rfl

omit h in
/-- A group takes a state: beside the state, at most registers of the CFE change. -/
theorem Lane.setGrp_keeps {g : Nat} (st : Nat) (hg : g < 3) : Keeps P (n.setF (grpField g) st) (n.setGrp g st) := by
  unfold Lane.setGrp
  simp only
  split
  · exact (Keeps.refl _ _).chopCheck c
  · exact (Keeps.refl _ _).catchCheck c (by omega)
end

theorem Keeps.schedOvr {P : Nat → Prop} {k n : Lane} (h : Keeps P k n) (g : Nat) : Keeps P k (n.schedOvr g) :=
  Keeps.each _ h fun _ _ _ hm => hm.same rfl rfl rfl rfl

/-! ## Safety outputs (R379, R382, R390) -/

section
variable {P : Nat → Prop} {k n : Lane} (c : Avoids P 0x006000 0x007000) (h : Keeps P k n)
include c h

theorem Keeps.pairFollow {p : Nat} (hp : p < 4) : Keeps P k (n.pairFollow p) := by
  have hst : ¬ P (R.SAF_SINp_STAT p) := c.not (by unfold R.SAF_SINp_STAT; omega) (by unfold R.SAF_SINp_STAT; omega)
  have a : Keeps P k (n.pairRestart p) := by
    refine Keeps.setF (r := F.SAF_SINp_STAT.STATE p) ?_ _ hst
    exact h.same rfl rfl rfl rfl
  unfold Lane.pairFollow
  simp only
  exact Keeps.setF (Keeps.setF (ite_of a h) _ hst) _ hst

/-- Forming the safety outputs anew writes registers of SAF and the CFE, raises messages and may wake CORE. -/
theorem Keeps.safUpdate (cf : Avoids P 0x028000 0x030000) (u : Unwatched P dCORE) : Keeps P k n.safUpdate := by
  have hcmd : ¬ P R.SAF_SBOCMD := c.not (by decide) (by decide)
  have hstat : ¬ P R.SAF_STAT := c.not (by decide) (by decide)
  unfold Lane.safUpdate
  extract_lets was bitsOf m₁ m₂ permit m₃ m₄ w
  have k₁ : Keeps P k m₁ := Keeps.each _ h fun p hp m hm =>
    hm.pairFollow c (by simp only [List.mem_cons, List.not_mem_nil, or_false] at hp; omega)
  have k₂ : Keeps P k m₂ := Keeps.each _ k₁ fun i _ m hm => ite_of hm (hm.setBit _ _ hcmd)
  have k₃ : Keeps P k m₃ := Keeps.setFs _ (fun p hp => by
    simp only [List.mem_cons, List.not_mem_nil, or_false] at hp
    rcases hp with rfl | rfl | rfl | rfl | rfl <;> exact hstat) k₂
  have k₄ : Keeps P k m₄ := Keeps.each _ k₃ fun g hg m hm => ite_of (Keeps.catchEnd cf (ite_of (hm.raise _ _ _) hm)
    (by simp only [List.mem_cons, List.not_mem_nil, or_false] at hg; omega) _ _) hm
  clear_value m₄ w
  have k₅ := k₄.same (m := m₄.upSaf fun s => { s with shown := w }) rfl rfl rfl rfl
  exact ite_of k₄ (k₅.eventW u _ _)
end

end Sys2Proof.Machine
end

section
/-! SUPPORT. The power controller's choice of a target, and how entries and exits of a domain other than CORE end (R450, R451, R455). -/

namespace Sys2Proof.Machine

/-! ## What decides the target of a domain (R449, R450) -/

/-- The registers that hold a domain other than CORE (R449), with UPD_CTRL for the update engine. -/
def holdRegs : List Nat :=
  [R.LNT_ROLE, R.CLE_CTRL, R.CFE_CTRL, R.FBI_CTRL, R.PWM_CTRL, R.GDV_CTRL, R.ADC_CTRL, R.TPE_CTRL, R.TPE_LNKCTL, R.CAN_CTRL,
    R.CAN_Cc_MODE 0, R.CAN_Cc_MODE 1, R.UPD_CTRL]

/-- What the target of domain `d` is chosen from. -/
def decides (d a : Nat) : Prop := a = R.PWR_Dd_LAT d ∨ a = R.PWR_Dd_ALLOW d ∨ a = R.PWR_Dd_EXIT d ∨ a ∈ holdRegs

/-- That and the state of domain `d`. -/
def governs (d a : Nat) : Prop := a = R.PWR_Dd_STAT d ∨ decides d a

/-- The state of domain `d` and its idle count. -/
def stands (d a : Nat) : Prop := a = R.PWR_Dd_STAT d ∨ a = R.PWR_Dd_LAT d

theorem holdRegs_ge {a : Nat} (h : a ∈ holdRegs) : 0x007000 ≤ a ∧ a < 0x05800C ∨ 0x070000 ≤ a := by
  have all : ∀ a ∈ holdRegs, 0x007000 ≤ a ∧ a < 0x05800C ∨ 0x070000 ≤ a := by decide
  exact all a h

theorem Lane.held_eq {P : Nat → Prop} {n m : Lane} (h : Keeps P n m) (hp : ∀ a ∈ holdRegs, P a) {d : Nat} (hd : d ≠ dCORE) :
    m.held d = n.held d := by
  have hf : ∀ r : FRef, r.off ∈ holdRegs → m.f r = n.f r := fun r hr => h.f_eq (hp _ hr)
  have hu : m.upd = n.upd := h.upd (hp _ (by decide))
  unfold Lane.held Lane.on Lane.bit
  simp only [if_neg hd, hu, hf F.LNT_ROLE.ROLE (by decide), hf F.CLE_CTRL.EN (by decide), hf F.CFE_CTRL.EN (by decide),
    hf F.FBI_CTRL.EN (by decide), hf F.PWM_CTRL.EN (by decide), hf F.GDV_CTRL.EN (by decide), hf F.ADC_CTRL.EN (by decide),
    hf F.TPE_CTRL.EN (by decide), hf F.TPE_LNKCTL.PEN (by decide), hf F.CAN_CTRL.EN (by decide),
    hf (F.CAN_Cc_MODE.MODE 0) (by decide), hf (F.CAN_Cc_MODE.MODE 1) (by decide)]

theorem Lane.targetOf_eq {P : Nat → Prop} {n m : Lane} (h : Keeps P n m) {d : Nat} (hp : ∀ a, decides d a → P a) (hd : d ≠ dCORE) :
    m.targetOf d = n.targetOf d := by
  have hlat : P (R.PWR_Dd_LAT d) := hp _ (.inl rfl)
  have hallow : P (R.PWR_Dd_ALLOW d) := hp _ (.inr (.inl rfl))
  have hexit : P (R.PWR_Dd_EXIT d) := hp _ (.inr (.inr (.inl rfl)))
  have hh : m.held d = n.held d := Lane.held_eq h (fun a ha => hp a (.inr (.inr (.inr ha)))) hd
  unfold Lane.targetOf
  simp only [hh, h.idle d hlat, h.step, hd, false_implies, and_true,
    h.f_eq (r := F.PWR_Dd_LAT.LAT d) hlat, h.f_eq (r := F.PWR_Dd_EXIT.XOFF d) hexit, h.f_eq (r := F.PWR_Dd_EXIT.XRET d) hexit,
    h.on_eq (r := F.PWR_Dd_ALLOW.OFF d) hallow, h.on_eq (r := F.PWR_Dd_ALLOW.RET d) hallow]

theorem Lane.targetOf_le (n : Lane) (d : Nat) : n.targetOf d ≤ 2 := by
  unfold Lane.targetOf
  simp only
  split
  · omega
  · split
    · omega
    · split <;> omega

/-- The target of a domain that does not count as idle is ON. -/
theorem Lane.targetOf_busy {n : Lane} {d : Nat} (h : n.pwr.idle.contains d = false) : n.targetOf d = 0 := by
  unfold Lane.targetOf
  simp only [h, Bool.not_false, Bool.or_true, Bool.true_or, if_true]

theorem decides_stat (d : Nat) (hd : d < 9) : ¬ decides d (R.PWR_Dd_STAT d) := by
  rintro (h | h | h | h)
  · unfold R.PWR_Dd_STAT R.PWR_Dd_LAT at h; omega
  · unfold R.PWR_Dd_STAT R.PWR_Dd_ALLOW at h; omega
  · unfold R.PWR_Dd_STAT R.PWR_Dd_EXIT at h; omega
  · have := holdRegs_ge h
    unfold R.PWR_Dd_STAT at this; omega

/-- Where the offsets of `governs d` lie. -/
theorem governs_place {d a : Nat} (h : governs d a) : (R.PWR_Dd_LAT d ≤ a ∧ a < R.PWR_Dd_LAT d + 0x40) ∨
    0x007000 ≤ a ∧ a < 0x05800C ∨ 0x070000 ≤ a := by
  rcases h with h | h | h | h | h
  · left; subst h; unfold R.PWR_Dd_STAT R.PWR_Dd_LAT; omega
  · left; subst h; omega
  · left; subst h; unfold R.PWR_Dd_ALLOW R.PWR_Dd_LAT; omega
  · left; subst h; unfold R.PWR_Dd_EXIT R.PWR_Dd_LAT; omega
  · exact .inr (holdRegs_ge h)

theorem stands_governs {d a : Nat} (h : stands d a) : governs d a := by
  rcases h with h | h
  · exact .inl h
  · exact .inr (.inl h)

section
variable {d : Nat} (h9 : d < 9)
include h9

/-- What happens to another domain reaches nothing that governs `d`. -/
theorem governs_unwatched {e : Nat} (he : e ≠ d) (he9 : e < 9) : Unwatched (governs d) e := by
  refine ⟨fun a ha => ?_, fun a ha => ?_, fun a ha => ?_⟩ <;>
  · have := governs_place ha
    unfold R.PWR_Dd_LAT at *
    omega

theorem stands_unwatched {e : Nat} (he : e ≠ d) (he9 : e < 9) : Unwatched (stands d) e := by
  obtain ⟨h1, h2, h3⟩ := governs_unwatched h9 he he9
  exact ⟨fun a ha => h1 a (stands_governs ha), fun a ha => h2 a (stands_governs ha), fun a ha => h3 a (stands_governs ha)⟩
end

theorem governs_ports {d : Nat} (h9 : d < 9) : Avoids (governs d) 0x05800C 0x058200 := fun a ha => by
  have := governs_place ha
  unfold R.PWR_Dd_LAT at this
  omega

/-! ## Shared registers of the controller -/

section
variable {P : Nat → Prop} {k n : Lane} (u : Unwatched P dCORE) (h : Keeps P k n)
include u h

theorem Keeps.pwrNotify (d st : Nat) : Keeps P k (n.pwrNotify d st) := by
  unfold Lane.pwrNotify
  exact ite_of h (h.eventW u _ _)

theorem Keeps.clocksStop : Keeps P k n.clocksStop := by
  unfold Lane.clocksStop
  extract_lets m
  have a : Keeps P k m := h.upPwr' rfl rfl rfl
  refine ite_of (a.setFs _ fun p hp => ?_) a
  simp only [List.mem_cons, List.not_mem_nil, or_false] at hp
  rcases hp with rfl | rfl | rfl | rfl | rfl | rfl
  · exact u.cstat
  · exact u.pstat
  · exact u.cstat
  · exact u.cstat
  · exact u.pstat
  · exact u.cstat
end

/-! ## The state of a domain -/

theorem FRef.apart_of_off {r q : FRef} (h : r.off ≠ q.off) : r.apart q = true := by simp [FRef.apart, h]
theorem FRef.apart_below {r q : FRef} (h : r.hi < q.lo) : r.apart q = true := by simp [FRef.apart, h]
theorem FRef.apart_above {r q : FRef} (h : q.hi < r.lo) : r.apart q = true := by simp [FRef.apart, h]

theorem stat_ne_cstat {d : Nat} (hd : d < 9) : R.PWR_Dd_STAT d ≠ R.CLK_STAT := by unfold R.PWR_Dd_STAT R.CLK_STAT; omega

/-- STATE of a domain whose transition begins or ends. -/
theorem Lane.domState_setDom (n : Lane) {d st : Nat} (hd : d < 9) (hst : st < 8) : (n.setDom d st).domState d = st := by
  have h : ((n.resMark d).setF (F.PWR_Dd_STAT.STATE d) st).f (F.PWR_Dd_STAT.STATE d) = st := Lane.f_setF_eq _ _ rfl hst
  unfold Lane.setDom Lane.domState
  simp only
  split
  · rw [Lane.f_setF_apart _ _ rfl (FRef.apart_of_off (stat_ne_cstat hd)), h]
  · exact h

/-- The other fields of STAT stay as a transition begins or ends. -/
theorem Lane.f_setDom (n : Lane) {d : Nat} (st : Nat) (hd : d < 9) {r : FRef} (hr : r.off = R.PWR_Dd_STAT d) (hh : r.hi < 29) :
    (n.setDom d st).f r = n.f r := by
  have h : ((n.resMark d).setF (F.PWR_Dd_STAT.STATE d) st).f r = n.f r := by
    rw [Lane.f_setF_apart _ _ rfl (FRef.apart_below hh)]; rfl
  unfold Lane.setDom
  simp only
  split
  · rw [Lane.f_setF_apart _ _ rfl (FRef.apart_of_off (hr ▸ stat_ne_cstat hd)), h]
  · exact h

theorem Lane.f_beginEntry (n : Lane) (d tgt : Nat) :
    (n.beginEntry d tgt).f = ((n.setDom d 3).setF (F.PWR_Dd_STAT.TARGET d) tgt).f := Lane.f_of_regs rfl

theorem Lane.domState_beginEntry (n : Lane) {d : Nat} (tgt : Nat) (hd : d < 9) : (n.beginEntry d tgt).domState d = 3 := by
  unfold Lane.domState
  rw [Lane.f_beginEntry, Lane.f_setF_apart _ _ rfl (FRef.apart_above (show 28 < 29 by decide))]
  exact Lane.domState_setDom n hd (by decide)

theorem Lane.target_beginEntry (n : Lane) (d : Nat) {tgt : Nat} (ht : tgt < 4) : (n.beginEntry d tgt).f (F.PWR_Dd_STAT.TARGET d) = tgt := by
  rw [Lane.f_beginEntry]
  exact Lane.f_setF_eq _ _ rfl ht

/-- HELD is shown; STATE stays. -/
theorem Lane.domState_held (n : Lane) (d x : Nat) : (n.setF (F.PWR_Dd_STAT.HELD d) x).domState d = n.domState d :=
  Lane.f_setF_apart _ _ rfl (FRef.apart_above (show 8 < 29 by decide))

end Sys2Proof.Machine
end

section
/-! SUPPORT. How the transitions of a domain other than CORE begin and end (R450, R451, R455). -/

namespace Sys2Proof.Machine

/-! ## The idle count ends (R450) -/

/-- The target is OFF where nothing holds an idle domain and ALLOW and its latency permit it. -/
theorem Lane.targetOf_off {n : Lane} {d : Nat} (hd : d ≠ dCORE) (hh : n.held d = false) (hi : n.pwr.idle.contains d = true)
    (hs : 9 ≤ n.sys.step) (ha : n.on (F.PWR_Dd_ALLOW.OFF d) = true) (h0 : n.f (F.PWR_Dd_LAT.LAT d) ≠ 0)
    (hx : n.f (F.PWR_Dd_EXIT.XOFF d) ≤ n.f (F.PWR_Dd_LAT.LAT d)) : n.targetOf d = 2 := by
  unfold Lane.targetOf
  simp only [hh, hi, h0, ha, hd, hx, Nat.not_lt.2 hs, or_true, and_self, Bool.not_true, Bool.or_self, decide_false,
    Bool.false_eq_true, if_false, if_true, false_implies]

/-- The evaluation of a domain that is ON with target OFF begins its entry. -/
theorem Lane.evalDom_off {n : Lane} {d : Nat} (hd : d ≠ dCORE) (h9 : d < 9) (hon : n.domState d = 0) (ht : n.targetOf d = 2) :
    ∃ m : Lane, n.evalDom d = m.beginEntry d 2 := by
  have hk : Keeps (decides d) n (n.setF (F.PWR_Dd_STAT.HELD d) (if n.held d then 1 else 0)) :=
    (Keeps.refl _ _).setF _ (decides_stat d h9)
  unfold Lane.evalDom
  simp only [Lane.domState_held, hon, Lane.targetOf_eq hk (fun _ h => h) hd, ht]
  exact ⟨_, rfl⟩

/-- The end of the idle count of a domain that may turn OFF begins its entry. -/
theorem idleExpiry_enters {n : Lane} {d : Nat} (hd : d ≠ dCORE) (h9 : d < 9) (hon : n.domState d = 0) (hh : n.held d = false)
    (hs : 9 ≤ n.sys.step) (ha : n.on (F.PWR_Dd_ALLOW.OFF d) = true) (h0 : n.f (F.PWR_Dd_LAT.LAT d) ≠ 0)
    (hx : n.f (F.PWR_Dd_EXIT.XOFF d) ≤ n.f (F.PWR_Dd_LAT.LAT d)) :
    (idleExpiry d n).domState d = 3 ∧ (idleExpiry d n).f (F.PWR_Dd_STAT.TARGET d) = 2 := by
  unfold idleExpiry
  set m := n.upPwr fun x => { x with idle := if x.idle.contains d then x.idle else d :: x.idle } with hm
  have hi : m.pwr.idle.contains d = true := by
    show (if n.pwr.idle.contains d then n.pwr.idle else d :: n.pwr.idle).contains d = true
    split
    · assumption
    · simp
  have hheld : m.held d = false := by rw [← hh, hm]; unfold Lane.held; simp only [if_neg hd]; rfl
  obtain ⟨k, hk⟩ := Lane.evalDom_off hd h9 (n := m) hon (Lane.targetOf_off hd hheld hi hs ha h0 hx)
  rw [hk]
  exact ⟨k.domState_beginEntry 2 h9, k.target_beginEntry d (by decide)⟩

/-! ## An exit past its bound (R455) -/

theorem Lane.f_stepSat {n : Lane} {r : FRef} (hr : r.ok = true) :
    (n.stepSat r).f r = min (2 ^ (r.hi + 1 - r.lo) - 1) (n.f r + 1) := by
  have hlt : n.f r < 2 ^ (r.hi + 1 - r.lo) := bits_lt _ _ _
  unfold Lane.stepSat
  simp only
  split
  · next h => rw [Lane.f_setF_eq _ _ hr h]; omega
  · omega

/-- An exit past its bound is counted, and repeated: the domain stays EXITING. -/
theorem exitTimeout_repeats {n : Lane} {d : Nat} (hst : n.domState d = 4) (ht : n.sys.selfTest = none)
    (hdue : Cells.get 0 n.pwr.dueT d ≤ n.now) :
    (exitTimeout d n).domState d = 4 ∧ (exitTimeout d n).f (F.PWR_Dd_CNT.FAILS d) = min 255 (n.f (F.PWR_Dd_CNT.FAILS d) + 1) := by
  have hstat : R.PWR_Dd_STAT d ≠ R.PWR_Dd_CNT d := by unfold R.PWR_Dd_STAT R.PWR_Dd_CNT; omega
  have hse : R.PWR_EVT ≠ R.PWR_Dd_STAT d := by unfold R.PWR_Dd_STAT R.PWR_EVT; omega
  have hce : R.PWR_EVT ≠ R.PWR_Dd_CNT d := by unfold R.PWR_Dd_CNT R.PWR_EVT; omega
  have tested : (n.sys.selfTest.any fun t => t.domains.contains d) = false := by rw [ht]; rfl
  have k₁ : Keeps (· = R.PWR_Dd_STAT d) n (n.stepSat (F.PWR_Dd_CNT.FAILS d)) := (Keeps.refl _ _).stepSat (Ne.symm hstat)
  have k₂ : Keeps (fun a => a = R.PWR_Dd_STAT d ∨ a = R.PWR_Dd_CNT d) (n.stepSat (F.PWR_Dd_CNT.FAILS d)) (exitTimeout d n) := by
    unfold exitTimeout
    rw [if_pos ⟨hst, tested, .inl hdue⟩]
    refine Keeps.upPwr' ?_ rfl rfl rfl
    exact ((Keeps.refl _ _).pwrEvt rfl (not_or.2 ⟨hse, hce⟩) d).raise _ _ _
  refine ⟨?_, ?_⟩
  · exact (k₂.f_eq (r := F.PWR_Dd_STAT.STATE d) (.inl rfl)).trans ((k₁.f_eq rfl).trans hst)
  · exact (k₂.f_eq (r := F.PWR_Dd_CNT.FAILS d) (.inr rfl)).trans (Lane.f_stepSat rfl)

/-! ## A domain at its target (R450) -/

/-- The domain reads a state that is its target. -/
def Lane.settled (n : Lane) (d st : Nat) : Prop := n.domState d = st ∧ n.targetOf d = st

/-- What keeps the registers that govern a domain keeps it settled. -/
theorem Keeps.settled {n m : Lane} {d st : Nat} (h : Keeps (governs d) n m) (hd : d ≠ dCORE) (hs : n.settled d st) : m.settled d st :=
  ⟨(h.f_eq (.inl rfl)).trans hs.1, (Lane.targetOf_eq h (fun _ ha => .inr ha) hd).trans hs.2⟩

/-- The evaluation of a settled domain shows HELD and does nothing else. -/
theorem Lane.evalDom_settled {n : Lane} {d st : Nat} (hd : d ≠ dCORE) (h9 : d < 9) (h2 : st ≤ 2) (hs : n.settled d st) :
    n.evalDom d = n.setF (F.PWR_Dd_STAT.HELD d) (if n.held d then 1 else 0) := by
  have hk : Keeps (decides d) n (n.setF (F.PWR_Dd_STAT.HELD d) (if n.held d then 1 else 0)) :=
    (Keeps.refl _ _).setF _ (decides_stat d h9)
  unfold Lane.evalDom
  simp only [Lane.domState_held, Lane.targetOf_eq hk (fun _ h => h) hd, hs.1, hs.2]
  have : st = 0 ∨ st = 1 ∨ st = 2 := by omega
  rcases this with rfl | rfl | rfl <;> rfl

theorem Lane.settled_evalAll {n : Lane} {d st : Nat} (hd : d ≠ dCORE) (h9 : d < 9) (h2 : st ≤ 2) (hs : n.settled d st) :
    n.evalAll.settled d st := by
  refine forEach_keeps (I := fun m => m.settled d st) _ hs fun e he m hm => ?_
  have he9 : e < 9 := by simp only [List.mem_cons, List.not_mem_nil, or_false] at he; omega
  by_cases hed : e = d
  · subst hed
    rw [Lane.evalDom_settled hd he9 h2 hm]
    exact ⟨(Lane.domState_held _ _ _).trans hm.1,
      (Lane.targetOf_eq ((Keeps.refl (decides e) m).setF _ (decides_stat e he9)) (fun _ h => h) hd).trans hm.2⟩
  · exact ((Keeps.refl _ _).evalDom (governs_unwatched h9 hed he9)).settled hd hm

/-! ## An entry ends (R451) -/

/-- An entry into the state that is still the target completes: no late wake, no latched request. -/
theorem entryComplete_enters {n : Lane} {d : Nat} (hd : d ≠ dCORE) (h9 : d < 9) (hst : n.domState d = 3)
    (hdue : Cells.get 0 n.pwr.entT d + 400 ≤ n.now) (hlate : n.pwr.late.contains d = false)
    (hpv : n.on (F.PWR_Dd_STAT.PVAL d) = false) (ht : n.targetOf d = n.f (F.PWR_Dd_STAT.TARGET d)) :
    (entryComplete d n).domState d = n.f (F.PWR_Dd_STAT.TARGET d) := by
  have u0 : Unwatched (governs d) dCORE := governs_unwatched h9 (Ne.symm hd) (by decide)
  unfold entryComplete
  rw [if_pos ⟨hst, hdue⟩]
  extract_lets st m₁ m₂ late m₃ m₄
  change n.targetOf d = st at ht
  change _ = st
  have h2 : st ≤ 2 := ht ▸ n.targetOf_le d
  have k₁ : Keeps (decides d) n (n.setDom d st) :=
    (Keeps.refl _ _).setDom st (decides_stat d h9) fun h => u0.cstat (.inr h)
  have s₀ : (n.setDom d st).settled d st :=
    ⟨n.domState_setDom h9 (by omega), (Lane.targetOf_eq k₁ (fun _ h => h) hd).trans ht⟩
  have k₂ : Keeps (governs d) (n.setDom d st) m₂ := ((Keeps.refl _ (n.setDom d st)).portsFollow (governs_ports h9)).pwrNotify u0 d st
  have hl : late = false := (k₂.late d (.inr (.inl rfl))).trans ((k₁.late d (.inl rfl)).trans hlate)
  have hpv₂ : m₂.on (F.PWR_Dd_STAT.PVAL d) = false := by
    rw [k₂.on_eq (.inl rfl), ← hpv]
    unfold Lane.on
    rw [Lane.f_setDom n st h9 rfl (show 26 < 29 by decide)]
  have h₄ : m₄ = m₃ := by
    show (if late then _ else m₃.applyPend d) = m₃
    rw [hl, if_neg Bool.false_ne_true]
    unfold Lane.applyPend
    rw [if_neg]
    exact ne_of_eq_of_ne hpv₂ Bool.false_ne_true
  have s₃ : m₃.settled d st := ((k₂.settled hd s₀) : m₂.settled d st)
  rw [h₄]
  exact (((Keeps.refl _ _).clocksStop u0).settled hd (Lane.settled_evalAll hd h9 h2 s₃)).1

/-! ## An exit ends (R447, R455) -/

/-- The domain is ON and busy, and no access waits. -/
structure Lane.back (n : Lane) (d : Nat) : Prop where
  on      : n.domState d = 0
  busy    : n.pwr.idle.contains d = false
  nothing : n.pwr.stalled = []

theorem Keeps.back {n m : Lane} {d : Nat} (h : Keeps (stands d) n m) (hb : n.back d) : m.back d :=
  ⟨(h.f_eq (.inl rfl)).trans hb.on, (h.idle d (.inr rfl)).trans hb.busy, h.stalled.trans hb.nothing⟩

theorem Lane.back_evalDom {n : Lane} {d e : Nat} (hd : d ≠ dCORE) (h9 : d < 9) (he : e < 9) (hb : n.back d) : (n.evalDom e).back d := by
  by_cases hed : e = d
  · subst hed
    rw [Lane.evalDom_settled hd he (by decide) ⟨hb.on, Lane.targetOf_busy hb.busy⟩]
    exact ⟨(Lane.domState_held _ _ _).trans hb.on, hb.busy, hb.nothing⟩
  · exact ((Keeps.refl _ _).evalDom (stands_unwatched h9 hed he)).back hb

theorem Lane.back_evalAll {n : Lane} {d : Nat} (hd : d ≠ dCORE) (h9 : d < 9) (hb : n.back d) : n.evalAll.back d :=
  forEach_keeps (I := fun m => m.back d) _ hb fun e he _ hm =>
    Lane.back_evalDom hd h9 (by simp only [List.mem_cons, List.not_mem_nil, or_false] at he; omega) hm

/-- Judging the holds anew leaves a domain that is ON and busy. -/
theorem Lane.back_checkHolds {n : Lane} {d : Nat} (h9 : d < 9) (hb : n.back d) : n.checkHolds.back d := by
  refine forEach_keeps (I := fun m => m.back d) _ hb fun e he m hm => ?_
  have he9 : e < 9 := by simp only [List.mem_cons, List.not_mem_nil, or_false] at he; omega
  by_cases hed : e = d
  · subst hed
    simp only [hm.on, hm.busy, Bool.and_false, if_true, Bool.false_eq_true, if_false, ite_self]
    exact hm
  · exact ((Keeps.refl _ m).holdStep (stands_unwatched h9 hed he9)).back hm

/-- With no access waiting, a replay moves at most the instant of a waiting load. -/
theorem Lane.back_replay {n : Lane} {d : Nat} (hb : n.back d) : n.replay.back d := by
  have h : (n.upPwr fun x => { x with stalled := [] }).back d := ⟨hb.on, hb.busy, rfl⟩
  unfold Lane.replay
  simp only [hb.nothing, forEach_nil]
  split
  · exact h
  · exact ite_of (p := fun m : Lane => m.back d) ⟨h.on, h.busy, h.nothing⟩ h

/-! ## UPD takes a fragment (R425) -/

section
variable {P : Nat → Prop} {k n : Lane} (c : Avoids P 0x080000 0x090000) (u : Unwatched P dCORE) (h : Keeps P k n)
include c u h

theorem Keeps.setX (x : Nat) : Keeps P k (n.setX x) := by
  have hs : ¬ P R.UPD_STAT := c.not (by decide) (by decide)
  unfold Lane.setX Lane.updEvent
  exact ite_of h (Keeps.eventW u (h.setF _ hs) _ _)

theorem Keeps.newXfer (tag : Nat) : Keeps P k (n.newXfer tag) := by
  have hx : ¬ P R.UPD_XFER := c.not (by decide) (by decide)
  have hs : ¬ P R.UPD_STAT := c.not (by decide) (by decide)
  have hc : ¬ P R.UPD_CTRL := c.not (by decide) (by decide)
  unfold Lane.newXfer
  extract_lets m₁ m₂
  have k₁ : Keeps P k m₁ := by
    show Keeps P k (match n.upd.xfer with | some x => _ | none => n)
    split
    · split
      · exact ite_of (h.upUpd _ hc) (h.same rfl rfl rfl rfl)
      · exact h
    · exact h
  exact Keeps.setX c u ((((k₁.upUpd _ hc).setF _ hx).setF _ hx).setF _ hx |>.setF _ hs) _

theorem Keeps.fragReceive (ws : List W32) : Keeps P k (n.fragReceive ws) := by
  have hc : ¬ P R.UPD_CTRL := c.not (by decide) (by decide)
  unfold Lane.fragReceive Lane.withXfer
  extract_lets w0 key m₁ m₂ fr
  have k₁ : Keeps P k m₁ := ite_of (h.newXfer c u _) h
  have k₂ : Keeps P k m₂ := ite_of k₁ (k₁.upUpd _ hc)
  exact ite_of (k₂.upUpd _ hc) (k₂.upUpd _ hc)
end

theorem stands_upd {d : Nat} (h9 : d < 9) : Avoids (stands d) 0x080000 0x090000 := fun a ha => by
  rcases ha with ha | ha
  · subst ha; unfold R.PWR_Dd_STAT; omega
  · subst ha; unfold R.PWR_Dd_LAT; omega

theorem Lane.back_updTake {n : Lane} {d : Nat} (hd : d ≠ dCORE) (h9 : d < 9) (hb : n.back d) : n.updTake.back d := by
  have hc := stands_upd h9
  have hu : Unwatched (stands d) dCORE := stands_unwatched h9 (Ne.symm hd) (by decide)
  unfold Lane.updTake
  exact Lane.back_checkHolds h9 ((Keeps.fragReceive hc hu ((Keeps.refl _ _).upUpd _ (hc.not (by decide) (by decide))) _).back hb)

/-- The exit from RET of a domain whose clocks are there completes with the domain ON. -/
theorem exitComplete_on {n : Lane} {d : Nat} (hd : d ≠ dCORE) (h9 : d < 9) (hst : n.domState d = 4) (hstep : 9 ≤ n.sys.step)
    (ht : n.sys.selfTest = none) (hq : n.pwr.stalled = []) (hpv : n.on (F.PWR_Dd_STAT.PVAL d) = false)
    (hret : Cells.get 0 n.pwr.leaving d = 1) (hlock : n.on F.CLK_STAT.LOCK = true) (href : n.on F.CLK_STAT.REF = true)
    (hgl : n.on F.CLK_STAT.GLIDE = false) (hdue : Cells.get 0 n.pwr.exitT d + 400 * n.f (F.PWR_Dd_EXIT.XRET d) ≤ n.now) :
    (exitComplete d n).domState d = 0 := by
  have u0 : Unwatched (stands d) dCORE := stands_unwatched h9 (Ne.symm hd) (by decide)
  have hp : Avoids (stands d) 0x05800C 0x058200 := fun a ha => governs_ports h9 a (stands_governs ha)
  unfold exitComplete
  extract_lets off x tested clocks m₀ m₁ m₂ m₃ m₄ m₅ m₆ m₇
  have hoff : off = false := by show (Cells.get 0 n.pwr.leaving d == 2) = false; rw [hret]; rfl
  have htested : tested = false := by show (n.sys.selfTest.any fun t => t.domains.contains d) = false; rw [ht]; rfl
  have hclocks : clocks = true := by
    show (n.on F.CLK_STAT.LOCK && (!xoClass d || (n.on F.CLK_STAT.REF && !n.on F.CLK_STAT.GLIDE))) = true
    rw [hlock, href, hgl]; simp
  have hx : x = n.f (F.PWR_Dd_EXIT.XRET d) := by show (if off then _ else _) = _; rw [hoff, if_neg Bool.false_ne_true]
  rw [if_pos ⟨hst, hstep, htested, hclocks, hx ▸ hdue, fun h => hd h.1⟩]
  have h₀ : m₀ = n := by show (if off then _ else n) = n; rw [hoff, if_neg Bool.false_ne_true]
  have k₁ : Keeps (stands d) (n.setDom d 0) m₁ := by
    show Keeps (stands d) (n.setDom d 0) (m₀.setDom d 0).portsFollow
    rw [h₀]
    exact (Keeps.refl _ _).portsFollow hp
  have k₂ : Keeps (stands d) (n.setDom d 0) m₂ := ite_of (k₁.same rfl rfl rfl rfl) k₁
  have h₄ : m₄ = m₂ := by
    show (if d = dCORE then _ else if off && d == dCFE then _ else m₂) = m₂
    rw [if_neg hd, hoff, Bool.false_and, if_neg Bool.false_ne_true]
  have k₄ : Keeps (stands d) (n.setDom d 0) (m₄.pwrNotify d 0) := by
    rw [h₄]
    exact k₂.pwrNotify u0 d 0
  have hpv₅ : m₅.on (F.PWR_Dd_STAT.PVAL d) = false := by
    refine (k₄.on_eq (.inl rfl)).trans ?_
    rw [← hpv]
    unfold Lane.on
    rw [Lane.f_setDom n 0 h9 rfl (show 26 < 29 by decide)]
  have b₅ : m₅.back d := ⟨(k₄.f_eq (.inl rfl)).trans (n.domState_setDom h9 (by decide)), by simp [m₅, Lane.idleRestart],
    k₄.stalled.trans (((Keeps.refl (fun _ => False) n).setDom 0 id id).stalled.trans hq)⟩
  have b₆ : m₆.back d := by
    have : m₆ = m₅ := by
      show m₅.applyPend d = m₅
      unfold Lane.applyPend
      rw [hpv₅, if_neg Bool.false_ne_true]
    rw [this]
    exact b₅
  have b₇ : m₇.back d := ite_of (p := fun m : Lane => m.back d) (Lane.back_updTake hd h9 b₆) b₆
  exact (Lane.back_checkHolds h9 (Lane.back_replay (Lane.back_evalAll hd h9 b₇))).on

end Sys2Proof.Machine
end

section
/-! SUPPORT. What a rejected access records (R89, R92), as the statements say it. -/

namespace Sys2Proof.Machine

/-! ## Words under writes of fields -/

theorem Lane.setF_congr {n m : Lane} (h : m.rd = n.rd) (r : FRef) (x : Nat) : (m.setF r x).rd = (n.setF r x).rd := by
  funext b
  rw [Lane.rd_setF, Lane.rd_setF, h]

theorem Lane.setFs_congr (ps : List (FRef × Nat)) : ∀ {n m : Lane}, m.rd = n.rd → (m.setFs ps).rd = (n.setFs ps).rd := by
  induction ps with
  | nil => exact fun h => h
  | cons p ps ih => exact fun h => ih (Lane.setF_congr h p.1 p.2)

theorem Lane.setFs_append (n : Lane) (ps qs : List (FRef × Nat)) : n.setFs (ps ++ qs) = (n.setFs ps).setFs qs := List.foldl_append ..

theorem Lane.f_setFs_apart (ps : List (FRef × Nat)) {q : FRef} (h : ∀ p ∈ ps, p.1.ok = true ∧ q.apart p.1 = true) :
    ∀ n : Lane, (n.setFs ps).f q = n.f q := by
  induction ps with
  | nil => exact fun _ => rfl
  | cons p ps ih =>
    intro n
    rw [Lane.setFs_cons, ih fun x hx => h x (by simp [hx]), Lane.f_setF_apart _ _ (h p (by simp)).1 (h p (by simp)).2]

/-- A word with a field set to its own value is that word. -/
theorem setBits_bits (v : W32) (hi lo : Nat) : setBits v hi lo (bits v hi lo) = v := by
  have h1 : bits v hi lo % 2 ^ (hi + 1 - lo) = bits v hi lo := Nat.mod_eq_of_lt (bits_lt v hi lo)
  have h2 : bits v hi lo * 2 ^ lo ≤ v.toNat := by
    unfold bits
    rw [Nat.shiftRight_eq_div_pow]
    exact (Nat.mul_le_mul_right _ (Nat.mod_le _ _)).trans (Nat.div_mul_le_self _ _)
  unfold setBits
  rw [h1, Nat.sub_add_cancel h2]
  simp

theorem Lane.rd_setF_own (n : Lane) (r : FRef) : (n.setF r (n.f r)).rd = n.rd := by
  funext b
  rw [Lane.rd_setF]
  split
  · next h => subst h; exact setBits_bits _ _ _
  · rfl

/-- A saturating step writes the field one higher, or at its largest value. -/
theorem Lane.rd_stepSat (n : Lane) (r : FRef) : (n.stepSat r).rd = (n.setFs [n.counted r]).rd := by
  have hlt : n.f r < 2 ^ (r.hi + 1 - r.lo) := bits_lt _ _ _
  unfold Lane.stepSat Lane.counted
  simp only [Lane.setFs_cons, Lane.setFs_nil]
  split
  · next h => rw [Nat.min_eq_right (by omega)]
  · next h =>
    have : min (2 ^ (r.hi + 1 - r.lo) - 1) (n.f r + 1) = n.f r := by omega
    rw [this, Lane.rd_setF_own]

/-- An event sets its flag and steps SEQ. -/
theorem Lane.rd_sqEvent (n : Lane) {flag : FRef} (hf : flag.ok = true) (ha : 7 < flag.lo) :
    (n.sqEvent flag).rd = (n.setFs (n.recorded flag)).rd := by
  have hq : (n.setF flag 1).f ⟨flag.off, 7, 0⟩ = n.f ⟨flag.off, 7, 0⟩ := Lane.f_setF_apart _ _ hf (FRef.apart_below ha)
  have h256 : n.f ⟨flag.off, 7, 0⟩ < 256 := bits_lt _ _ _
  have hn : nextSeq (n.f ⟨flag.off, 7, 0⟩) = if n.f ⟨flag.off, 7, 0⟩ = 255 then 1 else n.f ⟨flag.off, 7, 0⟩ + 1 := by
    unfold nextSeq
    split <;> split <;> omega
  unfold Lane.sqEvent Lane.seqStep Lane.recorded
  rw [hq, hn]
  rfl

/-! ## Rejections -/

/-- What describes the first rejected access since the last clear. -/
def Lane.firstReject (n : Lane) (kind org off : Nat) (write : Bool) (strobe : Nat) : List (FRef × Nat) :=
  if n.on F.SYS_REGERR.FLAG then [] else
    [(F.SYS_REGERR.KIND, kind), (F.SYS_REGERR.ORIGIN, org), (F.SYS_REGERR.WRITE, b1 write), (F.SYS_REGADR.STROBE, strobe),
      (F.SYS_REGADR.OFFSET, off)]

/-- The fields a rejection writes. -/
def Lane.rejection (n : Lane) (kind org off : Nat) (write : Bool) (strobe : Nat) : List (FRef × Nat) :=
  n.firstReject kind org off write strobe ++ [n.counted F.SYS_REGERR.COUNT] ++ n.recorded F.SYS_REGERR.FLAG

theorem Lane.f_firstReject (n : Lane) (kind org off : Nat) (write : Bool) (strobe : Nat) {q : FRef} (hq : q.off = R.SYS_REGERR)
    (hl : q.hi < 24) : (n.setFs (n.firstReject kind org off write strobe)).f q = n.f q := by
  refine Lane.f_setFs_apart _ (fun p hp => ?_) n
  unfold Lane.firstReject at hp
  split at hp
  · exact absurd hp List.not_mem_nil
  · have he : q.off ≠ R.SYS_REGADR := by rw [hq]; decide
    simp only [List.mem_cons, List.not_mem_nil, or_false] at hp
    rcases hp with rfl | rfl | rfl | rfl | rfl
    · exact ⟨rfl, FRef.apart_below (show q.hi < 28 by omega)⟩
    · exact ⟨rfl, FRef.apart_below (show q.hi < 25 by omega)⟩
    · exact ⟨rfl, FRef.apart_below hl⟩
    · exact ⟨rfl, FRef.apart_of_off he⟩
    · exact ⟨rfl, FRef.apart_of_off he⟩

theorem Lane.reject_eq (n : Lane) (kind org off : Nat) (write : Bool) (strobe : Nat) :
    n.reject kind org off write strobe =
      (((n.setFs (n.firstReject kind org off write strobe)).stepSat F.SYS_REGERR.COUNT).sqEvent F.SYS_REGERR.FLAG).raise
        (if kind = kNOANSWER then 0x20 else 0x00) 1 (off / 4) := by
  unfold Lane.reject Lane.firstReject
  cases n.on F.SYS_REGERR.FLAG <;> by_cases hk : kind = kNOANSWER
  · rw [if_pos hk, if_pos hk]; rfl
  · rw [if_neg hk, if_neg hk]; rfl
  · rw [if_pos hk, if_pos hk]; rfl
  · rw [if_neg hk, if_neg hk]; rfl

theorem Lane.rd_reject (n : Lane) (kind org off : Nat) (write : Bool) (strobe : Nat) :
    (n.reject kind org off write strobe).rd = (n.setFs (n.rejection kind org off write strobe)).rd := by
  have hc := n.f_firstReject kind org off write strobe (q := F.SYS_REGERR.COUNT) rfl (show 23 < 24 by decide)
  have hs := n.f_firstReject kind org off write strobe (q := ⟨R.SYS_REGERR, 7, 0⟩) rfl (show 7 < 24 by decide)
  have happ : n.setFs (n.rejection kind org off write strobe) = ((n.setFs (n.firstReject kind org off write strobe)).setFs
      [n.counted F.SYS_REGERR.COUNT]).setFs (n.recorded F.SYS_REGERR.FLAG) := by
    unfold Lane.rejection
    rw [Lane.setFs_append, Lane.setFs_append]
  rw [Lane.reject_eq, happ]
  generalize n.setFs (n.firstReject kind org off write strobe) = m at hc hs ⊢
  have hcount : m.counted F.SYS_REGERR.COUNT = n.counted F.SYS_REGERR.COUNT := by unfold Lane.counted; rw [hc]
  have h1 : (m.stepSat F.SYS_REGERR.COUNT).rd = (m.setFs [n.counted F.SYS_REGERR.COUNT]).rd := by rw [Lane.rd_stepSat, hcount]
  have hseq : (m.stepSat F.SYS_REGERR.COUNT).recorded F.SYS_REGERR.FLAG = n.recorded F.SYS_REGERR.FLAG := by
    have : (m.stepSat F.SYS_REGERR.COUNT).f ⟨R.SYS_REGERR, 7, 0⟩ = n.f ⟨R.SYS_REGERR, 7, 0⟩ := by
      rw [← hs, Lane.f_congr (congrFun h1 _)]
      exact Lane.f_setF_apart _ _ rfl (FRef.apart_below (show 7 < 16 by decide))
    unfold Lane.recorded
    exact congrArg (fun q => [(F.SYS_REGERR.FLAG, 1), (⟨R.SYS_REGERR, 7, 0⟩, if q = 255 then 1 else q + 1)]) this
  calc _ = ((m.stepSat F.SYS_REGERR.COUNT).sqEvent F.SYS_REGERR.FLAG).rd := Lane.rd_of_regs (Lane.raise_regs _ _ _ _)
    _ = ((m.stepSat F.SYS_REGERR.COUNT).setFs (n.recorded F.SYS_REGERR.FLAG)).rd := by
      rw [Lane.rd_sqEvent _ rfl (by decide), hseq]
    _ = _ := Lane.setFs_congr _ h1

/-! ## Parts of a lane -/

/-- Only the registers differ. -/
def RegsOnly (n m : Lane) : Prop := m = { n with regs := m.regs }

theorem RegsOnly.refl (n : Lane) : RegsOnly n n := rfl

section
variable {k n : Lane} (h : RegsOnly k n)
include h

theorem RegsOnly.wr (a : Nat) (v : W32) : RegsOnly k (n.wr a v) := by
  unfold RegsOnly at h ⊢
  rw [h]; rfl

theorem RegsOnly.setF (r : FRef) (x : Nat) : RegsOnly k (n.setF r x) := h.wr _ _

theorem RegsOnly.stepSat (r : FRef) : RegsOnly k (n.stepSat r) := by
  unfold Lane.stepSat
  exact ite_of (h.setF _ _) h

theorem RegsOnly.sqEvent (r : FRef) : RegsOnly k (n.sqEvent r) := (h.setF _ _).setF _ _
end

theorem RegsOnly.setFs {k : Lane} (ps : List (FRef × Nat)) : ∀ {n : Lane}, RegsOnly k n → RegsOnly k (n.setFs ps) := by
  induction ps with
  | nil => exact fun h => h
  | cons p ps ih => exact fun h => ih (h.setF p.1 p.2)

/-- A message raised by a lane whose collector and clock are those of `n`. -/
theorem Raised.of_kst {n k m : Lane} {a b c : Nat} (hk : k.kst = n.kst) (hn : k.now = n.now) (hm : m.kst = (k.raise a b c).kst) :
    Raised n m a b c := by
  have hi : k.injArmed a c = n.injArmed a c := by unfold Lane.injArmed; rw [hk, hn]
  have h := k.raise_raised a b c
  unfold Raised at h ⊢
  rw [hm, ← hk, ← hi]
  exact h

/-- The fields take their values where the words outside the power controller do and every other part is as before. -/
theorem sets_of_rd {n m : Lane} {ps : List (FRef × Nat)} (hp : m = { n with regs := m.regs, pwr := m.pwr })
    (hr : ∀ a, a < 0x001000 ∨ 0x003000 ≤ a → m.rd a = (n.setFs ps).rd a) : Sets n m ps := by
  have hs : n.setFs ps = { n with regs := (n.setFs ps).regs } := (RegsOnly.refl n).setFs ps
  exact ⟨hp.trans (congrArg (fun x : Lane => { x with regs := m.regs, pwr := m.pwr }) hs.symm), hr⟩

/-- The access is rejected in a lane that differs from `n` in what the power controller holds, and at most that changes after it. -/
theorem rejected_of_reject {n k m : Lane} {kind org off strobe : Nat} {write : Bool} (hk : k = { n with pwr := k.pwr })
    (hm : PowerOnly (k.reject kind org off write strobe) m) : Rejected n m kind org off write strobe := by
  have hrd : k.rd = n.rd := Lane.rd_of_regs (by rw [hk])
  have hf : k.f = n.f := Lane.f_of_regs (by rw [hk])
  have hl : k.rejection kind org off write strobe = n.rejection kind org off write strobe := by
    unfold Lane.rejection Lane.firstReject Lane.counted Lane.recorded Lane.on
    rw [hf]
  have hregs := hm.regs
  have hkst := hm.kst_eq
  have hparts := hm.parts
  rw [Lane.rd_reject, hl] at hregs
  have hb := (((RegsOnly.refl k).setFs (k.firstReject kind org off write strobe)).stepSat F.SYS_REGERR.COUNT).sqEvent F.SYS_REGERR.FLAG
  rw [Lane.reject_eq] at hkst hparts
  generalize ((k.setFs (k.firstReject kind org off write strobe)).stepSat F.SYS_REGERR.COUNT).sqEvent F.SYS_REGERR.FLAG = b at *
  refine ⟨sets_of_rd (ps := n.rejection kind org off write strobe) ?_ fun a ha => ?_, Raised.of_kst (k := b) ?_ ?_ hkst⟩
  · have hbn : b = { n with regs := b.regs, pwr := b.pwr } := by rw [hb, hk]
    calc m = { b with kst := m.kst, regs := m.regs, pwr := m.pwr } := by rw [hkst]; exact hparts
      _ = _ := congrArg (fun x : Lane => { x with kst := m.kst, regs := m.regs, pwr := m.pwr }) hbn
  · exact (hregs a ha).trans (congrFun (Lane.setFs_congr _ (n := { n with kst := m.kst }) hrd) a)
  · rw [hb, hk]
  · rw [hb, hk]

end Sys2Proof.Machine
end

section
/-! SUPPORT. Status messages of the other lane, release and arming (R64 to R67, R479 to R481), and the statement on them. -/

namespace Sys2Proof.Machine

/-! ## Release and arming (R479 to R481) -/

theorem b1_eq_zero (b : Bool) : b1 b = 0 ↔ b = false := by cases b <;> decide

/-- No condition of release fails. -/
theorem Lane.whyNot_eq_zero (n : Lane) : n.whyNot = 0 ↔
    n.f F.SYS_ASHSTAT.STATE = 2 ∧
    (n.f F.SYS_ASHPEER.STATE = 1 ∨ n.f F.SYS_ASHPEER.STATE = 3 ∨ (n.f F.SYS_ASHPEER.STATE = 4 ∧ n.on F.LNT_PERMIT.SOLO = true)) ∧
    n.f F.SYS_START.STATE = 2 ∧ n.on F.SAF_CTRL.EN = true ∧ n.on F.SAF_STAT.SEALOK = true ∧ n.on F.KST_STAT.LANESAFE = false ∧
    n.f F.SYS_LCS.STATE ≠ 5 := by
  unfold Lane.whyNot Lane.peerOk
  simp only [Nat.add_eq_zero_iff, Nat.mul_eq_zero, b1_eq_zero, bne_eq_false_iff_eq, Bool.not_eq_false', Bool.or_eq_true, Bool.and_eq_true,
    beq_iff_eq, beq_eq_false_iff_ne, OfNat.ofNat_ne_zero, false_or, and_assoc, or_assoc]

/-- A write that names the lane alone releases it where no condition fails, and is rejected otherwise. -/
theorem armCmd_lane {org : Nat} {v : W32} (n : Lane) (hl : F.SYS_ARMCMD.LANE.val v = 1) (hg : F.SYS_ARMCMD.GROUPS.val v = 0) :
    armCmd org v n = if n.whyNot = 0 then (n.setF F.SYS_ARMSTAT.RELEASED 1).safUpdate else n.rejectState org R.SYS_ARMCMD := by
  have ht : ∀ g, Nat.testBit 0 g = false := Nat.zero_testBit
  unfold armCmd
  rw [hl, hg]
  simp only [ht, forEach_cons, forEach_nil, List.any_cons, List.any_nil, Bool.false_and, Bool.or_false, Bool.false_eq_true, if_false,
    beq_self_eq_true, Bool.true_and]
  by_cases hw : n.whyNot = 0
  · rw [if_pos hw, if_pos (beq_iff_eq.2 hw), beq_iff_eq.2 hw, Bool.not_true, if_neg Bool.false_ne_true]
  · rw [if_neg hw, if_neg (mt beq_iff_eq.1 hw), beq_eq_false_iff_ne.2 hw, Bool.not_false, if_pos rfl]

/-- A write that names group `g` alone arms it in a released lane where it may be armed, and is rejected otherwise. -/
theorem armCmd_group {org g : Nat} {v : W32} (n : Lane) (h3 : g < 3) (hl : F.SYS_ARMCMD.LANE.val v = 0)
    (hg : F.SYS_ARMCMD.GROUPS.val v = 2 ^ g) :
    armCmd org v n = if n.on F.SYS_ARMSTAT.RELEASED = true ∧ n.mayArm g = true then
        (n.moveGrp g (if n.bit F.KST_STAT.GSAFE g then gSAFE else gIDLE)).setBit F.SYS_ARMSTAT.ARMED g true
      else n.rejectState org R.SYS_ARMCMD := by
  have ht : ∀ i, (2 ^ g).testBit i = decide (g = i) := fun i => Nat.testBit_two_pow
  have hlane : ((0 : Nat) == 1) = false := rfl
  unfold armCmd
  rw [hl, hg]
  simp only [hlane, ht, forEach_cons, forEach_nil, List.any_cons, List.any_nil, Bool.false_and, Bool.or_false, Bool.false_or,
    Bool.false_eq_true, if_false]
  have h : g = 0 ∨ g = 1 ∨ g = 2 := by omega
  cases hok : n.on F.SYS_ARMSTAT.RELEASED && n.mayArm g
  · have hno : ¬ (n.on F.SYS_ARMSTAT.RELEASED = true ∧ n.mayArm g = true) := by rw [← Bool.and_eq_true, hok]; decide
    rw [if_neg hno]
    rcases h with rfl | rfl | rfl <;> simp [hok]
  · rw [if_pos (Bool.and_eq_true_iff.1 hok)]
    rcases h with rfl | rfl | rfl <;> simp [hok]

/-! ### What they leave -/

theorem touch_armcmd (n : Lane) : n.touch R.SYS_ARMCMD = n.idleRestart dCORE := rfl

theorem Lane.idleRestart_parts (n : Lane) (d : Nat) : n.idleRestart d = { n with pwr := (n.idleRestart d).pwr } := rfl

theorem Lane.mayArm_idleRestart (n : Lane) (d g : Nat) : (n.idleRestart d).mayArm g = n.mayArm g := rfl

theorem avoids_of_lt {P : Nat → Prop} {lo hi : Nat} (h : ∀ a, P a → a < lo) : Avoids P lo hi := fun a ha => .inl (h a ha)

/-- A released lane stays released as the safety outputs follow. -/
theorem Lane.release_shows (n : Lane) : ((n.setF F.SYS_ARMSTAT.RELEASED 1).safUpdate.checkHolds).f F.SYS_ARMSTAT.RELEASED = 1 := by
  have hlt : ∀ lo, 0x001000 ≤ lo → ∀ hi, Avoids (· = R.SYS_ARMSTAT) lo hi := fun lo hl hi =>
    avoids_of_lt fun a ha => by rw [ha]; unfold R.SYS_ARMSTAT; omega
  have k : Keeps (· = R.SYS_ARMSTAT) (n.setF F.SYS_ARMSTAT.RELEASED 1) ((n.setF F.SYS_ARMSTAT.RELEASED 1).safUpdate.checkHolds) :=
    ((Keeps.refl _ _).safUpdate (hlt _ (by decide) _) (hlt _ (by decide) _)
      ⟨hlt _ (by decide) _, hlt _ (by decide) _, hlt _ (by decide) _⟩).checkHolds (hlt _ (by decide) _)
  exact (k.f_eq rfl).trans (Lane.f_setF_eq _ _ rfl (by decide))

theorem grpField_ok {g : Nat} (h : g < 3) : (grpField g).ok = true ∧ (grpField g).off = R.PWM_GRPSTAT ∧
    8 ≤ 2 ^ ((grpField g).hi + 1 - (grpField g).lo) := by
  have h : g = 0 ∨ g = 1 ∨ g = 2 := by omega
  rcases h with rfl | rfl | rfl <;> decide

theorem grpField_apart {g h : Nat} (hg : g < 3) (hh : h < 3) (hne : h ≠ g) : (grpField h).apart (grpField g) = true := by
  have all : ∀ g < 3, ∀ h < 3, h ≠ g → (grpField h).apart (grpField g) = true := by decide
  exact all g hg h hh hne

/-- A group that moves takes its state; the other groups keep theirs. -/
theorem Lane.grp_moveGrp (n : Lane) {g h st : Nat} (hg : g < 3) (hh : h < 3) (hst : st < 8) :
    (n.moveGrp g st).grp h = if h = g then st else n.grp h := by
  obtain ⟨hok, hoff, hw⟩ := grpField_ok hg
  unfold Lane.moveGrp
  by_cases hs : n.grp g = st
  · rw [if_pos hs]
    split
    · next e => rw [e, hs]
    · rfl
  · rw [if_neg hs]
    have c : Avoids (· = R.PWM_GRPSTAT) 0x028000 0x030000 := fun a ha => by rw [ha]; decide
    have k := (Lane.setGrp_keeps c (n := n) st hg).schedOvr g
    have hf : ((n.setGrp g st).schedOvr g).grp h = (n.setF (grpField g) st).f (grpField h) := k.f_eq (grpField_ok hh).2.1
    rw [hf]
    split
    · next e => rw [e, Lane.f_setF_eq _ _ hok (by omega)]
    · next e => exact Lane.f_setF_apart _ _ hok (grpField_apart hg hh e)

theorem natSetBit_testBit (x i : Nat) : (natSetBit x i true).testBit i = true := by
  unfold natSetBit
  split
  · assumption
  · next h => rw [if_pos rfl, Nat.add_comm, Nat.testBit_two_pow_add_eq]; simp [h]

/-- A bit that is set reads 1. -/
theorem Lane.bit_setBit (n : Lane) {r : FRef} {i : Nat} (hr : r.ok = true) (hi : i < r.hi + 1 - r.lo) : (n.setBit r i true).bit r i = true := by
  simp only [FRef.ok, Bool.and_eq_true, decide_eq_true_eq] at hr
  unfold Lane.setBit Lane.bit
  rw [Lane.f_setF_self _ _ _ hr.1 hr.2, Nat.testBit_mod_two_pow, natSetBit_testBit]
  simp [hi]

/-- A group that is armed: its state, the other groups' states and its bit in ARMED. -/
theorem Lane.arm_shows (n : Lane) {g st : Nat} (hg : g < 3) (hst : st < 8) :
    let m := ((n.moveGrp g st).setBit F.SYS_ARMSTAT.ARMED g true).checkHolds
    (∀ h < 3, m.grp h = if h = g then st else n.grp h) ∧ m.bit F.SYS_ARMSTAT.ARMED g = true := by
  have hp := (PowerOnly.refl ((n.moveGrp g st).setBit F.SYS_ARMSTAT.ARMED g true)).checkHolds
  refine ⟨fun h hh => ?_, ?_⟩
  · have hoff := (grpField_ok hh).2.1
    have hne : (grpField h).off ≠ F.SYS_ARMSTAT.ARMED.off := by rw [hoff]; decide
    rw [← n.grp_moveGrp hg hh hst]
    exact (hp.f_eq _ (by rw [hoff]; decide)).trans (Lane.f_setF_apart _ _ rfl (FRef.apart_of_off hne))
  · have hf := hp.f_eq F.SYS_ARMSTAT.ARMED (by decide)
    unfold Lane.bit
    rw [hf]
    exact Lane.bit_setBit _ rfl hg

/-! ## The digest agreement (R64 to R68) -/

theorem RegsOnly.putBytes {k n : Lane} (h : RegsOnly k n) (off w : Nat) (bs : List Nat) : RegsOnly k (n.putBytes off w bs) :=
  forEach_keeps (I := RegsOnly k) _ h fun _ _ _ hm => hm.wr _ _

/-- Accepting a TRIAL slot writes the states of slots alone. -/
theorem Lane.ashAccept_parts (n : Lane) : n.ashAccept = { n with mram := n.ashAccept.mram } :=
  forEach_keeps (I := fun m => m = { n with mram := m.mram }) _ rfl fun s _ m hm =>
    ite_of (p := fun x : Lane => x = { n with mram := x.mram }) (by rw [hm]; rfl) hm

theorem Lane.ashAccept_f (n : Lane) (r : FRef) : n.ashAccept.f r = n.f r := by
  rw [Lane.f_of_regs (m := n.ashAccept) (n := n) (by rw [Lane.ashAccept_parts])]

theorem Lane.ashAccept_sys (n : Lane) : n.ashAccept.sys = n.sys := by rw [Lane.ashAccept_parts]

theorem Lane.ashAccept_kst (n : Lane) : n.ashAccept.kst = n.kst := by rw [Lane.ashAccept_parts]

theorem Lane.digestRaise_f (n : Lane) (r : FRef) : n.digestRaise.f r = n.f r := n.raise_f _ _ _ _

theorem Lane.digestRaise_sys (n : Lane) : n.digestRaise.sys = n.sys := n.raise_sys _ _ _

/-- The message of a digest agreement that failed, from a lane whose collector and clock are those of `n`. -/
theorem Lane.digestRaise_raised {n k : Lane} (hk : k.kst = n.kst) (hn : k.now = n.now) : Raised n k.digestRaise 0x03 4 0 :=
  Raised.of_kst hk hn rfl

theorem Raised.congr {n m k : Lane} {a b c : Nat} (h : Raised n m a b c) (hk : k.kst = m.kst) : Raised n k a b c := by
  unfold Raised at h ⊢
  rw [hk]
  exact h

theorem Lane.lintelRx_good {n : Lane} (f : Lane → Lane) (h : n.domOn dCORE = true) : n.lintelRx true f = f n := by
  unfold Lane.lintelRx
  rw [h]; rfl

/-- The lane whose wait has ended. -/
def Lane.decided (n : Lane) : Lane := n.upSys fun s => { s with peerDue := none }

theorem Lane.decided_peerDue (n : Lane) : n.decided.sys.peerDue = none := rfl

theorem Lane.decided_f (n : Lane) (r : FRef) : n.decided.f r = n.f r := rfl

theorem Lane.decided_kst (n : Lane) : n.decided.kst = n.kst := rfl

theorem Lane.decided_now (n : Lane) : n.decided.now = n.now := rfl

/-- A digest that a lane waits for decides. -/
theorem statusReceive_digest {n : Lane} {d : List Byte} (hw : n.f F.SYS_ASHPEER.STATE = 0) (ha : n.f F.SYS_ASHSTAT.STATE = 2) :
    statusReceive (.digest d) n =
      let k := (n.putBytes (R.SYS_ASHPDIGn 0) 8 (d.map fun b => b.toNat)).decided
      if d = n.regBytes (R.SYS_ASHDIGn 0) 8 then (k.setF F.SYS_ASHPEER.STATE 1).ashAccept
      else ((k.setF F.SYS_ASHPEER.STATE 2).sqEvent F.SYS_ASHEVT.DIFFER).digestRaise := by
  unfold statusReceive
  simp only [hw, ha, beq_self_eq_true, Bool.and_self, if_true, beq_iff_eq]
  rfl

theorem statusReceive_refused {n : Lane} (hw : n.f F.SYS_ASHPEER.STATE = 0) (ha : n.f F.SYS_ASHSTAT.STATE = 2)
    (hd : n.sys.peerDue ≠ none) :
    statusReceive .refused n = ((n.setF F.SYS_ASHPEER.STATE 4).decided).digestRaise := by
  have hs : n.sys.peerDue.isSome = true := Option.isSome_iff_ne_none.2 hd
  unfold statusReceive
  simp only [hw, ha, hs, beq_self_eq_true, Bool.and_self, if_true]
  rfl

theorem Lane.f_sqEvent_flag (n : Lane) {flag : FRef} (hf : flag.ok = true) (hw : flag.hi = flag.lo) (ha : 7 < flag.lo) :
    (n.sqEvent flag).f flag = 1 := by
  unfold Lane.sqEvent Lane.seqStep
  rw [Lane.f_setF_apart _ _ rfl (FRef.apart_above ha)]
  exact Lane.f_setF_eq _ _ hf (by rw [hw]; simp)

theorem Lane.f_sqEvent_other (n : Lane) {flag r : FRef} (hf : flag.ok = true) (h : r.off ≠ flag.off) : (n.sqEvent flag).f r = n.f r := by
  unfold Lane.sqEvent Lane.seqStep
  rw [Lane.f_setF_apart (r := ⟨flag.off, 7, 0⟩) _ _ rfl (FRef.apart_of_off h), Lane.f_setF_apart _ _ hf (FRef.apart_of_off h)]

/-- The parts of an event's lane that no register is. -/
theorem Lane.sqEvent_parts (n : Lane) (flag : FRef) :
    (n.sqEvent flag).kst = n.kst ∧ (n.sqEvent flag).now = n.now ∧ (n.sqEvent flag).sys = n.sys :=
  ⟨rfl, rfl, rfl⟩

/-- What a digest decides (R65). -/
theorem statusReceive_digest_shows {n : Lane} {d : List Byte} (hw : n.f F.SYS_ASHPEER.STATE = 0) (ha : n.f F.SYS_ASHSTAT.STATE = 2) :
    let m := statusReceive (.digest d) n
    m.sys.peerDue = none ∧ m.f F.SYS_ASHPEER.STATE = (if d = n.regBytes (R.SYS_ASHDIGn 0) 8 then 1 else 2) ∧
      (d ≠ n.regBytes (R.SYS_ASHDIGn 0) 8 → m.f F.SYS_ASHEVT.DIFFER = 1 ∧ Raised n m 0x03 4 0) := by
  have hb : RegsOnly n (n.putBytes (R.SYS_ASHPDIGn 0) 8 (d.map fun b => b.toNat)) := (RegsOnly.refl n).putBytes _ _ _
  rw [statusReceive_digest hw ha]
  generalize n.putBytes (R.SYS_ASHPDIGn 0) 8 (d.map fun b => b.toNat) = k at hb
  by_cases hd : d = n.regBytes (R.SYS_ASHDIGn 0) 8
  · simp only [if_pos hd]
    refine ⟨?_, ?_, fun h => absurd hd h⟩
    · rw [Lane.ashAccept_sys]; exact k.decided_peerDue
    · rw [Lane.ashAccept_f]; exact Lane.f_setF_eq _ _ rfl (by decide)
  · simp only [if_neg hd]
    obtain ⟨hkst, hnow, hsys⟩ := (k.decided.setF F.SYS_ASHPEER.STATE 2).sqEvent_parts F.SYS_ASHEVT.DIFFER
    rw [Lane.setF_kst, Lane.decided_kst, show k.kst = n.kst by rw [hb]] at hkst
    rw [Lane.setF_now, Lane.decided_now, show k.now = n.now by rw [hb]] at hnow
    rw [Lane.digestRaise_sys, Lane.digestRaise_f, Lane.digestRaise_f, hsys, Lane.setF_sys, Lane.f_sqEvent_other _ rfl (by decide)]
    exact ⟨k.decided_peerDue, Lane.f_setF_eq _ _ rfl (by decide), fun _ => ⟨Lane.f_sqEvent_flag _ rfl rfl (by decide),
      Lane.digestRaise_raised hkst hnow⟩⟩

/-- What the end of the wait decides (R65). -/
theorem peerWaitExpiry_shows {n : Lane} {due : Nat} (hd : n.sys.peerDue = some due) (ht : due ≤ n.now) (hw : n.f F.SYS_ASHPEER.STATE = 0) :
    let m := peerWaitExpiry n
    m.sys.peerDue = none ∧ m.f F.SYS_ASHEVT.TIMEOUT = 1 ∧ Raised n m 0x03 4 0 ∧
      m.f F.SYS_ASHPEER.STATE = if n.on F.LNT_PERMIT.SOLO then 3 else 0 := by
  have he : peerWaitExpiry n =
      let k := (n.decided.sqEvent F.SYS_ASHEVT.TIMEOUT).digestRaise
      if k.on F.LNT_PERMIT.SOLO then (k.setF F.SYS_ASHPEER.STATE 3).ashAccept else k := by
    unfold peerWaitExpiry
    rw [hd]
    exact if_pos ⟨ht, hw⟩
  obtain ⟨hkst, hnow, hsys⟩ := n.decided.sqEvent_parts F.SYS_ASHEVT.TIMEOUT
  have hother : ∀ r : FRef, r.off ≠ R.SYS_ASHEVT → ((n.decided.sqEvent F.SYS_ASHEVT.TIMEOUT).digestRaise).f r = n.f r := fun r hr =>
    (Lane.digestRaise_f _ _).trans (Lane.f_sqEvent_other _ rfl hr)
  have hraised : Raised n ((n.decided.sqEvent F.SYS_ASHEVT.TIMEOUT).digestRaise) 0x03 4 0 := Lane.digestRaise_raised hkst hnow
  have hflag : ((n.decided.sqEvent F.SYS_ASHEVT.TIMEOUT).digestRaise).f F.SYS_ASHEVT.TIMEOUT = 1 :=
    (Lane.digestRaise_f _ _).trans (Lane.f_sqEvent_flag _ rfl rfl (by decide))
  have hdue : ((n.decided.sqEvent F.SYS_ASHEVT.TIMEOUT).digestRaise).sys.peerDue = none := by
    rw [Lane.digestRaise_sys, hsys]; exact n.decided_peerDue
  rw [he]
  generalize (n.decided.sqEvent F.SYS_ASHEVT.TIMEOUT).digestRaise = k at *
  have hsolo : k.on F.LNT_PERMIT.SOLO = n.on F.LNT_PERMIT.SOLO := congrArg (· == 1) (hother _ (by decide))
  simp only [hsolo]
  cases n.on F.LNT_PERMIT.SOLO
  · exact ⟨hdue, hflag, hraised, (hother _ (by decide)).trans hw⟩
  · simp only [if_true]
    rw [Lane.ashAccept_sys, Lane.ashAccept_f, Lane.ashAccept_f, Lane.f_setF_apart _ _ rfl (FRef.apart_of_off (by decide))]
    exact ⟨hdue, hflag, hraised.congr ((Lane.ashAccept_kst _).trans (Lane.setF_kst _ _ _)), Lane.f_setF_eq _ _ rfl (by decide)⟩

/-- What a refusal by the other lane decides (R66). -/
theorem statusReceive_refused_shows {n : Lane} (hw : n.f F.SYS_ASHPEER.STATE = 0) (ha : n.f F.SYS_ASHSTAT.STATE = 2)
    (hd : n.sys.peerDue ≠ none) :
    let m := statusReceive .refused n
    m.sys.peerDue = none ∧ m.f F.SYS_ASHPEER.STATE = 4 ∧ Raised n m 0x03 4 0 := by
  intro m
  have hm : m = ((n.setF F.SYS_ASHPEER.STATE 4).decided).digestRaise := statusReceive_refused hw ha hd
  rw [hm, Lane.digestRaise_sys, Lane.digestRaise_f, Lane.decided_f]
  exact ⟨Lane.decided_peerDue _, Lane.f_setF_eq _ _ rfl (by decide), Lane.digestRaise_raised
    ((Lane.decided_kst _).trans (Lane.setF_kst _ _ _)) ((Lane.decided_now _).trans (Lane.setF_now _ _ _))⟩

theorem statusResend_due {n : Lane} (hc : n.domOn dCORE = true) (hw : n.f F.SYS_ASHPEER.STATE = 0) (ht : n.sys.sentT + 40000 ≤ n.now) :
    statusResend n = { n with sys := { n.sys with tx := putFrame n.statusNow n.sys.tx, sentT := n.now } } := if_pos ⟨hc, hw, ht⟩

/-! ## The statement -/

/-- A status message that arrives whole is received by a lane whose CORE domain is on. -/
theorem answers_statusMessage {s : State} {l : LaneId} {t : Nat} {x : StatusMsg} {P : Lane → Prop} (hx : statusOk x = true)
    (hc : (s.laneAt l t).domOn dCORE = true) (hp : P (statusReceive x (s.laneAt l t))) : Answers (.statusMessageReceive l t true x) s P :=
  answers_onLane (l := l) (t := t) (f := fun n => n.lintelRx true (statusReceive x)) (if_pos hx) rfl
    (by rw [Lane.lintelRx_good _ hc]; exact hp)

theorem answers_statusResend {s : State} {l : LaneId} {t : Nat} {n : Lane} (hn : s.laneAt l t = n) (hc : n.domOn dCORE = true)
    (hw : n.f F.SYS_ASHPEER.STATE = 0) (ht : n.sys.sentT + 40000 ≤ n.now) :
    Answers (.statusResend l t) s fun m => m = { n with sys := { n.sys with tx := putFrame n.statusNow n.sys.tx, sentT := n.now } } := by
  subst hn
  exact answers_onDomain (f := statusResend) rfl rfl hc (statusResend_due hc hw ht)

/-- The end of the wait acts where no message that decides waits. -/
theorem answers_peerWaitExpiry {s : State} {l : LaneId} {t : Nat} {P : Lane → Prop} (hc : (s.laneAt l t).domOn dCORE = true)
    (hq : peerFirst l (s.laneAt l t).now s.pending = false) (hp : P (peerWaitExpiry (s.laneAt l t))) :
    Answers (.peerWaitExpiry l t) s P := by
  refine answers_onDomain (f := fun n => if peerFirst l n.now s.pending then n else peerWaitExpiry n) rfl rfl hc ?_
  simp only [hq, Bool.false_eq_true, if_false]
  exact hp

/-- R479: where no condition of release fails the lane is released, and otherwise the command is rejected. -/
theorem laneRelease_decides (n : Lane) (org : Origin) (v : W32) (hacc : n.accepts org.code R.SYS_ARMCMD v = true)
    (hl : F.SYS_ARMCMD.LANE.val v = 1) (hg : F.SYS_ARMCMD.GROUPS.val v = 0) :
    let m := n.regWrite org.code R.SYS_ARMCMD v (armCmd org.code v)
    if n.whyNot = 0 then m.f F.SYS_ARMSTAT.RELEASED = 1 else Rejected n m 7 org.code R.SYS_ARMCMD true 15 := by
  rw [Lane.regWrite_accepts _ hacc, touch_armcmd, armCmd_lane _ hl hg, show (n.idleRestart dCORE).whyNot = n.whyNot from rfl]
  by_cases hw : n.whyNot = 0
  · rw [if_pos hw, if_pos hw]
    exact Lane.release_shows _
  · rw [if_neg hw, if_neg hw]
    exact rejected_of_reject (n.idleRestart_parts dCORE) (PowerOnly.refl _).checkHolds

/-- A rejected access leaves the groups. -/
theorem Lane.grp_reject {n k m : Lane} {kind org off strobe : Nat} {write : Bool} (hk : k.regs = n.regs)
    (hm : PowerOnly (k.reject kind org off write strobe) m) {h : Nat} (hh : h < 3) : m.grp h = n.grp h := by
  have hoff := (grpField_ok hh).2.1
  have hrej : ∀ p ∈ k.rejection kind org off write strobe, R.PWM_GRPSTAT ≠ p.1.off := by
    unfold Lane.rejection Lane.firstReject Lane.counted Lane.recorded
    have h1 : R.PWM_GRPSTAT ≠ R.SYS_REGERR := by decide
    have h2 : R.PWM_GRPSTAT ≠ R.SYS_REGADR := by decide
    split <;> simp only [List.nil_append, List.cons_append, List.forall_mem_cons, List.not_mem_nil, IsEmpty.forall_iff, implies_true, and_true]
    · exact ⟨h1, h1, h1⟩
    · exact ⟨h1, h1, h1, h2, h2, h1, h1, h1⟩
  have hrd : m.rd R.PWM_GRPSTAT = n.rd R.PWM_GRPSTAT := by
    rw [hm.regs _ (by decide), Lane.rd_reject, Lane.rd_setFs_ne _ _ hrej, Lane.rd_of_regs hk]
  exact Lane.f_congr (by rw [hoff]; exact hrd)

/-- R480, R481: the group is armed where the lane is released and it may be armed, and the command is rejected otherwise. -/
theorem groupArm_decides (n : Lane) {g : Nat} (org : Origin) (v : W32) (hacc : n.accepts org.code R.SYS_ARMCMD v = true) (h3 : g < 3)
    (hl : F.SYS_ARMCMD.LANE.val v = 0) (hg : F.SYS_ARMCMD.GROUPS.val v = 2 ^ g) :
    let m := n.regWrite org.code R.SYS_ARMCMD v (armCmd org.code v)
    (∀ h < 3, h ≠ g → m.grp h = n.grp h) ∧
      if n.on F.SYS_ARMSTAT.RELEASED = true ∧ n.mayArm g = true then
        m.grp g = (if n.bit F.KST_STAT.GSAFE g then 5 else 1) ∧ m.bit F.SYS_ARMSTAT.ARMED g = true
      else Rejected n m 7 org.code R.SYS_ARMCMD true 15 := by
  have hf : (n.idleRestart dCORE).f = n.f := Lane.f_of_regs rfl
  have hon : (n.idleRestart dCORE).on F.SYS_ARMSTAT.RELEASED = n.on F.SYS_ARMSTAT.RELEASED := congrArg (· == 1) (congrFun hf _)
  have hsafe : (n.idleRestart dCORE).bit F.KST_STAT.GSAFE g = n.bit F.KST_STAT.GSAFE g := congrArg (·.testBit g) (congrFun hf _)
  rw [Lane.regWrite_accepts _ hacc, touch_armcmd, armCmd_group _ h3 hl hg, Lane.mayArm_idleRestart, hon, hsafe]
  by_cases hok : n.on F.SYS_ARMSTAT.RELEASED = true ∧ n.mayArm g = true
  · simp only [if_pos hok]
    obtain ⟨hgrp, hbit⟩ := (n.idleRestart dCORE).arm_shows (st := if n.bit F.KST_STAT.GSAFE g then gSAFE else gIDLE) h3 (by split <;> decide)
    refine ⟨fun h hh hne => ?_, ?_, hbit⟩
    · rw [hgrp h hh, if_neg hne]; exact congrFun hf _
    · rw [hgrp g h3, if_pos rfl]; rfl
  · simp only [if_neg hok]
    exact ⟨fun h hh _ => Lane.grp_reject rfl (PowerOnly.refl _).checkHolds hh,
      rejected_of_reject (n.idleRestart_parts dCORE) (PowerOnly.refl _).checkHolds⟩

/-- Settles O58: each clause is what its command decides. -/
theorem releaseToActuation : Obligations.ReleaseToActuation := by
  unfold Obligations.ReleaseToActuation
  refine ⟨?_, ?_, ?_⟩
  · intro s l t d n hc
    refine ⟨fun hw ha hd => ?_, fun hw ha hp => ?_, fun hw ht => ?_, fun due hd ht hw hq => ?_⟩
    · exact answers_statusMessage (beq_iff_eq.2 hd) hc (statusReceive_digest_shows hw ha)
    · exact answers_statusMessage rfl hc (statusReceive_refused_shows hw ha hp)
    · exact answers_statusResend rfl hc hw ht
    · exact answers_peerWaitExpiry hc hq (peerWaitExpiry_shows hd ht hw)
  · intro s l t org v n hacc hl hg peer
    refine answers_onLane (f := fun n => n.regWrite org.code R.SYS_ARMCMD v (armCmd org.code v)) rfl rfl ?_
    have h := laneRelease_decides n org v hacc hl hg
    simp only [Lane.whyNot_eq_zero] at h
    exact h
  · intro s l t g org v n hacc h3 hl hg
    exact answers_onLane (f := fun n => n.regWrite org.code R.SYS_ARMCMD v (armCmd org.code v)) rfl rfl
      (groupArm_decides n org v hacc h3 hl hg)

end Sys2Proof.Machine
end

section
/-! SUPPORT. The Ashlar load and the copies at start-up (R58 to R62, R469), and the statements on them and on the transitions of domains. -/

namespace Sys2Proof.Machine

/-! ## Code banks (R250) -/

/-- A bank listed from `s` on holds each byte at its address. -/
theorem Cells.get_bankFrom (bytes : List Byte) : ∀ (s i : Nat),
    Cells.get 0#8 (((bytes.zipIdx s).map fun p => (p.2, p.1)).filter fun c => c.2 != 0#8) i = if i < s then 0#8 else bytes.getD (i - s) 0#8 := by
  induction bytes with
  | nil => intro s i; simp
  | cons b bs ih =>
    intro s i
    rw [List.zipIdx_cons, List.map_cons, List.filter_cons]
    have hcell : Cells.get 0#8 (((bs.zipIdx (s + 1)).map fun p => (p.2, p.1)).filter fun c => c.2 != 0#8) i =
        if i < s + 1 then 0#8 else bs.getD (i - (s + 1)) 0#8 := ih (s + 1) i
    rcases Nat.lt_trichotomy i s with h | h | h
    · split <;> simp [Cells.get, hcell, Nat.ne_of_lt h, Nat.lt_succ_of_lt h]
    · subst h
      by_cases hb : b = 0#8
      · simp [hb, hcell]
      · simp [hb, Cells.get]
    · obtain ⟨j, rfl⟩ := Nat.exists_eq_add_of_lt h
      have e : s + j + 1 - s = j + 1 := by omega
      split <;> simp [Cells.get, hcell, e, show ¬ s + j + 1 < s by omega, show ¬ s + j + 1 < s + 1 by omega, show s + j + 1 ≠ s by omega,
        show s + j + 1 - (s + 1) = j by omega]

theorem Cells.get_bankOf (bytes : List Byte) (i : Nat) : Cells.get 0#8 (bankOf bytes) i = bytes.getD i 0#8 := by
  unfold bankOf
  rw [Cells.get_bankFrom, if_neg (Nat.not_lt_zero i), Nat.sub_zero]

theorem OapState.active_setActive (o : OapState) (m : List Host.Cell) : (o.setActive m).active = m := by
  unfold OapState.setActive OapState.active
  split <;> simp_all

/-- A byte of `len` bytes from the 128th on. -/
theorem getD_body (bytes : List Byte) (len i : Nat) :
    ((bytes.drop 128).take len).getD i 0#8 = if i < len then bytes.getD (128 + i) 0#8 else 0#8 := by
  rw [List.getD_eq_getElem?_getD, List.getElem?_take, List.getD_eq_getElem?_getD]
  split
  · rw [List.getElem?_drop]
  · rfl

/-! ## The copies (R469) -/

theorem Lane.copyActiveTables_oap (n : Lane) : n.copyActiveTables.oap = n.oap ∧ n.copyActiveTables.mram = n.mram := by
  unfold Lane.copyActiveTables
  split
  · exact forEach_keeps (I := fun m => m.oap = n.oap ∧ m.mram = n.mram) _ ⟨rfl, rfl⟩ fun g _ m hm =>
      ite_of (p := fun m : Lane => m.oap = n.oap ∧ m.mram = n.mram) ⟨(Lane.upCfe_oap _ _).trans hm.1, (Lane.upCfe_mram _ _).trans hm.2⟩ hm
  · exact ⟨rfl, rfl⟩

/-- The tables leave the engine and the images. -/
theorem Lane.tablesStart_leaves (n : Lane) : n.tablesStart.oap = n.oap ∧ n.tablesStart.mram.slots = n.mram.slots := by
  unfold Lane.tablesStart
  split
  · exact ⟨rfl, rfl⟩
  · split
    · obtain ⟨ho, hm⟩ := (n.setF F.SYS_START.TABLES 1).copyActiveTables_oap
      exact ⟨ho.trans (Lane.setF_oap _ _ _), congrArg Mram.slots (hm.trans (Lane.setF_mram _ _ _))⟩
    · exact ⟨rfl, rfl⟩

theorem Lane.engineRestart_regs (n : Lane) (c : Nat) : (n.engineRestart c).regs = n.regs := rfl

theorem Lane.engineRestart_sys (n : Lane) (c : Nat) : (n.engineRestart c).sys = n.sys := rfl

theorem Lane.engineRestart_active (n : Lane) (c : Nat) : (n.engineRestart c).oap.active = n.oap.active := rfl

theorem Lane.csr_setCsr (n : Lane) (k : Nat) (v : W32) : (n.setCsr k v).csr k = v := by
  unfold Lane.setCsr Lane.csr
  exact (Cells.get_set _ _ _ _ _).trans (if_pos rfl)

/-- An engine that restarts runs from address 0 with its registers and data memory cleared and RESTART pending with its cause. -/
theorem Lane.engineRestart_shows (n : Lane) (c : Nat) :
    let m := n.engineRestart c
    m.oap.running = true ∧ m.oap.pc = 0#32 ∧ m.oap.data = [] ∧ m.evPending 0 = true ∧ (∀ i, m.gpr i = 0#32) ∧
      Cells.get 0#32 m.oap.evData 0 = BitVec.ofNat 32 c := by
  refine ⟨rfl, rfl, rfl, ?_, fun i => ?_, ?_⟩
  · unfold Lane.engineRestart Lane.evPending
    extract_lets core k
    generalize k.setCsr cCORE core = m
    have hcsr : ((m.setCsrF 0xC0 0 0 1).upOap fun o => { o with evData := Cells.set 0#32 o.evData 0 (BitVec.ofNat 32 c) }).csr (0xC0 + 0 / 32) =
        setBits (m.csr 0xC0) 0 0 1 := m.csr_setCsr 0xC0 _
    rw [hcsr]
    exact beq_iff_eq.2 (bits_setBits _ 0 0 1 (by decide) (by decide))
  · unfold Lane.gpr
    exact ite_of (p := (· = 0#32)) rfl rfl
  · unfold Lane.engineRestart
    exact (Cells.get_set _ _ _ _ _).trans (if_pos rfl)

/-- The lane runs: step and STATE that the end of the copies leaves, before an engine restarts. -/
def Lane.started (n : Lane) : Lane :=
  (n.setFs [(F.SYS_START.STATE, 2), (F.SYS_START.TIME, min 65535 ((n.now + 6 - n.sys.startT) / 400))]).upSys fun s => { s with step := 13 }

theorem Lane.started_step (n : Lane) : n.started.sys.step = 13 := rfl

theorem Lane.started_state (n : Lane) : n.started.f F.SYS_START.STATE = 2 := by
  unfold Lane.started
  rw [Lane.f_of_regs (Lane.upSys_regs _ _), Lane.setFs_cons, Lane.setFs_cons, Lane.setFs_nil,
    Lane.f_setF_apart _ _ rfl (FRef.apart_above (show 15 < 28 by decide))]
  exact Lane.f_setF_eq _ _ rfl (by decide)

theorem Lane.started_mram (n : Lane) : n.started.mram = n.mram := by
  unfold Lane.started
  rw [Lane.upSys_mram, Lane.setFs_cons, Lane.setFs_cons, Lane.setFs_nil, Lane.setF_mram, Lane.setF_mram]

/-- The policy image of slot `k` stands in the engine's active code bank. -/
def Lane.policyCopied (n : Lane) (k : Nat) : Lane :=
  (n.setF F.SYS_START.POLICY 1).upOap fun o =>
    o.setActive (bankOf ((Cells.get [] n.mram.slots k).drop 128 |>.take (imgBodyLen (n.slotImg k))))

/-- The policy image of slot `k` runs. -/
def Lane.runs (n : Lane) (k : Nat) : Lane := (n.policyCopied k).engineRestart 0

theorem Lane.runs_sys (n : Lane) (k : Nat) : (n.runs k).sys = n.sys := by
  unfold Lane.runs Lane.policyCopied
  rw [Lane.engineRestart_sys, Lane.upOap_sys, Lane.setF_sys]

theorem Lane.runs_f (n : Lane) (k : Nat) : (n.runs k).f = (n.setF F.SYS_START.POLICY 1).f :=
  Lane.f_of_regs ((Lane.engineRestart_regs _ _).trans (Lane.upOap_regs _ _))

/-- What the end of the copies leaves. -/
theorem imageCopyEnd_eq {n : Lane} (hs : n.sys.step = 10) (hh : n.f F.SYS_START.STATE ≠ 3) (hi : n.sys.injDue = false) :
    imageCopyEnd n = match n.policyStart.2 with
      | some k => n.policyStart.1.tablesStart.started.runs k
      | none => n.policyStart.1.tablesStart.started := by
  have hh' : ¬ n.halted = true := fun h => hh (beq_iff_eq.1 h)
  have hi' : ¬ n.sys.injDue = true := by rw [hi]; decide
  unfold imageCopyEnd
  rw [if_pos ⟨hs, hh', hi'⟩]
  generalize n.policyStart = r
  obtain ⟨q, o⟩ := r
  cases o <;> rfl

/-- The end of the copies leaves the lane running. -/
theorem imageCopyEnd_running {n : Lane} (hs : n.sys.step = 10) (hh : n.f F.SYS_START.STATE ≠ 3) (hi : n.sys.injDue = false) :
    (imageCopyEnd n).sys.step = 13 ∧ (imageCopyEnd n).f F.SYS_START.STATE = 2 := by
  rw [imageCopyEnd_eq hs hh hi]
  generalize n.policyStart.1.tablesStart = m
  cases n.policyStart.2 with
  | none => exact ⟨m.started_step, m.started_state⟩
  | some k =>
    refine ⟨(congrArg SysState.step (m.started.runs_sys k)).trans m.started_step, ?_⟩
    exact (congrFun (m.started.runs_f k) _).trans ((Lane.f_setF_apart _ _ rfl (by decide)).trans m.started_state)

/-- The engine's code is the body of the image. -/
theorem Lane.runs_active (n : Lane) (k i : Nat) : Cells.get 0#8 (n.runs k).oap.active i =
    if i < imgBodyLen (n.slotImg k) then (Cells.get [] n.mram.slots k).getD (128 + i) 0#8 else 0#8 := by
  unfold Lane.runs Lane.policyCopied
  rw [Lane.engineRestart_active]
  refine (congrArg (fun c => Cells.get 0#8 c i) (OapState.active_setActive _ _)).trans ?_
  rw [Cells.get_bankOf, getD_body]

/-- A verified policy image runs after the end of the copies. -/
theorem imageCopyEnd_runs {n : Lane} (hs : n.sys.step = 10) (hh : n.f F.SYS_START.STATE ≠ 3) (hi : n.sys.injDue = false) {k : Nat}
    (hk : n.activeSlot tPOLICY = some k) (hv : n.verified tPOLICY (n.slotImg k) = true) :
    let m := imageCopyEnd n
    m.f F.SYS_START.POLICY = 1 ∧ m.oap.running = true ∧ m.oap.pc = 0#32 ∧ m.oap.data = [] ∧ m.evPending 0 = true ∧
      (∀ i, Cells.get 0#8 m.oap.active i =
        if i < imgBodyLen (n.slotImg k) then (Cells.get [] n.mram.slots k).getD (128 + i) 0#8 else 0#8) ∧
      (∀ i, m.gpr i = 0#32) ∧ Cells.get 0#32 m.oap.evData 0 = 0#32 := by
  have hp : n.policyStart = (n, some k) := by
    unfold Lane.policyStart
    rw [hk]
    exact if_pos hv
  have hm : imageCopyEnd n = n.tablesStart.started.runs k := by rw [imageCopyEnd_eq hs hh hi, hp]
  have hslots : n.tablesStart.started.mram.slots = n.mram.slots := by rw [Lane.started_mram, n.tablesStart_leaves.2]
  have himg : n.tablesStart.started.slotImg k = n.slotImg k := by unfold Lane.slotImg; rw [hslots]
  have hactive := n.tablesStart.started.runs_active k
  rw [himg, hslots] at hactive
  rw [hm]
  generalize n.tablesStart.started = q at hactive
  have hpol : (q.runs k).f F.SYS_START.POLICY = 1 := (congrFun (q.runs_f k) _).trans (Lane.f_setF_eq _ _ rfl (by decide))
  obtain ⟨hrun, hpc, hdata, hev, hgpr, hcause⟩ := (q.policyCopied k).engineRestart_shows 0
  exact ⟨hpol, hrun, hpc, hdata, hev, hactive, hgpr, hcause⟩

/-! ## The checks of an image (R58) -/

/-- What the checks of an image read of the lane is the same. -/
structure SameChecks (n m : Lane) : Prop where
  id      : m.id = n.id
  regs    : ∀ a, a < 0x18 → m.rd a = n.rd a
  keys    : m.mram.keys = n.mram.keys
  revoked : m.mram.revoked = n.mram.revoked

section
variable {n m : Lane} (h : SameChecks n m)
include h

theorem Lane.hardwareBad_congr (img : List Nat) : m.hardwareBad img = n.hardwareBad img := by
  unfold Lane.hardwareBad Lane.covered Lane.unitOk
  rw [Lane.f_congr (r := F.SYS_STEP.LANESTEP) (h.regs _ (by decide)), h.regs R.SYS_UIDL (by decide), h.regs R.SYS_UIDH (by decide)]

theorem Lane.keyHash_congr (k : Nat) : m.keyHash k = n.keyHash k := by
  unfold Lane.keyHash
  rw [h.keys]

theorem Lane.keyGood_congr (k : Nat) : m.keyGood k = n.keyGood k := by
  unfold Lane.keyGood Lane.keySet
  rw [Lane.keyHash_congr h, h.revoked]

theorem Lane.signatureBad_congr (img : List Nat) : m.signatureBad img = n.signatureBad img := by
  unfold Lane.signatureBad
  simp only [Lane.f_congr (r := F.SYS_LCS.STATE) (h.regs _ (by decide)), Lane.keyGood_congr h, Lane.keyHash_congr h]

theorem Lane.imageBad_congr (ty : Nat) (img : List Nat) : m.imageBad ty img = n.imageBad ty img := by
  unfold Lane.imageBad
  rw [Lane.hardwareBad_congr h, Lane.signatureBad_congr h]

theorem Lane.ashlarBad_congr (img : List Nat) : m.ashlarBad img = n.ashlarBad img := by
  unfold Lane.ashlarBad
  rw [Lane.imageBad_congr h, h.id]
end

/-- Words from 0x18 on, and a message, leave what the checks read. -/
theorem SameChecks.of_raise {n k : Lane} (hk : RegsOnly n k) (hr : ∀ a, a < 0x18 → k.rd a = n.rd a) (o : Nat) :
    SameChecks n (k.structureRaise o) ∧ (k.structureRaise o).mram = n.mram := by
  have hmram : k.mram = n.mram := by rw [hk]
  refine ⟨⟨?_, fun a ha => ?_, congrArg Mram.keys hmram, congrArg Mram.revoked hmram⟩, hmram⟩
  · exact show k.id = n.id by rw [hk]
  · exact (k.raise_rd _ _ _ a).trans (hr a ha)

theorem SameChecks.setSlot {n m : Lane} (h : SameChecks n m) (s st : Nat) : SameChecks n (m.setSlot s st) :=
  ⟨h.id, h.regs, h.keys, h.revoked⟩

theorem Lane.slotSt_setSlot_ne (n : Lane) {s s' : Nat} (st : Nat) (h : s' ≠ s) : (n.setSlot s st).slotSt s' = n.slotSt s' :=
  Cells.get_set_ne _ _ _ _ h

/-! ## The result of the load (R62) -/

/-- The other slot of R62: that of the pair, or slot A where none is active. -/
def Lane.fallbackSlot (n : Lane) : Nat :=
  match n.activeSlot tASHLAR with
  | some k => partner k
  | none => 2

/-- The lane with its active slot no longer on trial. -/
def Lane.trialEnded (n : Lane) : Option Nat → Lane
  | some k => if n.slotSt k = lTRIAL then n.setSlot k lSTORED else n
  | none => n

/-- The finding `e` recorded and raised, the slot `s` no longer on trial. -/
def Lane.findingShown (n : Lane) (s : Option Nat) (e : Nat × Nat × Nat) : Lane :=
  ((n.setFs [(F.SYS_ASHERR.STEP, e.1), (F.SYS_ASHERR.SECTION, e.2.1), (F.SYS_ASHERR.OFFSET, e.2.2)]).structureRaise e.2.2).trialEnded s

/-- The load is refused. -/
def Lane.loadRefused (n : Lane) : Lane := n.setFs [(F.SYS_ASHSTAT.STATE, 3), (F.SYS_ASHPEER.STATE, 5)]

/-- The load falls back to slot `other`, or is refused. -/
def Lane.fallBack (n : Lane) (s : Option Nat) (other up dn : Nat) : Lane :=
  if n.slotSt other = lACCEPTED then
    match n.ashlarBad (n.slotImg other) with
    | none => Lane.loadImage (if (s.map fun k => n.slotSt k == lSTORED).getD false then n.setSlot other lACTIVE else n) other true up dn
    | some e => (n.structureRaise e.2.2).loadRefused
  else n.loadRefused

theorem Lane.loadResult_active {n : Lane} {k up dn : Nat} (hk : n.activeSlot tASHLAR = some k) (hb : n.ashlarBad (n.slotImg k) = none) :
    n.loadResult up dn = n.loadImage k false up dn := by
  unfold Lane.loadResult Lane.ashImg
  rw [hk]
  simp only [hb]

/-- Where the active slot's image does not load, the load falls back. -/
theorem Lane.loadResult_other {n : Lane} {up dn : Nat} (hb : ∀ k, n.activeSlot tASHLAR = some k → n.ashlarBad (n.slotImg k) ≠ none) :
    ∃ e, n.loadResult up dn = (n.findingShown (n.activeSlot tASHLAR) e).fallBack (n.activeSlot tASHLAR) n.fallbackSlot up dn := by
  refine ⟨(n.ashlarBad (n.ashImg (n.activeSlot tASHLAR))).getD (1, 0, 0), ?_⟩
  unfold Lane.loadResult Lane.fallbackSlot
  extract_lets s
  have hs : n.activeSlot tASHLAR = s := rfl
  rw [hs] at hb ⊢
  clear_value s
  cases s with
  | none => cases n.ashlarBad (n.ashImg none) <;> rfl
  | some k =>
    cases he : n.ashlarBad (n.ashImg (some k)) with
    | none => exact absurd he (hb k rfl)
    | some e => rfl

theorem partner_ne (k : Nat) : partner k ≠ k := by
  unfold partner
  split <;> omega

/-- Fields of SYS_ASHERR are none of the words that the checks read. -/
theorem Lane.rd_ashErr (n : Lane) (e : Nat × Nat × Nat) {a : Nat} (ha : a < 0x18) :
    (n.setFs [(F.SYS_ASHERR.STEP, e.1), (F.SYS_ASHERR.SECTION, e.2.1), (F.SYS_ASHERR.OFFSET, e.2.2)]).rd a = n.rd a := by
  have hne : a ≠ R.SYS_ASHERR := by unfold R.SYS_ASHERR; omega
  rw [Lane.setFs_cons, Lane.setFs_cons, Lane.setFs_cons, Lane.setFs_nil, Lane.rd_setF_ne _ _ _ hne, Lane.rd_setF_ne _ _ _ hne,
    Lane.rd_setF_ne _ _ _ hne]

theorem SameChecks.trialEnded {n q : Lane} (h : SameChecks n q) (s : Option Nat) : SameChecks n (q.trialEnded s) := by
  unfold Lane.trialEnded
  split
  · exact ite_of (h.setSlot _ _) h
  · exact h

theorem Lane.trialEnded_slotImg (n : Lane) (s : Option Nat) : (n.trialEnded s).slotImg = n.slotImg := by
  unfold Lane.trialEnded
  split
  · exact ite_of (p := fun m : Lane => m.slotImg = n.slotImg) rfl rfl
  · rfl

theorem Lane.trialEnded_slotSt (n : Lane) {s : Option Nat} {other : Nat} (ho : ∀ k, s = some k → other ≠ k) :
    (n.trialEnded s).slotSt other = n.slotSt other := by
  unfold Lane.trialEnded
  split
  · next k => exact ite_of (p := fun m : Lane => m.slotSt other = n.slotSt other) (n.slotSt_setSlot_ne _ (ho k rfl)) rfl
  · rfl

/-- The finding leaves what the checks read, the images and the state of a slot that is not the active one. -/
theorem Lane.findingShown_leaves (n : Lane) (s : Option Nat) (e : Nat × Nat × Nat) {other : Nat} (ho : ∀ k, s = some k → other ≠ k) :
    SameChecks n (n.findingShown s e) ∧ (n.findingShown s e).slotSt other = n.slotSt other ∧ (n.findingShown s e).slotImg = n.slotImg := by
  obtain ⟨hsame, hmram⟩ := SameChecks.of_raise ((RegsOnly.refl n).setFs _) (fun a => n.rd_ashErr e) e.2.2
  unfold Lane.findingShown
  generalize (n.setFs [(F.SYS_ASHERR.STEP, e.1), (F.SYS_ASHERR.SECTION, e.2.1), (F.SYS_ASHERR.OFFSET, e.2.2)]).structureRaise e.2.2 = q at *
  refine ⟨hsame.trialEnded s, (q.trialEnded_slotSt ho).trans ?_, (q.trialEnded_slotImg s).trans ?_⟩
  · unfold Lane.slotSt; rw [hmram]
  · unfold Lane.slotImg; rw [hmram]

theorem Lane.fallbackSlot_ne (n : Lane) (k : Nat) (hk : n.activeSlot tASHLAR = some k) : n.fallbackSlot ≠ k := by
  unfold Lane.fallbackSlot
  rw [hk]
  exact partner_ne k

/-- The fallback slot's image loads where it is ACCEPTED and passes its checks, and the load is refused otherwise. -/
theorem Lane.loadResult_fallback {n : Lane} {up dn : Nat} (hb : ∀ k, n.activeSlot tASHLAR = some k → n.ashlarBad (n.slotImg k) ≠ none) :
    (n.slotSt n.fallbackSlot = lACCEPTED → n.ashlarBad (n.slotImg n.fallbackSlot) = none →
       ∃ q : Lane, n.loadResult up dn = q.loadImage n.fallbackSlot true up dn) ∧
    (n.slotSt n.fallbackSlot ≠ lACCEPTED ∨ n.ashlarBad (n.slotImg n.fallbackSlot) ≠ none →
       ∃ q : Lane, n.loadResult up dn = q.loadRefused) := by
  obtain ⟨e, he⟩ := Lane.loadResult_other (up := up) (dn := dn) hb
  obtain ⟨hsame, hst, himg⟩ := n.findingShown_leaves (n.activeSlot tASHLAR) e n.fallbackSlot_ne
  have hbad := Lane.ashlarBad_congr hsame
  rw [he]
  unfold Lane.fallBack
  rw [hst, himg, hbad]
  constructor
  · intro hacc hgood
    rw [if_pos hacc, hgood]
    exact ⟨_, rfl⟩
  · intro hno
    by_cases hacc : n.slotSt n.fallbackSlot = lACCEPTED
    · rw [if_pos hacc]
      cases hx : n.ashlarBad (n.slotImg n.fallbackSlot) with
      | none => exact absurd hx (hno.resolve_left fun h => h hacc)
      | some x => exact ⟨_, rfl⟩
    · rw [if_neg hacc]
      exact ⟨_, rfl⟩

/-! ## What the load shows -/

/-- The registers that show the structure's state, version, lock and agreement. -/
def loadReg (a : Nat) : Prop := 0x100 ≤ a ∧ a < 0x114

theorem loadReg_avoids {lo : Nat} (h : 0x114 ≤ lo) (hi : Nat) : Avoids loadReg lo hi := avoids_of_lt fun _ ha => by have := ha.2; omega

theorem not_loadReg {a : Nat} (h : 0x114 ≤ a) : ¬ loadReg a := fun ha => by have := ha.2; omega

theorem Lane.loadRefused_shows (n : Lane) : n.loadRefused.f F.SYS_ASHSTAT.STATE = 3 ∧ n.loadRefused.f F.SYS_ASHPEER.STATE = 5 := by
  unfold Lane.loadRefused
  rw [Lane.setFs_cons, Lane.setFs_cons, Lane.setFs_nil]
  exact ⟨(Lane.f_setF_apart _ _ rfl (FRef.apart_of_off (by decide))).trans (Lane.f_setF_eq _ _ rfl (by decide)),
    Lane.f_setF_eq _ _ rfl (by decide)⟩

/-- The identity of an image that loads. -/
def Lane.imageShown (n : Lane) (s : Nat) (fallback : Bool) (version mask : Nat) : Lane :=
  n.setFs [(F.SYS_ASHSTAT.STATE, 2), (F.SYS_ASHSTAT.SLOT, s % 2), (F.SYS_ASHSTAT.FALLBACK, b1 fallback),
    (F.SYS_ASHVER.VERSION, version), (F.SYS_ASHSHARE.MASK, mask)]

theorem Lane.imageShown_shows (n : Lane) (s : Nat) (fallback : Bool) (version mask : Nat) :
    let m := n.imageShown s fallback version mask
    m.f F.SYS_ASHSTAT.STATE = 2 ∧ m.f F.SYS_ASHSTAT.SLOT = s % 2 ∧ m.f F.SYS_ASHSTAT.FALLBACK = b1 fallback ∧
      m.f F.SYS_ASHVER.VERSION = version % 2 ^ (F.SYS_ASHVER.VERSION.hi + 1 - F.SYS_ASHVER.VERSION.lo) := by
  have hfb : b1 fallback < 2 := by cases fallback <;> decide
  have hslot : s % 2 < 2 := Nat.mod_lt _ (by decide)
  simp only [Lane.imageShown, Lane.setFs_cons, Lane.setFs_nil]
  refine ⟨?_, ?_, ?_, ?_⟩
  · rw [Lane.f_setF_apart _ _ rfl (FRef.apart_of_off (by decide)), Lane.f_setF_apart _ _ rfl (FRef.apart_of_off (by decide)),
      Lane.f_setF_apart _ _ rfl (FRef.apart_above (show 26 < 28 by decide)),
      Lane.f_setF_apart _ _ rfl (FRef.apart_above (show 27 < 28 by decide))]
    exact Lane.f_setF_eq _ _ rfl (by decide)
  · rw [Lane.f_setF_apart _ _ rfl (FRef.apart_of_off (by decide)), Lane.f_setF_apart _ _ rfl (FRef.apart_of_off (by decide)),
      Lane.f_setF_apart _ _ rfl (FRef.apart_above (show 26 < 27 by decide))]
    exact Lane.f_setF_eq _ _ rfl hslot
  · rw [Lane.f_setF_apart _ _ rfl (FRef.apart_of_off (by decide)), Lane.f_setF_apart _ _ rfl (FRef.apart_of_off (by decide))]
    exact Lane.f_setF_eq _ _ rfl hfb
  · rw [Lane.f_setF_apart _ _ rfl (FRef.apart_of_off (by decide))]
    exact Lane.f_setF_self _ _ _ (by decide) (by decide)

theorem Keeps.putBytes {P : Nat → Prop} {k n : Lane} {off w : Nat} (h : Keeps P k n) (bs : List Nat) (hp : Avoids P off (off + 4 * w)) :
    Keeps P k (n.putBytes off w bs) := by
  refine Keeps.each _ h fun i hi _ hm => hm.wr _ (hp.not (by omega) ?_)
  have := List.mem_range.1 hi
  omega

theorem Keeps.upSys {P : Nat → Prop} {k n : Lane} {g : SysState → SysState} (h : Keeps P k n) (hs : (g n.sys).step = n.sys.step) :
    Keeps P k (n.upSys g) :=
  h.same (Lane.upSys_regs _ _) ((congrArg SysState.step (Lane.upSys_sys _ _)).trans hs) (Lane.upSys_pwr _ _) (Lane.upSys_upd _ _)

theorem Keeps.upSaf {P : Nat → Prop} {k n : Lane} (h : Keeps P k n) (g : SafState → SafState) : Keeps P k (n.upSaf g) :=
  h.same (Lane.upSaf_regs _ _) (congrArg SysState.step (Lane.upSaf_sys _ _)) (Lane.upSaf_pwr _ _) (Lane.upSaf_upd _ _)

theorem Keeps.sealRead {k n : Lane} (h : Keeps loadReg k n) (up dn : Nat) : Keeps loadReg k (n.sealRead up dn).1 := by
  have hs : ¬ loadReg R.SAF_SEAL := not_loadReg (by decide)
  exact (h.setF _ hs).setF _ hs

/-- Once an image's identity shows, the rest of its load leaves it. -/
theorem Lane.loadImage_keeps (n : Lane) (s : Nat) (fallback : Bool) (up dn : Nat) : ∃ q : Lane, ∃ mask,
    Keeps loadReg (q.imageShown s fallback (imgVersion (n.slotImg s)) mask) (n.loadImage s fallback up dn) := by
  refine ⟨n.writeMirrors (imgBody (n.slotImg s)) (n.f F.YAR_UNUSABLE.PARTS), u16 (imgBody (n.slotImg s)) 0x0A, ?_⟩
  unfold Lane.loadImage Lane.imageShown
  extract_lets img body u m₁ m₂ m₃ m₄ r m₅
  have k₃ : Keeps loadReg m₂ m₃ := (Keeps.refl _ _).putBytes _ (loadReg_avoids (by decide) _)
  have hlcs : ¬ loadReg R.SYS_LCS := fun h => absurd h.1 (by decide)
  have k₄ : Keeps loadReg m₂ m₄ := Keeps.setFs _ (fun p hp => by
    simp only [List.mem_cons, List.not_mem_nil, or_false] at hp
    rcases hp with rfl | rfl | rfl <;> exact hlcs) k₃
  clear_value m₄
  have kr : Keeps loadReg m₂ r.1 := k₄.sealRead up dn
  clear_value r
  have k₅ : Keeps loadReg m₂ m₅ := ite_of kr ((kr.setF _ (not_loadReg (by decide))).upSaf _)
  clear_value m₅
  exact k₅.upSys rfl

/-- The identity that an image that loads shows. -/
theorem Lane.loadImage_shows (n : Lane) (s : Nat) (fallback : Bool) (up dn : Nat) :
    let m := n.loadImage s fallback up dn
    m.f F.SYS_ASHSTAT.STATE = 2 ∧ m.f F.SYS_ASHSTAT.SLOT = s % 2 ∧ m.f F.SYS_ASHSTAT.FALLBACK = b1 fallback ∧
      m.f F.SYS_ASHVER.VERSION = imgVersion (n.slotImg s) % 2 ^ (F.SYS_ASHVER.VERSION.hi + 1 - F.SYS_ASHVER.VERSION.lo) := by
  obtain ⟨q, mask, k⟩ := n.loadImage_keeps s fallback up dn
  have hstat : loadReg R.SYS_ASHSTAT := ⟨by decide, by decide⟩
  have hver : loadReg R.SYS_ASHVER := ⟨by decide, by decide⟩
  intro m
  rw [k.f_eq (r := F.SYS_ASHSTAT.STATE) hstat, k.f_eq (r := F.SYS_ASHSTAT.SLOT) hstat, k.f_eq (r := F.SYS_ASHSTAT.FALLBACK) hstat,
    k.f_eq (r := F.SYS_ASHVER.VERSION) hver]
  exact q.imageShown_shows s fallback _ mask

/-! ## The end of the load (R58, R61) -/

section
variable {k n : Lane} (h : Keeps loadReg k n)
include h

theorem Keeps.loadHalt (code : Nat) : Keeps loadReg k (n.halt code) := by
  have hs : ¬ loadReg R.SYS_START := fun h => absurd h.1 (by decide)
  exact (h.setF _ hs).setF _ hs

theorem Keeps.partsShown : Keeps loadReg k n.partsCount.partsRaise := by
  have hlcs : ¬ loadReg R.SYS_LCS := fun h => absurd h.1 (by decide)
  have a : Keeps loadReg k n.partsCount := h.setF _ hlcs
  unfold Lane.partsRaise
  exact Keeps.each _ a fun _ _ _ hm => ite_of (hm.raise _ _ _) hm

theorem Keeps.showExits (offs : List Nat) (loaded : Bool) : Keeps loadReg k (n.showExits offs loaded) := by
  unfold Lane.showExits
  refine Keeps.each _ h fun d _ m hm => ?_
  have he : ¬ loadReg (R.PWR_Dd_EXIT d) := not_loadReg (by unfold R.PWR_Dd_EXIT; omega)
  exact (hm.setF _ he).setF _ he

theorem Keeps.loadMode (mode : Nat) : Keeps loadReg k (n.setMode mode) := (h.setCsr _ _).setF _ (not_loadReg (by decide))

theorem Keeps.sendStatus : Keeps loadReg k n.sendStatus := by
  unfold Lane.sendStatus Lane.send
  exact (h.upSys rfl).upSys rfl

theorem Keeps.loadOutputs : Keeps loadReg k n.safUpdate.checkHolds :=
  (h.safUpdate (loadReg_avoids (by decide) _) (loadReg_avoids (by decide) _)
    ⟨loadReg_avoids (by decide) _, loadReg_avoids (by decide) _, loadReg_avoids (by decide) _⟩).checkHolds (loadReg_avoids (by decide) _)
end

/-- The cores' finding decides after a load (R476). -/
def Lane.coresJudged (n : Lane) : Lane :=
  let main := n.bit F.YAR_UNUSABLE.PARTS 4
  let chk := n.bit F.YAR_UNUSABLE.PARTS 5
  if !main && !chk then n
  else if (main && chk) || !n.on F.LNT_PERMIT.SINGLECORE then n.halt 3
  else ((n.setMode (if main then 2 else 1)).setF F.LSC_STAT.INJSKIP 1).raise 0x19 5 0

/-- The lock, the partitions out of service and the bounds of exits that the end of a load with result `n` leaves. -/
def Lane.loadLocked (n : Lane) : Lane :=
  let m := (n.setF F.SYS_ASHLOCK.LOCK 1).partsCount.partsRaise
  m.showExits (m.sys.ash.mirrors.map fun c => c.1) (n.f F.SYS_ASHSTAT.STATE == 2)

/-- The start goes on with the copies. -/
def Lane.copying (n : Lane) : Lane := n.upSys fun s => { s with step := 10 }

theorem ashlarLoadEnd_eq {n : Lane} (up dn : Nat) (hs : n.sys.step = 9) (ha : n.f F.SYS_ASHSTAT.STATE = 1) :
    ashlarLoadEnd up dn n = (n.loadResult up dn).loadLocked.copying.coresJudged.sendStatus.safUpdate.checkHolds := by
  unfold ashlarLoadEnd
  rw [if_pos ⟨hs, ha⟩]
  rfl

theorem Lane.loadLocked_keeps (n : Lane) : Keeps loadReg (n.setF F.SYS_ASHLOCK.LOCK 1) n.loadLocked :=
  (Keeps.refl _ _).partsShown.showExits _ _

theorem Lane.coresJudged_keeps (n : Lane) : Keeps loadReg n n.coresJudged :=
  ite_of (Keeps.refl _ _) (ite_of ((Keeps.refl _ _).loadHalt 3)
    (((Keeps.refl _ _).loadMode _).setF _ (not_loadReg (by decide)) |>.raise _ _ _))

theorem Lane.copying_step (n : Lane) : n.copying.sys.step = 10 := rfl

theorem Lane.copying_rd (n : Lane) (a : Nat) : n.copying.rd a = n.rd a := Lane.upSys_rd _ _ _

/-- The end of the load sets the lock beside the load's result, and the start goes on with step 10. -/
theorem ashlarLoadEnd_keeps {n : Lane} (up dn : Nat) (hs : n.sys.step = 9) (ha : n.f F.SYS_ASHSTAT.STATE = 1) :
    (ashlarLoadEnd up dn n).sys.step = 10 ∧
      ∀ a, loadReg a → (ashlarLoadEnd up dn n).rd a = ((n.loadResult up dn).setF F.SYS_ASHLOCK.LOCK 1).rd a := by
  rw [ashlarLoadEnd_eq up dn hs ha]
  generalize n.loadResult up dn = r
  have k := (r.loadLocked.copying.coresJudged_keeps).sendStatus.loadOutputs
  exact ⟨k.step.trans (Lane.copying_step _), fun a ha => (k.regs a ha).trans ((Lane.copying_rd _ _).trans (r.loadLocked_keeps.regs a ha))⟩

/-- What the end of the load shows: the lock beside what the load's result shows. -/
theorem ashlarLoadEnd_f {n : Lane} (up dn : Nat) (hs : n.sys.step = 9) (ha : n.f F.SYS_ASHSTAT.STATE = 1) {q : FRef} (hq : loadReg q.off)
    (hne : q.off ≠ R.SYS_ASHLOCK) : (ashlarLoadEnd up dn n).f q = (n.loadResult up dn).f q :=
  (Lane.f_congr ((ashlarLoadEnd_keeps up dn hs ha).2 _ hq)).trans (Lane.f_setF_apart _ _ rfl (FRef.apart_of_off hne))

theorem ashlarLoadEnd_locks {n : Lane} (up dn : Nat) (hs : n.sys.step = 9) (ha : n.f F.SYS_ASHSTAT.STATE = 1) :
    (ashlarLoadEnd up dn n).f F.SYS_ASHLOCK.LOCK = 1 :=
  (Lane.f_congr ((ashlarLoadEnd_keeps up dn hs ha).2 _ ⟨by decide, by decide⟩)).trans (Lane.f_setF_eq _ _ rfl (by decide))

/-- A load that is refused shows it. -/
theorem ashlarLoadEnd_refused {n : Lane} {up dn : Nat} (hs : n.sys.step = 9) (ha : n.f F.SYS_ASHSTAT.STATE = 1)
    (h : ∃ q : Lane, n.loadResult up dn = q.loadRefused) :
    (ashlarLoadEnd up dn n).f F.SYS_ASHSTAT.STATE = 3 ∧ (ashlarLoadEnd up dn n).f F.SYS_ASHPEER.STATE = 5 := by
  obtain ⟨q, hq⟩ := h
  obtain ⟨hstate, hpeer⟩ := q.loadRefused_shows
  rw [← hq] at hstate hpeer
  exact ⟨(ashlarLoadEnd_f up dn hs ha ⟨by decide, by decide⟩ (by decide)).trans hstate,
    (ashlarLoadEnd_f up dn hs ha ⟨by decide, by decide⟩ (by decide)).trans hpeer⟩

/-- A load that loads slot `k` shows it. -/
theorem ashlarLoadEnd_loaded {n q : Lane} {up dn k : Nat} {fallback : Bool} (hs : n.sys.step = 9) (ha : n.f F.SYS_ASHSTAT.STATE = 1)
    (h : n.loadResult up dn = q.loadImage k fallback up dn) :
    let m := ashlarLoadEnd up dn n
    m.f F.SYS_ASHSTAT.STATE = 2 ∧ m.f F.SYS_ASHSTAT.SLOT = k % 2 ∧ m.f F.SYS_ASHSTAT.FALLBACK = b1 fallback ∧
      m.f F.SYS_ASHVER.VERSION = imgVersion (q.slotImg k) % 2 ^ (F.SYS_ASHVER.VERSION.hi + 1 - F.SYS_ASHVER.VERSION.lo) := by
  have hf : ∀ r : FRef, loadReg r.off → r.off ≠ R.SYS_ASHLOCK → (ashlarLoadEnd up dn n).f r = (q.loadImage k fallback up dn).f r := by
    intro r hr hne
    rw [ashlarLoadEnd_f up dn hs ha hr hne, h]
  have hstat : loadReg R.SYS_ASHSTAT := ⟨by decide, by decide⟩
  have hver : loadReg R.SYS_ASHVER := ⟨by decide, by decide⟩
  obtain ⟨hstate, hslot, hfall, hversion⟩ := q.loadImage_shows k fallback up dn
  exact ⟨(hf F.SYS_ASHSTAT.STATE hstat (by decide)).trans hstate, (hf F.SYS_ASHSTAT.SLOT hstat (by decide)).trans hslot,
    (hf F.SYS_ASHSTAT.FALLBACK hstat (by decide)).trans hfall, (hf F.SYS_ASHVER.VERSION hver (by decide)).trans hversion⟩

/-- A load ends loaded or refused. -/
theorem ashlarLoadEnd_decides {n : Lane} (up dn : Nat) (hs : n.sys.step = 9) (ha : n.f F.SYS_ASHSTAT.STATE = 1) :
    (ashlarLoadEnd up dn n).f F.SYS_ASHSTAT.STATE = 2 ∨ (ashlarLoadEnd up dn n).f F.SYS_ASHSTAT.STATE = 3 := by
  by_cases hgood : ∃ k, n.activeSlot tASHLAR = some k ∧ n.ashlarBad (n.slotImg k) = none
  · obtain ⟨k, hk, hb⟩ := hgood
    exact .inl (ashlarLoadEnd_loaded hs ha (Lane.loadResult_active hk hb)).1
  · have hb : ∀ k, n.activeSlot tASHLAR = some k → n.ashlarBad (n.slotImg k) ≠ none := fun k hk hb => hgood ⟨k, hk, hb⟩
    obtain ⟨hloads, hrefuses⟩ := Lane.loadResult_fallback (up := up) (dn := dn) hb
    by_cases hacc : n.slotSt n.fallbackSlot = lACCEPTED
    · by_cases hok : n.ashlarBad (n.slotImg n.fallbackSlot) = none
      · obtain ⟨q, hq⟩ := hloads hacc hok
        exact .inl (ashlarLoadEnd_loaded hs ha hq).1
      · exact .inr (ashlarLoadEnd_refused hs ha (hrefuses (.inr hok))).1
    · exact .inr (ashlarLoadEnd_refused hs ha (hrefuses (.inl hacc))).1

/-- What the load of the active slot's image shows. -/
theorem ashlarLoadEnd_active {n : Lane} (up dn : Nat) (hs : n.sys.step = 9) (ha : n.f F.SYS_ASHSTAT.STATE = 1) {k : Nat}
    (hk : n.activeSlot tASHLAR = some k) (hb : n.ashlarBad (n.slotImg k) = none) :
    let m := ashlarLoadEnd up dn n
    m.f F.SYS_ASHSTAT.STATE = 2 ∧ m.f F.SYS_ASHSTAT.SLOT = k % 2 ∧ m.f F.SYS_ASHSTAT.FALLBACK = 0 ∧
      m.f F.SYS_ASHVER.VERSION = imgVersion (n.slotImg k) % 2 ^ (F.SYS_ASHVER.VERSION.hi + 1 - F.SYS_ASHVER.VERSION.lo) :=
  ashlarLoadEnd_loaded hs ha (Lane.loadResult_active (up := up) (dn := dn) hk hb)

/-- What the load shows where the active slot's image does not load. -/
theorem ashlarLoadEnd_fallback {n : Lane} (up dn : Nat) (hs : n.sys.step = 9) (ha : n.f F.SYS_ASHSTAT.STATE = 1)
    (hb : ∀ k, n.activeSlot tASHLAR = some k → n.ashlarBad (n.slotImg k) ≠ none) :
    let m := ashlarLoadEnd up dn n
    (n.slotSt n.fallbackSlot = lACCEPTED → n.ashlarBad (n.slotImg n.fallbackSlot) = none →
       m.f F.SYS_ASHSTAT.STATE = 2 ∧ m.f F.SYS_ASHSTAT.SLOT = n.fallbackSlot % 2 ∧ m.f F.SYS_ASHSTAT.FALLBACK = 1) ∧
    (n.slotSt n.fallbackSlot ≠ lACCEPTED ∨ n.ashlarBad (n.slotImg n.fallbackSlot) ≠ none →
       m.f F.SYS_ASHSTAT.STATE = 3 ∧ m.f F.SYS_ASHPEER.STATE = 5) := by
  obtain ⟨hloads, hrefuses⟩ := Lane.loadResult_fallback (up := up) (dn := dn) hb
  refine ⟨fun hacc hgood => ?_, fun hno => ashlarLoadEnd_refused hs ha (hrefuses hno)⟩
  obtain ⟨q, hq⟩ := hloads hacc hgood
  obtain ⟨hstate, hslot, hfall, _⟩ := ashlarLoadEnd_loaded hs ha hq
  exact ⟨hstate, hslot, hfall⟩

/-! ## The statements -/

theorem answers_ashlarLoadEnd {s : State} {l : LaneId} {t : Nat} {up dn : BitVec 6} {n : Lane} {P : Lane → Prop} (hn : s.laneAt l t = n)
    (hc : n.domOn dCORE = true) (hp : P (ashlarLoadEnd up.toNat dn.toNat n)) : Answers (.ashlarLoadEnd l t up dn) s P := by
  subst hn
  exact answers_onDomain (f := ashlarLoadEnd up.toNat dn.toNat) rfl rfl hc hp

theorem answers_startupImageCopyEnd {s : State} {l : LaneId} {t : Nat} {n : Lane} {P : Lane → Prop} (hn : s.laneAt l t = n)
    (hc : n.domOn dCORE = true) (hp : P (imageCopyEnd n)) : Answers (.startupImageCopyEnd l t) s P := by
  subst hn
  exact answers_onDomain (f := imageCopyEnd) rfl rfl hc hp

/-- Settles O57: the load by what its result shows and the end of the load keeps, the copies by `imageCopyEnd_runs`. -/
theorem loadAndRun : Obligations.LoadAndRun := by
  unfold Obligations.LoadAndRun
  refine ⟨?_, ?_⟩
  · intro s l t up dn n hc hs ha
    have hn : s.laneAt l t = n := rfl
    clear_value n
    refine answers_ashlarLoadEnd hn hc ?_
    refine ⟨(ashlarLoadEnd_keeps _ _ hs ha).1, ashlarLoadEnd_locks _ _ hs ha, ?_, ?_⟩
    · intro k hk hb
      exact ashlarLoadEnd_active _ _ hs ha hk hb
    · intro hb other
      have ho : other = n.fallbackSlot := rfl
      clear_value other
      subst ho
      exact ashlarLoadEnd_fallback _ _ hs ha hb
  · intro s l t n hc hs hh hi
    have hn : s.laneAt l t = n := rfl
    clear_value n
    refine answers_startupImageCopyEnd hn hc ?_
    refine ⟨(imageCopyEnd_running hs hh hi).1, (imageCopyEnd_running hs hh hi).2, ?_⟩
    intro k hk hv
    exact imageCopyEnd_runs hs hh hi hk hv

/-- A command of the power controller acts on a lane that is powered. -/
theorem answers_powered {c : Instr} {s : State} {l : LaneId} {t : Nat} {f : Lane → Lane} {n : Lane} {P : Lane → Prop}
    (h : exec c s = onAon l t s f) (hl : c.lane = l) (hn : s.laneAt l t = n) (hw : n.sys.powered = true) (hp : P (f n)) : Answers c s P := by
  subst hn
  exact answers_onAon h hl hw hp

/-- Settles O60: the load and the copies as in O57, the transitions by what each of their commands decides for its domain. -/
theorem loadsAndDomainsComplete : Obligations.LoadsAndDomainsComplete := by
  unfold Obligations.LoadsAndDomainsComplete
  refine ⟨?_, ?_, ?_⟩
  · intro s l t up dn n hc hs ha
    have hn : s.laneAt l t = n := rfl
    clear_value n
    exact answers_ashlarLoadEnd hn hc ⟨(ashlarLoadEnd_keeps _ _ hs ha).1, ashlarLoadEnd_locks _ _ hs ha, ashlarLoadEnd_decides _ _ hs ha⟩
  · intro s l t n hc hs hh hi
    have hn : s.laneAt l t = n := rfl
    clear_value n
    exact answers_startupImageCopyEnd hn hc (imageCopyEnd_running hs hh hi)
  · intro s l t d n lat hw hd
    have hn : s.laneAt l t = n := rfl
    clear_value n
    refine ⟨?_, ?_, ?_, ?_⟩
    · intro hst hh hs ha h0 hx
      exact answers_powered (c := .idleCountExpiry l t d) (f := idleExpiry d) rfl rfl hn hw (idleExpiry_enters hd d.isLt hst hh hs ha h0 hx)
    · intro hst hdue hlate hpv _ ht
      exact answers_powered (c := .domainEntryComplete l t d) (f := entryComplete d) rfl rfl hn hw
        (entryComplete_enters hd d.isLt hst hdue hlate hpv ht)
    · intro hst hs ht hq hpv hret hlock href hgl hdue
      exact answers_powered (c := .domainExitComplete l t d) (f := exitComplete d) rfl rfl hn hw
        (exitComplete_on hd d.isLt hst hs ht hq hpv hret hlock href hgl hdue)
    · intro hst ht hdue
      exact answers_powered (c := .domainExitTimeout l t d) (f := exitTimeout d) rfl rfl hn hw (exitTimeout_repeats hst ht hdue)

end Sys2Proof.Machine
end

section
/-! SUPPORT. A word write over the lane bus, and what clears a sequence-clear register (R86, R92). -/

namespace Sys2Proof.Machine

/-! ## Word writes -/

/-- An access that nobody waits for is made, and the holds are judged. -/
theorem Lane.serve_unanswered (n : Lane) {a : Access} (h : a.rep = 0) : n.serve a = (n.access a).1.checkHolds := by
  have hans : ∀ (m : Lane) (r : W32 × Bool), m.answer a.org a.rep r = m := fun m r => if_pos h
  unfold Lane.serve
  split
  · next e => rw [e, hans]
  · next e => rw [e]

/-- A word write to a register has the effect of its register. -/
theorem writeWord_eq (n : Lane) (org : Nat) {off : Nat} (v : W32) (h4 : off % 4 = 0) (hw : off < 0x800000) (hm : isMemory off = false) :
    writeWord org off v n = (n.regWrite org off v (regEff org off v)).checkHolds := by
  have hgo : (fun m : Lane => if 0x800000 ≤ off then (m.reject kWINDOW org off true (strobe off 4), some (0#32, false))
      else if !true then (m, some (m.view (off / 4 * 4), false))
      else if 4 = 4 then (m.put32 org off v, some (0#32, false))
      else (if implemented off then m.reject kWIDTH org off true (strobe off 4) else m, some (0#32, false))) =
      fun m => (m.judged org off v (regEff org off v), some (0#32, false)) := by
    funext m
    rw [if_neg (by omega), if_neg (by decide), if_pos rfl, Lane.put32, hm, if_neg Bool.false_ne_true]
  have hal : ({ org := org, off := off, write := true, val := v } : Access).unaligned = false := by
    unfold Access.unaligned; simp [h4]
  have hwin : ({ org := org, off := off, write := true, val := v } : Access).isWindow = false := by
    unfold Access.isWindow; simp
  unfold writeWord
  rw [Lane.serve_unanswered _ rfl]
  unfold Lane.access Lane.attempt Lane.regWrite
  rw [hwin, hal, if_neg Bool.false_ne_true, if_neg Bool.false_ne_true]
  exact congrArg (fun go => (n.orStall _ (n.gate _ go)).1.checkHolds) hgo

/-! ## Sequence-clear registers -/

theorem Lane.sqClear_other {n : Lane} {off : Nat} {v : W32} (h : ¬ (bits v 7 0 = n.f ⟨off, 7, 0⟩ ∧ n.f ⟨off, 7, 0⟩ ≠ 0)) :
    n.sqClear off v = n := if_neg h

/-- A matching SEQ clears everything but SEQ, and BUSY of SYS_LCSTAT; SYS_REGADR clears with SYS_REGERR. -/
theorem Lane.sqClear_match {n : Lane} {off : Nat} {v : W32} (h : bits v 7 0 = n.f ⟨off, 7, 0⟩ ∧ n.f ⟨off, 7, 0⟩ ≠ 0) :
    n.sqClear off v =
      let k := n.wr off (BitVec.ofNat 32 (n.f ⟨off, 7, 0⟩ + if off = R.SYS_LCSTAT then n.f F.SYS_LCSTAT.BUSY * 2 ^ 9 else 0))
      if off = R.SYS_REGERR then k.wr R.SYS_REGADR 0#32 else k := if_pos h

/-- The power controller's own state has no part in a clear. -/
theorem Lane.sqClear_upPwr (n : Lane) (g : PwrState → PwrState) (off : Nat) (v : W32) :
    (n.upPwr g).sqClear off v = (n.sqClear off v).upPwr g := by
  by_cases h : bits v 7 0 = n.f ⟨off, 7, 0⟩ ∧ n.f ⟨off, 7, 0⟩ ≠ 0
  · rw [Lane.sqClear_match h, Lane.sqClear_match (n := n.upPwr g) h]
    by_cases he : off = R.SYS_REGERR
    · simp only [if_pos he]; rfl
    · simp only [if_neg he]; rfl
  · rw [Lane.sqClear_other h, Lane.sqClear_other (n := n.upPwr g) h]

theorem Lane.sqClear_touch (n : Lane) (off : Nat) (v : W32) : PowerOnly (n.sqClear off v) ((n.touch off).sqClear off v) := by
  unfold Lane.touch
  split
  · unfold Lane.idleRestart
    rw [Lane.sqClear_upPwr]
    exact (PowerOnly.refl _).upPwr _
  · exact PowerOnly.refl _

/-- A word write that reaches a sequence-clear register is its clear. -/
theorem writeWord_sq {n : Lane} {org off : Nat} {r : RegRow} (v : W32) (h4 : off % 4 = 0) (hw : off < 0x800000) (hm : isMemory off = false)
    (hr : regRow off = some r) (hc : r.cls = .sq) (hs : n.serves org off = true) : PowerOnly (n.sqClear off v) (writeWord org off v n) := by
  have hj : ∀ m : Lane, m.judge r off v = none := fun m => by unfold Lane.judge; rw [hc]
  have he : ∀ m : Lane, regEff org off v m = m.sqClear off v := fun m => by unfold regEff; rw [hr]; simp [hc]
  rw [writeWord_eq n org v h4 hw hm, Lane.regWrite_serves v _ hs]
  unfold Lane.judged
  simp only [hr, hj, he]
  exact (n.sqClear_touch off v).checkHolds.checkHolds

/-- Settles O8: a word write to the register is its clear, and the clear is decided by whether the word names SEQ. -/
theorem sequenceClearClears : Obligations.SequenceClearClears := by
  unfold Obligations.SequenceClearClears
  intro s l t org off v r n o q h4 hw hm hr hc hs
  refine answers_onLane (f := writeWord org.code off.toNat v) rfl rfl ?_
  have h : PowerOnly (n.sqClear o v) (writeWord org.code o v n) := writeWord_sq v h4 hw hm hr hc hs
  by_cases hq : bits v 7 0 = q ∧ q ≠ 0
  · rw [Lane.sqClear_match hq, Nat.mul_comm _ (2 ^ 9)] at h
    exact (if_pos hq).mpr h
  · rw [Lane.sqClear_other hq] at h
    exact (if_neg hq).mpr h

end Sys2Proof.Machine
end

section
/-! SUPPORT. The package right after power-on. -/

namespace Sys2Proof.Machine

theorem Lane.gpr_reset (l : LaneId) (r : Nat) : (Lane.reset l).gpr r = 0#32 := by
  unfold Lane.gpr; split <;> rfl

theorem Lane.oapByte_reset (l : LaneId) (a : Nat) : (Lane.reset l).oapByte a = 0#8 := by
  unfold Lane.oapByte; split
  · rfl
  · split <;> rfl

/-- A register that the start does not set reads its reset value. -/
theorem Lane.rd_reset (l : LaneId) {off : Nat} (h : off ∉ [0x000004, 0x000008, 0x000034, 0x001010]) : (Lane.reset l).rd off = mapReset off := by
  simp only [List.mem_cons, List.not_mem_nil, or_false, not_or] at h
  obtain ⟨h1, h2, h3, h4⟩ := h
  cases l <;> simp [Lane.rd, Lane.reset, bootRegs, Cells.get, h1, h2, h3, h4]

/-- Settles O5: what differs from its reset value is listed in `bootRegs`; the facts about single registers are read off either lane. -/
theorem resetState : Obligations.ResetState := by
  unfold Obligations.ResetState
  refine ⟨rfl, fun l => ⟨⟨fun c hc => absurd hc List.not_mem_nil, rfl⟩, ?_⟩⟩
  intro n
  have hn : n = Lane.reset l := by cases l <;> rfl
  clear_value n
  subst hn
  refine ⟨rfl, rfl, ?role, ?tpe, rfl, ?lane, Lane.gpr_reset l, rfl, rfl, ?event, Lane.oapByte_reset l, ?stpcfg, ?alivecfg, ?aclkcal,
    ?per, ?ports, fun _ h => Lane.rd_reset l h⟩
  all_goals cases l <;> decide

end Sys2Proof.Machine
end

section
/-! SUPPORT. How an enable is written: what every block's enable has in common (R81), and what a field reads through the writes that
follow. -/

namespace Sys2Proof.Machine

/-! ## What a field reads -/

/-- Field `r` reads `x`. -/
def Reads (r : FRef) (x : Nat) (n : Lane) : Prop := n.f r = x

theorem Lane.on_of_reads {n : Lane} {r : FRef} {x : Nat} (h : Reads r x n) : n.on r = (x == 1) := congrArg (· == 1) h

theorem reads_setF {r : FRef} {x : Nat} (n : Lane) (hr : r.ok = true) (hx : x < 2 ^ (r.hi + 1 - r.lo)) : Reads r x (n.setF r x) :=
  Lane.f_setF_eq n x hr hx

/-- A flag that is not set reads 0. -/
theorem reads_zero_of_off {r : FRef} {n : Lane} (hw : r.hi = r.lo) (h : n.on r = false) : Reads r 0 n := by
  have hlt : n.f r < 2 ^ (r.hi + 1 - r.lo) := bits_lt _ _ _
  have hne : n.f r ≠ 1 := beq_eq_false_iff_ne.1 h
  rw [hw, Nat.add_sub_cancel_left] at hlt
  unfold Reads
  omega

/-- A register whose one field reads 0 reads 0. -/
theorem rd_of_reads_zero {n : Lane} {off : Nat} (h : Reads ⟨off, 31, 0⟩ 0 n) : n.rd off = 0#32 := by
  apply BitVec.eq_of_toNat_eq
  have h : (n.rd off).toNat >>> 0 % 2 ^ 32 = 0 := h
  rwa [Nat.shiftRight_zero, Nat.mod_eq_of_lt (n.rd off).isLt] at h

section
variable {r : FRef} {x : Nat} {n : Lane} (h : Reads r x n)
include h

theorem Reads.of_regs {m : Lane} (hm : m.regs = n.regs) : Reads r x m := (congrFun (Lane.f_of_regs hm) r).trans h

theorem Reads.of_powerOnly {m : Lane} (hm : PowerOnly n m) (hr : r.off < 0x001000 ∨ 0x003000 ≤ r.off) : Reads r x m :=
  (hm.f_eq r hr).trans h

theorem Reads.of_keeps {P : Nat → Prop} {m : Lane} (hm : Keeps P n m) (hr : P r.off) : Reads r x m := (hm.f_eq hr).trans h

theorem Reads.wr {a : Nat} (v : W32) (ha : r.off ≠ a) : Reads r x (n.wr a v) := (Lane.f_congr (Lane.rd_wr_ne n v ha)).trans h

theorem Reads.setF {q : FRef} (y : Nat) (hq : q.ok = true) (ha : r.apart q = true) : Reads r x (n.setF q y) :=
  (Lane.f_setF_apart n y hq ha).trans h

theorem Reads.setF_other {q : FRef} (y : Nat) (ha : r.off ≠ q.off) : Reads r x (n.setF q y) := h.wr _ ha

theorem Reads.sqEvent {flag : FRef} (ha : r.off ≠ flag.off) : Reads r x (n.sqEvent flag) := (h.setF_other 1 ha).setF_other _ ha

theorem Reads.stepSat {q : FRef} (ha : r.off ≠ q.off) : Reads r x (n.stepSat q) := by
  unfold Lane.stepSat
  exact ite_of (h.setF_other _ ha) h

theorem Reads.raise (a b c : Nat) : Reads r x (n.raise a b c) := h.of_regs rfl
end

theorem Reads.setFs_other {r : FRef} {x : Nat} {n : Lane} {ps : List (FRef × Nat)} (h : Reads r x n)
    (hp : ps.Forall fun p => r.off ≠ p.1.off) : Reads r x (n.setFs ps) := by
  induction ps generalizing n with
  | nil => exact h
  | cons p ps ih =>
    obtain ⟨hhead, htail⟩ := (List.forall_cons _ _ _).1 hp
    exact ih (h.setF_other p.2 hhead) htail

theorem Lane.rd_forEach_wr (rs : List Nat) (v : W32) (b : Nat) : ∀ n : Lane,
    (forEach rs (fun a m => m.wr a v) n).rd b = if b ∈ rs then v else n.rd b := by
  induction rs with
  | nil => exact fun n => rfl
  | cons a rs ih =>
    intro n
    rw [forEach_cons, ih, Lane.rd_wr]
    by_cases h1 : b ∈ rs <;> by_cases h2 : b = a <;> simp [h1, h2]

/-- What the step of one element brings about and the steps of the others keep, holds after the whole list; `I` is what holds throughout. -/
theorem forEach_reaches {α : Type} {f : α → Lane → Lane} {I Q : Lane → Prop} {x : α} {xs : List α} {n : Lane} (hx : x ∈ xs)
    (hn : I n) (hI : ∀ y ∈ xs, ∀ m, I m → I (f y m)) (hset : ∀ m, I m → Q (f x m))
    (hQ : ∀ y ∈ xs, y ≠ x → ∀ m, I m → Q m → Q (f y m)) :
    Q (forEach xs f n) := by
  induction xs generalizing n with
  | nil => exact absurd hx List.not_mem_nil
  | cons y ys ih =>
    have hrest : ∀ z ∈ ys, ∀ m, I m ∧ Q m → I (f z m) ∧ Q (f z m) := fun z hz m hm => by
      refine ⟨hI z (by simp [hz]) m hm.1, ?_⟩
      by_cases e : z = x
      · exact e ▸ hset m hm.1
      · exact hQ z (by simp [hz]) e m hm.1 hm.2
    rw [forEach_cons]
    by_cases e : y = x
    · exact (forEach_keeps (I := fun m => I m ∧ Q m) ys ⟨hI y (by simp) n hn, e ▸ hset n hn⟩ hrest).2
    · exact ih ((List.mem_cons.1 hx).resolve_left (Ne.symm e)) (hI y (by simp) n hn) (fun z hz => hI z (by simp [hz]))
        fun z hz => hQ z (by simp [hz])

/-! ## A register with nothing but an enable -/

theorem store_enable_word (w v : W32) : (w &&& ~~~(1#32)) ||| (v &&& 1#32) = setBits w 0 0 (bits v 0 0) := by
  apply BitVec.eq_of_getLsbD_eq
  intro i hi
  rw [← BitVec.testBit_toNat (setBits w 0 0 (bits v 0 0)), setBits_testBit w 0 0 _ i (by decide) (by decide), BitVec.getLsbD_or,
    BitVec.getLsbD_and, BitVec.getLsbD_and, BitVec.getLsbD_not, BitVec.getLsbD_one, bits_testBit,
    BitVec.testBit_toNat, BitVec.testBit_toNat]
  by_cases h : i = 0
  · subst h; simp
  · simp [h, hi]

/-- Where bit 0 is all that a write can change, the write stores it. -/
theorem Lane.store_enable {off : Nat} (hr : (regRow off).map (fun r => (r.cls, r.wmask)) = some (.rt, 1)) (n : Lane) (v : W32) :
    n.store off v = n.setF ⟨off, 0, 0⟩ (bits v 0 0) := by
  obtain ⟨r, hrow, hc⟩ := Option.map_eq_some_iff.1 hr
  obtain ⟨hcls, hmask⟩ := Prod.mk.inj hc
  unfold Lane.store Lane.setF
  rw [hrow]
  simp only [hcls, hmask, reduceCtorEq, if_false]
  exact congrArg (n.wr off) (store_enable_word _ _)

/-! ## Enables -/

/-- A write of the enable `en` at `off`, as R81 and the blocks' chapters have it: refused where it would set the bit without the structure
lock, or clear it while `busy`; otherwise the bit takes its value, and `sets` and `clears` tell what a change of it brings about. -/
def BlockEnable (c : LaneId → Nat → Origin → W32 → Instr) (off : Nat) (en : FRef) (busy : Lane → Prop)
    (sets clears : Lane → Lane → Prop) : Prop := OnWrite c off fun org v n m =>
  (en.val v = 1 → n.on en = false → n.on F.SYS_ASHLOCK.LOCK = false → Rejected n m 7 org.code off true 15) ∧
  (en.val v = 1 → n.on F.SYS_ASHLOCK.LOCK = true → m.on en = true) ∧
  (en.val v = 1 → n.on en = false → n.on F.SYS_ASHLOCK.LOCK = true → sets n m) ∧
  (en.val v = 0 → n.on en = true → busy n → Rejected n m 7 org.code off true 15) ∧
  (en.val v = 0 → n.on en = false ∨ ¬busy n → m.on en = false) ∧
  (en.val v = 0 → n.on en = true → ¬busy n → clears n m)

/-- The effect `eff` writes the enable so. What a change brings about is said of a lane `n` whose power controller's state an access has
changed on its way to the block (R450). -/
structure Enables (off : Nat) (en : FRef) (busy : Lane → Prop) (sets clears : Lane → Lane → Prop)
    (eff : Nat → W32 → Lane → Lane) : Prop where
  busy_iff : ∀ (n : Lane) (p : PwrState), busy { n with pwr := p } ↔ busy n
  unlocked : ∀ (org : Nat) {v : W32} {n : Lane}, en.val v = 1 → n.on en = false → n.on F.SYS_ASHLOCK.LOCK = false →
    eff org v n = n.rejectState org off
  refused : ∀ (org : Nat) {v : W32} {n : Lane}, en.val v = 0 → n.on en = true → busy n → eff org v n = n.rejectState org off
  turnsOn : ∀ (org : Nat) {v : W32} {n : Lane}, en.val v = 1 → n.on F.SYS_ASHLOCK.LOCK = true → Reads en 1 (eff org v n)
  turnsOff : ∀ (org : Nat) {v : W32} {n : Lane}, en.val v = 0 → n.on en = false ∨ ¬busy n → Reads en 0 (eff org v n)
  onSet : ∀ (org : Nat) {v : W32} {n m : Lane} {p : PwrState}, en.val v = 1 → n.on en = false → n.on F.SYS_ASHLOCK.LOCK = true →
    PowerOnly (eff org v { n with pwr := p }) m → sets n m
  onClear : ∀ (org : Nat) {v : W32} {n m : Lane} {p : PwrState}, en.val v = 0 → n.on en = true → ¬busy n →
    PowerOnly (eff org v { n with pwr := p }) m → clears n m

theorem Lane.touch_parts (n : Lane) (off : Nat) : n.touch off = { n with pwr := (n.touch off).pwr } := by
  unfold Lane.touch; split <;> rfl

section
variable {off : Nat} {en : FRef} {busy : Lane → Prop} {sets clears : Lane → Lane → Prop}

/-- A command that writes the register with such an effect writes the enable so. -/
theorem Enables.blockEnable {c : LaneId → Nat → Origin → W32 → Instr} {eff : Nat → W32 → Lane → Lane}
    (h : Enables off en busy sets clears eff)
    (hexec : ∀ l t org v s, exec (c l t org v) s = onLane l t s fun n => n.regWrite org.code off v (eff org.code v))
    (hlane : ∀ l t org v, (c l t org v).lane = l) (hoff : en.off < 0x001000 ∨ 0x003000 ≤ en.off) :
    BlockEnable c off en busy sets clears := by
  intro s l t org v hacc
  refine answers_onLane (hexec l t org v s) (hlane l t org v) ?_
  generalize s.laneAt l t = n at hacc ⊢
  rw [Lane.regWrite_accepts _ hacc, Lane.touch_parts]
  generalize (n.touch off).pwr = p
  have hm : PowerOnly (eff org.code v { n with pwr := p }) (eff org.code v { n with pwr := p }).checkHolds :=
    (PowerOnly.refl _).checkHolds
  generalize (eff org.code v { n with pwr := p }).checkHolds = m at hm ⊢
  refine ⟨fun hv hen hl => ?_, fun hv hl => ?_, fun hv hen hl => h.onSet _ hv hen hl hm, fun hv hen hb => ?_, fun hv hb => ?_,
    fun hv hen hb => h.onClear _ hv hen hb hm⟩
  · rw [h.unlocked (n := { n with pwr := p }) _ hv hen hl] at hm
    exact rejected_of_reject rfl hm
  · exact Lane.on_of_reads ((h.turnsOn (n := { n with pwr := p }) org.code hv hl).of_powerOnly hm hoff)
  · rw [h.refused (n := { n with pwr := p }) _ hv hen ((h.busy_iff n p).2 hb)] at hm
    exact rejected_of_reject rfl hm
  · exact Lane.on_of_reads
      ((h.turnsOff (n := { n with pwr := p }) org.code hv (hb.imp id (mt (h.busy_iff n p).1))).of_powerOnly hm hoff)

/-- The shape of an enable's effect: the two refusals; else, after `pre`, the bit is stored, and a change of it is followed by `up` or
`down`. -/
def switchEnable (off : Nat) (en : FRef) (held : Lane → Bool) (pre up down : Lane → Lane) (org : Nat) (v : W32) (n : Lane) : Lane :=
  if en.val v == 1 && !n.on F.SYS_ASHLOCK.LOCK then n.rejectState org off
  else if !(en.val v == 1) && n.on en && held n then n.rejectState org off
  else
    let m := (pre n).setF en (en.val v)
    if en.val v == 1 && !n.on en then up m else if !(en.val v == 1) && n.on en then down m else m

variable {held : Lane → Bool} {pre up down : Lane → Lane} {v : W32} {n : Lane} (org : Nat)

theorem switchEnable_on (hv : en.val v = 1) (hl : n.on F.SYS_ASHLOCK.LOCK = true) :
    switchEnable off en held pre up down org v n = if n.on en then (pre n).setF en 1 else up ((pre n).setF en 1) := by
  unfold switchEnable
  cases h : n.on en <;> simp [hv, hl]

theorem switchEnable_off (hv : en.val v = 0) (hb : n.on en = false ∨ held n = false) :
    switchEnable off en held pre up down org v n = if n.on en then down ((pre n).setF en 0) else (pre n).setF en 0 := by
  unfold switchEnable
  rcases hb with hb | hb <;> cases h : n.on en <;> simp_all

/-- An effect of that shape writes the enable so where `held` is what keeps the block busy, and `up` and `down` keep the bit and bring
about what a change of it is to. -/
theorem Enables.of_switch (hok : en.ok = true) (hheld : ∀ n, held n = true ↔ busy n)
    (hpwr : ∀ (n : Lane) (p : PwrState), held { n with pwr := p } = held n)
    (hup : ∀ n, Reads en 1 n → Reads en 1 (up n)) (hdown : ∀ n, Reads en 0 n → Reads en 0 (down n))
    (hsets : ∀ {n m : Lane} (p : PwrState), PowerOnly (up ((pre { n with pwr := p }).setF en 1)) m → sets n m)
    (hclears : ∀ {n m : Lane} (p : PwrState), PowerOnly (down ((pre { n with pwr := p }).setF en 0)) m → clears n m) :
    Enables off en busy sets clears (switchEnable off en held pre up down) where
  busy_iff n p := by rw [← hheld, ← hheld, hpwr]
  unlocked org v n hv _ hl := by unfold switchEnable; simp [hv, hl]
  refused org v n hv hen hb := by unfold switchEnable; simp [hv, hen, (hheld n).2 hb]
  turnsOn org v n hv hl := by
    have hwide : en.hi + 1 - en.lo ≠ 0 := by
      simp only [FRef.ok, Bool.and_eq_true, decide_eq_true_eq] at hok
      omega
    have h1 := reads_setF (pre n) (x := 1) hok (Nat.one_lt_two_pow hwide)
    rw [switchEnable_on org hv hl]
    exact ite_of h1 (hup _ h1)
  turnsOff org v n hv hb := by
    have h0 := reads_setF (pre n) (x := 0) hok (Nat.two_pow_pos _)
    rw [switchEnable_off org hv (hb.imp id fun h => Bool.eq_false_iff.2 (mt (hheld n).1 h))]
    exact ite_of (hdown _ h0) h0
  onSet org v n m p hv hen hl hm := by
    have hen' : ({ n with pwr := p } : Lane).on en = false := hen
    rw [switchEnable_on org hv (n := { n with pwr := p }) hl, hen', if_neg Bool.false_ne_true] at hm
    exact hsets p hm
  onClear org v n m p hv hen hb hm := by
    have hen' : ({ n with pwr := p } : Lane).on en = true := hen
    have hfree : held { n with pwr := p } = false := (hpwr n p).trans (Bool.eq_false_iff.2 (mt (hheld n).1 hb))
    rw [switchEnable_off org hv (.inr hfree), hen', if_pos rfl] at hm
    exact hclears p hm
end

/-- Something holds of one of three groups or time bases. -/
theorem any_three (p : Nat → Bool) : [0, 1, 2].any p = true ↔ ∃ g < 3, p g = true := by
  show (List.range 3).any p = true ↔ _
  simp [List.any_eq_true]

/-- A group is PENDING or RUN (R113). -/
theorem anyDriving_iff (n : Lane) : n.anyDriving = true ↔ ∃ g < 3, n.grp g = 2 ∨ n.grp g = 3 := by
  unfold Lane.anyDriving
  simp only [any_three, Bool.or_eq_true, beq_iff_eq]
  rfl

/-- Where nothing follows the store, the bit is all that changes. -/
theorem sets_of_store {n m : Lane} {p : PwrState} {r : FRef} {x : Nat} (h : PowerOnly (({ n with pwr := p } : Lane).setF r x) m) :
    Sets n m [(r, x)] :=
  PowerOnly.trans (b := ({ n with pwr := p } : Lane).setF r x) ⟨rfl, fun _ _ => rfl⟩ h

end Sys2Proof.Machine
end

section
/-! SUPPORT. The enables of PWM, the ADC, the CFE and the CLE (R123, R198, R223, R244). -/

namespace Sys2Proof.Machine

/-! ## PWM (R123) -/

theorem pwmEnable_eq : pwmEnable = switchEnable R.PWM_CTRL F.PWM_CTRL.EN (fun n => [0, 1, 2].any n.tbRun) id id id := by
  funext org v n
  unfold pwmEnable switchEnable
  rw [n.store_enable (off := R.PWM_CTRL) rfl v]
  simp only [id, ite_self]
  rfl

theorem pwmEnable_enables : Enables R.PWM_CTRL F.PWM_CTRL.EN (fun n => ∃ b < 3, n.tbRun b = true)
    (fun n m => Sets n m [(F.PWM_CTRL.EN, 1)]) (fun n m => Sets n m [(F.PWM_CTRL.EN, 0)]) pwmEnable := by
  rw [pwmEnable_eq]
  exact Enables.of_switch rfl (fun _ => any_three _) (fun _ _ => rfl) (fun _ h => h) (fun _ h => h) (fun _ h => sets_of_store h)
    fun _ h => sets_of_store h

/-! ## ADC (R198) -/

/-- The calibration begins. -/
def adcStart (n : Lane) : Lane := n.upAdc fun g => { g with cal := some (n.now + 8000) }

/-- Conversions and the calibration stop. -/
def adcStop (n : Lane) : Lane :=
  let n := n.upAdc fun g => { g with cal := none, cv := [{}, {}], caps := [], left := [], trig := [] }
  forEach seqs (fun q n => n.setF (F.ADC_SQq_STAT.BUSY q) 0) (n.setF F.ADC_STAT.READY 0)

theorem adcEnable_eq : adcEnable = switchEnable R.ADC_CTRL F.ADC_CTRL.EN Lane.anyDriving id adcStart adcStop := by
  funext org v n
  unfold adcEnable switchEnable
  rw [n.store_enable (off := R.ADC_CTRL) rfl v]
  rfl

/-- A field away from those that take 0 one after the other reads as before. -/
theorem Reads.clearEach {r : FRef} {x : Nat} {n : Lane} (h : Reads r x n) (q : Nat → FRef) (xs : List Nat)
    (ha : ∀ a ∈ xs, (q a).ok = true ∧ r.apart (q a) = true) : Reads r x (forEach xs (fun a m => m.setF (q a) 0) n) :=
  forEach_keeps xs h fun a hx _ hm => hm.setF 0 (ha a hx).1 (ha a hx).2

theorem adcStop_reads {r : FRef} {x : Nat} {n : Lane} (h : Reads r x n) (hr : r.off < R.ADC_STAT) : Reads r x (adcStop n) := by
  have hne : r.apart F.ADC_STAT.READY = true := FRef.apart_of_off (Nat.ne_of_lt hr)
  refine Reads.clearEach ((h.of_regs rfl).setF 0 rfl hne) F.ADC_SQq_STAT.BUSY seqs fun q _ => ⟨rfl, FRef.apart_of_off ?_⟩
  show r.off ≠ 0x018104 + 0x10 * q
  unfold R.ADC_STAT at hr
  omega

theorem adcStop_ready (n : Lane) : Reads F.ADC_STAT.READY 0 (adcStop n) := by
  refine Reads.clearEach (reads_setF _ rfl (by decide)) F.ADC_SQq_STAT.BUSY seqs fun q _ => ⟨rfl, FRef.apart_of_off ?_⟩
  show 0x018004 ≠ 0x018104 + 0x10 * q
  omega

theorem adcStop_busy (n : Lane) {q : Nat} (hq : q < 8) : Reads (F.ADC_SQq_STAT.BUSY q) 0 (adcStop n) := by
  refine forEach_reaches (I := fun _ => True) (x := q) ?_ trivial (fun _ _ _ _ => trivial)
    (fun m _ => reads_setF m rfl (Nat.two_pow_pos _)) ?_
  · show q ∈ List.range 8
    exact List.mem_range.2 hq
  · intro y _ hy m _ hm
    refine hm.setF_other 0 ?_
    show 0x018104 + 0x10 * q ≠ 0x018104 + 0x10 * y
    omega

theorem adcStop_adc (n : Lane) : (adcStop n).adc.cal = none := by
  refine forEach_keeps (I := fun m : Lane => m.adc.cal = none) seqs rfl fun _ _ m hm => ?_
  rw [Lane.setF_adc]
  exact hm

theorem adcEnable_enables : Enables R.ADC_CTRL F.ADC_CTRL.EN (fun n => ∃ g < 3, n.grp g = 2 ∨ n.grp g = 3)
    (fun n m => m.adc.cal = some (n.now + 8000))
    (fun _ m => m.adc.cal = none ∧ m.on F.ADC_STAT.READY = false ∧ ∀ q < 8, m.f (F.ADC_SQq_STAT.BUSY q) = 0) adcEnable := by
  rw [adcEnable_eq]
  refine Enables.of_switch rfl anyDriving_iff (fun _ _ => rfl) (fun _ h => h.of_regs rfl) (fun _ h => adcStop_reads h (by decide)) ?_ ?_
  · intro n m p h
    rw [h.adc_eq]
    rfl
  · intro n m p h
    refine ⟨?_, Lane.on_of_reads ((adcStop_ready _).of_powerOnly h (by decide)), fun q hq => ?_⟩
    · rw [h.adc_eq, adcStop_adc]
    · refine (adcStop_busy _ hq).of_powerOnly h (.inr ?_)
      show 0x003000 ≤ 0x018104 + 0x10 * q
      omega

/-! ## CFE (R217, R223) -/

/-- CHFAIL clears, and the chopper's state is formed anew. -/
def cfeStart (n : Lane) : Lane := (n.setF F.CFE_STAT.CHFAIL 0).chopCheck

/-- A group on a CFE-sourced time base is PENDING, RUN or SAFE. -/
def Lane.cfeDrives (n : Lane) : Bool :=
  [0, 1, 2].any fun g => n.on (F.PWM_TBb_CFG.SRC g) && (n.grp g == gPENDING || n.grp g == gRUN || n.grp g == gSAFE)

theorem cfeEnable_eq : cfeEnable = switchEnable R.CFE_CTRL F.CFE_CTRL.EN Lane.cfeDrives id cfeStart id := by
  funext org v n
  unfold cfeEnable switchEnable
  rw [n.store_enable (off := R.CFE_CTRL) rfl v]
  simp only [id, ite_self]
  rfl

theorem cfeDrives_iff (n : Lane) :
    n.cfeDrives = true ↔ ∃ g < 3, n.on (F.PWM_TBb_CFG.SRC g) = true ∧ ((n.grp g = 2 ∨ n.grp g = 3) ∨ n.grp g = 5) := by
  unfold Lane.cfeDrives
  simp only [any_three, Bool.and_eq_true, Bool.or_eq_true, beq_iff_eq]
  rfl

/-- The chopper's check writes CHSTATE and an event. -/
theorem Reads.chopCheck {r : FRef} {x : Nat} {n : Lane} (h : Reads r x n) (he : r.off ≠ R.CFE_EVT)
    (hc : r.apart F.CFE_STAT.CHSTATE = true) : Reads r x n.chopCheck := by
  have hev : ∀ m : Lane, Reads r x m → Reads r x (m.cfeEvent F.CFE_EVT.CHOPPER 0 cChopper) := fun m hm => by
    have a : Reads r x (m.sqEventOnce F.CFE_EVT.CHOPPER) := ite_of hm (hm.sqEvent he)
    exact a.raise _ _ _
  unfold Lane.chopCheck
  refine ite_of (ite_of (hev _ ?_) ?_) h <;>
  · refine Reads.setF ?_ _ rfl hc
    exact h.of_regs rfl

theorem cfeEnable_enables : Enables R.CFE_CTRL F.CFE_CTRL.EN
    (fun n => ∃ g < 3, n.on (F.PWM_TBb_CFG.SRC g) = true ∧ ((n.grp g = 2 ∨ n.grp g = 3) ∨ n.grp g = 5))
    (fun _ m => m.on F.CFE_STAT.CHFAIL = false) (fun n m => Sets n m [(F.CFE_CTRL.EN, 0)]) cfeEnable := by
  rw [cfeEnable_eq]
  refine Enables.of_switch rfl cfeDrives_iff (fun _ _ => rfl) (fun _ h => ?_) (fun _ h => h) ?_ fun _ h => sets_of_store h
  · exact (h.setF_other 0 (by decide)).chopCheck (by decide) rfl
  · intro n m p h
    have hc : Reads F.CFE_STAT.CHFAIL 0 (cfeStart ((id { n with pwr := p } : Lane).setF F.CFE_CTRL.EN 1)) :=
      (reads_setF _ rfl (by decide)).chopCheck (by decide) rfl
    exact Lane.on_of_reads (hc.of_powerOnly h (by decide))

/-! ## CLE (R244) -/

/-- Executions are given up and no chain is busy. -/
def cleClear (n : Lane) : Lane :=
  forEach [0, 1, 2, 3, 4, 5, 6, 7] (fun c n => n.setF (F.CLE_CHc_STAT.BUSY c) 0)
    (((n.upCle fun _ => {}).upCfe fun c => { c with exes := c.exes.filter fun e => e.asked }).wr R.CLE_STAT 0#32)

/-- What slot `m` starts with at zero. -/
def slotRegs (m : Nat) : List Nat :=
  [R.CLE_Ln_CUR m, R.CLE_Ln_OUT m, R.CLE_Ln_SPL m, R.CLE_Ln_Sm m 0, R.CLE_Ln_Sm m 1, R.CLE_Ln_Sm m 2, R.CLE_Ln_Sm m 3]

/-- Slot `m` begins anew. -/
def slotStart (m : Nat) (n : Lane) : Lane := (forEach (slotRegs m) (fun r n => n.wr r 0#32) n).setF (F.CLE_Ln_STAT.FIRST m) 1

/-- Every loop begins anew. -/
def cleStart (n : Lane) : Lane := forEach slots slotStart (((cleClear n).wr R.CLE_MAXLAT 0#32).wr R.CLE_OVRCNT 0#32)

theorem cleEnable_eq : cleEnable = switchEnable R.CLE_CTRL F.CLE_CTRL.EN Lane.anyDriving id cleStart cleClear := by
  funext org v n
  unfold cleEnable switchEnable
  rw [n.store_enable (off := R.CLE_CTRL) rfl v]
  have hstore : n.setF ⟨R.CLE_CTRL, 0, 0⟩ (bits v 0 0) = (id n).setF F.CLE_CTRL.EN (F.CLE_CTRL.EN.val v) := rfl
  rw [hstore]
  generalize (id n).setF F.CLE_CTRL.EN (F.CLE_CTRL.EN.val v) = m
  generalize (F.CLE_CTRL.EN.val v == 1) = en
  unfold cleStart cleClear slotStart slotRegs
  cases en <;> cases n.on F.CLE_CTRL.EN <;>
    simp only [Bool.not_true, Bool.not_false, Bool.true_and, Bool.false_and, Bool.and_false, Bool.false_eq_true, Bool.true_eq_false,
      if_true, if_false]

theorem cleClear_rd (n : Lane) {b : Nat} (h1 : b ≠ R.CLE_STAT) (h2 : b < 0x030060 ∨ 0x030080 ≤ b) : (cleClear n).rd b = n.rd b := by
  unfold cleClear
  refine forEach_keeps (I := fun m : Lane => m.rd b = n.rd b) _ (Lane.rd_wr_ne _ _ h1) fun c hc m hm => ?_
  refine (Lane.rd_setF_ne m _ _ ?_).trans hm
  show b ≠ 0x030060 + 0x4 * c
  simp only [List.mem_cons, List.not_mem_nil, or_false] at hc
  omega

theorem cleClear_cle (n : Lane) : (cleClear n).cle = {} := by
  unfold cleClear
  exact forEach_keeps (I := fun m : Lane => m.cle = {}) _ rfl fun _ _ m hm => (Lane.setF_cle m _ _).trans hm

/-- Where the registers a slot's start writes lie. -/
theorem slotRegs_place {m a : Nat} (h : a ∈ slotRegs m) : 0x030180 + 0x100 * m ≤ a ∧ a < 0x0301A0 + 0x100 * m := by
  unfold slotRegs R.CLE_Ln_CUR R.CLE_Ln_OUT R.CLE_Ln_SPL R.CLE_Ln_Sm at h
  simp only [List.mem_cons, List.not_mem_nil, or_false] at h
  omega

theorem slotStart_rd {m b : Nat} (n : Lane) (hb : b ≠ R.CLE_Ln_STAT m) :
    (slotStart m n).rd b = if b ∈ slotRegs m then 0#32 else n.rd b := by
  unfold slotStart
  rw [Lane.rd_setF_ne _ _ _ hb, Lane.rd_forEach_wr]

/-- A slot's start leaves what lies outside its registers. -/
theorem slotStart_rd_other {m b : Nat} (n : Lane) (hb : b < 0x030180 + 0x100 * m ∨ 0x0301A4 + 0x100 * m ≤ b) :
    (slotStart m n).rd b = n.rd b := by
  rw [slotStart_rd n (by unfold R.CLE_Ln_STAT; omega), if_neg]
  intro h
  have := slotRegs_place h
  omega

/-- A slot that has begun anew. -/
def Lane.slotFresh (k : Nat) (m : Lane) : Prop :=
  m.rd (R.CLE_Ln_CUR k) = 0#32 ∧ m.rd (R.CLE_Ln_OUT k) = 0#32 ∧ m.rd (R.CLE_Ln_SPL k) = 0#32 ∧ m.on (F.CLE_Ln_STAT.FIRST k) = true

theorem slotStart_fresh (k : Nat) (n : Lane) : (slotStart k n).slotFresh k := by
  have hzero : ∀ b ∈ slotRegs k, (slotStart k n).rd b = 0#32 := fun b hb => by
    have hp := slotRegs_place hb
    rw [slotStart_rd n (by unfold R.CLE_Ln_STAT; omega), if_pos hb]
  exact ⟨hzero _ (by simp [slotRegs]), hzero _ (by simp [slotRegs]), hzero _ (by simp [slotRegs]),
    Lane.on_of_reads (reads_setF (r := F.CLE_Ln_STAT.FIRST k) _ rfl (Nat.one_lt_two_pow Nat.one_ne_zero))⟩

/-- What keeps a slot's registers keeps it as it began. -/
theorem Lane.slotFresh.congr {k : Nat} {n m : Lane} (h : n.slotFresh k)
    (hrd : ∀ b, 0x030180 + 0x100 * k ≤ b → b < 0x0301A4 + 0x100 * k → m.rd b = n.rd b) : m.slotFresh k := by
  obtain ⟨hcur, hout, hspl, hfirst⟩ := h
  refine ⟨(hrd _ ?_ ?_).trans hcur, (hrd _ ?_ ?_).trans hout, (hrd _ ?_ ?_).trans hspl,
    (congrArg (· == 1) (Lane.f_congr (r := F.CLE_Ln_STAT.FIRST k) (hrd _ ?_ ?_))).trans hfirst⟩ <;>
  · simp only [R.CLE_Ln_CUR, R.CLE_Ln_OUT, R.CLE_Ln_SPL, F.CLE_Ln_STAT.FIRST, R.CLE_Ln_STAT]
    omega

theorem cleStart_fresh (n : Lane) {k : Nat} (hk : k < 32) : (cleStart n).slotFresh k := by
  refine forEach_reaches (I := fun _ => True) (x := k) (List.mem_range.2 hk) trivial (fun _ _ _ _ => trivial)
    (fun m _ => slotStart_fresh k m) ?_
  intro y _ hy m _ hm
  exact hm.congr fun b h1 h2 => slotStart_rd_other m (by omega)

theorem cleStart_reads {x : Nat} {n : Lane} (h : Reads F.CLE_CTRL.EN x n) : Reads F.CLE_CTRL.EN x (cleStart n) := by
  refine forEach_keeps (I := Reads F.CLE_CTRL.EN x) slots ?_ fun m _ k hk => ?_
  · have hclear : Reads F.CLE_CTRL.EN x (cleClear n) := (Lane.f_congr (cleClear_rd n (by decide) (by decide))).trans h
    exact (hclear.wr _ (by decide)).wr _ (by decide)
  · exact (Lane.f_congr (slotStart_rd_other k (.inl (by show 0x030000 < _; omega)))).trans hk

theorem slotStart_cle (k : Nat) (n : Lane) : (slotStart k n).cle = n.cle := by
  unfold slotStart
  rw [Lane.setF_cle]
  exact forEach_keeps (I := fun m : Lane => m.cle = n.cle) (slotRegs k) rfl fun _ _ m hm => (Lane.wr_cle m _ _).trans hm

theorem cleStart_cle (n : Lane) : (cleStart n).cle = {} := by
  have h0 : (((cleClear n).wr R.CLE_MAXLAT 0#32).wr R.CLE_OVRCNT 0#32).cle = {} := by rw [Lane.wr_cle, Lane.wr_cle, cleClear_cle]
  unfold cleStart
  exact forEach_keeps (I := fun m : Lane => m.cle = {}) slots h0 fun k _ m hm => (slotStart_cle k m).trans hm

theorem cleEnable_enables : Enables R.CLE_CTRL F.CLE_CTRL.EN (fun n => ∃ g < 3, n.grp g = 2 ∨ n.grp g = 3)
    (fun _ m => m.cle = {} ∧ ∀ k < 32, m.rd (R.CLE_Ln_CUR k) = 0#32 ∧ m.rd (R.CLE_Ln_OUT k) = 0#32 ∧
      m.rd (R.CLE_Ln_SPL k) = 0#32 ∧ m.on (F.CLE_Ln_STAT.FIRST k) = true)
    (fun n m => m.cle = {} ∧ ∀ k < 32, m.rd (R.CLE_Ln_CUR k) = n.rd (R.CLE_Ln_CUR k)) cleEnable := by
  rw [cleEnable_eq]
  refine Enables.of_switch rfl anyDriving_iff (fun _ _ => rfl) (fun _ h => cleStart_reads h)
    (fun _ h => (Lane.f_congr (cleClear_rd _ (by decide) (by decide))).trans h) ?_ ?_
  · intro n m p h
    refine ⟨h.cle_eq.trans (cleStart_cle _), fun k hk => ?_⟩
    exact (cleStart_fresh _ hk).congr fun b h1 _ => h.regs b (.inr (by omega))
  · intro n m p h
    refine ⟨h.cle_eq.trans (cleClear_cle _), fun k hk => ?_⟩
    calc m.rd (R.CLE_Ln_CUR k)
        = (cleClear _).rd (R.CLE_Ln_CUR k) := h.regs _ (.inr (by unfold R.CLE_Ln_CUR; omega))
      _ = (Lane.setF _ F.CLE_CTRL.EN 0).rd (R.CLE_Ln_CUR k) :=
          cleClear_rd _ (by unfold R.CLE_Ln_CUR R.CLE_STAT; omega) (by unfold R.CLE_Ln_CUR; omega)
      _ = n.rd (R.CLE_Ln_CUR k) := Lane.rd_setF_ne _ _ _ (by unfold R.CLE_Ln_CUR F.CLE_CTRL.EN R.CLE_CTRL; simp only; omega)

end Sys2Proof.Machine
end

section
/-! SUPPORT. The enable of the FBI (R183). -/

namespace Sys2Proof.Machine

/-- What an event of channel `ch` leaves of a field outside the channel's event and error registers. -/
theorem Reads.fbiEvent {r flag : FRef} {x ch : Nat} {n : Lane} (h : Reads r x n) (kind : Nat) (hflag : flag.off = R.FBI_CHn_EVT ch)
    (hevt : r.off ≠ R.FBI_CHn_EVT ch) (herr : r.off ≠ R.FBI_CHn_ERRCNT ch) : Reads r x (n.fbiEvent ch flag kind) := by
  have hcount : ∀ o ∈ errField ch flag.lo, o.off = R.FBI_CHn_ERRCNT ch := by
    unfold errField
    intro o ho
    split at ho
    · exact Option.mem_some.1 ho ▸ rfl
    · split at ho
      · exact Option.mem_some.1 ho ▸ rfl
      · split at ho
        · exact Option.mem_some.1 ho ▸ rfl
        · exact absurd ho (Option.not_mem_none o)
  have hm : Reads r x (match errField ch flag.lo with | some q => n.stepSat q | none => n) := by
    split
    · next q hq => exact h.stepSat (by rw [hcount q hq]; exact herr)
    · exact h
  unfold Lane.fbiEvent
  exact ite_of hm (ite_of (hm.sqEvent (hflag ▸ hevt)) ((hm.sqEvent (hflag ▸ hevt)).raise _ _ _))

/-- An event writes registers and raises a message. -/
theorem Lane.fbiEvent_fbi (n : Lane) (ch : Nat) (flag : FRef) (kind : Nat) : (n.fbiEvent ch flag kind).fbi = n.fbi := by
  have hsat : ∀ q, (n.stepSat q).fbi = n.fbi := fun q => ite_of (p := fun m : Lane => m.fbi = n.fbi) rfl rfl
  have hm : (match errField ch flag.lo with | some q => n.stepSat q | none => n).fbi = n.fbi := by
    split
    · exact hsat _
    · rfl
  unfold Lane.fbiEvent
  exact ite_of (p := fun m : Lane => m.fbi = n.fbi) hm (ite_of (p := fun m : Lane => m.fbi = n.fbi) hm hm)

/-- What a change of the position leaves of a field. -/
theorem Reads.fbiPlace {r : FRef} {x ch : Nat} {n : Lane} (h : Reads r x n) (total : Int) (home : Bool)
    (hpos : r.off ≠ R.FBI_CHn_POS ch) (hexc : r.off ≠ R.FBI_CHn_EXCESS ch) (hevt : r.off ≠ R.FBI_CHn_EVT ch)
    (herr : r.off ≠ R.FBI_CHn_ERRCNT ch) (hmax : r.apart (F.FBI_CHn_STAT.ATMAX ch) = true)
    (hmin : r.apart (F.FBI_CHn_STAT.ATMIN ch) = true) : Reads r x (n.fbiPlace ch total home) := by
  unfold Lane.fbiPlace
  extract_lets lo hi pos ex exs was n₁ n₂ n₃ n₄ n₅
  have h₄ : Reads r x n₄ := (((h.wr _ hpos).setF_other _ hexc).setF _ rfl hmax).setF _ rfl hmin
  have h₅ : Reads r x n₅ := ite_of h₄ ((h₄.setF_other _ hexc).fbiEvent _ rfl hevt herr)
  exact ite_of (h₅.fbiEvent _ rfl hevt herr) h₅

/-- A field of the channel's status register, but for the two at the limits, stays. -/
theorem Reads.fbiPlace_stat {r : FRef} {x ch : Nat} {n : Lane} (h : Reads r x n) (total : Int) (home : Bool)
    (hoff : r.off = R.FBI_CHn_STAT ch) (hmax : r.apart (F.FBI_CHn_STAT.ATMAX ch) = true)
    (hmin : r.apart (F.FBI_CHn_STAT.ATMIN ch) = true) : Reads r x (n.fbiPlace ch total home) := by
  refine h.fbiPlace total home ?_ ?_ ?_ ?_ hmax hmin
  all_goals
    rw [hoff]
    simp only [R.FBI_CHn_STAT, R.FBI_CHn_POS, R.FBI_CHn_EXCESS, R.FBI_CHn_EVT, R.FBI_CHn_ERRCNT]
    omega

theorem Lane.fbiPlace_fbi (n : Lane) (ch : Nat) (total : Int) (home : Bool) : (n.fbiPlace ch total home).fbi = n.fbi := by
  unfold Lane.fbiPlace
  extract_lets lo hi pos ex exs was n₁ n₂ n₃ n₄ n₅
  have h₄ : n₄.fbi = n.fbi := by simp only [n₄, n₃, n₂, n₁, Lane.setF_fbi, Lane.wr_fbi]
  have h₅ : n₅.fbi = n.fbi :=
    ite_of (p := fun m : Lane => m.fbi = n.fbi) h₄ ((Lane.fbiEvent_fbi _ _ _ _).trans ((Lane.setF_fbi _ _ _).trans h₄))
  exact ite_of (p := fun m : Lane => m.fbi = n.fbi) ((Lane.fbiEvent_fbi n₅ _ _ _).trans h₅) h₅

/-- The registers of channel `ch` that its start sets to zero. -/
def fbiZeroed (ch : Nat) : List Nat :=
  [R.FBI_CHn_RAW ch, R.FBI_CHn_POS ch, R.FBI_CHn_EXCESS ch, R.FBI_CHn_TSTAMP ch, R.FBI_CHn_ERRCNT ch]

/-- A channel with a sensor starts: its registers read 0 but for what STAT shows, then POS meets the soft limits. -/
theorem fbiStart_eq {n : Lane} {ch : Nat} (h1 : 1 ≤ n.fmode ch) (h4 : n.fmode ch ≤ 4) : ∃ (x : FbiCh) (i valid : Nat),
    n.fbiStart ch = ((((forEach (fbiZeroed ch) (fun a m => m.wr a 0#32) (n.setFch ch x)).wr (R.FBI_CHn_STAT ch) 0#32).setFs
      [(F.FBI_CHn_STAT.INPUTS ch, i), (F.FBI_CHn_STAT.STILL ch, 1), (F.FBI_CHn_STAT.NOREF ch, 1),
        (F.FBI_CHn_STAT.VALID ch, valid)]).fbiPlace ch 0 false) := by
  unfold Lane.fbiStart
  rw [if_neg (by omega)]
  exact ⟨_, _, _, rfl⟩

/-- A channel without a sensor does not start. -/
theorem fbiStart_idle {n : Lane} {ch : Nat} (h : n.fmode ch = 0 ∨ 4 < n.fmode ch) : n.fbiStart ch = n := by
  unfold Lane.fbiStart
  rw [if_pos h]

/-- A property of the lane that every channel keeps which does not start, and which a start keeps. -/
theorem fbiStart_cases {P : Lane → Prop} {n : Lane} {ch : Nat} (hidle : P n)
    (hstart : 1 ≤ n.fmode ch → n.fmode ch ≤ 4 → P (n.fbiStart ch)) : P (n.fbiStart ch) := by
  by_cases h : n.fmode ch = 0 ∨ 4 < n.fmode ch
  · exact (fbiStart_idle h).symm ▸ hidle
  · exact hstart (by omega) (by omega)

/-- The start of a channel leaves what lies outside its status registers. -/
theorem Reads.fbiStart {r : FRef} {x : Nat} {n : Lane} (ch : Nat) (h : Reads r x n)
    (hr : r.off < 0x020130 + 0x100 * ch ∨ 0x020158 + 0x100 * ch ≤ r.off) : Reads r x (n.fbiStart ch) := by
  refine fbiStart_cases h fun h1 h4 => ?_
  obtain ⟨y, i, valid, e⟩ := fbiStart_eq h1 h4
  have hne : ∀ a, 0x020130 + 0x100 * ch ≤ a → a < 0x020158 + 0x100 * ch → r.off ≠ a := fun a _ _ => by omega
  have hstat : r.off ≠ R.FBI_CHn_STAT ch := hne _ (by unfold R.FBI_CHn_STAT; omega) (by unfold R.FBI_CHn_STAT; omega)
  have hzero : Reads r x (forEach (fbiZeroed ch) (fun a m => m.wr a 0#32) (n.setFch ch y)) :=
    forEach_keeps (I := Reads r x) _ (h.of_regs rfl) fun a ha m hm => hm.wr _ (by
      simp only [fbiZeroed, List.mem_cons, List.not_mem_nil, or_false, R.FBI_CHn_RAW, R.FBI_CHn_POS, R.FBI_CHn_EXCESS, R.FBI_CHn_TSTAMP,
        R.FBI_CHn_ERRCNT] at ha
      omega)
  rw [e]
  refine Reads.fbiPlace (Reads.setFs_other (hzero.wr _ hstat) ?_) _ _
    (hne _ ?_ ?_) (hne _ ?_ ?_) (hne _ ?_ ?_) (hne _ ?_ ?_) (FRef.apart_of_off hstat) (FRef.apart_of_off hstat)
  · exact ⟨hstat, hstat, hstat, hstat⟩
  all_goals
    simp only [R.FBI_CHn_POS, R.FBI_CHn_EXCESS, R.FBI_CHn_EVT, R.FBI_CHn_ERRCNT]
    omega

/-- A channel begins with RAW at zero, the sensor still and without a reference. -/
theorem fbiStart_reads {n : Lane} {ch : Nat} (h1 : 1 ≤ n.fmode ch) (h4 : n.fmode ch ≤ 4) :
    Reads (F.FBI_CHn_RAW.RAW ch) 0 (n.fbiStart ch) ∧ Reads (F.FBI_CHn_STAT.STILL ch) 1 (n.fbiStart ch) ∧
      Reads (F.FBI_CHn_STAT.NOREF ch) 1 (n.fbiStart ch) := by
  obtain ⟨y, i, valid, e⟩ := fbiStart_eq h1 h4
  rw [e]
  generalize hz : forEach (fbiZeroed ch) (fun a m => m.wr a 0#32) (n.setFch ch y) = z
  refine ⟨?_, ?_, ?_⟩
  · have hraw : z.rd (R.FBI_CHn_RAW ch) = 0#32 := by
      rw [← hz, Lane.rd_forEach_wr, if_pos (by simp [fbiZeroed])]
    have hzero : Reads (F.FBI_CHn_RAW.RAW ch) 0 z := by
      unfold Reads Lane.f
      rw [show (F.FBI_CHn_RAW.RAW ch).off = R.FBI_CHn_RAW ch from rfl, hraw]
      rfl
    have hstat : (F.FBI_CHn_RAW.RAW ch).off ≠ R.FBI_CHn_STAT ch := by
      simp only [F.FBI_CHn_RAW.RAW, R.FBI_CHn_RAW, R.FBI_CHn_STAT]; omega
    refine Reads.fbiPlace (Reads.setFs_other (hzero.wr _ hstat) ?_) _ _
      ?_ ?_ ?_ ?_ (FRef.apart_of_off hstat) (FRef.apart_of_off hstat)
    · exact ⟨hstat, hstat, hstat, hstat⟩
    all_goals
      simp only [F.FBI_CHn_RAW.RAW, R.FBI_CHn_RAW, R.FBI_CHn_POS, R.FBI_CHn_EXCESS, R.FBI_CHn_EVT, R.FBI_CHn_ERRCNT]
      omega
  · refine Reads.fbiPlace_stat ?_ 0 false rfl (FRef.apart_below (show 1 < 6 by decide)) (FRef.apart_below (show 1 < 5 by decide))
    exact ((reads_setF (r := F.FBI_CHn_STAT.STILL ch) _ rfl (Nat.one_lt_two_pow Nat.one_ne_zero)).setF 1 rfl
      (FRef.apart_below (q := F.FBI_CHn_STAT.NOREF ch) (show 1 < 2 by decide))).setF _ rfl
      (FRef.apart_below (show 1 < 7 by decide))
  · refine Reads.fbiPlace_stat ?_ 0 false rfl (FRef.apart_below (show 2 < 6 by decide)) (FRef.apart_below (show 2 < 5 by decide))
    exact (reads_setF (r := F.FBI_CHn_STAT.NOREF ch) _ rfl (Nat.one_lt_two_pow Nat.one_ne_zero)).setF _ rfl
      (FRef.apart_below (show 2 < 7 by decide))

/-- A channel's start leaves the instant FBI_TIME counts from. -/
theorem fbiStart_en0 (n : Lane) (ch : Nat) : (n.fbiStart ch).fbi.en0 = n.fbi.en0 := by
  refine fbiStart_cases (P := fun m : Lane => m.fbi.en0 = n.fbi.en0) rfl fun h1 h4 => ?_
  obtain ⟨y, i, valid, e⟩ := fbiStart_eq h1 h4
  rw [e, Lane.fbiPlace_fbi]
  exact forEach_keeps (I := fun m : Lane => m.fbi.en0 = n.fbi.en0) (fbiZeroed ch) rfl fun _ _ _ hm => hm

/-- Time starts at zero, and every channel with a sensor starts. -/
def fbiStarts (n : Lane) : Lane := forEach [0, 1, 2, 3] (fun ch n => n.fbiStart ch) (n.upFbi fun g => { g with en0 := n.now, samp := [] })

/-- The block starts, and the CFE's counts of RAW begin anew. -/
def fbiUp (n : Lane) : Lane := (fbiStarts n).upCfe fun g => { g with grps := g.grps.map fun x => { x with m := 0, rawPrev := 0#32 } }

/-- Time stands and the outputs go low. -/
def fbiDown (n : Lane) : Lane :=
  (n.wr R.FBI_TIME (n.fbiTimeAt n.now)).upFbi fun g => { g with
    pco := 0, pcoOld := 0, pulse := [], pdPhase := 0, samp := []
    chs := g.chs.map fun x => { x with ssi := none } }

theorem fbiEnable_eq : fbiEnable = switchEnable R.FBI_CTRL F.FBI_CTRL.EN Lane.anyDriving id fbiUp fbiDown := by
  funext org v n
  unfold fbiEnable switchEnable
  rw [n.store_enable (off := R.FBI_CTRL) rfl v]
  rfl

theorem fbiStarts_reads {x : Nat} {n : Lane} (h : Reads F.FBI_CTRL.EN x n) : Reads F.FBI_CTRL.EN x (fbiStarts n) :=
  forEach_keeps (I := Reads F.FBI_CTRL.EN x) [0, 1, 2, 3] (h.of_regs (Lane.upFbi_regs n _)) fun ch _ _ hm =>
    hm.fbiStart ch (.inl (by show 0x020000 < _; omega))

theorem fbiStarts_en0 (n : Lane) : (fbiStarts n).fbi.en0 = n.now := by
  unfold fbiStarts
  exact forEach_keeps (I := fun m : Lane => m.fbi.en0 = n.now) [0, 1, 2, 3] (n := n.upFbi _) rfl
    fun ch _ m hm => (fbiStart_en0 m ch).trans hm

/-- Every channel with a sensor has started. -/
theorem fbiStarts_channel {n : Lane} {ch : Nat} (hch : ch < 4) (h1 : 1 ≤ n.fmode ch) (h4 : n.fmode ch ≤ 4) :
    Reads (F.FBI_CHn_RAW.RAW ch) 0 (fbiStarts n) ∧ Reads (F.FBI_CHn_STAT.STILL ch) 1 (fbiStarts n) ∧
      Reads (F.FBI_CHn_STAT.NOREF ch) 1 (fbiStarts n) := by
  have hmem : ch ∈ [0, 1, 2, 3] := List.mem_range.2 hch
  unfold fbiStarts
  refine forEach_reaches (I := Reads (F.FBI_CHn_CFG.MODE ch) (n.fmode ch))
    (Q := fun m => Reads (F.FBI_CHn_RAW.RAW ch) 0 m ∧ Reads (F.FBI_CHn_STAT.STILL ch) 1 m ∧ Reads (F.FBI_CHn_STAT.NOREF ch) 1 m)
    hmem (Reads.of_regs rfl (Lane.upFbi_regs n _)) (fun y _ m hm => hm.fbiStart y ?_) (fun m hm => ?_) fun y _ hy m _ hm => ?_
  · simp only [F.FBI_CHn_CFG.MODE, R.FBI_CHn_CFG]
    omega
  · have hm : m.fmode ch = n.fmode ch := hm
    exact fbiStart_reads (hm ▸ h1) (hm ▸ h4)
  · obtain ⟨hraw, hstill, hnoref⟩ := hm
    refine ⟨hraw.fbiStart y ?_, hstill.fbiStart y ?_, hnoref.fbiStart y ?_⟩ <;>
    · simp only [F.FBI_CHn_RAW.RAW, R.FBI_CHn_RAW, F.FBI_CHn_STAT.STILL, F.FBI_CHn_STAT.NOREF, R.FBI_CHn_STAT]
      omega

theorem fbiUp_regs (n : Lane) : (fbiUp n).regs = (fbiStarts n).regs := by
  unfold fbiUp
  exact Lane.upCfe_regs _ _

theorem fbiUp_en0 (n : Lane) : (fbiUp n).fbi.en0 = n.now := by
  unfold fbiUp
  rw [Lane.upCfe_fbi, fbiStarts_en0]

theorem fbiEnable_enables : Enables R.FBI_CTRL F.FBI_CTRL.EN (fun n => ∃ g < 3, n.grp g = 2 ∨ n.grp g = 3)
    (fun n m => m.fbi.en0 = n.now ∧ ∀ ch < 4, 1 ≤ n.fmode ch → n.fmode ch ≤ 4 →
      m.rd (R.FBI_CHn_RAW ch) = 0#32 ∧ m.on (F.FBI_CHn_STAT.STILL ch) = true ∧ m.on (F.FBI_CHn_STAT.NOREF ch) = true)
    (fun n m => m.fbi.pco = 0 ∧ ∀ ch < 4, m.rd (R.FBI_CHn_RAW ch) = n.rd (R.FBI_CHn_RAW ch) ∧
      m.rd (R.FBI_CHn_POS ch) = n.rd (R.FBI_CHn_POS ch)) fbiEnable := by
  rw [fbiEnable_eq]
  refine Enables.of_switch rfl anyDriving_iff (fun _ _ => rfl) (fun _ h => (fbiStarts_reads h).of_regs (fbiUp_regs _))
    (fun _ h => (h.wr _ (by decide)).of_regs rfl) ?_ ?_
  · intro n m p h
    refine ⟨?_, fun ch hch h1 h4 => ?_⟩
    · rw [h.fbi_eq, fbiUp_en0]
      rfl
    · have hmode : Reads (F.FBI_CHn_CFG.MODE ch) (n.fmode ch) ((id { n with pwr := p } : Lane).setF F.FBI_CTRL.EN 1) :=
        Reads.setF_other (n := { n with pwr := p }) rfl 1
          (by simp only [F.FBI_CHn_CFG.MODE, R.FBI_CHn_CFG, F.FBI_CTRL.EN, R.FBI_CTRL]; omega)
      have hmode : Lane.fmode _ ch = n.fmode ch := hmode
      obtain ⟨hraw, hstill, hnoref⟩ := fbiStarts_channel hch (hmode.symm ▸ h1) (hmode.symm ▸ h4)
      refine ⟨rd_of_reads_zero ((hraw.of_regs (fbiUp_regs _)).of_powerOnly h (.inr ?_)),
        Lane.on_of_reads ((hstill.of_regs (fbiUp_regs _)).of_powerOnly h (.inr ?_)),
        Lane.on_of_reads ((hnoref.of_regs (fbiUp_regs _)).of_powerOnly h (.inr ?_))⟩ <;>
      · simp only [F.FBI_CHn_RAW.RAW, R.FBI_CHn_RAW, F.FBI_CHn_STAT.STILL, F.FBI_CHn_STAT.NOREF, R.FBI_CHn_STAT]
        omega
  · intro n m p h
    have hkeep : ∀ b, 0x020100 ≤ b → m.rd b = n.rd b := fun b hb => by
      calc m.rd b = (fbiDown _).rd b := h.regs b (.inr (by omega))
        _ = (Lane.setF _ F.FBI_CTRL.EN 0).rd b := Lane.rd_wr_ne _ _ (by unfold R.FBI_TIME; omega)
        _ = n.rd b := Lane.rd_setF_ne _ _ _ (by show b ≠ 0x020000; omega)
    refine ⟨?_, fun ch _ => ⟨hkeep _ ?_, hkeep _ ?_⟩⟩
    · rw [h.fbi_eq]
      rfl
    · unfold R.FBI_CHn_RAW; omega
    · unfold R.FBI_CHn_POS; omega

end Sys2Proof.Machine
end

section
/-! SUPPORT. The enable of the gate drive (R152). -/

namespace Sys2Proof.Machine

/-! ## The control lane (R127) -/

/-- From `n` to `m` at most the gate drive's part differs, and of it neither the switches nor the reflex latches. -/
structure SwitchesKept (n m : Lane) : Prop where
  parts : m = { n with gdv := m.gdv }
  sw    : m.gdv.sw = n.gdv.sw
  latch : m.gdv.latch = n.gdv.latch

theorem SwitchesKept.upGdv {n m : Lane} {f : GdvState → GdvState} (h : SwitchesKept n m) (hs : (f m.gdv).sw = m.gdv.sw)
    (hl : (f m.gdv).latch = m.gdv.latch) : SwitchesKept n (m.upGdv f) where
  parts := congrArg (fun k : Lane => { k with gdv := f m.gdv }) h.parts
  sw := hs.trans h.sw
  latch := hl.trans h.latch

theorem SwitchesKept.apply {n m : Lane} (h : SwitchesKept n m) : SwitchesKept n (gclControlWriteApply m) := by
  unfold gclControlWriteApply
  split
  · exact h
  · exact ite_of h (h.upGdv rfl rfl)

theorem Lane.ctlFlush_keeps (n : Lane) : SwitchesKept n n.ctlFlush :=
  forEach_keeps (I := SwitchesKept n) n.gdv.ctl ⟨rfl, rfl, rfl⟩ fun _ _ _ hm => hm.apply

/-! ## Switches and feeds off (R137, R152) -/

/-- Switch `s` is off. -/
def SwitchOff (s : Nat) (n : Lane) : Prop := (n.sw s).on = false

/-- A turn-off edge writes the one switch, which is then off. -/
theorem Lane.swOff_eq (n : Lane) (s c : Nat) : ∃ x : Switch, n.swOff s c = n.setSw s x ∧ x.on = false := by
  unfold Lane.swOff
  by_cases h : (n.sw s).on = true
  · exact ⟨_, if_pos h, rfl⟩
  · exact ⟨_, if_neg h, Bool.eq_false_iff.2 h⟩

theorem Lane.sw_setSw (n : Lane) (s q : Nat) (x : Switch) :
    (n.setSw s x).sw q = if s = q ∧ s < n.gdv.sw.length then x else n.sw q := by
  show (n.gdv.sw.set s x).getD q {} = _
  rw [List.getD_eq_getElem?_getD, List.getElem?_set]
  by_cases h : s = q
  · subst h
    by_cases hl : s < n.gdv.sw.length <;> simp [hl, Lane.sw]
  · simp [h, Lane.sw]

theorem swOff_off (n : Lane) (s c : Nat) : SwitchOff s (n.swOff s c) := by
  obtain ⟨x, e, hx⟩ := n.swOff_eq s c
  unfold SwitchOff
  rw [e, Lane.sw_setSw]
  by_cases hl : s < n.gdv.sw.length
  · rw [if_pos ⟨rfl, hl⟩, hx]
  · rw [if_neg (mt And.right hl)]
    simp [Lane.sw, hl]

theorem SwitchOff.swOff {n : Lane} {s : Nat} (h : SwitchOff s n) (q c : Nat) : SwitchOff s (n.swOff q c) := by
  obtain ⟨x, e, hx⟩ := n.swOff_eq q c
  unfold SwitchOff
  rw [e, Lane.sw_setSw]
  exact ite_of (p := fun y : Switch => y.on = false) hx h

/-- Every switch goes off. -/
def switchesOff (n : Lane) : Lane := forEach switches (fun s n => n.swOff s n.gnow) n

theorem switchesOff_off (n : Lane) {s : Nat} (hs : s < 14) : SwitchOff s (switchesOff n) := by
  unfold switchesOff
  exact forEach_reaches (I := fun _ => True) (List.mem_range.2 hs) trivial (fun _ _ _ _ => trivial) (fun m _ => swOff_off m s _)
    fun q _ _ m _ hm => hm.swOff q _

/-- Turn-off edges leave the registers and the check in progress. -/
theorem switchesOff_keeps (n : Lane) : (switchesOff n).regs = n.regs ∧ (switchesOff n).gdv.check = n.gdv.check := by
  unfold switchesOff
  refine forEach_keeps (I := fun m : Lane => m.regs = n.regs ∧ m.gdv.check = n.gdv.check) switches ⟨rfl, rfl⟩ fun s _ m hm => ?_
  obtain ⟨x, e, _⟩ := m.swOff_eq s m.gnow
  rw [e]
  exact hm

theorem natSetBit_zero_false (x : Nat) : (natSetBit x 0 false).testBit 0 = false := by
  unfold natSetBit
  simp only [Bool.false_eq_true, if_false, Nat.testBit_zero]
  split
  · next h => simp only [decide_eq_true_eq, decide_eq_false_iff_not, Nat.pow_zero] at h ⊢; omega
  · next h => exact Bool.eq_false_iff.2 h

/-- With the block disabled, the feed's enable takes the feed off; besides it only the reports to the collector change. -/
theorem feedOff_disabled {n : Lane} (f : Nat) (h : Reads F.GDV_CTRL.EN 0 n) : ∃ rs : List GateRpt,
    feedOff f .enable n = (n.setFeed f (natSetBit (n.feed f) 0 false)).upGdv fun g => { g with reports := rs } := by
  have hr : n.feedReady f = false := by
    unfold Lane.feedReady
    rw [Lane.on_of_reads h]
    simp
  unfold feedOff
  rw [if_neg (by simp [hr])]
  exact ite_of (p := fun m => ∃ rs : List GateRpt, m = Lane.upGdv _ fun g => { g with reports := rs }) ⟨_, rfl⟩ ⟨_, rfl⟩

/-- Both feeds off with the block. -/
def feedsOff (n : Lane) : Lane := feedOff 1 .enable (feedOff 0 .enable n)

theorem feedsOff_eq {n : Lane} (h : Reads F.GDV_CTRL.EN 0 n) : ∃ rs : List GateRpt,
    feedsOff n = n.upGdv fun g =>
      { g with feed1 := natSetBit n.gdv.feed1 0 false, feed2 := natSetBit n.gdv.feed2 0 false, reports := rs } := by
  obtain ⟨r0, e0⟩ := feedOff_disabled 0 h
  obtain ⟨r1, e1⟩ := feedOff_disabled (n := feedOff 0 .enable n) 1 (by rw [e0]; exact h.of_regs rfl)
  refine ⟨r1, ?_⟩
  unfold feedsOff
  rw [e1, e0]
  rfl

theorem feedsOff_reads {n : Lane} (h : Reads F.GDV_CTRL.EN 0 n) : Reads F.GDV_CTRL.EN 0 (feedsOff n) := by
  obtain ⟨rs, e⟩ := feedsOff_eq h
  exact e ▸ h.of_regs rfl

/-- No switch and no feed of the lane is on, and no check is in progress. -/
structure GateStill (n : Lane) : Prop where
  sw    : ∀ s < 14, SwitchOff s n
  check : n.gdv.check = none
  feed1 : n.gdv.feed1.testBit 0 = false
  feed2 : n.gdv.feed2.testBit 0 = false

theorem feedsOff_still {n : Lane} (h : Reads F.GDV_CTRL.EN 0 n) (hsw : ∀ s < 14, SwitchOff s n) (hcheck : n.gdv.check = none) :
    GateStill (feedsOff n) := by
  obtain ⟨rs, e⟩ := feedsOff_eq h
  rw [e]
  exact ⟨hsw, hcheck, natSetBit_zero_false _, natSetBit_zero_false _⟩

theorem GateStill.of_gdv {n m : Lane} (h : GateStill n) (hm : m.gdv = n.gdv) : GateStill m := by
  obtain ⟨hsw, hcheck, hfeed1, hfeed2⟩ := h
  unfold SwitchOff Lane.sw at hsw
  rw [← hm] at hsw hcheck hfeed1 hfeed2
  exact ⟨hsw, hcheck, hfeed1, hfeed2⟩

/-! ## The enable -/

/-- No check is in progress, and every switch and feed is off. -/
def gdvDown (n : Lane) : Lane := feedsOff (switchesOff n.checkAbort)

theorem gdvEnable_eq : gdvEnable = switchEnable R.GDV_CTRL F.GDV_CTRL.EN
    (fun n => [0, 1, 2].any fun g => !n.grpQuiet g || n.grp g == gSAFE) Lane.ctlFlush id gdvDown := by
  funext org v n
  unfold gdvEnable switchEnable
  rw [n.ctlFlush.store_enable (off := R.GDV_CTRL) rfl v]
  refine if_congr Iff.rfl rfl (if_congr Iff.rfl rfl ?_)
  have hstore : n.ctlFlush.setF ⟨R.GDV_CTRL, 0, 0⟩ (bits v 0 0) = n.ctlFlush.setF F.GDV_CTRL.EN (F.GDV_CTRL.EN.val v) := rfl
  rw [hstore]
  generalize n.ctlFlush.setF F.GDV_CTRL.EN (F.GDV_CTRL.EN.val v) = m
  generalize (F.GDV_CTRL.EN.val v == 1) = en
  cases en
  · rfl
  · exact (ite_self (c := (true && !n.on F.GDV_CTRL.EN) = true) m).symm

theorem gdvHeld_iff (n : Lane) : ([0, 1, 2].any fun g => !n.grpQuiet g || n.grp g == gSAFE) = true ↔
    ∃ g < 3, (n.grp g = 2 ∨ n.grp g = 3) ∨ n.grp g = 5 := by
  simp only [any_three, Lane.grpQuiet, Bool.or_eq_true, Bool.not_eq_true', Bool.and_eq_false_iff, bne_eq_false_iff_eq, beq_iff_eq]
  rfl

/-- A check that is abandoned leaves the enable and is no longer in progress. -/
theorem checkAbort_reads {n : Lane} (h : Reads F.GDV_CTRL.EN 0 n) : Reads F.GDV_CTRL.EN 0 n.checkAbort := by
  unfold Lane.checkAbort
  split
  · exact h
  · have h1 : Reads F.GDV_CTRL.EN 0 (n.upGdv fun g => { g with check := none }) := h.of_regs rfl
    exact ((((h1.setF_other _ (by decide)).setF_other _ (by decide)).setF_other _ (by decide)).setF_other _ (by decide)).sqEvent (by decide)

theorem checkAbort_check (n : Lane) : n.checkAbort.gdv.check = none := by
  unfold Lane.checkAbort
  split
  · next h => exact h
  · rfl

theorem gdvDown_reads {n : Lane} (h : Reads F.GDV_CTRL.EN 0 n) : Reads F.GDV_CTRL.EN 0 (gdvDown n) := by
  unfold gdvDown
  exact feedsOff_reads ((checkAbort_reads h).of_regs (switchesOff_keeps _).1)

theorem gdvDown_still {n : Lane} (h : Reads F.GDV_CTRL.EN 0 n) : GateStill (gdvDown n) := by
  unfold gdvDown
  refine feedsOff_still ((checkAbort_reads h).of_regs (switchesOff_keeps _).1) (fun s hs => switchesOff_off _ hs) ?_
  exact (switchesOff_keeps n.checkAbort).2.trans (checkAbort_check n)

theorem gdvEnable_enables : Enables R.GDV_CTRL F.GDV_CTRL.EN (fun n => ∃ g < 3, (n.grp g = 2 ∨ n.grp g = 3) ∨ n.grp g = 5)
    (fun n m => Sets { n with gdv := m.gdv } m [(F.GDV_CTRL.EN, 1)] ∧ m.gdv.sw = n.gdv.sw ∧ m.gdv.latch = n.gdv.latch)
    (fun _ m => (∀ s < 14, (m.sw s).on = false) ∧ m.gdv.check = none ∧ ∀ f < 2, (m.feed f).testBit 0 = false) gdvEnable := by
  rw [gdvEnable_eq]
  refine Enables.of_switch rfl gdvHeld_iff (fun _ _ => rfl) (fun _ h => h) (fun _ h => gdvDown_reads h) ?_ ?_
  · intro n m p h
    obtain ⟨hparts, hsw, hlatch⟩ := ({ n with pwr := p } : Lane).ctlFlush_keeps
    have hgdv : m.gdv = (Lane.ctlFlush { n with pwr := p }).gdv := h.gdv_eq
    refine ⟨PowerOnly.trans (b := (Lane.ctlFlush { n with pwr := p }).setF F.GDV_CTRL.EN 1) ?_ h, ?_, ?_⟩
    · rw [hgdv, hparts]
      exact ⟨rfl, fun _ _ => rfl⟩
    · rw [hgdv, hsw]
    · rw [hgdv, hlatch]
  · intro n m p h
    obtain ⟨hsw, hcheck, hfeed1, hfeed2⟩ :=
      (gdvDown_still (n := (Lane.ctlFlush { n with pwr := p }).setF F.GDV_CTRL.EN 0) (reads_setF _ rfl (by decide))).of_gdv h.gdv_eq
    refine ⟨hsw, hcheck, fun f _ => ?_⟩
    unfold Lane.feed
    exact ite_of (p := fun x : Nat => x.testBit 0 = false) hfeed1 hfeed2

end Sys2Proof.Machine
end

section
/-! SUPPORT. The enable of the safety functions (R375), with the parts of what every change of the block goes on to: the pairs follow their
configuration, brake requests fall, SAF_STAT is formed anew, and its changes are told. -/

namespace Sys2Proof.Machine

/-! ## The parts of `safUpdate` -/

/-- Every pair follows its configuration and EN. -/
def safFollow (n : Lane) : Lane := forEach [0, 1, 2, 3] (fun p n => n.pairFollow p) n

/-- A brake request falls with a condition of R385. -/
def safRelease (n : Lane) : Lane := forEach [0, 1] (fun k n => if n.brakeOk k then n else n.setBit F.SAF_SBOCMD.REL k false) n

/-- The number with bit `i` of `xs` set where `f i`. -/
def bitsWhere (xs : List Nat) (f : Nat → Bool) : Nat := xs.foldl (fun m i => m + b1 (f i) * 2 ^ i) 0

/-- SAF_STAT is formed anew. -/
def safShow (n : Lane) : Lane := n.setFs [
  (F.SAF_STAT.DEMAND, bitsWhere [0, 1, 2, 3] n.demanding),
  (F.SAF_STAT.SERVICE, b1 ([0, 1, 2, 3].any fun p => n.on (F.SAF_SINp_CFG.SERVICE p) && n.pairSt p == sACTIVE)),
  (F.SAF_STAT.PERMIT, bitsWhere [0, 1] n.permitNow),
  (F.SAF_STAT.OKH, b1 n.okhNow),
  (F.SAF_STAT.SBOON, bitsWhere [0, 1] fun k => n.bit F.SAF_SBOCMD.REL k && !n.bit F.SAF_SBOSTAT.TEST k)]

/-- A permit that becomes withheld acts on its group. -/
def safWithhold (was permit : Nat) (n : Lane) : Lane := forEach [0, 1] (fun g n =>
  if was.testBit g && !permit.testBit g then
    (if n.grp g = gPENDING ∨ n.grp g = gRUN then n.raise (0x39 + g) 4 g else n).catchEnd g rABORTED 0
  else n) n

/-- A change of SAF_STAT raises the Oapiec event. -/
def safTell (n : Lane) : Lane :=
  if n.rd R.SAF_STAT = n.saf.shown then n else (n.upSaf fun s => { s with shown := n.rd R.SAF_STAT }).eventW 11 (n.rd R.SAF_STAT)

theorem safUpdate_eq (n : Lane) : n.safUpdate =
    safTell (safWithhold (n.f F.SAF_STAT.PERMIT) (bitsWhere [0, 1] (safRelease (safFollow n)).permitNow)
      (safShow (safRelease (safFollow n)))) := rfl

/-- The words of the block. -/
def safWord (a : Nat) : Prop := 0x006000 ≤ a ∧ a < 0x006200

/-- What follows once SAF_STAT is formed leaves the words of the block. -/
theorem safTell_keeps (was permit : Nat) (n : Lane) : Keeps safWord n (safTell (safWithhold was permit n)) := by
  have cf : Avoids safWord 0x028000 0x030000 := fun a ha => by unfold safWord at ha; omega
  have u : Unwatched safWord dCORE :=
    ⟨fun a ha => by unfold safWord at ha; omega, fun a ha => by unfold safWord at ha; omega, fun a ha => by
      unfold safWord at ha
      unfold R.PWR_Dd_LAT dCORE
      omega⟩
  have hw : Keeps safWord n (safWithhold was permit n) := Keeps.each _ (Keeps.refl _ _) fun g hg m hm =>
    ite_of (Keeps.catchEnd cf (ite_of (hm.raise _ _ _) hm)
      (by simp only [List.mem_cons, List.not_mem_nil, or_false] at hg; omega) _ _) hm
  unfold safTell
  generalize safWithhold was permit n = m at hw ⊢
  generalize m.rd R.SAF_STAT = w
  exact ite_of hw (Keeps.eventW u (hw.same (m := m.upSaf fun s => { s with shown := w }) rfl rfl rfl rfl) _ _)

section
variable {r : FRef} {x : Nat} {n : Lane} (h : Reads r x n)
include h

theorem Reads.safRelease (hr : r.off ≠ R.SAF_SBOCMD) : Reads r x (safRelease n) :=
  forEach_keeps [0, 1] h fun _ _ _ hm => ite_of hm (hm.setF_other _ hr)

theorem Reads.safShow (hr : r.off ≠ R.SAF_STAT) : Reads r x (safShow n) :=
  h.setFs_other ⟨hr, hr, hr, hr, hr⟩

theorem Reads.setPair (p : Nat) (y : SafPair) : Reads r x (n.setPair p y) := h.of_regs rfl

theorem Reads.pairRestart {p : Nat} (hr : r.off ≠ R.SAF_SINp_STAT p) : Reads r x (n.pairRestart p) := (h.setPair p _).setF_other _ hr

theorem Reads.pairShow {p : Nat} (ha : r.apart (F.SAF_SINp_STAT.A p) = true) (hb : r.apart (F.SAF_SINp_STAT.B p) = true) :
    Reads r x (n.pairShow p) := (h.setF _ rfl ha).setF _ rfl hb

theorem Reads.pairFollow {p : Nat} (hr : r.off ≠ R.SAF_SINp_STAT p) : Reads r x (n.pairFollow p) := by
  unfold Lane.pairFollow
  refine Reads.pairShow ?_ (FRef.apart_of_off hr) (FRef.apart_of_off hr)
  exact ite_of (h.pairRestart hr) h

theorem Reads.safFollow (hr : ∀ p < 4, r.off ≠ R.SAF_SINp_STAT p) : Reads r x (safFollow n) :=
  forEach_keeps [0, 1, 2, 3] h fun _ hp _ hm => hm.pairFollow (hr _ (List.mem_range.1 (show _ ∈ List.range 4 from hp)))

theorem Reads.pairsStart (hr : ∀ p < 4, r.off ≠ R.SAF_SINp_STAT p) : Reads r x n.pairsStart :=
  forEach_keeps [0, 1, 2, 3] h fun _ hp _ hm => hm.pairRestart (hr _ (List.mem_range.1 (show _ ∈ List.range 4 from hp)))

end

/-- Once the pairs have followed, a word of the block other than SAF_STAT and the brake command stays. -/
theorem Reads.safUpdate_of_follow {r : FRef} {x : Nat} {n : Lane} (h : Reads r x (Machine.safFollow n)) (hw : safWord r.off)
    (hcmd : r.off ≠ R.SAF_SBOCMD) (hstat : r.off ≠ R.SAF_STAT) : Reads r x n.safUpdate := by
  rw [safUpdate_eq]
  exact ((h.safRelease hcmd).safShow hstat).of_keeps (safTell_keeps _ _ _) hw

theorem safEn_ne (p : Nat) : F.SAF_CTRL.EN.off ≠ R.SAF_SINp_STAT p := by
  simp only [F.SAF_CTRL.EN, R.SAF_CTRL, R.SAF_SINp_STAT]
  omega

/-- EN stays. -/
theorem Reads.safEn {x : Nat} {n : Lane} (h : Reads F.SAF_CTRL.EN x n) : Reads F.SAF_CTRL.EN x n.pairsStart.safUpdate := by
  exact ((h.pairsStart fun p _ => safEn_ne p).safFollow fun p _ => safEn_ne p).safUpdate_of_follow
    ⟨by decide, by decide⟩ (by decide) (by decide)

/-- No permit is given while the block is disabled (R382). -/
theorem safUpdate_permit {n : Lane} (h : Reads F.SAF_CTRL.EN 0 n) : Reads F.SAF_STAT.PERMIT 0 n.safUpdate := by
  have hen : Reads F.SAF_CTRL.EN 0 (safRelease (safFollow n)) := (h.safFollow fun p _ => safEn_ne p).safRelease (by decide)
  have hshow : ∀ m : Lane, Reads F.SAF_CTRL.EN 0 m → Reads F.SAF_STAT.PERMIT 0 (safShow m) := fun m hm => by
    have hnone : m.permitNow = fun _ => false := funext fun g => by
      unfold Lane.permitNow
      rw [Lane.on_of_reads hm]
      simp
    have hzero : bitsWhere [0, 1] m.permitNow = 0 := by rw [hnone]; rfl
    unfold safShow
    rw [hzero]
    exact Reads.setF (Reads.setF (reads_setF _ rfl (by decide)) _ rfl rfl) _ rfl rfl
  rw [safUpdate_eq]
  exact (hshow _ hen).of_keeps (safTell_keeps _ _ _) ⟨by decide, by decide⟩

/-! ## Pairs at the enable (R375, R377) -/

/-- The state a pair starts in. -/
def startState (n : Lane) (p : Nat) : Nat := if n.on (F.SAF_SINp_CFG.USE p) then sSTARTING else sOFF

/-- The block is enabled and the pairs are in use as in `n`. -/
structure PairsOf (n m : Lane) : Prop where
  en  : Reads F.SAF_CTRL.EN 1 m
  use : ∀ p < 4, Reads (F.SAF_SINp_CFG.USE p) (n.f (F.SAF_SINp_CFG.USE p)) m

theorem PairsOf.start {n m : Lane} (h : PairsOf n m) {p : Nat} (hp : p < 4) : startState m p = startState n p := by
  have hu : m.f (F.SAF_SINp_CFG.USE p) = _ := h.use p hp
  unfold startState Lane.on
  rw [hu]

theorem PairsOf.restart {n m : Lane} (h : PairsOf n m) (p : Nat) : PairsOf n (m.pairRestart p) where
  en := h.en.pairRestart (safEn_ne p)
  use q hq := (h.use q hq).pairRestart (by simp only [F.SAF_SINp_CFG.USE, R.SAF_SINp_CFG, R.SAF_SINp_STAT]; omega)

theorem PairsOf.follow {n m : Lane} (h : PairsOf n m) (p : Nat) : PairsOf n (m.pairFollow p) where
  en := h.en.pairFollow (safEn_ne p)
  use q hq := (h.use q hq).pairFollow (by simp only [F.SAF_SINp_CFG.USE, R.SAF_SINp_CFG, R.SAF_SINp_STAT]; omega)

theorem state_ne {p q : Nat} (h : p ≠ q) : (F.SAF_SINp_STAT.STATE p).off ≠ R.SAF_SINp_STAT q := by
  simp only [F.SAF_SINp_STAT.STATE, R.SAF_SINp_STAT]
  omega

theorem startState_lt (n : Lane) (p : Nat) : startState n p < 2 ^ 3 := by
  unfold startState
  split <;> decide

/-- A pair that begins anew is in its starting state. -/
theorem pairRestart_state {n m : Lane} (h : PairsOf n m) {p : Nat} (hp : p < 4) :
    Reads (F.SAF_SINp_STAT.STATE p) (startState n p) (m.pairRestart p) := by
  rw [← h.start hp]
  exact reads_setF (r := F.SAF_SINp_STAT.STATE p) _ rfl (startState_lt m p)

theorem pairsStart_state {n m : Lane} (h : PairsOf n m) {p : Nat} (hp : p < 4) :
    PairsOf n m.pairsStart ∧ Reads (F.SAF_SINp_STAT.STATE p) (startState n p) m.pairsStart := by
  have hmem : p ∈ [0, 1, 2, 3] := List.mem_range.2 hp
  refine ⟨forEach_keeps (I := PairsOf n) _ h fun q _ _ hm => hm.restart q, ?_⟩
  exact forEach_reaches (I := PairsOf n) hmem h (fun q _ _ hm => hm.restart q) (fun k hk => pairRestart_state hk hp)
    fun q _ hq k _ hk => hk.pairRestart (state_ne (Ne.symm hq))

/-- In an enabled block a pair in its starting state goes on in it. -/
theorem pairFollow_state {n m : Lane} (h : PairsOf n m) {p : Nat} (hp : p < 4)
    (hs : Reads (F.SAF_SINp_STAT.STATE p) (startState n p) m) : Reads (F.SAF_SINp_STAT.STATE p) (startState n p) (m.pairFollow p) := by
  have hst : m.pairSt p = startState m p := hs.trans (h.start hp).symm
  unfold Lane.pairFollow
  refine Reads.pairShow ?_ (FRef.apart_above (show 0 < 29 by decide)) (FRef.apart_above (show 1 < 29 by decide))
  rw [if_neg]
  · exact hs
  · rw [hst, Lane.on_of_reads h.en]
    unfold startState
    cases m.on (F.SAF_SINp_CFG.USE p) <;> decide

theorem safFollow_state {n m : Lane} (h : PairsOf n m) {p : Nat} (hp : p < 4)
    (hs : Reads (F.SAF_SINp_STAT.STATE p) (startState n p) m) : Reads (F.SAF_SINp_STAT.STATE p) (startState n p) (safFollow m) := by
  unfold safFollow
  refine (forEach_keeps (I := fun m => PairsOf n m ∧ Reads (F.SAF_SINp_STAT.STATE p) (startState n p) m) _ ⟨h, hs⟩
    fun q _ k hk => ?_).2
  obtain ⟨hk, hsk⟩ := hk
  refine ⟨hk.follow q, ?_⟩
  by_cases e : q = p
  · subst e
    exact pairFollow_state hk hp hsk
  · exact hsk.pairFollow (state_ne (Ne.symm e))

/-- At the enable every pair in use is STARTING and every other OFF. -/
theorem safStart_state {n m : Lane} (h : PairsOf n m) {p : Nat} (hp : p < 4) :
    Reads (F.SAF_SINp_STAT.STATE p) (startState n p) m.pairsStart.safUpdate := by
  obtain ⟨hstart, hs⟩ := pairsStart_state h hp
  refine (safFollow_state hstart hp hs).safUpdate_of_follow ⟨?_, ?_⟩ ?_ ?_ <;>
  · simp only [F.SAF_SINp_STAT.STATE, R.SAF_SINp_STAT, R.SAF_SBOCMD, R.SAF_STAT]
    omega

/-! ## The enable -/

/-- A group is PENDING, RUN or SAFE, or a brake output is released. -/
def Lane.safHeld (n : Lane) : Bool :=
  ([0, 1, 2].any fun g => n.grp g == gPENDING || n.grp g == gRUN || n.grp g == gSAFE) || n.f F.SAF_STAT.SBOON != 0

theorem safHeld_iff (n : Lane) :
    n.safHeld = true ↔ (∃ g < 3, (n.grp g = 2 ∨ n.grp g = 3) ∨ n.grp g = 5) ∨ n.f F.SAF_STAT.SBOON ≠ 0 := by
  unfold Lane.safHeld
  simp only [any_three, Bool.or_eq_true, beq_iff_eq, bne_iff_ne]
  rfl

/-- The block is enabled: every pair begins anew. -/
def safOn (n : Lane) : Lane :=
  ((n.setF F.SAF_CTRL.EN 1).upSaf fun s => { s with keyAlt := false, pulse := [], hold := [] }).pairsStart.safUpdate

/-- The block is disabled. -/
def safOff (n : Lane) : Lane :=
  (((n.setF F.SAF_CTRL.EN 0).upSaf fun s => { s with pulse := [], hold := [] }).setF F.SAF_SBOSTAT.TEST 0).pairsStart.safUpdate

section
variable {v : W32} {n : Lane} (org : Nat)

theorem safEnable_on (hv : F.SAF_CTRL.EN.val v = 1) : safEnable org v n =
    if n.on F.SAF_CTRL.EN then n else if n.on F.SYS_ASHLOCK.LOCK then safOn n else n.rejectState org R.SAF_CTRL := by
  unfold safEnable
  cases n.on F.SAF_CTRL.EN <;> cases n.on F.SYS_ASHLOCK.LOCK <;> simp [hv, safOn]

theorem safEnable_off (hv : F.SAF_CTRL.EN.val v = 0) : safEnable org v n =
    if n.on F.SAF_CTRL.EN then if n.safHeld then n.rejectState org R.SAF_CTRL else safOff n else n := by
  unfold safEnable
  cases n.on F.SAF_CTRL.EN <;> simp [hv, safOff, Lane.safHeld]
end

theorem safOn_reads (n : Lane) : Reads F.SAF_CTRL.EN 1 (safOn n) :=
  Reads.safEn (Reads.of_regs (reads_setF n (r := F.SAF_CTRL.EN) rfl (by decide)) rfl)

theorem safOff_reads (n : Lane) : Reads F.SAF_CTRL.EN 0 (safOff n) :=
  Reads.safEn (Reads.setF_other (Reads.of_regs (reads_setF n (r := F.SAF_CTRL.EN) rfl (by decide)) rfl) _ (by decide))

theorem safOff_permit (n : Lane) : Reads F.SAF_STAT.PERMIT 0 (safOff n) := by
  refine safUpdate_permit (Reads.pairsStart ?_ fun p _ => safEn_ne p)
  exact Reads.setF_other (Reads.of_regs (reads_setF n (r := F.SAF_CTRL.EN) rfl (by decide)) rfl) _ (by decide)

/-- Setting EN leaves which pairs are in use. -/
theorem pairsOf_enabled (n : Lane) (g : SafState → SafState) : PairsOf n ((n.setF F.SAF_CTRL.EN 1).upSaf g) where
  en := Reads.of_regs (reads_setF n (r := F.SAF_CTRL.EN) rfl (by decide)) rfl
  use q _ := Reads.of_regs (Reads.setF_other (n := n) (q := F.SAF_CTRL.EN) rfl 1
    (by simp only [F.SAF_SINp_CFG.USE, R.SAF_SINp_CFG, F.SAF_CTRL.EN, R.SAF_CTRL]; omega)) rfl

theorem safOn_state (n : Lane) {p : Nat} (hp : p < 4) : Reads (F.SAF_SINp_STAT.STATE p) (startState n p) (safOn n) := by
  unfold safOn
  exact safStart_state (pairsOf_enabled n _) hp

theorem safEnable_enables : Enables R.SAF_CTRL F.SAF_CTRL.EN
    (fun n => (∃ g < 3, (n.grp g = 2 ∨ n.grp g = 3) ∨ n.grp g = 5) ∨ n.f F.SAF_STAT.SBOON ≠ 0)
    (fun n m => ∀ p < 4, m.pairSt p = if n.on (F.SAF_SINp_CFG.USE p) then 1 else 0)
    (fun _ m => m.f F.SAF_STAT.PERMIT = 0) safEnable where
  busy_iff _ _ := Iff.rfl
  unlocked org v n hv hen hl := by rw [safEnable_on org hv, hen, hl, if_neg Bool.false_ne_true, if_neg Bool.false_ne_true]
  refused org v n hv hen hb := by rw [safEnable_off org hv, hen, (safHeld_iff n).2 hb, if_pos rfl, if_pos rfl]
  turnsOn org v n hv hl := by
    rw [safEnable_on org hv, hl, if_pos rfl]
    by_cases h : n.on F.SAF_CTRL.EN = true
    · rw [if_pos h]
      exact beq_iff_eq.1 h
    · rw [if_neg h]
      exact safOn_reads n
  turnsOff org v n hv hb := by
    rw [safEnable_off org hv]
    by_cases h : n.on F.SAF_CTRL.EN = true
    · have hfree : ¬ n.safHeld = true := fun hh => (hb.resolve_left (by simp [h])) ((safHeld_iff n).1 hh)
      rw [if_pos h, if_neg hfree]
      exact safOff_reads n
    · rw [if_neg h]
      exact reads_zero_of_off rfl (Bool.eq_false_iff.2 h)
  onSet org v n m p hv hen hl hm q hq := by
    rw [safEnable_on org hv, show ({ n with pwr := p } : Lane).on F.SAF_CTRL.EN = false from hen,
      show ({ n with pwr := p } : Lane).on F.SYS_ASHLOCK.LOCK = true from hl,
      if_neg Bool.false_ne_true, if_pos rfl] at hm
    exact (safOn_state { n with pwr := p } hq).of_powerOnly hm (.inr (by simp only [F.SAF_SINp_STAT.STATE, R.SAF_SINp_STAT]; omega))
  onClear org v n m p hv hen hb hm := by
    have hfree : n.safHeld = false := Bool.eq_false_iff.2 fun hh => hb ((safHeld_iff n).1 hh)
    rw [safEnable_off org hv, show ({ n with pwr := p } : Lane).on F.SAF_CTRL.EN = true from hen,
      show ({ n with pwr := p } : Lane).safHeld = false from hfree, if_pos rfl,
      if_neg Bool.false_ne_true] at hm
    exact (safOff_permit _).of_powerOnly hm (by decide)

end Sys2Proof.Machine
end

section
/-! SUPPORT. The statement on the blocks' enables. -/

namespace Sys2Proof.Machine

/-- Settles O27. Each block's effect writes its enable as `Enables` says, and what of the power controller follows the access leaves
that. -/
theorem blockEnables : Obligations.BlockEnables := by
  unfold Obligations.BlockEnables
  exact ⟨pwmEnable_enables.blockEnable (fun _ _ _ _ _ => rfl) (fun _ _ _ _ => rfl) (by decide),
    gdvEnable_enables.blockEnable (fun _ _ _ _ _ => rfl) (fun _ _ _ _ => rfl) (by decide),
    adcEnable_enables.blockEnable (fun _ _ _ _ _ => rfl) (fun _ _ _ _ => rfl) (by decide),
    fbiEnable_enables.blockEnable (fun _ _ _ _ _ => rfl) (fun _ _ _ _ => rfl) (by decide),
    cfeEnable_enables.blockEnable (fun _ _ _ _ _ => rfl) (fun _ _ _ _ => rfl) (by decide),
    cleEnable_enables.blockEnable (fun _ _ _ _ _ => rfl) (fun _ _ _ _ => rfl) (by decide),
    safEnable_enables.blockEnable (fun _ _ _ _ _ => rfl) (fun _ _ _ _ => rfl) (by decide)⟩

end Sys2Proof.Machine
end

section
/-! SUPPORT. What the operations of the PWM block leave: those of other blocks leave the block standing, and those of the block write fields
of its own that are listed. -/

namespace Sys2Proof.Machine

/-! ## The block stands -/

/-- A register that decides what the PWM block does: its own, and the one that lets a time base follow (R327). -/
def pwmRead (a : Nat) : Prop := 0x010000 ≤ a ∧ a < 0x014000 ∨ a = R.TPE_EXTCFG

/-- From `n` to `m` the PWM block, the registers that decide what it does, and the cycle stand. -/
structure PwmStands (n m : Lane) : Prop where
  regs : ∀ a, pwmRead a → m.rd a = n.rd a
  pwm  : m.pwm = n.pwm
  now  : m.now = n.now

theorem PwmStands.refl (n : Lane) : PwmStands n n := ⟨fun _ _ => rfl, rfl, rfl⟩

theorem PwmStands.trans {a b c : Lane} (h : PwmStands a b) (g : PwmStands b c) : PwmStands a c :=
  ⟨fun x hx => (g.regs x hx).trans (h.regs x hx), g.pwm.trans h.pwm, g.now.trans h.now⟩

theorem PwmStands.f_eq {n m : Lane} (h : PwmStands n m) {r : FRef} (hr : pwmRead r.off) : m.f r = n.f r := Lane.f_congr (h.regs _ hr)

theorem PowerOnly.pwmStands {n m : Lane} (h : PowerOnly n m) : PwmStands n m :=
  ⟨fun a ha => h.regs a (by unfold pwmRead R.TPE_EXTCFG at ha; omega), h.pwm_eq, h.now_eq⟩

theorem not_pwmRead {a : Nat} (h : a < 0x010000 ∨ 0x014000 ≤ a ∧ a ≠ 0x04004C) : ¬ pwmRead a := by
  unfold pwmRead R.TPE_EXTCFG
  omega

section
variable {k n : Lane} (h : PwmStands k n)
include h

/-- An update of parts beside the registers, the block's state and the clock. -/
theorem PwmStands.same {m : Lane} (hr : m.regs = n.regs) (hp : m.pwm = n.pwm) (hn : m.now = n.now) : PwmStands k m :=
  h.trans ⟨fun a _ => Lane.rd_congr hr a, hp, hn⟩

theorem PwmStands.wr {a : Nat} (v : W32) (ha : ¬ pwmRead a) : PwmStands k (n.wr a v) :=
  h.trans ⟨fun _ hb => Lane.rd_wr_ne _ _ fun e => ha (e ▸ hb), rfl, rfl⟩

theorem PwmStands.setF {r : FRef} (x : Nat) (hr : ¬ pwmRead r.off) : PwmStands k (n.setF r x) := h.wr _ hr

theorem PwmStands.sqEvent {r : FRef} (hr : ¬ pwmRead r.off) : PwmStands k (n.sqEvent r) := (h.setF 1 hr).setF _ hr

theorem PwmStands.sqEventOnce {r : FRef} (hr : ¬ pwmRead r.off) : PwmStands k (n.sqEventOnce r) := ite_of h (h.sqEvent hr)

theorem PwmStands.stepSat {r : FRef} (hr : ¬ pwmRead r.off) : PwmStands k (n.stepSat r) := ite_of (h.setF _ hr) h

theorem PwmStands.raise (a b c : Nat) : PwmStands k (n.raise a b c) := h.same rfl rfl rfl

/-- What a rejected access records lies in SYS. -/
theorem PwmStands.rejectState (org off : Nat) : PwmStands k (n.rejectState org off) := by
  have herr : ¬ pwmRead R.SYS_REGERR := not_pwmRead (.inl (by decide))
  have hadr : ¬ pwmRead R.SYS_REGADR := not_pwmRead (.inl (by decide))
  have hstep : ∀ {m : Lane}, PwmStands k m → PwmStands k ((m.stepSat F.SYS_REGERR.COUNT).sqEvent F.SYS_REGERR.FLAG) :=
    fun hm => (hm.stepSat (r := F.SYS_REGERR.COUNT) herr).sqEvent herr
  unfold Lane.rejectState
  rw [Lane.reject_eq]
  refine (hstep ?_).raise _ _ _
  unfold Lane.firstReject
  split
  · exact h
  · exact ((((h.setF _ herr).setF _ herr).setF _ herr).setF _ hadr).setF _ hadr

/-! ## Catches and the chopper (R213, R216) -/

theorem PwmStands.cfeEvent {flag : FRef} (hf : flag.off = R.CFE_EVT) (g kind : Nat) : PwmStands k (n.cfeEvent flag g kind) := by
  have a := h.sqEventOnce (r := flag) (hf ▸ not_pwmRead (.inr (by decide)))
  exact ite_of (a.raise _ _ _) (ite_of (a.raise _ _ _) (a.raise _ _ _))

theorem PwmStands.catchEnd {g : Nat} (hg : g < 3) (res : Nat) (a0 : Int) : PwmStands k (n.catchEnd g res a0) := by
  have hstat : ¬ pwmRead (R.CFE_Gg_STAT g) := not_pwmRead (by unfold R.CFE_Gg_STAT; omega)
  have hcat : ¬ pwmRead (R.CFE_Gg_CATSTAT g) := not_pwmRead (by unfold R.CFE_Gg_CATSTAT; omega)
  have hper : ¬ pwmRead (R.CFE_Gg_CATPER g) := not_pwmRead (by unfold R.CFE_Gg_CATPER; omega)
  have hamp : ¬ pwmRead (R.CFE_Gg_CATAMP g) := not_pwmRead (by unfold R.CFE_Gg_CATAMP; omega)
  unfold Lane.catchEnd
  extract_lets x good n₁ n₂
  have h₁ : PwmStands k n₁ := h.same rfl rfl rfl
  have h₂ : PwmStands k n₂ := ite_of (h₁.same rfl rfl rfl) h₁
  split
  · exact h
  · extract_lets n₃ n₄ n₅
    have h₃ : PwmStands k n₃ := ((h₂.setF _ hstat).setF _ hcat).setF _ hcat
    have h₄ : PwmStands k n₄ := (h₃.wr _ hper).wr _ hamp
    have h₅ : PwmStands k n₅ := h₄.sqEvent hcat
    exact ite_of (h₅.cfeEvent rfl _ _) h₅

theorem PwmStands.catchCheck {g : Nat} (hg : g < 3) : PwmStands k (n.catchCheck g) := ite_of h (h.catchEnd hg _ _)

theorem PwmStands.chopCheck : PwmStands k n.chopCheck := by
  have hs : ¬ pwmRead R.CFE_STAT := not_pwmRead (.inr (by decide))
  unfold Lane.chopCheck
  extract_lets bus out due ep began n₁ n₂
  have h₁ : PwmStands k n₁ := h.same rfl rfl rfl
  have h₂ : PwmStands k n₂ := h₁.setF _ hs
  exact ite_of (ite_of (h₂.cfeEvent rfl _ _) h₂) h

/-! ## Off-state checks (R150) -/

theorem PwmStands.checkAbort : PwmStands k n.checkAbort := by
  have hstat : ¬ pwmRead R.GDV_STAT := not_pwmRead (.inr (by decide))
  have hchk : ¬ pwmRead R.GDV_CHKSTAT := not_pwmRead (.inr (by decide))
  unfold Lane.checkAbort
  split
  · exact h
  · have h₁ : PwmStands k (n.upGdv fun x => { x with check := none }) := h.same rfl rfl rfl
    exact ((((h₁.setF (r := F.GDV_STAT.BUSY) _ hstat).setF _ hchk).setF _ hchk).setF _ hchk).sqEvent hchk

theorem PwmStands.checkAbortSafe (leg : Nat) (p : Pattern) : PwmStands k (n.checkAbortSafe leg p) := by
  unfold Lane.checkAbortSafe
  split
  · exact h
  · exact ite_of h.checkAbort h

/-! ## Executions and triggers (R27, R106, R189, R225) -/

theorem PwmStands.tabSwap (g : Nat) : PwmStands k (n.tabSwap g) := by
  have ht : ¬ pwmRead R.CFE_TBLSTAT := not_pwmRead (.inr (by decide))
  exact ite_of ((h.setF (r := F.CFE_TBLSTAT.BANK) _ ht).setF (r := F.CFE_TBLSTAT.PEND) _ ht) h

theorem PwmStands.endChain {c : Nat} (hc : c < 8) : PwmStands k (n.endChain c) := by
  have hs : ¬ pwmRead (R.CLE_CHc_STAT c) := not_pwmRead (by unfold R.CLE_CHc_STAT; omega)
  unfold Lane.endChain
  extract_lets n₁ n₂
  have h₁ : PwmStands k n₁ := by
    simp only [n₁]
    split
    · exact ite_of h (h.same rfl rfl rfl)
    · exact h
  have h₂ : PwmStands k n₂ := h₁.same rfl rfl rfl
  exact h₂.setF _ hs

omit h in
theorem Lane.groupChain_lt {g c : Nat} (hc : n.groupChain g = some c) : c < 8 := by
  obtain ⟨slot, _, rfl⟩ := Option.map_eq_some_iff.1 hc
  exact bits_lt _ 6 4

theorem PwmStands.cfeOverrun (g : Nat) (trig : Bool) : PwmStands k (n.cfeOverrun g trig) := by
  unfold Lane.cfeOverrun
  extract_lets late n₁ n₂
  have h₁ : PwmStands k n₁ := h.same rfl rfl rfl
  have h₂ : PwmStands k n₂ := by
    simp only [n₂]
    split
    · next c hc =>
      split
      · exact ite_of (h₁.endChain (n₁.groupChain_lt hc)) h₁
      · exact h₁
    · exact h₁
  exact ite_of h (h₂.cfeEvent rfl _ _)

theorem PwmStands.each {α : Type} {f : α → Lane → Lane} (xs : List α) (hf : ∀ x ∈ xs, ∀ m, PwmStands k m → PwmStands k (f x m)) :
    PwmStands k (forEach xs f n) := forEach_keeps xs h hf

theorem PwmStands.seqAbandon {q : Nat} (hq : q < 8) (keep : List Nat) : PwmStands k (n.seqAbandon q keep) := by
  have hs : ¬ pwmRead (R.ADC_SQq_STAT q) := not_pwmRead (by unfold R.ADC_SQq_STAT; omega)
  unfold Lane.seqAbandon
  extract_lets kept n₁ n₂
  have h₁ : PwmStands k n₁ := h.same rfl rfl rfl
  have h₂ : PwmStands k n₂ := (h₁.stepSat (r := F.ADC_SQq_STAT.ABANDON q) hs).setF _ hs
  exact (h₂.sqEventOnce (not_pwmRead (.inr (by decide)))).raise _ _ _

theorem PwmStands.seqStart {q : Nat} (hq : q < 8) : PwmStands k (n.seqStart q) := by
  have hs : ¬ pwmRead (R.ADC_SQq_STAT q) := not_pwmRead (by unfold R.ADC_SQq_STAT; omega)
  unfold Lane.seqStart
  extract_lets cnt n₁ n₂
  have h₁ : PwmStands k n₁ := h.setF _ hs
  have h₂ : PwmStands k n₂ := h₁.same rfl rfl rfl
  exact h₂.each _ fun _ _ m hm => hm.same rfl rfl rfl

theorem PwmStands.adcStarts (lim : Nat) : PwmStands k (n.adcStarts lim) := ite_of h (h.same rfl rfl rfl)

theorem PwmStands.seqTrigger (srcs : List Nat) : PwmStands k (n.seqTrigger srcs) := by
  have hlt : ∀ (p : Nat → Bool) (q : Nat), q ∈ seqs.filter p → q < 8 := fun p q hq => List.mem_range.1 (List.mem_of_mem_filter hq)
  unfold Lane.seqTrigger
  extract_lets qs n₁ n₂ hs n₃
  have h₁ : PwmStands k n₁ := h.adcStarts _
  have h₂ : PwmStands k n₂ := h₁.each qs fun q hq m hm => ite_of (hm.seqAbandon (hlt _ q hq) _) hm
  have h₃ : PwmStands k n₃ := ite_of h₂ (h₂.same rfl rfl rfl)
  exact ite_of (ite_of h (h₃.each qs fun q hq m hm => hm.seqStart (hlt _ q hq))) h

/-- Trigger sources reach the ADC, the FBI and the CLE. -/
theorem PwmStands.fire (srcs : List Nat) : PwmStands k (n.fire srcs) := by
  unfold Lane.fire
  extract_lets n₁ chains lat n₂ n₃
  have h₁ : PwmStands k n₁ := h.seqTrigger srcs
  have h₂ : PwmStands k n₂ := h₁.same rfl rfl rfl
  have h₃ : PwmStands k n₃ := ite_of h₂ (h₂.same rfl rfl rfl)
  exact h₃.same rfl rfl rfl
end

end Sys2Proof.Machine
end

section
/-! SUPPORT. The dead-time stage, group states and shadows: which fields of the PWM block an operation writes, and what it makes of the
legs. -/

namespace Sys2Proof.Machine

/-! ## What is written -/

/-- From `n` to `m`, of the registers that decide what the PWM block does, at most fields in `ws` change. -/
def PwmWrites (ws : List FRef) (n m : Lane) : Prop := ∀ q : FRef, pwmRead q.off → ws.all q.apart = true → m.f q = n.f q

theorem PwmWrites.refl (ws : List FRef) (n : Lane) : PwmWrites ws n n := fun _ _ _ => rfl

theorem PwmWrites.trans {ws : List FRef} {a b c : Lane} (h : PwmWrites ws a b) (g : PwmWrites ws b c) : PwmWrites ws a c :=
  fun q hq ha => (g q hq ha).trans (h q hq ha)

theorem PwmWrites.mono {vs ws : List FRef} {n m : Lane} (h : PwmWrites vs n m) (hs : vs ⊆ ws) : PwmWrites ws n m :=
  fun q hq ha => h q hq (List.all_eq_true.2 fun r hr => List.all_eq_true.1 ha r (hs hr))

theorem PwmStands.writes {n m : Lane} (h : PwmStands n m) (ws : List FRef) : PwmWrites ws n m := fun _ hq _ => h.f_eq hq

theorem PwmWrites.of_regs {n m : Lane} (h : m.regs = n.regs) (ws : List FRef) : PwmWrites ws n m :=
  fun q _ _ => congrFun (Lane.f_of_regs h) q

/-- Two runs of writes, one after the other. -/
theorem PwmWrites.append {vs ws : List FRef} {a b c : Lane} (h : PwmWrites vs a b) (g : PwmWrites ws b c) : PwmWrites (vs ++ ws) a c :=
  (h.mono (List.subset_append_left _ _)).trans (g.mono (List.subset_append_right _ _))

theorem PwmWrites.each {α : Type} {f : α → Lane → Lane} (w : α → List FRef) (hf : ∀ x m, PwmWrites (w x) m (f x m)) (xs : List α) :
    ∀ n : Lane, PwmWrites (xs.flatMap w) n (forEach xs f n) := by
  induction xs with
  | nil => exact PwmWrites.refl _
  | cons x xs ih =>
    intro n
    rw [forEach_cons, List.flatMap_cons]
    exact (hf x n).append (ih _)

theorem pwmWrites_setF (n : Lane) {r : FRef} (x : Nat) (hr : r.ok = true) : PwmWrites [r] n (n.setF r x) := fun q _ ha =>
  Lane.f_setF_apart n x hr (by simpa using ha)

/-- Fields apart from a span of a register are apart from the fields in it. -/
theorem FRef.apart_within {q s r : FRef} (h : q.apart s = true) (ho : s.off = r.off) (hl : s.lo ≤ r.lo) (hh : r.hi ≤ s.hi) :
    q.apart r = true := by
  simp only [FRef.apart, Bool.or_eq_true, decide_eq_true_eq] at h ⊢
  omega

/-- A wider span covers what the narrower one does. -/
theorem PwmWrites.widen {s t : FRef} {n m : Lane} (h : PwmWrites [s] n m) (ho : t.off = s.off) (hl : t.lo ≤ s.lo) (hh : s.hi ≤ t.hi) :
    PwmWrites [t] n m := fun q hq ha => h q hq (by simpa using FRef.apart_within (by simpa using ha) ho hl hh)

/-- A field in a span. -/
theorem pwmWrites_setF_within (n : Lane) {s r : FRef} (x : Nat) (hr : r.ok = true) (ho : s.off = r.off) (hl : s.lo ≤ r.lo)
    (hh : r.hi ≤ s.hi) : PwmWrites [s] n (n.setF r x) := (pwmWrites_setF n x hr).widen ho hl hh

/-! ## Bits of a field -/

/-- Adding a power of two whose bit is clear sets that bit alone. -/
theorem testBit_add_two_pow {x i : Nat} (h : x.testBit i = false) (j : Nat) :
    (x + 2 ^ i).testBit j = if j = i then true else x.testBit j := by
  split
  · next e => rw [e, Nat.add_comm, Nat.testBit_two_pow_add_eq, h, Bool.not_false]
  · next hj =>
    have hx := Nat.div_add_mod x (2 ^ i)
    have hlt := Nat.mod_lt x (Nat.two_pow_pos i)
    have heven : x / 2 ^ i % 2 ≠ 1 := by simpa [Nat.testBit_eq_decide_div_mod_eq] using h
    have hs : x + 2 ^ i = 2 ^ i * (x / 2 ^ i + 1) + x % 2 ^ i := by rw [Nat.mul_add]; omega
    rw [hs, Nat.testBit_two_pow_mul_add _ hlt]
    conv => rhs; rw [← hx, Nat.testBit_two_pow_mul_add _ hlt]
    split
    · rfl
    · obtain ⟨k, hk⟩ : ∃ k, j - i = k + 1 := ⟨j - i - 1, by omega⟩
      rw [hk, Nat.testBit_succ, Nat.testBit_succ]
      exact congrArg (Nat.testBit · k) (by omega)

theorem natSetBit_testBit_of (x i j : Nat) (b : Bool) : (natSetBit x i b).testBit j = if j = i then b else x.testBit j := by
  have hkeep : x.testBit i = b → x.testBit j = if j = i then b else x.testBit j := fun h => by
    split
    · next e => rw [e, h]
    · rfl
  unfold natSetBit
  cases b
  · split
    · next h =>
      have hle : 2 ^ i ≤ x := Nat.ge_two_pow_of_testBit h
      have hadd : 2 ^ i + (x - 2 ^ i) = x := by omega
      have hbit : (x - 2 ^ i).testBit i = false := by simpa [hadd, h] using Nat.testBit_two_pow_add_eq (x - 2 ^ i) i
      have hj := testBit_add_two_pow hbit j
      rw [Nat.sub_add_cancel hle] at hj
      rw [if_neg Bool.false_ne_true]
      split
      · next e => rw [e, hbit]
      · next e => rw [hj, if_neg e]
    · next h => exact hkeep (Bool.eq_false_iff.2 h)
  · split
    · next h => exact hkeep h
    · next h => exact testBit_add_two_pow (Bool.eq_false_iff.2 h) j

theorem Lane.bit_setBit_of (n : Lane) {r : FRef} {i j : Nat} (b : Bool) (hr : r.ok = true) (hj : j < r.hi + 1 - r.lo) :
    (n.setBit r i b).bit r j = if j = i then b else n.bit r j := by
  simp only [FRef.ok, Bool.and_eq_true, decide_eq_true_eq] at hr
  unfold Lane.setBit Lane.bit
  rw [Lane.f_setF_self _ _ _ hr.1 hr.2, Nat.testBit_mod_two_pow, natSetBit_testBit_of]
  simp [hj]

/-! ## One element of a list -/

/-- Where the steps of the other elements keep `K`, the list comes to one step of `x` between lanes that keep it. -/
theorem forEach_split {α : Type} {f : α → Lane → Lane} {K : Lane → Lane → Prop} (hrefl : ∀ n, K n n)
    (htrans : ∀ a b c, K a b → K b c → K a c) {x : α} {xs : List α} (hnd : xs.Nodup) (hx : x ∈ xs)
    (hK : ∀ y ∈ xs, y ≠ x → ∀ m, K m (f y m)) (n : Lane) : ∃ m, K n m ∧ K (f x m) (forEach xs f n) := by
  induction xs generalizing n with
  | nil => exact absurd hx List.not_mem_nil
  | cons y ys ih =>
    obtain ⟨hy, hys⟩ := List.nodup_cons.1 hnd
    rw [forEach_cons]
    by_cases e : y = x
    · subst e
      exact ⟨n, hrefl n, forEach_keeps ys (hrefl _) fun z hz m hm =>
        htrans _ _ _ hm (hK z (by simp [hz]) (fun e => hy (e ▸ hz)) m)⟩
    · obtain ⟨m, hm, hend⟩ := ih hys ((List.mem_cons.1 hx).resolve_left (Ne.symm e)) (fun z hz => hK z (by simp [hz])) (f y n)
      exact ⟨m, htrans _ _ _ (hK y (by simp) e n) hm, hend⟩

/-! ## Legs -/

/-- The leg has a dead-time stage. -/
def Lane.hasLeg (n : Lane) (leg : Nat) : Prop := leg - 1 < n.pwm.legs.length

theorem Lane.leg_setLeg {n : Lane} {leg : Nat} (h : n.hasLeg leg) (x : LegStage) : (n.setLeg leg x).leg leg = x := by
  show (n.pwm.legs.set (leg - 1) x).getD (leg - 1) {} = x
  have h : leg - 1 < n.pwm.legs.length := h
  simp [h]

@[simp] theorem Lane.hasLeg_setLeg (n : Lane) (leg l : Nat) (x : LegStage) : (n.setLeg l x).hasLeg leg ↔ n.hasLeg leg := by
  unfold Lane.hasLeg
  show leg - 1 < (n.pwm.legs.set (l - 1) x).length ↔ _
  rw [List.length_set]

/-- A leg that has no stage takes none. -/
theorem Lane.setLeg_missing {n : Lane} {leg : Nat} (h : ¬ n.hasLeg leg) (x : LegStage) : n.setLeg leg x = n := by
  unfold Lane.setLeg
  rw [List.set_eq_of_length_le (Nat.le_of_not_lt h)]
  rfl

/-- A stage that differs from a missing one's is there. -/
theorem Lane.hasLeg_of_ne {n : Lane} {leg : Nat} (h : n.leg leg ≠ {}) : n.hasLeg leg := by
  by_contra hno
  exact h (List.getD_eq_default _ _ (Nat.le_of_not_lt hno))

@[simp] theorem LegStage.pend_setPend (x : LegStage) (high : Bool) (p : Option Nat) : (x.setPend high p).pend high = p := by
  cases high <;> rfl

@[simp] theorem LegStage.pend_setPend_not (x : LegStage) (high : Bool) (p : Option Nat) : (x.setPend (!high) p).pend high = x.pend high := by
  cases high <;> rfl

@[simp] theorem LegStage.setPend_gov (x : LegStage) (high : Bool) (p : Option Nat) : (x.setPend high p).gov = x.gov := by
  cases high <;> rfl

@[simp] theorem LegStage.setPend_ovrDue (x : LegStage) (high : Bool) (p : Option Nat) : (x.setPend high p).ovrDue = x.ovrDue := by
  cases high <;> rfl

/-- The command of a leg's high or low side. -/
def swField (leg : Nat) (high : Bool) : FRef := if high then F.PWM_LEGn_ACT.H leg else F.PWM_LEGn_ACT.L leg

/-- The two commands of a leg, and these with REF. -/
def cmdSpan (leg : Nat) : FRef := ⟨R.PWM_LEGn_ACT leg, 18, 17⟩
def legSpan (leg : Nat) : FRef := ⟨R.PWM_LEGn_ACT leg, 18, 16⟩

theorem swField_ok (leg : Nat) (high : Bool) : (swField leg high).ok = true := by cases high <;> rfl

theorem swField_width (leg : Nat) (high : Bool) : (swField leg high).hi + 1 - (swField leg high).lo = 1 := by cases high <;> rfl

/-- The command lies in the leg's span. -/
theorem swField_place (leg : Nat) (high : Bool) :
    R.PWM_LEGn_ACT leg = (swField leg high).off ∧ 17 ≤ (swField leg high).lo ∧ (swField leg high).hi ≤ 18 := by
  cases high
  · exact ⟨rfl, show 17 ≤ 18 by decide, le_refl 18⟩
  · exact ⟨rfl, le_refl 17, show 17 ≤ 18 by decide⟩

theorem swField_apart (leg : Nat) (high : Bool) : (swField leg high).apart (swField leg !high) = true := by
  cases high
  · exact FRef.apart_above (show 17 < 18 by decide)
  · exact FRef.apart_below (show 17 < 18 by decide)

theorem legAct_read {leg hi lo : Nat} (h : leg < 8) : pwmRead (FRef.mk (R.PWM_LEGn_ACT leg) hi lo).off := by
  unfold pwmRead R.PWM_LEGn_ACT
  simp only
  omega

/-! ### Commands of one switch -/

/-- A command changes one switch: its field, and the edge that leaves. -/
theorem Lane.cmdSwitch_eq (n : Lane) (leg : Nat) (high on : Bool) : n.cmdSwitch leg high on =
    if n.on (swField leg high) = on then n
    else (n.setF (swField leg high) (b1 on)).upGdv fun x =>
      { x with edges := n.gdv.edges ++ [{ sw := swIx leg high, on := on, ts := n.now }] } := rfl

theorem Lane.cmdSwitch_on (n : Lane) (leg : Nat) (high on : Bool) : (n.cmdSwitch leg high on).on (swField leg high) = on := by
  rw [Lane.cmdSwitch_eq]
  split
  · assumption
  · have hr : Reads (swField leg high) (b1 on) (n.setF (swField leg high) (b1 on)) :=
      reads_setF n (swField_ok _ _) (by rw [swField_width]; cases on <;> decide)
    exact (Lane.on_of_reads (hr.of_regs (Lane.upGdv_regs _ _))).trans (by cases on <;> rfl)

theorem Lane.cmdSwitch_other (n : Lane) (leg : Nat) (high on : Bool) :
    (n.cmdSwitch leg (!high) on).on (swField leg high) = n.on (swField leg high) := by
  rw [Lane.cmdSwitch_eq]
  split
  · rfl
  · exact congrArg (· == 1) (Lane.f_setF_apart n _ (swField_ok _ _) (swField_apart _ _))

@[simp] theorem Lane.cmdSwitch_pwm (n : Lane) (leg : Nat) (high on : Bool) : (n.cmdSwitch leg high on).pwm = n.pwm :=
  ite_of (p := fun m : Lane => m.pwm = n.pwm) rfl rfl

@[simp] theorem Lane.cmdSwitch_now (n : Lane) (leg : Nat) (high on : Bool) : (n.cmdSwitch leg high on).now = n.now :=
  ite_of (p := fun m : Lane => m.now = n.now) rfl rfl

@[simp] theorem Lane.cmdSwitch_leg (n : Lane) (leg l : Nat) (high on : Bool) : (n.cmdSwitch leg high on).leg l = n.leg l := by
  unfold Lane.leg
  rw [Lane.cmdSwitch_pwm]

theorem cmdSwitch_writes (n : Lane) (leg : Nat) (high on : Bool) : PwmWrites [cmdSpan leg] n (n.cmdSwitch leg high on) := by
  rw [Lane.cmdSwitch_eq]
  split
  · exact PwmWrites.refl _ _
  · obtain ⟨ho, hl, hh⟩ := swField_place leg high
    exact (pwmWrites_setF_within n (s := cmdSpan leg) _ (swField_ok _ _) ho hl hh).trans (PwmWrites.of_regs (Lane.upGdv_regs _ _) _)

/-! ### Turn-off and turn-on -/

theorem Lane.switchOff_off (n : Lane) (leg : Nat) (high : Bool) : (n.switchOff leg high).on (swField leg high) = false :=
  Lane.cmdSwitch_on _ _ _ _

theorem Lane.switchOff_other (n : Lane) (leg : Nat) (high : Bool) :
    (n.switchOff leg (!high)).on (swField leg high) = n.on (swField leg high) := Lane.cmdSwitch_other _ _ _ _

/-- A turn-off gives up the pending turn-on and commands the switch. -/
theorem Lane.switchOff_eq (n : Lane) (leg : Nat) (high : Bool) :
    n.switchOff leg high = (n.setLeg leg ((n.leg leg).setPend high none)).cmdSwitch leg high false := rfl

@[simp] theorem Lane.switchOff_now (n : Lane) (leg : Nat) (high : Bool) : (n.switchOff leg high).now = n.now := Lane.cmdSwitch_now _ _ _ _

theorem Lane.switchOff_leg {n : Lane} {leg : Nat} (h : n.hasLeg leg) (high : Bool) :
    (n.switchOff leg high).leg leg = (n.leg leg).setPend high none := by
  rw [Lane.switchOff_eq, Lane.cmdSwitch_leg, Lane.leg_setLeg h]

@[simp] theorem Lane.hasLeg_switchOff (n : Lane) (leg l : Nat) (high : Bool) : (n.switchOff l high).hasLeg leg ↔ n.hasLeg leg := by
  unfold Lane.hasLeg
  rw [Lane.switchOff_eq, Lane.cmdSwitch_pwm]
  exact Lane.hasLeg_setLeg n leg l _

/-- A turn-on changes no register: at most it falls due. -/
theorem Lane.switchOn_eq (n : Lane) (leg : Nat) (high : Bool) (delay : Nat) : n.switchOn leg high delay =
    if n.on (swField leg high) = false ∧ (n.leg leg).pend high = none then
      n.setLeg leg ((n.leg leg).setPend high (some (n.now + delay)))
    else n := by
  unfold Lane.switchOn
  change (if n.on (swField leg high) = true then n else _) = _
  cases n.on (swField leg high) <;> cases (n.leg leg).pend high <;> simp

@[simp] theorem Lane.switchOn_regs (n : Lane) (leg : Nat) (high : Bool) (delay : Nat) : (n.switchOn leg high delay).regs = n.regs := by
  rw [Lane.switchOn_eq]
  exact ite_of (p := fun m : Lane => m.regs = n.regs) rfl rfl

@[simp] theorem Lane.switchOn_on (n : Lane) (leg : Nat) (high : Bool) (delay : Nat) : (n.switchOn leg high delay).on = n.on :=
  Lane.on_of_regs (n.switchOn_regs leg high delay)

end Sys2Proof.Machine
end

section
/-! SUPPORT. What drives a leg (R103, R105, R115, R121, R356), and the statement on the dead-time stage. -/

namespace Sys2Proof.Machine

/-! ## What drives a leg -/

/-- From `n` to `m` at most the leg's commands and pending turn-ons change. -/
structure Drives (leg : Nat) (n m : Lane) : Prop where
  writes : PwmWrites [cmdSpan leg] n m
  gov    : (m.leg leg).gov = (n.leg leg).gov
  ovrDue : (m.leg leg).ovrDue = (n.leg leg).ovrDue
  has    : m.hasLeg leg ↔ n.hasLeg leg

theorem Drives.refl (leg : Nat) (n : Lane) : Drives leg n n := ⟨PwmWrites.refl _ _, rfl, rfl, Iff.rfl⟩

theorem Drives.trans {leg : Nat} {a b c : Lane} (h : Drives leg a b) (g : Drives leg b c) : Drives leg a c :=
  ⟨h.writes.trans g.writes, g.gov.trans h.gov, g.ovrDue.trans h.ovrDue, g.has.trans h.has⟩

/-- A pending turn-on is set or given up. -/
theorem setPend_drives (n : Lane) (leg : Nat) (high : Bool) (p : Option Nat) :
    Drives leg n (n.setLeg leg ((n.leg leg).setPend high p)) := by
  by_cases h : n.hasLeg leg
  · have hleg := Lane.leg_setLeg h ((n.leg leg).setPend high p)
    exact ⟨PwmWrites.of_regs rfl _, by rw [hleg, LegStage.setPend_gov], by rw [hleg, LegStage.setPend_ovrDue], n.hasLeg_setLeg _ _ _⟩
  · rw [Lane.setLeg_missing h]
    exact Drives.refl _ _

theorem switchOff_drives (n : Lane) (leg : Nat) (high : Bool) : Drives leg n (n.switchOff leg high) := by
  rw [Lane.switchOff_eq]
  refine (setPend_drives n leg high none).trans ⟨cmdSwitch_writes _ _ _ _, ?_, ?_, ?_⟩
  · rw [Lane.cmdSwitch_leg]
  · rw [Lane.cmdSwitch_leg]
  · unfold Lane.hasLeg
    rw [Lane.cmdSwitch_pwm]

theorem switchOn_drives (n : Lane) (leg : Nat) (high : Bool) (delay : Nat) : Drives leg n (n.switchOn leg high delay) := by
  rw [Lane.switchOn_eq]
  exact ite_of (setPend_drives _ _ _ _) (Drives.refl _ _)

theorem driveRef_drives (n : Lane) (leg : Nat) : Drives leg n (n.driveRef leg) := by
  unfold Lane.driveRef
  extract_lets r mode x one
  have hone : ∀ high want d m, Drives leg m (one high want d m) := fun _ _ _ _ => ite_of (switchOn_drives _ _ _ _) (switchOff_drives _ _ _)
  exact ite_of ((hone _ _ _ _).trans (hone _ _ _ _)) ((hone _ _ _ _).trans (hone _ _ _ _))

theorem driveSafe_drives (n : Lane) (leg : Nat) (p : Pattern) : Drives leg n (n.driveSafe leg p) := by
  unfold Lane.driveSafe
  extract_lets d one
  have hone : ∀ high m, Drives leg m (one high m) := fun _ _ => ite_of (switchOn_drives _ _ _ _) (switchOff_drives _ _ _)
  exact (hone _ _).trans (hone _ _)

theorem driveOff_drives (n : Lane) (leg : Nat) : Drives leg n (n.driveOff leg) :=
  (switchOff_drives _ _ _).trans (switchOff_drives _ _ _)

/-- What governs the leg drives it. -/
def Lane.driveGov (n : Lane) (leg : Nat) : Gov → Lane
  | .off => n.driveOff leg
  | .ref => n.driveRef leg
  | .safe p => n.driveSafe leg p

theorem driveGov_drives (n : Lane) (leg : Nat) (g : Gov) : Drives leg n (n.driveGov leg g) := by
  cases g with
  | off => exact driveOff_drives _ _
  | safe p => exact driveSafe_drives _ _ _
  | ref => exact driveRef_drives _ _

/-- The leg's stage as a new governor finds it: no turn-on of the one before is pending. -/
def Lane.regov (n : Lane) (leg : Nat) (g : Gov) : Lane := n.setLeg leg { n.leg leg with gov := g, pendH := none, pendL := none }

theorem Lane.govern_eq (n : Lane) (leg : Nat) (g : Gov) :
    n.govern leg g = if (n.leg leg).gov = g then n else (n.regov leg g).driveGov leg g := by
  cases g <;> rfl

theorem govern_writes (n : Lane) (leg : Nat) (g : Gov) : PwmWrites [cmdSpan leg] n (n.govern leg g) := by
  rw [Lane.govern_eq]
  exact ite_of (PwmWrites.refl _ _) (PwmWrites.trans (b := n.regov leg g) (PwmWrites.of_regs rfl _) (driveGov_drives _ _ _).writes)

/-- A leg is governed as it is told, and its other overrides wait on. -/
theorem Lane.govern_leg {n : Lane} {leg : Nat} (h : n.hasLeg leg) (g : Gov) :
    ((n.govern leg g).leg leg).gov = g ∧ ((n.govern leg g).leg leg).ovrDue = (n.leg leg).ovrDue ∧ (n.govern leg g).hasLeg leg := by
  rw [Lane.govern_eq]
  split
  · next e => exact ⟨e, rfl, h⟩
  · have hleg : (n.regov leg g).leg leg = { n.leg leg with gov := g, pendH := none, pendL := none } := Lane.leg_setLeg h _
    have hd := driveGov_drives (n.regov leg g) leg g
    exact ⟨by rw [hd.gov, hleg], by rw [hd.ovrDue, hleg], hd.has.2 ((n.hasLeg_setLeg _ _ _).2 h)⟩

/-! ## Switches that are held off -/

theorem Lane.driveOff_off (n : Lane) (leg : Nat) (high : Bool) : (n.driveOff leg).on (swField leg high) = false := by
  unfold Lane.driveOff
  cases high
  · exact Lane.switchOff_off _ _ _
  · exact (Lane.switchOff_other _ _ true).trans (Lane.switchOff_off _ _ _)

theorem Lane.driveSafe_off (n : Lane) (leg : Nat) {p : Pattern} {high : Bool} (hp : p.wants high = false) :
    (n.driveSafe leg p).on (swField leg high) = false := by
  unfold Lane.driveSafe
  extract_lets d one
  have hoff : ∀ m, one high m = m.switchOff leg high := fun m => if_neg (by rw [hp]; exact Bool.false_ne_true)
  cases high
  · have hlow : (one true (one false n)).on (swField leg false) = (one false n).on (swField leg false) :=
      ite_of (p := fun m : Lane => m.on (swField leg false) = _) (by rw [Lane.switchOn_on]) (Lane.switchOff_other _ _ false)
    rw [hlow, hoff, Lane.switchOff_off]
  · rw [hoff, Lane.switchOff_off]

/-- In COMP, REF turns one switch off and asks for the other. -/
theorem Lane.driveRef_comp {n : Lane} {leg : Nat} {r : Bool} (hr : n.on (F.PWM_LEGn_ACT.REF leg) = r)
    (hmode : n.f (F.PWM_LEGn_OUT.MODE leg) = 0) :
    n.driveRef leg = (n.switchOff leg (!r)).switchOn leg r (if r then (n.leg leg).rise else (n.leg leg).fall) := by
  subst hr
  unfold Lane.driveRef
  rw [hmode]
  cases n.on (F.PWM_LEGn_ACT.REF leg) <;> rfl

/-- The switch REF does not hold is commanded off, and the turn-on of the other falls due after its dead time. -/
theorem Lane.driveRef_shows {n : Lane} {leg : Nat} {r : Bool} (h : n.hasLeg leg) (hr : n.on (F.PWM_LEGn_ACT.REF leg) = r)
    (hmode : n.f (F.PWM_LEGn_OUT.MODE leg) = 0) :
    (n.driveRef leg).on (swField leg !r) = false ∧
      (n.on (swField leg r) = false → (n.leg leg).pend r = none →
        ((n.driveRef leg).leg leg).pend r = some (n.now + if r then (n.leg leg).rise else (n.leg leg).fall)) := by
  rw [Lane.driveRef_comp hr hmode]
  generalize (if r then (n.leg leg).rise else (n.leg leg).fall) = d
  refine ⟨by rw [Lane.switchOn_on, Lane.switchOff_off], fun hon hpend => ?_⟩
  have hpend' : ((n.switchOff leg !r).leg leg).pend r = none := by rw [Lane.switchOff_leg h, LegStage.pend_setPend_not, hpend]
  rw [Lane.switchOn_eq, if_pos ⟨(n.switchOff_other leg r).trans hon, hpend'⟩, Lane.leg_setLeg ((n.hasLeg_switchOff _ _ _).2 h),
    LegStage.pend_setPend, Lane.switchOff_now]

/-! ## REF follows the comparison (R102) -/

/-- REF takes the comparison's value, and nothing follows it yet. -/
def Lane.putRef (n : Lane) (leg : Nat) : Lane := n.setF (F.PWM_LEGn_ACT.REF leg) (b1 (n.legRef leg))

theorem Lane.putRef_pwm (n : Lane) (leg : Nat) : (n.putRef leg).pwm = n.pwm := Lane.setF_pwm _ _ _
theorem Lane.putRef_now (n : Lane) (leg : Nat) : (n.putRef leg).now = n.now := Lane.setF_now _ _ _

theorem Lane.putRef_leg (n : Lane) (leg l : Nat) : (n.putRef leg).leg l = n.leg l := by
  unfold Lane.leg
  rw [Lane.putRef_pwm]

theorem Lane.updateRef_eq (n : Lane) (leg : Nat) : n.updateRef leg =
    if n.on (F.PWM_LEGn_ACT.REF leg) = n.legRef leg then n
    else if (n.leg leg).gov = .ref then (n.putRef leg).driveRef leg else n.putRef leg := by
  rw [← n.putRef_leg leg leg]
  rfl

theorem putRef_writes (n : Lane) (leg : Nat) : PwmWrites [legSpan leg] n (n.putRef leg) :=
  pwmWrites_setF_within n _ rfl rfl (le_refl 16) (show 16 ≤ 18 by decide)

theorem updateRef_writes (n : Lane) (leg : Nat) : PwmWrites [legSpan leg] n (n.updateRef leg) := by
  rw [Lane.updateRef_eq]
  have hdrive := fun m => (driveRef_drives m leg).writes.widen (t := legSpan leg) rfl (show 16 ≤ 17 by decide) (le_refl 18)
  exact ite_of (PwmWrites.refl _ _) (ite_of ((putRef_writes _ _).trans (hdrive _)) (putRef_writes _ _))

theorem swField_apart_ref (leg : Nat) (high : Bool) : (swField leg high).apart (F.PWM_LEGn_ACT.REF leg) = true := by
  cases high
  · exact FRef.apart_above (show 16 < 18 by decide)
  · exact FRef.apart_above (show 16 < 17 by decide)

/-- A drive of the leg leaves REF. -/
theorem Lane.driveRef_ref (n : Lane) {leg : Nat} (h : leg < 8) :
    (n.driveRef leg).on (F.PWM_LEGn_ACT.REF leg) = n.on (F.PWM_LEGn_ACT.REF leg) :=
  congrArg (· == 1) ((driveRef_drives n leg).writes _ (legAct_read h) (by simp [FRef.apart, cmdSpan, F.PWM_LEGn_ACT.REF]))

/-- The comparison, with the counter's direction in UPDOWN (R102). -/
theorem Lane.legRef_eq {n : Lane} {leg cnt : Nat} (hc : (n.tbNow (legGroup leg)).1 = cnt) : n.legRef leg =
    if n.f (F.PWM_TBb_CFG.MODE (legGroup leg)) = 1 ∧ (n.tbNow (legGroup leg)).2 = true then decide (n.f (F.PWM_LEGn_ACT.CMP leg) < cnt)
    else decide (n.f (F.PWM_LEGn_ACT.CMP leg) ≤ cnt) := by
  subst hc
  rfl

theorem b1_lt (b : Bool) : b1 b < 2 := by cases b <;> decide

/-- REF takes the comparison's value. -/
theorem Lane.updateRef_ref (n : Lane) {leg : Nat} (h : leg < 8) : (n.updateRef leg).on (F.PWM_LEGn_ACT.REF leg) = n.legRef leg := by
  have hset : (n.putRef leg).on (F.PWM_LEGn_ACT.REF leg) = n.legRef leg := by
    unfold Lane.putRef
    rw [Lane.on_of_reads (reads_setF n rfl (b1_lt _))]
    cases n.legRef leg <;> rfl
  rw [Lane.updateRef_eq]
  split
  · assumption
  · exact ite_of (p := fun m : Lane => m.on (F.PWM_LEGn_ACT.REF leg) = _) ((Lane.driveRef_ref _ h).trans hset) hset

theorem Lane.putRef_on (n : Lane) (leg : Nat) (high : Bool) : (n.putRef leg).on (swField leg high) = n.on (swField leg high) :=
  congrArg (· == 1) (Lane.f_setF_apart n _ rfl (swField_apart_ref leg high))

/-- What else governs the leg keeps its switches from REF. -/
theorem Lane.updateRef_overridden {n : Lane} {leg : Nat} (hg : (n.leg leg).gov ≠ .ref) :
    (∀ high, (n.updateRef leg).on (swField leg high) = n.on (swField leg high)) ∧ (n.updateRef leg).gdv = n.gdv := by
  rw [Lane.updateRef_eq, if_neg hg]
  split
  · exact ⟨fun _ => rfl, rfl⟩
  · exact ⟨fun high => n.putRef_on leg high, Lane.setF_gdv _ _ _⟩

/-- A change of REF turns the switch off that it no longer holds, and the other waits for its dead time (R103). -/
theorem Lane.updateRef_turns {n : Lane} {leg : Nat} {r : Bool} (h : leg < 8) (hr : n.legRef leg = r) (hg : (n.leg leg).gov = .ref)
    (hmode : n.f (F.PWM_LEGn_OUT.MODE leg) = 0) (hch : n.on (F.PWM_LEGn_ACT.REF leg) ≠ r) :
    (n.updateRef leg).on (swField leg !r) = false ∧
      (n.on (swField leg r) = false → (n.leg leg).pend r = none →
        ((n.updateRef leg).leg leg).pend r = some (n.now + if r then (n.leg leg).rise else (n.leg leg).fall)) := by
  have hhas : n.hasLeg leg := Lane.hasLeg_of_ne fun e => by rw [e] at hg; exact absurd hg (by decide)
  have hne : ¬ n.on (F.PWM_LEGn_ACT.REF leg) = n.legRef leg := hr ▸ hch
  have hset : (n.updateRef leg).on (F.PWM_LEGn_ACT.REF leg) = r := (n.updateRef_ref h).trans hr
  rw [Lane.updateRef_eq, if_neg hne, if_pos hg] at hset ⊢
  have hoff : (F.PWM_LEGn_OUT.MODE leg).off ≠ (F.PWM_LEGn_ACT.REF leg).off := by
    show 0x010408 + 0x20 * (leg - 1) ≠ 0x01040C + 0x20 * (leg - 1)
    omega
  have hhas' : (n.putRef leg).hasLeg leg := by
    unfold Lane.hasLeg
    rw [Lane.putRef_pwm]
    exact hhas
  have hmode' : (n.putRef leg).f (F.PWM_LEGn_OUT.MODE leg) = 0 := (Lane.f_setF_apart n _ rfl (FRef.apart_of_off hoff)).trans hmode
  rw [← n.putRef_on leg r, ← n.putRef_leg leg leg, ← n.putRef_now leg]
  exact Lane.driveRef_shows hhas' ((Lane.driveRef_ref _ h).symm.trans hset) hmode'

/-- A comparison that the counter reaches (R102, R103). -/
theorem compareMatch_shows {n : Lane} {leg cnt : Nat} {down r : Bool} (h : leg < 8) (hrun : n.tbRun (legGroup leg) = true)
    (hat : n.tbAt (legGroup leg) cnt down = true) (hr : n.legRef leg = r) :
    let m := compareMatch leg cnt down n
    m.on (F.PWM_LEGn_ACT.REF leg) = r ∧
      ((n.leg leg).gov ≠ .ref → m.on (F.PWM_LEGn_ACT.H leg) = n.on (F.PWM_LEGn_ACT.H leg) ∧
        m.on (F.PWM_LEGn_ACT.L leg) = n.on (F.PWM_LEGn_ACT.L leg) ∧ m.gdv = n.gdv) ∧
      ((n.leg leg).gov = .ref → n.f (F.PWM_LEGn_OUT.MODE leg) = 0 → n.on (F.PWM_LEGn_ACT.REF leg) ≠ r →
        m.on (if r then F.PWM_LEGn_ACT.L leg else F.PWM_LEGn_ACT.H leg) = false ∧
        (n.on (if r then F.PWM_LEGn_ACT.H leg else F.PWM_LEGn_ACT.L leg) = false → (n.leg leg).pend r = none →
          (m.leg leg).pend r = some (n.now + if r then (n.leg leg).rise else (n.leg leg).fall))) := by
  intro m
  have hm : m = n.updateRef leg := if_pos (Bool.and_eq_true_iff.2 ⟨hrun, hat⟩)
  rw [hm]
  refine ⟨(n.updateRef_ref h).trans hr, fun hg => ?_, fun hg hmode hch => ?_⟩
  · obtain ⟨hsw, hgdv⟩ := Lane.updateRef_overridden hg
    exact ⟨hsw true, hsw false, hgdv⟩
  · have hturns := Lane.updateRef_turns h hr hg hmode hch
    cases r <;> exact hturns

/-! ## Turn-ons and overrides that fall due (R103, R115) -/

theorem RegsOnly.gdv_eq {k n : Lane} (h : RegsOnly k n) : n.gdv = k.gdv := by
  unfold RegsOnly at h
  rw [h]

theorem Lane.checkAbort_edges (n : Lane) : n.checkAbort.gdv.edges = n.gdv.edges := by
  unfold Lane.checkAbort
  split
  · rfl
  · extract_lets n₁ n₂ n₃
    have h₂ : RegsOnly n₁ n₂ := (RegsOnly.refl _).setF _ _
    have h₃ : RegsOnly n₁ n₃ := ((h₂.setF _ _).setF _ _).setF _ _
    rw [(h₃.sqEvent _).gdv_eq]
    rfl

theorem Lane.checkAbortSafe_edges (n : Lane) (leg : Nat) (p : Pattern) : (n.checkAbortSafe leg p).gdv.edges = n.gdv.edges := by
  unfold Lane.checkAbortSafe
  split
  · rfl
  · exact ite_of (p := fun m : Lane => m.gdv.edges = n.gdv.edges) n.checkAbort_edges rfl

/-- What comes to govern the leg ends a check that it disturbs (R150). -/
def Lane.govCheck (n : Lane) (leg : Nat) (g : Gov) : Lane :=
  match g with
  | .safe p => n.checkAbortSafe leg p
  | _ => n

theorem govCheck_stands (n : Lane) (leg : Nat) (g : Gov) : PwmStands n (n.govCheck leg g) := by
  cases g with
  | safe p => exact (PwmStands.refl n).checkAbortSafe leg p
  | off => exact PwmStands.refl n
  | ref => exact PwmStands.refl n

theorem Lane.govCheck_edges (n : Lane) (leg : Nat) (g : Gov) : (n.govCheck leg g).gdv.edges = n.gdv.edges := by
  cases g with
  | safe p => exact n.checkAbortSafe_edges leg p
  | off => rfl
  | ref => rfl

theorem PwmStands.leg_eq {n m : Lane} (h : PwmStands n m) (leg : Nat) : m.leg leg = n.leg leg := by unfold Lane.leg; rw [h.pwm]
theorem PwmStands.hasLeg_iff {n m : Lane} (h : PwmStands n m) (leg : Nat) : m.hasLeg leg ↔ n.hasLeg leg := by unfold Lane.hasLeg; rw [h.pwm]

theorem turnOnDue_eq {n : Lane} {leg due : Nat} {high : Bool} (hp : (n.leg leg).pend high = some due) : turnOnDue leg high n =
    if due ≤ n.now ∧ ∀ d ∈ (n.leg leg).ovrDue, n.now < d.1 then
      let m := n.govCheck leg (n.leg leg).gov
      (m.setLeg leg ((m.leg leg).setPend high none)).cmdSwitch leg high true
    else n := by
  unfold turnOnDue
  rw [hp]
  simp only [Bool.and_eq_true, decide_eq_true_eq, Bool.not_eq_true', List.any_eq_false, Nat.not_le]
  rfl

/-- A turn-on whose dead time has run is issued. -/
theorem turnOnDue_issues {n : Lane} {leg due : Nat} {high : Bool} (h8 : leg < 8) (hp : (n.leg leg).pend high = some due) (hd : due ≤ n.now)
    (ho : ∀ d ∈ (n.leg leg).ovrDue, n.now < d.1) :
    (turnOnDue leg high n).on (swField leg high) = true ∧ ((turnOnDue leg high n).leg leg).pend high = none ∧
      (n.on (swField leg high) = false →
        (turnOnDue leg high n).gdv.edges = n.gdv.edges ++ [{ sw := swIx leg high, on := true, ts := n.now }]) := by
  have hhas : n.hasLeg leg := Lane.hasLeg_of_ne fun e => by rw [e] at hp; exact absurd hp (by cases high <;> simp [LegStage.pend])
  have hst := govCheck_stands n leg (n.leg leg).gov
  have hedges := n.govCheck_edges leg (n.leg leg).gov
  rw [turnOnDue_eq hp, if_pos ⟨hd, ho⟩]
  generalize n.govCheck leg (n.leg leg).gov = m at hst hedges ⊢
  refine ⟨Lane.cmdSwitch_on _ _ _ _, ?_, fun hoff => ?_⟩
  · rw [Lane.cmdSwitch_leg, Lane.leg_setLeg ((hst.hasLeg_iff leg).2 hhas), LegStage.pend_setPend]
  · have hm : (m.setLeg leg ((m.leg leg).setPend high none)).on (swField leg high) = false :=
      (congrArg (· == 1) (hst.f_eq (by cases high <;> exact legAct_read h8))).trans hoff
    rw [Lane.cmdSwitch_eq, hm, if_neg Bool.false_ne_true, ← hedges, ← hst.now]
    rfl

/-- An override that has arrived. -/
def Lane.takeOvr (n : Lane) (leg : Nat) (d : Nat × Gov) : Lane := (n.govCheck leg d.2).govern leg d.2

/-- The overrides that have not arrived stay. -/
def Lane.dropOvr (n : Lane) (leg : Nat) : Lane :=
  n.setLeg leg { n.leg leg with ovrDue := (n.leg leg).ovrDue.filter fun d => decide (n.now < d.1) }

theorem overrideApply_eq (leg : Nat) (n : Lane) : overrideApply leg n =
    let here := (n.leg leg).ovrDue.filter fun d => decide (d.1 ≤ n.now)
    if here = [] then n else forEach here (fun d m => m.takeOvr leg d) (n.dropOvr leg) := by
  unfold overrideApply
  extract_lets x here start due
  have hdue : here = due := rfl
  split
  · next e =>
    have hs : start = n := if_pos (by rw [hdue, e]; rfl)
    rw [hs, hdue, e]
    rfl
  · next e =>
    have hs : start = n.dropOvr leg := if_neg (by simpa [hdue] using e)
    rw [hs]
    refine congrArg (fun f => forEach here f (n.dropOvr leg)) (funext fun d => funext fun m => ?_)
    obtain ⟨k, g⟩ := d
    cases g <;> rfl

theorem Lane.takeOvr_leg {n : Lane} {leg : Nat} (h : n.hasLeg leg) (d : Nat × Gov) :
    ((n.takeOvr leg d).leg leg).gov = d.2 ∧ ((n.takeOvr leg d).leg leg).ovrDue = (n.leg leg).ovrDue ∧ (n.takeOvr leg d).hasLeg leg := by
  have hst := govCheck_stands n leg d.2
  rw [← hst.leg_eq leg]
  exact Lane.govern_leg ((hst.hasLeg_iff leg).2 h) d.2

/-- The last of the overrides that arrive governs the leg. -/
theorem takeOvrs_leg {leg : Nat} (ds : List (Nat × Gov)) : ∀ {n : Lane}, n.hasLeg leg → ∀ hne : ds ≠ [],
    let m := forEach ds (fun d m => m.takeOvr leg d) n
    (m.leg leg).gov = (ds.getLast hne).2 ∧ (m.leg leg).ovrDue = (n.leg leg).ovrDue := by
  induction ds with
  | nil => exact fun _ hne => absurd rfl hne
  | cons d ds ih =>
    intro n h _
    obtain ⟨hgov, hovr, hhas⟩ := Lane.takeOvr_leg h d
    rw [forEach_cons]
    by_cases e : ds = []
    · subst e
      exact ⟨hgov, hovr⟩
    · rw [List.getLast_cons e, ← hovr]
      exact ih hhas e

/-- A new governor drives the leg. -/
theorem Lane.takeOvr_eq {n : Lane} {leg : Nat} {d : Nat × Gov} (hg : (n.leg leg).gov ≠ d.2) :
    n.takeOvr leg d = ((n.govCheck leg d.2).regov leg d.2).driveGov leg d.2 := by
  unfold Lane.takeOvr
  rw [Lane.govern_eq, if_neg (by rwa [(govCheck_stands n leg d.2).leg_eq leg])]

theorem overrideApply_shows (n : Lane) (leg : Nat) :
    let due := (n.leg leg).ovrDue.filter fun d => decide (d.1 ≤ n.now)
    let m := overrideApply leg n
    (due = [] → m = n) ∧
    (∀ h : due ≠ [], (m.leg leg).gov = (due.getLast h).2 ∧ (m.leg leg).ovrDue = (n.leg leg).ovrDue.filter fun d => decide (n.now < d.1)) ∧
    (∀ k p, due = [(k, .safe p)] → (n.leg leg).gov ≠ .safe p → ∀ high, p.wants high = false → m.on (swField leg high) = false) ∧
    (∀ k, due = [(k, .off)] → (n.leg leg).gov ≠ .off → ∀ high, m.on (swField leg high) = false) := by
  intro due m
  have hm : m = if due = [] then n else forEach due (fun d m => m.takeOvr leg d) (n.dropOvr leg) := overrideApply_eq leg n
  have hhas : due ≠ [] → n.hasLeg leg := fun hne => Lane.hasLeg_of_ne fun e => hne (by simp [due, e])
  have hdrop : due ≠ [] → (n.dropOvr leg).leg leg =
      { n.leg leg with ovrDue := (n.leg leg).ovrDue.filter fun d => decide (n.now < d.1) } := fun hne => Lane.leg_setLeg (hhas hne) _
  have hone : ∀ d, due = [d] → (n.leg leg).gov ≠ d.2 →
      m = (((n.dropOvr leg).govCheck leg d.2).regov leg d.2).driveGov leg d.2 := fun d e hg => by
    have hne : due ≠ [] := by simp [e]
    rw [hm, if_neg hne, e, forEach_cons, forEach_nil, Lane.takeOvr_eq (by rw [hdrop hne]; exact hg)]
  refine ⟨fun e => by rw [hm, if_pos e], fun hne => ?_, fun k p e hg high hp => ?_, fun k e hg high => ?_⟩
  · rw [hm, if_neg hne]
    obtain ⟨hgov, hovr⟩ := takeOvrs_leg (n := n.dropOvr leg) due ((n.hasLeg_setLeg leg leg _).2 (hhas hne)) hne
    exact ⟨hgov, hovr.trans (by rw [hdrop hne])⟩
  · rw [hone _ e hg]
    exact Lane.driveSafe_off _ _ hp
  · rw [hone _ e hg]
    exact Lane.driveOff_off _ _ _

/-- Settles O13: a comparison drives the leg through `updateRef`, a turn-on is issued when its dead time has run, and the overrides that
arrive govern the leg one after the other. -/
theorem deadTimeStage : Obligations.DeadTimeStage := by
  unfold Obligations.DeadTimeStage
  intro x leg
  have h8 : leg < 8 := by omega
  refine ⟨fun cnt down => ?_, fun high => ?_, ?_⟩
  · intro s l t hon
    exact answers_onDomain (f := compareMatch leg cnt.toNat down) rfl rfl hon fun hrun hat =>
      compareMatch_shows h8 hrun hat (Lane.legRef_eq (beq_iff_eq.1 (Bool.and_eq_true_iff.1 hat).1))
  · intro s l t hon
    refine answers_onDomain (f := turnOnDue leg high) rfl rfl hon fun due hp => ⟨fun hlt => ?_, fun hle ho => turnOnDue_issues h8 hp hle ho⟩
    rw [turnOnDue_eq hp, if_neg fun h => absurd h.1 (Nat.not_le.2 hlt)]
  · intro s l t hon
    exact answers_onDomain (f := overrideApply leg) rfl rfl hon (overrideApply_shows _ _)

end Sys2Proof.Machine
end

section
/-! SUPPORT. The states of groups and the overrides that follow them (R113, R115), and the group commands (R114). -/

namespace Sys2Proof.Machine

/-! ## Overrides on their way (R115) -/

/-- From `n` to `m` the cycle stands, and every override on its way stays so. -/
structure LegsGrow (n m : Lane) : Prop where
  now : m.now = n.now
  has : ∀ leg, m.hasLeg leg ↔ n.hasLeg leg
  ovr : ∀ leg d, d ∈ (n.leg leg).ovrDue → d ∈ (m.leg leg).ovrDue

theorem LegsGrow.refl (n : Lane) : LegsGrow n n := ⟨rfl, fun _ => Iff.rfl, fun _ _ h => h⟩

theorem LegsGrow.trans {a b c : Lane} (h : LegsGrow a b) (g : LegsGrow b c) : LegsGrow a c :=
  ⟨g.now.trans h.now, fun leg => (g.has leg).trans (h.has leg), fun leg d hd => g.ovr leg d (h.ovr leg d hd)⟩

theorem LegsGrow.of_pwm {n m : Lane} (hp : m.pwm = n.pwm) (hn : m.now = n.now) : LegsGrow n m :=
  ⟨hn, fun leg => by unfold Lane.hasLeg; rw [hp], fun leg d hd => by unfold Lane.leg at hd ⊢; rwa [hp]⟩

theorem PwmStands.grow {n m : Lane} (h : PwmStands n m) : LegsGrow n m := LegsGrow.of_pwm h.pwm h.now

theorem Lane.leg_setLeg_ne (n : Lane) {leg l : Nat} (x : LegStage) (h : leg - 1 ≠ l - 1) : (n.setLeg l x).leg leg = n.leg leg := by
  show (n.pwm.legs.set (l - 1) x).getD (leg - 1) {} = n.pwm.legs.getD (leg - 1) {}
  simp [List.getD_eq_getElem?_getD, List.getElem?_set_ne (Ne.symm h)]

/-- The override that now governs leg `l` is on its way to it. -/
def Lane.sendOvr (l : Nat) (n : Lane) : Lane := n.setLeg l { n.leg l with ovrDue := (n.leg l).ovrDue ++ [(n.now + 4, n.govNow l)] }

theorem Lane.schedOvr_eq (n : Lane) (g : Nat) : n.schedOvr g = forEach (groupLegs g) Lane.sendOvr n := rfl

theorem Lane.sendOvr_leg {n : Lane} {l : Nat} (h : n.hasLeg l) :
    ((n.sendOvr l).leg l).ovrDue = (n.leg l).ovrDue ++ [(n.now + 4, n.govNow l)] := by
  unfold Lane.sendOvr
  rw [Lane.leg_setLeg h]

theorem sendOvr_grow (n : Lane) (l : Nat) : LegsGrow n (n.sendOvr l) := by
  refine ⟨rfl, fun leg => n.hasLeg_setLeg leg l _, fun leg d hd => ?_⟩
  by_cases h : n.hasLeg l
  · by_cases e : leg - 1 = l - 1
    · have hsame : ∀ m : Lane, m.leg leg = m.leg l := fun m => by unfold Lane.leg; rw [e]
      rw [hsame] at hd ⊢
      rw [Lane.sendOvr_leg h]
      exact List.mem_append_left _ hd
    · unfold Lane.sendOvr
      rwa [Lane.leg_setLeg_ne _ _ e]
  · unfold Lane.sendOvr
    rwa [Lane.setLeg_missing h]

theorem schedOvr_grow (n : Lane) (g : Nat) : LegsGrow n (n.schedOvr g) :=
  forEach_keeps (I := LegsGrow n) (groupLegs g) (LegsGrow.refl n) fun l _ m hm => hm.trans (sendOvr_grow m l)

@[simp] theorem Lane.schedOvr_regs (n : Lane) (g : Nat) : (n.schedOvr g).regs = n.regs :=
  forEach_keeps (I := fun m : Lane => m.regs = n.regs) (groupLegs g) rfl fun _ _ _ hm => hm

theorem groupLegs_nodup (g : Nat) : (groupLegs g).Nodup := by
  unfold groupLegs
  exact ite_of (by decide) (ite_of (by decide) (by decide))

theorem legGroup_of_mem {g leg : Nat} (hg : g < 3) (h : leg ∈ groupLegs g) : legGroup leg = g := by
  have all : ∀ g < 3, ∀ leg ∈ groupLegs g, legGroup leg = g := by decide
  exact all g hg leg h

theorem leg_lt_of_mem {g leg : Nat} (h : leg ∈ groupLegs g) : 1 ≤ leg ∧ leg < 8 := by
  unfold groupLegs at h
  split at h
  · simp only [List.mem_cons, List.not_mem_nil, or_false] at h
    omega
  · split at h <;>
    · simp only [List.mem_cons, List.not_mem_nil, or_false] at h
      omega

/-- Every leg of the group has the override on its way. -/
theorem Lane.schedOvr_due (n : Lane) {g leg : Nat} (hleg : leg ∈ groupLegs g) (h : n.hasLeg leg) :
    (n.now + 4, n.govNow leg) ∈ ((n.schedOvr g).leg leg).ovrDue := by
  obtain ⟨m, ⟨hm, hgov⟩, hend, _⟩ := forEach_split (f := Lane.sendOvr) (K := fun a b => LegsGrow a b ∧ b.govNow leg = a.govNow leg)
    (fun n => ⟨LegsGrow.refl n, rfl⟩) (fun _ _ _ h g => ⟨h.1.trans g.1, g.2.trans h.2⟩) (groupLegs_nodup g) hleg
    (fun l _ _ m => ⟨sendOvr_grow m l, rfl⟩) n
  refine hend.ovr leg _ ?_
  rw [Lane.sendOvr_leg ((hm.has leg).2 h), hm.now, hgov]
  exact List.mem_append_right _ (List.mem_singleton.2 rfl)

/-! ## Group states (R113) -/

/-- The states of the groups and their CYCLE holds. -/
def grpWord : FRef := ⟨R.PWM_GRPSTAT, 31, 0⟩

theorem grpStat_read : pwmRead R.PWM_GRPSTAT := by
  unfold pwmRead R.PWM_GRPSTAT
  omega

theorem grpField_read {g : Nat} (hg : g < 3) : pwmRead (grpField g).off := (grpField_ok hg).2.1 ▸ grpStat_read

/-- A group takes a state; beside it, a catch may end or the chopper's episode change. -/
theorem Lane.setGrp_stands (n : Lane) {g : Nat} (st : Nat) (hg : g < 3) : PwmStands (n.setF (grpField g) st) (n.setGrp g st) := by
  unfold Lane.setGrp
  exact ite_of ((PwmStands.refl _).chopCheck) ((PwmStands.refl _).catchCheck hg)

theorem setGrp_writes (n : Lane) {g : Nat} (st : Nat) (hg : g < 3) : PwmWrites [grpField g] n (n.setGrp g st) :=
  (pwmWrites_setF n st (grpField_ok hg).1).trans ((n.setGrp_stands st hg).writes _)

theorem Lane.grp_setGrp (n : Lane) {g st : Nat} (hg : g < 3) (hst : st < 8) : (n.setGrp g st).grp g = st := by
  obtain ⟨hok, _, hw⟩ := grpField_ok hg
  exact ((n.setGrp_stands st hg).f_eq (grpField_read hg)).trans (Lane.f_setF_eq n st hok (by omega))

theorem setGrp_grow (n : Lane) {g : Nat} (st : Nat) (hg : g < 3) : LegsGrow n (n.setGrp g st) :=
  LegsGrow.trans (b := n.setF (grpField g) st) (LegsGrow.of_pwm (Lane.setF_pwm _ _ _) (Lane.setF_now _ _ _)) (n.setGrp_stands st hg).grow

theorem moveGrp_writes (n : Lane) {g : Nat} (st : Nat) (hg : g < 3) : PwmWrites [grpField g] n (n.moveGrp g st) := by
  unfold Lane.moveGrp
  exact ite_of (PwmWrites.refl _ _) ((setGrp_writes n st hg).trans (PwmWrites.of_regs (Lane.schedOvr_regs _ _) _))

theorem moveGrp_grow (n : Lane) {g : Nat} (st : Nat) (hg : g < 3) : LegsGrow n (n.moveGrp g st) := by
  unfold Lane.moveGrp
  exact ite_of (LegsGrow.refl n) ((setGrp_grow n st hg).trans (schedOvr_grow _ g))

/-- A trip hold governs the legs of its group. -/
theorem Lane.govNow_tripped {n : Lane} {leg : Nat} (h : n.grp (legGroup leg) = 4) : n.govNow leg = .off := by
  unfold Lane.govNow
  simp [h, gSAFE, gTRIPPED]

/-- A group that moves to TRIPPED has every switch of its legs held off 4 LCLK later (R115). -/
theorem Lane.moveGrp_tripped (n : Lane) {g leg : Nat} (hg : g < 3) (hne : n.grp g ≠ 4) (hleg : leg ∈ groupLegs g) (h : n.hasLeg leg) :
    (n.now + 4, Gov.off) ∈ ((n.moveGrp g 4).leg leg).ovrDue := by
  have hgrow := setGrp_grow n 4 hg
  have hgov : (n.setGrp g 4).govNow leg = .off := Lane.govNow_tripped (by
    rw [legGroup_of_mem hg hleg, Lane.grp_setGrp n hg (by decide)])
  unfold Lane.moveGrp
  rw [if_neg hne, ← hgrow.now, ← hgov]
  exact Lane.schedOvr_due _ hleg ((hgrow.has leg).2 h)

/-- From `n` to `m` group `g` keeps its state and its CYCLE hold, no register but PWM_GRPSTAT changes, and overrides at most join. -/
structure GroupKept (g : Nat) (n m : Lane) : Prop where
  writes : PwmWrites [grpWord] n m
  grow   : LegsGrow n m
  state  : m.grp g = n.grp g
  cyc    : m.bit F.PWM_GRPSTAT.CYC g = n.bit F.PWM_GRPSTAT.CYC g

theorem GroupKept.refl (g : Nat) (n : Lane) : GroupKept g n n := ⟨PwmWrites.refl _ _, LegsGrow.refl _, rfl, rfl⟩

theorem GroupKept.trans {g : Nat} {a b c : Lane} (h : GroupKept g a b) (k : GroupKept g b c) : GroupKept g a c :=
  ⟨h.writes.trans k.writes, h.grow.trans k.grow, k.state.trans h.state, k.cyc.trans h.cyc⟩

/-- Fields outside PWM_GRPSTAT read as before. -/
theorem PwmWrites.f_eq_of_grpWord {n m : Lane} (h : PwmWrites [grpWord] n m) {q : FRef} (hq : pwmRead q.off) (hne : q.off ≠ R.PWM_GRPSTAT) :
    m.f q = n.f q := h q hq (by simpa using FRef.apart_of_off (q := grpWord) hne)

theorem cyc_apart_grpField {g : Nat} (hg : g < 3) : F.PWM_GRPSTAT.CYC.apart (grpField g) = true := by
  have all : ∀ g < 3, F.PWM_GRPSTAT.CYC.apart (grpField g) = true := by decide
  exact all g hg

theorem grpField_apart_cyc {g : Nat} (hg : g < 3) : (grpField g).apart F.PWM_GRPSTAT.CYC = true := by
  have all : ∀ g < 3, (grpField g).apart F.PWM_GRPSTAT.CYC = true := by decide
  exact all g hg

theorem GroupKept.of_stands {n m : Lane} (h : PwmStands n m) {g : Nat} (hg : g < 3) : GroupKept g n m :=
  ⟨h.writes _, h.grow, h.f_eq (grpField_read hg), congrArg (Nat.testBit · g) (h.f_eq grpStat_read)⟩

/-- The other groups' states are their own. -/
theorem groupKept_of_grpField {n m : Lane} {g h : Nat} (hw : PwmWrites [grpField h] n m) (hl : LegsGrow n m) (hg : g < 3) (hh : h < 3)
    (hne : h ≠ g) : GroupKept g n m := by
  have hplace : ∀ h < 3, (grpField h).hi ≤ 31 := by decide
  refine ⟨hw.widen (grpField_ok hh).2.1.symm (Nat.zero_le _) (hplace h hh), hl, ?_, ?_⟩
  · exact hw _ (grpField_read hg) (by simpa using grpField_apart hh hg hne.symm)
  · exact congrArg (Nat.testBit · g) (hw _ grpStat_read (by simpa using cyc_apart_grpField hh))

theorem moveGrp_keepsOthers (n : Lane) {g h : Nat} (st : Nat) (hg : g < 3) (hh : h < 3) (hne : h ≠ g) : GroupKept g n (n.moveGrp h st) :=
  groupKept_of_grpField (moveGrp_writes n st hh) (moveGrp_grow n st hh) hg hh hne

theorem setGrp_keepsOthers (n : Lane) {g h : Nat} (st : Nat) (hg : g < 3) (hh : h < 3) (hne : h ≠ g) : GroupKept g n (n.setGrp h st) :=
  groupKept_of_grpField (setGrp_writes n st hh) (setGrp_grow n st hh) hg hh hne

theorem setCyc_writes (n : Lane) (g : Nat) (b : Bool) : PwmWrites [F.PWM_GRPSTAT.CYC] n (n.setBit F.PWM_GRPSTAT.CYC g b) :=
  pwmWrites_setF n _ rfl

theorem setCyc_grow (n : Lane) (g : Nat) (b : Bool) : LegsGrow n (n.setBit F.PWM_GRPSTAT.CYC g b) :=
  LegsGrow.of_pwm (Lane.setF_pwm _ _ _) (Lane.setF_now _ _ _)

theorem Lane.grp_setCyc (n : Lane) {g : Nat} (h : Nat) (b : Bool) (hg : g < 3) : (n.setBit F.PWM_GRPSTAT.CYC h b).grp g = n.grp g :=
  setCyc_writes n h b _ (grpField_read hg) (by simpa using grpField_apart_cyc hg)

theorem setCyc_keepsOthers (n : Lane) {g h : Nat} (b : Bool) (hg : g < 3) (hne : h ≠ g) : GroupKept g n (n.setBit F.PWM_GRPSTAT.CYC h b) :=
  ⟨(setCyc_writes n h b).widen rfl (Nat.zero_le _) (show 18 ≤ 31 by decide), setCyc_grow n h b, n.grp_setCyc h b hg, by
    rw [Lane.bit_setBit_of n b rfl (show g < 18 + 1 - 16 by omega), if_neg hne.symm]⟩

theorem schedOvr_keeps (n : Lane) (g h : Nat) : GroupKept g n (n.schedOvr h) := by
  have hf := Lane.f_of_regs (n.schedOvr_regs h)
  exact ⟨PwmWrites.of_regs (n.schedOvr_regs h) _, schedOvr_grow n h, congrFun hf _, congrArg (Nat.testBit · g) (congrFun hf _)⟩

theorem mem_groups {g : Nat} : g ∈ [0, 1, 2] ↔ g < 3 := (List.mem_range (n := 3)).trans Iff.rfl

/-- Where a step for each group leaves the others, the list comes to the step of group `g`. -/
theorem forGroups_split {f : Nat → Lane → Lane} {g : Nat} (hg : g < 3) (hf : ∀ h < 3, h ≠ g → ∀ m, GroupKept g m (f h m)) (n : Lane) :
    ∃ m, GroupKept g n m ∧ GroupKept g (f g m) (forEach [0, 1, 2] f n) :=
  forEach_split (GroupKept.refl g) (fun _ _ _ => GroupKept.trans) (by decide) (mem_groups.2 hg)
    (fun h hh hne => hf h (mem_groups.1 hh) hne) n

/-! ## Group commands (R114) -/

theorem Lane.rejectState_flag (n : Lane) (org off : Nat) : (n.rejectState org off).on F.SYS_REGERR.FLAG = true := by
  unfold Lane.rejectState
  rw [Lane.reject_eq]
  exact Lane.on_of_reads (x := 1) (((reads_setF _ rfl (by decide)).setF _ rfl (FRef.apart_above (by decide))).raise _ _ _)

/-- A write's effect, told of the lane before the access and after the holds were judged. -/
theorem onWrite_of_effect {c : LaneId → Nat → Origin → W32 → Instr} {off : Nat} {eff : Nat → W32 → Lane → Lane}
    {P : Origin → W32 → Lane → Lane → Prop}
    (hexec : ∀ l t org v s, exec (c l t org v) s = onLane l t s fun n => n.regWrite org.code off v (eff org.code v))
    (hlane : ∀ l t org v, (c l t org v).lane = l)
    (h : ∀ (org : Origin) (v : W32) (n m : Lane) (p : PwrState), PowerOnly (eff org.code v { n with pwr := p }) m → P org v n m) :
    OnWrite c off P := by
  intro s l t org v hacc
  refine answers_onLane (hexec l t org v s) (hlane l t org v) ?_
  rw [Lane.regWrite_accepts _ hacc, Lane.touch_parts]
  exact h org v _ _ _ ((PowerOnly.refl _).checkHolds)

/-- What a command makes of its group's state. -/
def grpAfter (cmd st : Nat) : Nat := if cmd = 1 ∧ st = 1 then 2 else if cmd = 2 ∧ (st = 2 ∨ st = 3) then 1 else st

theorem Lane.grpCmd_kept (n : Lane) {g h cmd : Nat} (hg : g < 3) (hh : h < 3) (hne : h ≠ g) : GroupKept g n (n.grpCmd h cmd) := by
  unfold Lane.grpCmd
  extract_lets st n₁
  have h₁ : GroupKept g n n₁ := setGrp_keepsOthers n _ hg hh hne
  refine ite_of ?_ (ite_of ((setCyc_keepsOthers n _ hg hne).trans (moveGrp_keepsOthers _ _ hg hh hne)) (GroupKept.refl g n))
  split
  · exact ite_of (h₁.trans (GroupKept.of_stands (PwmStands.refl _).checkAbort hg)) h₁
  · exact h₁

theorem Lane.grp_grpCmd (n : Lane) {g : Nat} (cmd : Nat) (hg : g < 3) : (n.grpCmd g cmd).grp g = grpAfter cmd (n.grp g) := by
  unfold Lane.grpCmd
  extract_lets st n₁
  change _ = if cmd = 1 ∧ st = gIDLE then gPENDING else if cmd = 2 ∧ (st = gPENDING ∨ st = gRUN) then gIDLE else st
  have h₁ : n₁.grp g = gPENDING := n.grp_setGrp hg (by decide)
  have habort : n₁.checkAbort.grp g = gPENDING := ((PwmStands.refl n₁).checkAbort.f_eq (grpField_read hg)).trans h₁
  by_cases hrun : cmd = 1 ∧ st = gIDLE
  · rw [if_pos hrun, if_pos hrun]
    split
    · exact ite_of (p := fun m : Lane => m.grp g = gPENDING) habort h₁
    · exact h₁
  · rw [if_neg hrun, if_neg hrun]
    by_cases hidle : cmd = 2 ∧ (st = gPENDING ∨ st = gRUN)
    · rw [if_pos hidle, if_pos hidle, Lane.grp_moveGrp _ hg hg (by decide), if_pos rfl]
    · rw [if_neg hidle, if_neg hidle]

/-- Each group takes its command, unless that is rejected. -/
theorem grpCmdWrite_grp (org : Nat) (v : W32) (n : Lane) {g : Nat} (hg : g < 3) :
    (grpCmdWrite org v n).grp g = if n.grpCmdBad g (grpCmdOf v g) then n.grp g else grpAfter (grpCmdOf v g) (n.grp g) := by
  unfold grpCmdWrite
  extract_lets bad n'
  have hn' : n'.grp g = if n.grpCmdBad g (grpCmdOf v g) then n.grp g else grpAfter (grpCmdOf v g) (n.grp g) := by
    obtain ⟨m, hm, hend⟩ := forGroups_split (f := fun g m => if n.grpCmdBad g (grpCmdOf v g) then m else m.grpCmd g (grpCmdOf v g)) hg
      (fun h hh hne m => ite_of (GroupKept.refl g m) (m.grpCmd_kept hg hh hne)) n
    rw [hend.state, ← hm.state, ← Lane.grp_grpCmd m _ hg]
    cases n.grpCmdBad g (grpCmdOf v g) <;> rfl
  exact ite_of (p := fun m : Lane => m.grp g = _) (((PwmStands.refl n').rejectState _ _).f_eq (grpField_read hg) |>.trans hn') hn'

/-- A command that is rejected is recorded. -/
theorem grpCmdWrite_flag (org : Nat) (v : W32) {n : Lane} {g : Nat} (hg : g < 3) (h : n.grpCmdBad g (grpCmdOf v g) = true) :
    (grpCmdWrite org v n).on F.SYS_REGERR.FLAG = true := by
  unfold grpCmdWrite
  extract_lets bad n'
  have hbad : bad = true := List.any_eq_true.2 ⟨g, mem_groups.2 hg, h⟩
  rw [if_pos hbad]
  exact n'.rejectState_flag _ _

theorem grpCmdOf_eq (v : W32) {g : Nat} (hg : g < 3) : grpCmdOf v g = bits v (2 * g + 1) (2 * g) := by
  have h : g = 0 ∨ g = 1 ∨ g = 2 := by omega
  rcases h with rfl | rfl | rfl <;> rfl

/-- RUN is accepted of an IDLE group on a running time base that has its permit and no catch in progress. -/
theorem Lane.grpCmdBad_run {n : Lane} {g : Nat} (hst : n.grp g = 1) (hrun : n.tbRun g = true)
    (hfree : g < 2 → n.bit F.SAF_STAT.PERMIT g = true ∧ n.on (F.CFE_Gg_STAT.CATCHING g) = false) : n.grpCmdBad g 1 = false := by
  unfold Lane.grpCmdBad
  by_cases h2 : g < 2
  · simp [hst, hrun, hfree h2, gUNARMED, gTRIPPED, gSAFE]
  · simp [hst, hrun, h2, gUNARMED, gTRIPPED, gSAFE]

theorem Lane.grpCmdBad_idle {n : Lane} {g : Nat} (hst : n.grp g = 2 ∨ n.grp g = 3) : n.grpCmdBad g 2 = false := by
  unfold Lane.grpCmdBad
  rcases hst with h | h <;> simp [h, gUNARMED, gTRIPPED, gSAFE]

/-- A command of an UNARMED, TRIPPED or SAFE group is rejected. -/
theorem Lane.grpCmdBad_barred {n : Lane} {g cmd : Nat} (hcmd : cmd = 1 ∨ cmd = 2) (hst : n.grp g = 0 ∨ n.grp g = 4 ∨ n.grp g = 5) :
    n.grpCmdBad g cmd = true := by
  unfold Lane.grpCmdBad
  rcases hcmd with rfl | rfl <;> rcases hst with h | h | h <;> simp [h, gUNARMED, gTRIPPED, gSAFE]

theorem grpAfter_other {cmd st : Nat} (h1 : cmd ≠ 1) (h2 : cmd ≠ 2) : grpAfter cmd st = st := by simp [grpAfter, h1, h2]

/-- What a write of PWM_GRPCMD makes of a group. -/
theorem grpCmdWrite_shows (org : Nat) (v : W32) {n m : Lane} {p : PwrState} (hm : PowerOnly (grpCmdWrite org v { n with pwr := p }) m)
    {g : Nat} (hg : g < 3) :
    let cmd := bits v (2 * g + 1) (2 * g)
    (cmd ≠ 1 → cmd ≠ 2 → m.grp g = n.grp g) ∧
    (cmd = 1 → n.grp g = 1 → n.tbRun g = true → (g < 2 → n.bit F.SAF_STAT.PERMIT g = true ∧ n.on (F.CFE_Gg_STAT.CATCHING g) = false) →
      m.grp g = 2) ∧
    (cmd = 2 → n.grp g = 2 ∨ n.grp g = 3 → m.grp g = 1) ∧
    (cmd = 1 ∨ cmd = 2 → n.grp g = 0 ∨ n.grp g = 4 ∨ n.grp g = 5 → m.grp g = n.grp g ∧ m.on F.SYS_REGERR.FLAG = true) := by
  intro cmd
  have hcmd : grpCmdOf v g = cmd := grpCmdOf_eq v hg
  have hgrp : m.grp g = if n.grpCmdBad g cmd then n.grp g else grpAfter cmd (n.grp g) := by
    rw [← hcmd]
    exact (hm.pwmStands.f_eq (grpField_read hg)).trans (grpCmdWrite_grp org v { n with pwr := p } hg)
  clear_value cmd
  refine ⟨fun h1 h2 => ?_, fun h1 hst hrun hfree => ?_, fun h2 hst => ?_, fun h hst => ⟨?_, ?_⟩⟩
  · rw [hgrp, grpAfter_other h1 h2, ite_self]
  · subst h1
    rw [hgrp, Lane.grpCmdBad_run hst hrun hfree, hst]
    rfl
  · subst h2
    rw [hgrp, Lane.grpCmdBad_idle hst]
    rcases hst with h | h <;> rw [h] <;> rfl
  · rw [hgrp, Lane.grpCmdBad_barred h hst, if_pos rfl]
  · have hflag := grpCmdWrite_flag org v (n := { n with pwr := p }) hg (hcmd ▸ Lane.grpCmdBad_barred (n := n) h hst)
    exact (congrArg (· == 1) (hm.f_eq F.SYS_REGERR.FLAG (by decide))).trans hflag

end Sys2Proof.Machine
end

section
/-! SUPPORT. Trips (R116 to R122), and the statement on group commands and trips. -/

namespace Sys2Proof.Machine

/-! ## Filters (R116) -/

theorem tripIn_read {hi lo : Nat} : pwmRead (FRef.mk R.PWM_TRIPIN hi lo).off := by
  unfold pwmRead R.PWM_TRIPIN
  simp only
  omega

/-- The registers a change of filter output writes. -/
def Lane.tripLevels (n : Lane) (t : Nat) (on : Bool) : Lane := (n.setBit F.PWM_TRIPIN.RAW t on).setBit F.PWM_TRIPIN.FILT t on

theorem Lane.tripFilt_eq (n : Lane) (t : Nat) (on : Bool) :
    n.tripFilt t on = (n.tripLevels t on).upPwm fun p => { p with tripT := p.tripT.set t n.now } := rfl

theorem Lane.tripFilt_rd (n : Lane) (t : Nat) (on : Bool) {off : Nat} (h : off ≠ R.PWM_TRIPIN) : (n.tripFilt t on).rd off = n.rd off := by
  rw [Lane.tripFilt_eq, Lane.upPwm_rd]
  unfold Lane.tripLevels Lane.setBit
  rw [Lane.rd_setF_ne _ _ _ h, Lane.rd_setF_ne _ _ _ h]

theorem Lane.bit_tripFilt (n : Lane) (t : Nat) (on : Bool) (r : FRef) (y : Nat) :
    (n.tripFilt t on).bit r y = (n.tripLevels t on).bit r y := by
  unfold Lane.bit
  rw [Lane.tripFilt_eq, Lane.upPwm_f_]

theorem Lane.bit_tripFilt_filt (n : Lane) (t : Nat) (on : Bool) {y : Nat} (hy : y < 4) :
    (n.tripFilt t on).bit F.PWM_TRIPIN.FILT y = if y = t then on else n.bit F.PWM_TRIPIN.FILT y := by
  have hraw : (n.setBit F.PWM_TRIPIN.RAW t on).bit F.PWM_TRIPIN.FILT y = n.bit F.PWM_TRIPIN.FILT y :=
    congrArg (Nat.testBit · y) (Lane.f_setF_apart n _ rfl (by decide))
  rw [Lane.bit_tripFilt, Lane.tripLevels, Lane.bit_setBit_of _ on rfl (show y < 7 + 1 - 4 by omega), hraw]

theorem Lane.bit_tripFilt_raw (n : Lane) {t : Nat} (on : Bool) (ht : t < 4) : (n.tripFilt t on).bit F.PWM_TRIPIN.RAW t = on := by
  have hfilt : (n.tripLevels t on).bit F.PWM_TRIPIN.RAW t = (n.setBit F.PWM_TRIPIN.RAW t on).bit F.PWM_TRIPIN.RAW t :=
    congrArg (Nat.testBit · t) (Lane.f_setF_apart _ _ rfl (by decide))
  rw [Lane.bit_tripFilt, hfilt, Lane.bit_setBit_of _ on rfl (show t < 3 + 1 - 0 by omega), if_pos rfl]

theorem tripFilt_writes (n : Lane) (t : Nat) (on : Bool) : PwmWrites [F.PWM_TRIPIN.RAW, F.PWM_TRIPIN.FILT] n (n.tripFilt t on) :=
  ((pwmWrites_setF n _ rfl).append (pwmWrites_setF _ _ rfl)).trans (PwmWrites.of_regs (Lane.upPwm_regs _ _) _)

theorem tripFilt_grow (n : Lane) (t : Nat) (on : Bool) : LegsGrow n (n.tripFilt t on) := by
  have hpwm : (n.tripLevels t on).pwm = n.pwm := (Lane.setF_pwm _ _ _).trans (Lane.setF_pwm _ _ _)
  have hnow : (n.tripLevels t on).now = n.now := (Lane.setF_now _ _ _).trans (Lane.setF_now _ _ _)
  rw [Lane.tripFilt_eq]
  exact (LegsGrow.of_pwm hpwm hnow).trans ⟨rfl, fun _ => Iff.rfl, fun _ _ h => h⟩

/-- A filter output deasserts: its level and nothing outside PWM_TRIPIN (R119). -/
theorem tripDeassert_shows (n : Lane) {t : Nat} (ht : t < 4) :
    let m := tripDeassert t n
    (n.bit F.PWM_TRIPIN.FILT t = true → n.tripSettled t = false → m = n) ∧
    (n.bit F.PWM_TRIPIN.FILT t = false ∨ n.tripSettled t = true → m.bit F.PWM_TRIPIN.RAW t = false) ∧
    (n.bit F.PWM_TRIPIN.FILT t = true → n.tripSettled t = true → m.bit F.PWM_TRIPIN.FILT t = false) ∧
    (∀ y < 4, y ≠ t → m.bit F.PWM_TRIPIN.FILT y = n.bit F.PWM_TRIPIN.FILT y) ∧
    m.f F.PWM_TRIPIN.LATCH = n.f F.PWM_TRIPIN.LATCH ∧ ∀ off, off ≠ R.PWM_TRIPIN → m.rd off = n.rd off := by
  intro m
  cases hfilt : n.bit F.PWM_TRIPIN.FILT t
  · have hm : m = n.setBit F.PWM_TRIPIN.RAW t false := by simp [m, tripDeassert, hfilt]
    have hw : PwmWrites [F.PWM_TRIPIN.RAW] n m := hm ▸ pwmWrites_setF n _ rfl
    refine ⟨nofun, fun _ => ?_, nofun, fun y _ _ => congrArg (Nat.testBit · y) (hw _ tripIn_read (by decide)), hw _ tripIn_read (by decide),
      fun off ho => hm ▸ Lane.rd_setF_ne _ _ _ ho⟩
    rw [hm, n.bit_setBit_of false rfl (show t < 3 + 1 - 0 by omega), if_pos rfl]
  · cases hset : n.tripSettled t
    · have hm : m = n := by simp [m, tripDeassert, hfilt, hset]
      rw [hm]
      exact ⟨fun _ _ => rfl, by simp, nofun, fun _ _ _ => rfl, rfl, fun _ _ => rfl⟩
    · have hm : m = n.tripFilt t false := by simp [m, tripDeassert, hfilt, hset]
      rw [hm]
      refine ⟨nofun, fun _ => n.bit_tripFilt_raw false ht, fun _ _ => ?_, fun y hy hne => ?_,
        tripFilt_writes n t false _ tripIn_read (by decide), fun off ho => n.tripFilt_rd t false ho⟩
      · rw [n.bit_tripFilt_filt t false ht, if_pos rfl]
      · rw [n.bit_tripFilt_filt t false hy, if_neg hne]

/-! ## The event of a trip (R122) -/

def tripWord : FRef := ⟨R.PWM_TRIPSTAT, 31, 0⟩

/-- The registers an event of trip `t` writes. -/
def Lane.tripNote (n : Lane) (t : Nat) : Lane :=
  ((n.setFirst F.PWM_TRIPSTAT.FIRST (t + 1)).setBit F.PWM_TRIPSTAT.EVT t true).seqStep R.PWM_TRIPSTAT

theorem Lane.tripEvent_eq (n : Lane) (t : Nat) : n.tripEvent t = (n.tripNote t).raise (0x40 + t) 1 t := rfl

theorem tripNote_writes (n : Lane) (t : Nat) : PwmWrites [tripWord] n (n.tripNote t) := by
  have hfield : ∀ (m : Lane) {r : FRef} (x : Nat), r.ok = true → r.off = R.PWM_TRIPSTAT → r.hi ≤ 31 → PwmWrites [tripWord] m (m.setF r x) :=
    fun m r x hr ho hh => pwmWrites_setF_within m x hr ho.symm (Nat.zero_le _) hh
  have h₁ : PwmWrites [tripWord] n (n.setFirst F.PWM_TRIPSTAT.FIRST (t + 1)) := ite_of (hfield _ _ rfl rfl (by decide)) (PwmWrites.refl _ _)
  exact (h₁.trans (hfield _ _ rfl rfl (by decide))).trans (hfield _ _ rfl rfl (show 7 ≤ 31 by decide))

theorem tripNote_regsOnly (n : Lane) (t : Nat) : RegsOnly n (n.tripNote t) := by
  have h₁ : RegsOnly n (n.setFirst F.PWM_TRIPSTAT.FIRST (t + 1)) := ite_of ((RegsOnly.refl n).setF _ _) (RegsOnly.refl n)
  exact (h₁.setF _ _).setF _ _

theorem RegsOnly.grow {n m : Lane} (h : RegsOnly n m) : LegsGrow n m := by
  unfold RegsOnly at h
  rw [h]
  exact LegsGrow.of_pwm rfl rfl

theorem raise_stands (n : Lane) (a b c : Nat) : PwmStands n (n.raise a b c) := (PwmStands.refl n).raise a b c

theorem tripEvent_writes (n : Lane) (t : Nat) : PwmWrites [tripWord] n (n.tripEvent t) := by
  rw [Lane.tripEvent_eq]
  exact (tripNote_writes n t).trans ((raise_stands _ _ _ _).writes _)

theorem tripEvent_grow (n : Lane) (t : Nat) : LegsGrow n (n.tripEvent t) := by
  rw [Lane.tripEvent_eq]
  exact (tripNote_regsOnly n t).grow.trans (raise_stands _ _ _ _).grow

/-- The event is recorded and told to the collector. -/
theorem Lane.tripEvent_shows (n : Lane) {t : Nat} (ht : t < 4) :
    (n.tripEvent t).bit F.PWM_TRIPSTAT.EVT t = true ∧ ∃ y ∈ (n.tripEvent t).kst.msgs, y.src = 0x40 + t ∧ y.kind = 1 := by
  rw [Lane.tripEvent_eq]
  constructor
  · have hset := (n.setFirst F.PWM_TRIPSTAT.FIRST (t + 1)).bit_setBit (r := F.PWM_TRIPSTAT.EVT) rfl (show t < 11 + 1 - 8 by omega)
    unfold Lane.bit at hset ⊢
    rw [Lane.raise_f, Lane.tripNote, Lane.seqStep, Lane.f_setF_apart _ _ rfl (FRef.apart_above (show 7 < 8 by decide)), hset]
  · refine ⟨{ src := 0x40 + t, kind := 1, word := t % 2 ^ 16, inj := (n.tripNote t).injArmed (0x40 + t) t }, ?_, rfl, rfl⟩
    rw [Lane.raise_kst]
    exact List.mem_append_right _ (List.mem_singleton.2 rfl)

theorem GroupKept.of_tripEvent (n : Lane) (t : Nat) {g : Nat} (hg : g < 3) : (n.tripEvent t).grp g = n.grp g ∧
    (n.tripEvent t).bit F.PWM_GRPSTAT.CYC g = n.bit F.PWM_GRPSTAT.CYC g := by
  have hne : (grpField g).off ≠ R.PWM_TRIPSTAT := by rw [(grpField_ok hg).2.1]; decide
  refine ⟨tripEvent_writes n t _ (grpField_read hg) ?_, congrArg (Nat.testBit · g) (tripEvent_writes n t _ grpStat_read (by decide))⟩
  simpa using FRef.apart_of_off (q := tripWord) hne

/-! ## A trip takes its groups (R118, R119) -/

theorem tripRoute_read {t : Nat} (ht : t < 4) : pwmRead (R.PWM_TRIPt_ROUTE t) := by
  unfold pwmRead R.PWM_TRIPt_ROUTE
  omega

theorem GroupKept.routes {n m : Lane} {g t : Nat} (h : GroupKept g n m) (ht : t < 4) : m.tripRoutes t g = n.tripRoutes t g :=
  congrArg (Nat.testBit · g) (h.writes.f_eq_of_grpWord (tripRoute_read ht)
    (by show 0x010204 + 0x10 * t ≠ 0x010014; omega))

/-- A LATCH-mode trip takes group `g`. -/
def Lane.tripGroup (t g : Nat) (n : Lane) : Lane :=
  if n.tripRoutes t g && (n.grp g == gIDLE || n.grp g == gPENDING || n.grp g == gRUN) then
    (n.setBit F.PWM_GRPSTAT.CYC g false).moveGrp g gTRIPPED else n

/-- A CYCLE-mode trip holds group `g`. -/
def Lane.holdGroup (t g : Nat) (n : Lane) : Lane :=
  if n.tripRoutes t g && n.grp g == gRUN then (n.setBit F.PWM_GRPSTAT.CYC g true).schedOvr g else n

theorem Lane.tripLatch_eq (n : Lane) (t : Nat) :
    n.tripLatch t = (forEach [0, 1, 2] (Lane.tripGroup t) (n.setBit F.PWM_TRIPIN.LATCH t true)).tripEvent t := rfl

theorem Lane.tripCycle_eq (n : Lane) (t : Nat) : n.tripCycle t =
    let m := forEach [0, 1, 2] (Lane.holdGroup t) n
    if m.bit F.PWM_TRIPSTAT.EVT t then m else m.tripEvent t := rfl

theorem tripGroup_keepsOthers (t : Nat) {g h : Nat} (hg : g < 3) (hh : h < 3) (hne : h ≠ g) (n : Lane) : GroupKept g n (n.tripGroup t h) :=
  ite_of ((setCyc_keepsOthers n _ hg hne).trans (moveGrp_keepsOthers _ _ hg hh hne)) (GroupKept.refl g n)

theorem holdGroup_keepsOthers (t : Nat) {g h : Nat} (hg : g < 3) (hne : h ≠ g) (n : Lane) : GroupKept g n (n.holdGroup t h) :=
  ite_of ((setCyc_keepsOthers n _ hg hne).trans (schedOvr_keeps _ g h)) (GroupKept.refl g n)

theorem grpWord_of_grpField {n m : Lane} {g : Nat} (hg : g < 3) (h : PwmWrites [grpField g] n m) : PwmWrites [grpWord] n m := by
  have hplace : ∀ g < 3, (grpField g).hi ≤ 31 := by decide
  exact h.widen (grpField_ok hg).2.1.symm (Nat.zero_le _) (hplace g hg)

theorem setCyc_grpWord (n : Lane) (g : Nat) (b : Bool) : PwmWrites [grpWord] n (n.setBit F.PWM_GRPSTAT.CYC g b) :=
  (setCyc_writes n g b).widen rfl (Nat.zero_le _) (show 18 ≤ 31 by decide)

theorem tripGroup_writes (t : Nat) {g : Nat} (hg : g < 3) (n : Lane) : PwmWrites [grpWord] n (n.tripGroup t g) :=
  ite_of ((setCyc_grpWord n g _).trans (grpWord_of_grpField hg (moveGrp_writes _ _ hg))) (PwmWrites.refl _ _)

theorem holdGroup_writes (t g : Nat) (n : Lane) : PwmWrites [grpWord] n (n.holdGroup t g) :=
  ite_of ((setCyc_grpWord n g _).trans (PwmWrites.of_regs (Lane.schedOvr_regs _ _) _)) (PwmWrites.refl _ _)

/-- The group enters TRIPPED from IDLE, PENDING and RUN if the trip is routed to it. -/
def Lane.tripTakes (n : Lane) (t g : Nat) : Prop := n.tripRoutes t g = true ∧ (n.grp g = 1 ∨ n.grp g = 2 ∨ n.grp g = 3)

theorem Lane.tripGroup_shows (n : Lane) (t : Nat) {g : Nat} (hg : g < 3) :
    (n.tripTakes t g → (n.tripGroup t g).grp g = 4 ∧
      ∀ leg ∈ groupLegs g, n.hasLeg leg → (n.now + 4, Gov.off) ∈ ((n.tripGroup t g).leg leg).ovrDue) ∧
    (¬ n.tripTakes t g → n.tripGroup t g = n) := by
  have hcond : (n.tripRoutes t g && (n.grp g == gIDLE || n.grp g == gPENDING || n.grp g == gRUN)) = true ↔ n.tripTakes t g := by
    unfold Lane.tripTakes
    simp [gIDLE, gPENDING, gRUN, or_assoc]
  refine ⟨fun h => ?_, fun h => if_neg (fun hc => h (hcond.1 hc))⟩
  have hm : n.tripGroup t g = (n.setBit F.PWM_GRPSTAT.CYC g false).moveGrp g 4 := if_pos (hcond.2 h)
  have hne : (n.setBit F.PWM_GRPSTAT.CYC g false).grp g ≠ 4 := by
    rw [n.grp_setCyc _ _ hg]
    obtain ⟨_, h⟩ := h
    omega
  rw [hm]
  refine ⟨by rw [Lane.grp_moveGrp _ hg hg (by decide), if_pos rfl], fun leg hleg hhas => ?_⟩
  rw [← (setCyc_grow n g false).now]
  exact Lane.moveGrp_tripped (n.setBit F.PWM_GRPSTAT.CYC g false) hg hne hleg ((setCyc_grow n g false).has leg |>.2 hhas)

theorem GroupKept.takes_iff {n m : Lane} {g t : Nat} (h : GroupKept g n m) (ht : t < 4) : m.tripTakes t g ↔ n.tripTakes t g := by
  unfold Lane.tripTakes
  rw [h.routes ht, h.state]

/-- A LATCH-mode trip: its latch, its event, and the groups it takes (R118). -/
theorem Lane.tripLatch_group (n : Lane) {t g : Nat} (ht : t < 4) (hg : g < 3) :
    (n.tripTakes t g → (n.tripLatch t).grp g = 4 ∧
      ∀ leg ∈ groupLegs g, n.hasLeg leg → (n.now + 4, Gov.off) ∈ ((n.tripLatch t).leg leg).ovrDue) ∧
    (¬ n.tripTakes t g → (n.tripLatch t).grp g = n.grp g) := by
  have hlatch : PwmWrites [F.PWM_TRIPIN.LATCH] n (n.setBit F.PWM_TRIPIN.LATCH t true) := pwmWrites_setF n _ rfl
  have hstate : (n.setBit F.PWM_TRIPIN.LATCH t true).grp g = n.grp g := hlatch _ (grpField_read hg) (by
    have hne : (grpField g).off ≠ R.PWM_TRIPIN := by rw [(grpField_ok hg).2.1]; decide
    simpa using FRef.apart_of_off (q := F.PWM_TRIPIN.LATCH) hne)
  have hroutes : (n.setBit F.PWM_TRIPIN.LATCH t true).tripRoutes t g = n.tripRoutes t g :=
    congrArg (Nat.testBit · g) (hlatch (F.PWM_TRIPt_ROUTE.GROUPS t) (tripRoute_read ht) (by
      have hne : R.PWM_TRIPt_ROUTE t ≠ R.PWM_TRIPIN := by show 0x010204 + 0x10 * t ≠ 0x010020; omega
      simpa using FRef.apart_of_off (r := F.PWM_TRIPt_ROUTE.GROUPS t) (q := F.PWM_TRIPIN.LATCH) hne))
  have htakes : (n.setBit F.PWM_TRIPIN.LATCH t true).tripTakes t g ↔ n.tripTakes t g := by
    unfold Lane.tripTakes
    rw [hstate, hroutes]
  have hgrow₀ : LegsGrow n (n.setBit F.PWM_TRIPIN.LATCH t true) := LegsGrow.of_pwm (Lane.setF_pwm _ _ _) (Lane.setF_now _ _ _)
  obtain ⟨m, hm, hend⟩ := forGroups_split hg (fun h hh hne m => tripGroup_keepsOthers t hg hh hne m) (n.setBit F.PWM_TRIPIN.LATCH t true)
  have hlast := tripEvent_grow (forEach [0, 1, 2] (Lane.tripGroup t) (n.setBit F.PWM_TRIPIN.LATCH t true)) t
  have hgrp := (GroupKept.of_tripEvent (forEach [0, 1, 2] (Lane.tripGroup t) (n.setBit F.PWM_TRIPIN.LATCH t true)) t hg).1
  rw [Lane.tripLatch_eq, hgrp, hend.state]
  have hgrow := hgrow₀.trans hm.grow
  obtain ⟨hyes, hno⟩ := m.tripGroup_shows t hg
  have hiff := (hm.takes_iff ht).trans htakes
  refine ⟨fun h => ?_, fun h => ?_⟩
  · obtain ⟨h4, hovr⟩ := hyes (hiff.2 h)
    refine ⟨h4, fun leg hleg hhas => hlast.ovr leg _ (hend.grow.ovr leg _ ?_)⟩
    rw [← hgrow.now]
    exact hovr leg hleg ((hgrow.has leg).2 hhas)
  · rw [hno (fun hm => h (hiff.1 hm)), hm.state, hstate]

theorem tripGroups_writes (t : Nat) (n : Lane) : PwmWrites [grpWord] n (forEach [0, 1, 2] (Lane.tripGroup t) n) :=
  forEach_keeps (I := PwmWrites [grpWord] n) [0, 1, 2] (PwmWrites.refl _ _) fun _ hg k hk =>
    hk.trans (tripGroup_writes t (mem_groups.1 hg) k)

/-- What a trip that latches writes beside the latch: its groups' states and its event. -/
theorem tripLatch_writes (n : Lane) (t : Nat) : PwmWrites [F.PWM_TRIPIN.LATCH, grpWord, tripWord] n (n.tripLatch t) := by
  rw [Lane.tripLatch_eq]
  exact (pwmWrites_setF n _ rfl).append ((tripGroups_writes t _).append (tripEvent_writes _ t))

theorem holdGroups_writes (t : Nat) (n : Lane) : PwmWrites [grpWord] n (forEach [0, 1, 2] (Lane.holdGroup t) n) :=
  forEach_keeps (I := PwmWrites [grpWord] n) [0, 1, 2] (PwmWrites.refl _ _) fun g _ k hk => hk.trans (holdGroup_writes t g k)

theorem tripCycle_writes (n : Lane) (t : Nat) : PwmWrites [grpWord, tripWord] n (n.tripCycle t) := by
  have h := holdGroups_writes t n
  rw [Lane.tripCycle_eq]
  exact ite_of (h.mono (List.subset_append_left [grpWord] [tripWord])) (h.append (tripEvent_writes _ t))

theorem Lane.holdGroup_shows (n : Lane) (t : Nat) {g : Nat} (hg : g < 3) : (n.holdGroup t g).grp g = n.grp g ∧
    (n.holdGroup t g).bit F.PWM_GRPSTAT.CYC g = (n.bit F.PWM_GRPSTAT.CYC g || (n.tripRoutes t g && n.grp g == 3)) := by
  have hkept := schedOvr_keeps (n.setBit F.PWM_GRPSTAT.CYC g true) g g
  have hcyc := n.bit_setBit_of (i := g) true (r := F.PWM_GRPSTAT.CYC) rfl (show g < 18 + 1 - 16 by omega)
  rw [if_pos rfl] at hcyc
  cases hc : n.tripRoutes t g && n.grp g == 3
  · have hm : n.holdGroup t g = n := if_neg (by simpa [gRUN] using hc)
    rw [hm, Bool.or_false]
    exact ⟨rfl, rfl⟩
  · have hm : n.holdGroup t g = (n.setBit F.PWM_GRPSTAT.CYC g true).schedOvr g := if_pos hc
    rw [hm, Bool.or_true]
    exact ⟨hkept.state.trans (n.grp_setCyc _ _ hg), hkept.cyc.trans hcyc⟩

/-- A CYCLE-mode trip holds its groups in RUN, and moves none (R119). -/
theorem Lane.tripCycle_group (n : Lane) {t g : Nat} (ht : t < 4) (hg : g < 3) : (n.tripCycle t).grp g = n.grp g ∧
    (n.tripCycle t).bit F.PWM_GRPSTAT.CYC g = (n.bit F.PWM_GRPSTAT.CYC g || (n.tripRoutes t g && n.grp g == 3)) := by
  obtain ⟨m, hm, hend⟩ := forGroups_split hg (fun _ _ hne m => holdGroup_keepsOthers t hg hne m) n
  obtain ⟨hgrp, hcyc⟩ := m.holdGroup_shows t hg
  rw [hm.cyc, hm.routes ht, hm.state] at hcyc
  have hevent := GroupKept.of_tripEvent (forEach [0, 1, 2] (Lane.holdGroup t) n) t hg
  have hstate := hend.state.trans (hgrp.trans hm.state)
  have hheld := hend.cyc.trans hcyc
  rw [Lane.tripCycle_eq]
  exact ite_of (p := fun k : Lane => k.grp g = n.grp g ∧ k.bit F.PWM_GRPSTAT.CYC g = _) ⟨hstate, hheld⟩
    ⟨hevent.1.trans hstate, hevent.2.trans hheld⟩

end Sys2Proof.Machine
end

section
/-! SUPPORT. Trips that are asserted and released (R118 to R120), and the statement on group commands and trips. -/

namespace Sys2Proof.Machine

/-! ## A trip asserts (R116, R118, R119) -/

/-- A trip is heard: its filter output asserts, and it is counted. -/
def Lane.tripHeard (n : Lane) (t : Nat) : Lane := (n.tripFilt t true).stepSat (F.PWM_TRIPt_CNT.COUNT t)

theorem tripAssert_heard {n : Lane} {t : Nat} (hlive : n.tripLive t = true) (hfilt : n.bit F.PWM_TRIPIN.FILT t = false)
    (hset : n.tripSettled t = true) : tripAssert t n =
      if (n.tripHeard t).on (F.PWM_TRIPt_CFG.MODE t) then (n.tripHeard t).tripCycle t
      else if (n.tripHeard t).bit F.PWM_TRIPIN.LATCH t then n.tripHeard t else (n.tripHeard t).tripLatch t := by
  have hen : n.on (F.PWM_TRIPt_CFG.EN t) = true := (Bool.and_eq_true_iff.1 hlive).2
  unfold tripAssert
  rw [hen, hlive, hfilt, hset, Bool.not_true, Bool.and_false, if_neg Bool.false_ne_true]
  rfl

theorem stepSat_writes (n : Lane) {r : FRef} (hr : r.ok = true) : PwmWrites [r] n (n.stepSat r) :=
  ite_of (pwmWrites_setF n _ hr) (PwmWrites.refl _ _)

theorem tripHeard_writes (n : Lane) (t : Nat) :
    PwmWrites [F.PWM_TRIPIN.RAW, F.PWM_TRIPIN.FILT, F.PWM_TRIPt_CNT.COUNT t] n (n.tripHeard t) :=
  (tripFilt_writes n t true).append (stepSat_writes _ rfl)

theorem tripHeard_grow (n : Lane) (t : Nat) : LegsGrow n (n.tripHeard t) := by
  refine (tripFilt_grow n t true).trans (RegsOnly.grow ?_)
  exact (RegsOnly.refl _).stepSat _

theorem tripCfg_read {t : Nat} (ht : t < 4) : pwmRead (R.PWM_TRIPt_CFG t) := by
  unfold pwmRead R.PWM_TRIPt_CFG
  omega

theorem tripCnt_read {t : Nat} (ht : t < 4) : pwmRead (R.PWM_TRIPt_CNT t) := by
  unfold pwmRead R.PWM_TRIPt_CNT
  omega

/-- Which fields the trips' counts and levels meet. -/
theorem trip_apart {t : Nat} (ht : t < 4) :
    let heard := [F.PWM_TRIPIN.RAW, F.PWM_TRIPIN.FILT, F.PWM_TRIPt_CNT.COUNT t]
    heard.all (F.PWM_TRIPt_CFG.MODE t).apart = true ∧ heard.all F.PWM_TRIPIN.LATCH.apart = true ∧
    heard.all (F.PWM_TRIPt_ROUTE.GROUPS t).apart = true ∧ heard.all F.PWM_GRPSTAT.CYC.apart = true ∧
    (∀ g < 3, heard.all (grpField g).apart = true) ∧
    (F.PWM_TRIPt_CNT.COUNT t).apart F.PWM_TRIPIN.RAW = true ∧ (F.PWM_TRIPt_CNT.COUNT t).apart F.PWM_TRIPIN.FILT = true ∧
    F.PWM_TRIPIN.FILT.apart (F.PWM_TRIPt_CNT.COUNT t) = true ∧ F.PWM_TRIPIN.RAW.apart (F.PWM_TRIPt_CNT.COUNT t) = true ∧
    [F.PWM_TRIPIN.LATCH, grpWord, tripWord].all (F.PWM_TRIPt_CNT.COUNT t).apart = true := by
  have h : t = 0 ∨ t = 1 ∨ t = 2 ∨ t = 3 := by omega
  rcases h with rfl | rfl | rfl | rfl <;> decide

/-- What a heard trip shows before its groups follow. -/
theorem Lane.tripHeard_shows (n : Lane) {t : Nat} (ht : t < 4) :
    (n.tripHeard t).bit F.PWM_TRIPIN.FILT t = true ∧ (n.tripHeard t).bit F.PWM_TRIPIN.RAW t = true ∧
    (n.tripHeard t).f (F.PWM_TRIPt_CNT.COUNT t) = (n.counted (F.PWM_TRIPt_CNT.COUNT t)).2 := by
  obtain ⟨_, _, _, _, _, hraw, hfilt, hfc, hrc, _⟩ := trip_apart ht
  have hstep : PwmWrites [F.PWM_TRIPt_CNT.COUNT t] (n.tripFilt t true) (n.tripHeard t) := stepSat_writes _ rfl
  have hcnt : (n.tripFilt t true).f (F.PWM_TRIPt_CNT.COUNT t) = n.f (F.PWM_TRIPt_CNT.COUNT t) :=
    tripFilt_writes n t true _ (tripCnt_read ht) (by simp [hraw, hfilt])
  refine ⟨?_, ?_, ?_⟩
  · refine (congrArg (Nat.testBit · t) (hstep F.PWM_TRIPIN.FILT tripIn_read (by simpa using hfc))).trans ?_
    exact (n.bit_tripFilt_filt t true ht).trans (if_pos rfl)
  · refine (congrArg (Nat.testBit · t) (hstep F.PWM_TRIPIN.RAW tripIn_read (by simpa using hrc))).trans ?_
    exact n.bit_tripFilt_raw true ht
  · unfold Lane.tripHeard Lane.counted
    rw [Lane.f_stepSat (r := F.PWM_TRIPt_CNT.COUNT t) rfl, hcnt]

/-- What a heard trip leaves for its groups to follow. -/
theorem Lane.tripHeard_leaves (n : Lane) {t : Nat} (ht : t < 4) :
    (n.tripHeard t).on (F.PWM_TRIPt_CFG.MODE t) = n.on (F.PWM_TRIPt_CFG.MODE t) ∧
    (∀ y, (n.tripHeard t).bit F.PWM_TRIPIN.LATCH y = n.bit F.PWM_TRIPIN.LATCH y) ∧
    ∀ g < 3, (n.tripHeard t).grp g = n.grp g ∧ (n.tripHeard t).tripRoutes t g = n.tripRoutes t g ∧
      (n.tripHeard t).bit F.PWM_GRPSTAT.CYC g = n.bit F.PWM_GRPSTAT.CYC g := by
  obtain ⟨hmode, hlatch, hroute, hcyc, hgrp, _⟩ := trip_apart ht
  have hw := tripHeard_writes n t
  exact ⟨congrArg (· == 1) (hw _ (tripCfg_read ht) hmode), fun y => congrArg (Nat.testBit · y) (hw _ tripIn_read hlatch),
    fun g hg => ⟨hw _ (grpField_read hg) (hgrp g hg), congrArg (Nat.testBit · g) (hw _ (tripRoute_read ht) hroute),
      congrArg (Nat.testBit · g) (hw _ grpStat_read hcyc)⟩⟩

/-- The groups that follow a trip write its latch, the groups' states and the event. -/
theorem tripAssert_after {n : Lane} {t : Nat} (hlive : n.tripLive t = true) (hfilt : n.bit F.PWM_TRIPIN.FILT t = false)
    (hset : n.tripSettled t = true) : PwmWrites [F.PWM_TRIPIN.LATCH, grpWord, tripWord] (n.tripHeard t) (tripAssert t n) := by
  rw [tripAssert_heard hlive hfilt hset]
  exact ite_of ((tripCycle_writes _ t).mono (List.subset_cons_self _ _)) (ite_of (PwmWrites.refl _ _) (tripLatch_writes _ t))

/-- A trip that is heard shows its levels and its count. -/
theorem tripAssert_levels {n : Lane} {t : Nat} (ht : t < 4) (hlive : n.tripLive t = true) (hfilt : n.bit F.PWM_TRIPIN.FILT t = false)
    (hset : n.tripSettled t = true) :
    (tripAssert t n).bit F.PWM_TRIPIN.FILT t = true ∧ (tripAssert t n).bit F.PWM_TRIPIN.RAW t = true ∧
    (tripAssert t n).f (F.PWM_TRIPt_CNT.COUNT t) = (n.counted (F.PWM_TRIPt_CNT.COUNT t)).2 := by
  obtain ⟨hf, hr, hc⟩ := n.tripHeard_shows ht
  obtain ⟨_, _, _, _, _, _, _, _, _, hcount⟩ := trip_apart ht
  have hw := tripAssert_after hlive hfilt hset
  exact ⟨(congrArg (Nat.testBit · t) (hw _ tripIn_read (by decide))).trans hf,
    (congrArg (Nat.testBit · t) (hw _ tripIn_read (by decide))).trans hr, (hw _ (tripCnt_read ht) hcount).trans hc⟩

theorem Lane.hasLeg_of_getElem? {n : Lane} {leg : Nat} {x : LegStage} (h : n.pwm.legs[leg - 1]? = some x) : n.hasLeg leg :=
  (List.getElem?_eq_some_iff.1 h).1

/-- A LATCH-mode trip latches, tells the collector and takes its groups (R118). -/
theorem tripAssert_latches {n : Lane} {t : Nat} (ht : t < 4) (hlive : n.tripLive t = true) (hfilt : n.bit F.PWM_TRIPIN.FILT t = false)
    (hset : n.tripSettled t = true) (hmode : n.on (F.PWM_TRIPt_CFG.MODE t) = false) (hl : n.bit F.PWM_TRIPIN.LATCH t = false) :
    let m := tripAssert t n
    m.bit F.PWM_TRIPIN.LATCH t = true ∧ m.bit F.PWM_TRIPSTAT.EVT t = true ∧ (∃ y ∈ m.kst.msgs, y.src = 0x40 + t ∧ y.kind = 1) ∧
    ∀ g < 3, m.grp g = (if n.tripRoutes t g = true ∧ (n.grp g = 1 ∨ n.grp g = 2 ∨ n.grp g = 3) then 4 else n.grp g) ∧
      (m.grp g ≠ n.grp g → ∀ leg ∈ groupLegs g, ∀ x, n.pwm.legs[leg - 1]? = some x → (n.now + 4, Gov.off) ∈ (m.leg leg).ovrDue) := by
  obtain ⟨hmode', hlatch', hgroups⟩ := n.tripHeard_leaves ht
  have hgrow := tripHeard_grow n t
  have hm : tripAssert t n = (n.tripHeard t).tripLatch t := by
    rw [tripAssert_heard hlive hfilt hset, hmode', hmode, hlatch', hl, if_neg Bool.false_ne_true, if_neg Bool.false_ne_true]
  rw [hm]
  generalize n.tripHeard t = k at hmode' hlatch' hgroups hgrow ⊢
  have hshows := (forEach [0, 1, 2] (Lane.tripGroup t) (k.setBit F.PWM_TRIPIN.LATCH t true)).tripEvent_shows ht
  rw [← Lane.tripLatch_eq] at hshows
  refine ⟨?_, hshows.1, hshows.2, fun g hg => ?_⟩
  · have hset : (k.setBit F.PWM_TRIPIN.LATCH t true).bit F.PWM_TRIPIN.LATCH t = true := k.bit_setBit rfl (show t < 11 + 1 - 8 by omega)
    refine (congrArg (Nat.testBit · t) ?_).trans hset
    rw [Lane.tripLatch_eq, tripEvent_writes _ t F.PWM_TRIPIN.LATCH tripIn_read (by decide)]
    exact tripGroups_writes t _ F.PWM_TRIPIN.LATCH tripIn_read (by decide)
  · obtain ⟨hstate, hroutes, _⟩ := hgroups g hg
    obtain ⟨hyes, hno⟩ := k.tripLatch_group ht hg
    have htakes : k.tripTakes t g ↔ n.tripRoutes t g = true ∧ (n.grp g = 1 ∨ n.grp g = 2 ∨ n.grp g = 3) := by
      unfold Lane.tripTakes
      rw [hstate, hroutes]
    by_cases h : k.tripTakes t g
    · obtain ⟨h4, hovr⟩ := hyes h
      refine ⟨by rw [h4, if_pos (htakes.1 h)], fun _ leg hleg x hx => ?_⟩
      rw [← hgrow.now]
      exact hovr leg hleg ((hgrow.has leg).2 (Lane.hasLeg_of_getElem? hx))
    · have hsame := (hno h).trans hstate
      exact ⟨by rw [hsame, if_neg (fun hc => h (htakes.2 hc))], fun hne => absurd hsame hne⟩

/-- A CYCLE-mode trip holds its groups in RUN and latches nothing (R119). -/
theorem tripAssert_holds {n : Lane} {t : Nat} (ht : t < 4) (hlive : n.tripLive t = true) (hfilt : n.bit F.PWM_TRIPIN.FILT t = false)
    (hset : n.tripSettled t = true) (hmode : n.on (F.PWM_TRIPt_CFG.MODE t) = true) :
    let m := tripAssert t n
    m.bit F.PWM_TRIPIN.LATCH t = n.bit F.PWM_TRIPIN.LATCH t ∧
    ∀ g < 3, m.grp g = n.grp g ∧ m.bit F.PWM_GRPSTAT.CYC g = (n.bit F.PWM_GRPSTAT.CYC g || (n.tripRoutes t g && n.grp g == 3)) := by
  obtain ⟨hmode', hlatch', hgroups⟩ := n.tripHeard_leaves ht
  have hm : tripAssert t n = (n.tripHeard t).tripCycle t := by
    rw [tripAssert_heard hlive hfilt hset, hmode', hmode, if_pos rfl]
  rw [hm]
  refine ⟨(congrArg (Nat.testBit · t) (tripCycle_writes _ t _ tripIn_read (by decide))).trans (hlatch' t), fun g hg => ?_⟩
  obtain ⟨hstate, hroutes, hcyc⟩ := hgroups g hg
  obtain ⟨hgrp, hheld⟩ := (n.tripHeard t).tripCycle_group ht hg
  rw [hstate] at hgrp
  rw [hstate, hroutes, hcyc] at hheld
  exact ⟨hgrp, hheld⟩

/-- A trip without a pin does nothing; one that is not enabled shows its level (R116). -/
theorem tripAssert_unheard (n : Lane) {t : Nat} (ht : t < 4) :
    (n.tripPinned t = false → tripAssert t n = n) ∧
    (n.tripPinned t = true → n.on (F.PWM_TRIPt_CFG.EN t) = false →
      (tripAssert t n).bit F.PWM_TRIPIN.RAW t = true ∧ ∀ off, off ≠ R.PWM_TRIPIN → (tripAssert t n).rd off = n.rd off) := by
  refine ⟨fun h => by simp [tripAssert, Lane.tripLive, h], fun hpin hen => ?_⟩
  have hm : tripAssert t n = n.setBit F.PWM_TRIPIN.RAW t true := by simp [tripAssert, hpin, hen]
  rw [hm]
  exact ⟨n.bit_setBit rfl (show t < 3 + 1 - 0 by omega), fun off ho => Lane.rd_setF_ne _ _ _ ho⟩

/-! ## Latches are released (R120) -/

/-- The bits of a field that a list of steps writes. -/
theorem Lane.bit_forEach_setBit {r : FRef} (b : Bool) (c : Nat → Bool) (hr : r.ok = true) {j : Nat} (hj : j < r.hi + 1 - r.lo)
    (xs : List Nat) : ∀ n : Lane, (forEach xs (fun i m => if c i then m.setBit r i b else m) n).bit r j =
      if j ∈ xs ∧ c j = true then b else n.bit r j := by
  induction xs with
  | nil => exact fun n => by simp
  | cons i xs ih =>
    intro n
    have hstep : (if c i then n.setBit r i b else n).bit r j = if j = i ∧ c j = true then b else n.bit r j := by
      cases hc : c i
      · rw [if_neg Bool.false_ne_true, if_neg (fun h => by rw [h.1, hc] at h; exact Bool.false_ne_true h.2)]
      · rw [if_pos rfl, n.bit_setBit_of b hr hj]
        by_cases e : j = i
        · rw [if_pos e, if_pos ⟨e, e ▸ hc⟩]
        · rw [if_neg e, if_neg fun h => e h.1]
    rw [forEach_cons, ih, hstep]
    by_cases hc : c j = true
    · simp only [hc, and_true, List.mem_cons]
      by_cases hi : j = i <;> by_cases hm : j ∈ xs <;> simp only [hi, hm, true_or, or_true, or_self, if_true, if_false, ite_self]
    · simp only [hc, and_false, Bool.false_eq_true, if_false]

theorem forEach_setBit_writes {r : FRef} (b : Bool) (c : Nat → Bool) (hr : r.ok = true) (xs : List Nat) (n : Lane) :
    PwmWrites [r] n (forEach xs (fun i m => if c i then m.setBit r i b else m) n) :=
  forEach_keeps (I := PwmWrites [r] n) xs (PwmWrites.refl _ _) fun _ _ m hm => ite_of (hm.trans (pwmWrites_setF m _ hr)) hm

theorem untrip_keepsOthers {g h : Nat} (hg : g < 3) (hh : h < 3) (hne : h ≠ g) (n : Lane) : GroupKept g n (n.untrip h) :=
  ite_of (moveGrp_keepsOthers n _ hg hh hne) (GroupKept.refl g n)

/-- No latch routed to the group is set. -/
def Lane.latchFree (n : Lane) (g : Nat) : Prop := ∀ x < 4, n.tripRoutes x g = true → n.bit F.PWM_TRIPIN.LATCH x = false

theorem Lane.grp_untrip (n : Lane) {g : Nat} (hg : g < 3) :
    (n.grp g = 4 → n.latchFree g → (n.untrip g).grp g = 1) ∧ (n.grp g ≠ 4 ∨ ¬ n.latchFree g → (n.untrip g).grp g = n.grp g) := by
  have hfree : ([0, 1, 2, 3].all fun t => !(n.tripRoutes t g && n.bit F.PWM_TRIPIN.LATCH t)) = true ↔ n.latchFree g := by
    show ((List.range 4).all _) = true ↔ _
    simp [List.all_eq_true, Lane.latchFree, or_iff_not_imp_left]
  unfold Lane.untrip
  refine ⟨fun h4 hf => ?_, fun h => ?_⟩
  · rw [if_pos ⟨h4, hfree.2 hf⟩, Lane.grp_moveGrp n hg hg (by decide), if_pos rfl]
    rfl
  · rw [if_neg fun hc => h.elim (fun hne => hne hc.1) fun hn => hn (hfree.1 hc.2)]

/-- The latches a release clears. -/
def Lane.releaseLatches (n : Lane) (v : W32) : Lane :=
  forEach [0, 1, 2, 3] (fun t m => if (F.PWM_TRIPCLR.REL.val v).testBit t && !((F.PWM_TRIPCLR.REL.val v).testBit t && n.bit F.PWM_TRIPIN.FILT t)
    then m.setBit F.PWM_TRIPIN.LATCH t false else m) n

theorem tripRelease_eq (org : Nat) (v : W32) (n : Lane) : tripRelease org v n =
    let m := forEach [0, 1, 2] (fun g m => m.untrip g) (n.releaseLatches v)
    if [0, 1, 2, 3].any fun t => (F.PWM_TRIPCLR.REL.val v).testBit t && n.bit F.PWM_TRIPIN.FILT t then m.rejectState org R.PWM_TRIPCLR
    else m := rfl

theorem Lane.releaseLatches_latch (n : Lane) (v : W32) {x : Nat} (hx : x < 4) : (n.releaseLatches v).bit F.PWM_TRIPIN.LATCH x =
    (n.bit F.PWM_TRIPIN.LATCH x && !((F.PWM_TRIPCLR.REL.val v).testBit x && !n.bit F.PWM_TRIPIN.FILT x)) := by
  unfold Lane.releaseLatches
  rw [Lane.bit_forEach_setBit (r := F.PWM_TRIPIN.LATCH) false (fun t => (F.PWM_TRIPCLR.REL.val v).testBit t &&
    !((F.PWM_TRIPCLR.REL.val v).testBit t && n.bit F.PWM_TRIPIN.FILT t)) rfl (show x < 11 + 1 - 8 by omega)]
  have hmem : x ∈ [0, 1, 2, 3] := List.mem_range.2 hx
  cases (F.PWM_TRIPCLR.REL.val v).testBit x <;> cases n.bit F.PWM_TRIPIN.FILT x <;> simp [hmem]

theorem releaseLatches_writes (n : Lane) (v : W32) : PwmWrites [F.PWM_TRIPIN.LATCH] n (n.releaseLatches v) :=
  forEach_setBit_writes false _ rfl _ n

/-- What a release makes of the latches, the groups and the record. -/
theorem tripRelease_shows (org : Nat) (v : W32) {n m : Lane} {p : PwrState} (hm : PowerOnly (tripRelease org v { n with pwr := p }) m) :
    let rel := fun x => (F.PWM_TRIPCLR.REL.val v).testBit x
    (∀ x < 4, m.bit F.PWM_TRIPIN.LATCH x = (n.bit F.PWM_TRIPIN.LATCH x && !(rel x && !n.bit F.PWM_TRIPIN.FILT x))) ∧
    (∀ x < 4, rel x = true → n.bit F.PWM_TRIPIN.FILT x = true → m.on F.SYS_REGERR.FLAG = true) ∧
    ∀ g < 3, (n.grp g ≠ 4 → m.grp g = n.grp g) ∧
      (n.grp g = 4 → (∀ x < 4, n.tripRoutes x g = true → m.bit F.PWM_TRIPIN.LATCH x = false) → m.grp g = 1) ∧
      (n.grp g = 4 → (∃ x < 4, n.tripRoutes x g = true ∧ m.bit F.PWM_TRIPIN.LATCH x = true) → m.grp g = 4) := by
  intro rel
  rw [tripRelease_eq] at hm
  extract_lets k at hm
  have hend : PwmStands k m := PwmStands.trans (b := if _ then _ else _)
    (ite_of ((PwmStands.refl k).rejectState org R.PWM_TRIPCLR) (PwmStands.refl k)) hm.pwmStands
  have hgroups : PwmWrites [grpWord] (Lane.releaseLatches { n with pwr := p } v) k :=
    forEach_keeps (I := PwmWrites [grpWord] _) [0, 1, 2] (PwmWrites.refl _ _) fun g hg j hj =>
      hj.trans (ite_of (grpWord_of_grpField (mem_groups.1 hg) (moveGrp_writes j _ (mem_groups.1 hg))) (PwmWrites.refl _ _))
  have hrel := releaseLatches_writes { n with pwr := p } v
  have hlatch : ∀ x, m.bit F.PWM_TRIPIN.LATCH x = (Lane.releaseLatches { n with pwr := p } v).bit F.PWM_TRIPIN.LATCH x := fun x =>
    congrArg (Nat.testBit · x) ((hend.f_eq tripIn_read).trans (hgroups _ tripIn_read (by decide)))
  refine ⟨fun x hx => (hlatch x).trans (Lane.releaseLatches_latch { n with pwr := p } v hx), fun x hx hr hf => ?_, fun g hg => ?_⟩
  · have hbad : ([0, 1, 2, 3].any fun t =>
        (F.PWM_TRIPCLR.REL.val v).testBit t && ({ n with pwr := p } : Lane).bit F.PWM_TRIPIN.FILT t) = true :=
      List.any_eq_true.2 ⟨x, List.mem_range.2 hx, Bool.and_eq_true_iff.2 ⟨hr, hf⟩⟩
    rw [if_pos hbad] at hm
    exact (congrArg (· == 1) (hm.f_eq F.SYS_REGERR.FLAG (by decide))).trans (k.rejectState_flag _ _)
  · obtain ⟨j, hj, hk⟩ := forGroups_split hg (fun h hh hne m => untrip_keepsOthers hg hh hne m) (Lane.releaseLatches { n with pwr := p } v)
    have hne : (grpField g).off ≠ R.PWM_TRIPIN := by rw [(grpField_ok hg).2.1]; decide
    have hstate : j.grp g = n.grp g := hj.state.trans (hrel _ (grpField_read hg) (by
      simpa using FRef.apart_of_off (q := F.PWM_TRIPIN.LATCH) hne))
    have hroutes : ∀ x < 4, j.tripRoutes x g = n.tripRoutes x g := fun x hx =>
      (hj.routes hx).trans (congrArg (Nat.testBit · g) (hrel _ (tripRoute_read hx) (by
        simpa using FRef.apart_of_off (r := F.PWM_TRIPt_ROUTE.GROUPS x) (q := F.PWM_TRIPIN.LATCH)
          (show 0x010204 + 0x10 * x ≠ 0x010020 by omega))))
    have hlatch' : ∀ x, j.bit F.PWM_TRIPIN.LATCH x = m.bit F.PWM_TRIPIN.LATCH x := fun x =>
      (congrArg (Nat.testBit · x) (hj.writes _ tripIn_read (by decide))).trans (hlatch x).symm
    have hfree : j.latchFree g ↔ ∀ x < 4, n.tripRoutes x g = true → m.bit F.PWM_TRIPIN.LATCH x = false :=
      forall₂_congr fun x hx => by rw [hroutes x hx, hlatch' x]
    have hgrp : m.grp g = (j.untrip g).grp g := (hend.f_eq (grpField_read hg)).trans hk.state
    obtain ⟨hgoes, hstays⟩ := j.grp_untrip hg
    rw [hstate] at hgoes hstays
    rw [hgrp]
    refine ⟨fun h4 => hstays (.inl h4), fun h4 hf => hgoes h4 (hfree.2 hf), fun h4 ⟨x, hx, hr, hl⟩ => ?_⟩
    exact (hstays (.inr fun hf => Bool.false_ne_true ((hfree.1 hf x hx hr).symm.trans hl))).trans h4

/-- Settles O14: each group is judged and moved on its own (`forGroups_split`), so what a command or a trip makes of a group is what its
own step makes of it. -/
theorem groupsAndTrips : Obligations.GroupsAndTrips := by
  unfold Obligations.GroupsAndTrips
  refine ⟨fun c hc => ?_, fun x => ?_, fun x => ?_, ?_⟩
  · rcases List.mem_pair.1 hc with rfl | rfl <;>
      exact onWrite_of_effect (eff := grpCmdWrite) (fun _ _ _ _ _ => rfl) (fun _ _ _ _ => rfl) fun org v n m p hm g hg =>
        grpCmdWrite_shows org.code v hm hg
  · intro s l t hon
    refine answers_onDomain (f := tripAssert x.val) rfl rfl hon ?_
    obtain ⟨hfree, hoff⟩ := tripAssert_unheard (s.laneAt l t) x.isLt
    refine ⟨hfree, hoff, fun hlive hfilt hset => ?_⟩
    obtain ⟨hf, hr, hc⟩ := tripAssert_levels x.isLt hlive hfilt hset
    exact ⟨hf, hr, hc, fun hmode hl => tripAssert_latches x.isLt hlive hfilt hset hmode hl,
      fun hmode => tripAssert_holds x.isLt hlive hfilt hset hmode⟩
  · intro s l t hon
    exact answers_onDomain (f := tripDeassert x.val) rfl rfl hon (tripDeassert_shows _ x.isLt)
  · exact onWrite_of_effect (eff := tripRelease) (fun _ _ _ _ _ => rfl) (fun _ _ _ _ => rfl) fun org v n m p hm =>
      tripRelease_shows org.code v hm

end Sys2Proof.Machine
end

section
/-! SUPPORT. Time bases: how a counter counts (R98), what their shadows and a reload write (R109 to R113), and a stop (R101). -/

namespace Sys2Proof.Machine

/-! ## The counter in mode UP (R98) -/

theorem Lane.tbNow_up {n : Lane} {b : Nat} (hmode : n.f (F.PWM_TBb_CFG.MODE b) = 0) (hrun : n.tbRun b = true) :
    n.tbNow b = ((n.f (F.PWM_TBb_CNT.CNT b) + (n.now - (n.tb b).cntT) / 2 ^ n.f (F.PWM_TBb_CFG.DIV b)) % n.perAct b, false) := by
  unfold Lane.tbNow
  rw [hrun, if_pos rfl, hmode]
  rfl

/-- The counter takes a new value once every D cycles, counting up from 0 to PER − 1. -/
theorem Lane.tbSteps_up {n : Lane} {b c : Nat} {down : Bool} (hmode : n.f (F.PWM_TBb_CFG.MODE b) = 0) (hrun : n.tbRun b = true) :
    n.tbSteps b = true ∧ n.tbAt b c down = true ↔ (n.tb b).cntT < n.now ∧
      ∃ k, n.now = (n.tb b).cntT + k * 2 ^ n.f (F.PWM_TBb_CFG.DIV b) ∧ c = (n.f (F.PWM_TBb_CNT.CNT b) + k) % n.perAct b := by
  have hat : n.tbAt b c down = true ↔
      c = (n.f (F.PWM_TBb_CNT.CNT b) + (n.now - (n.tb b).cntT) / 2 ^ n.f (F.PWM_TBb_CFG.DIV b)) % n.perAct b := by
    unfold Lane.tbAt
    rw [Lane.tbNow_up hmode hrun, hmode]
    simp only [mUPDOWN, beq_iff_eq, bne_iff_ne, Bool.and_eq_true, Bool.or_eq_true]
    exact ⟨fun h => h.1.symm, fun h => ⟨h.symm, Or.inl (Or.inl (Or.inl (by decide)))⟩⟩
  have hsteps : n.tbSteps b = true ↔ (n.tb b).cntT < n.now ∧ (n.now - (n.tb b).cntT) % 2 ^ n.f (F.PWM_TBb_CFG.DIV b) = 0 := by
    unfold Lane.tbSteps Lane.tbDiv
    simp [hrun]
  have hpos := Nat.two_pow_pos (n.f (F.PWM_TBb_CFG.DIV b))
  rw [hat, hsteps]
  generalize 2 ^ n.f (F.PWM_TBb_CFG.DIV b) = d at *
  constructor
  · rintro ⟨⟨hlt, hmod⟩, hc⟩
    have hk := Nat.div_mul_cancel (Nat.dvd_of_mod_eq_zero hmod)
    exact ⟨hlt, _, by omega, hc⟩
  · rintro ⟨hlt, k, hnow, hc⟩
    have hdiff : n.now - (n.tb b).cntT = k * d := by omega
    exact ⟨⟨hlt, by rw [hdiff, Nat.mul_mod_left]⟩, by rw [hdiff, Nat.mul_div_cancel _ hpos, hc]⟩

/-! ## Shadows (R109, R112) -/

/-- A field that takes the value of a field of its width. -/
theorem Lane.f_copy (n : Lane) {r q : FRef} (hr : r.ok = true) (hw : r.hi + 1 - r.lo = q.hi + 1 - q.lo) :
    (n.setF r (n.f q)).f r = n.f q := Lane.f_setF_eq n _ hr (hw ▸ bits_lt _ _ _)

theorem leg_cmp_read {leg : Nat} (h : leg < 8) : pwmRead (R.PWM_LEGn_CMP leg) := by
  unfold pwmRead R.PWM_LEGn_CMP
  omega

theorem leg_act_read {leg : Nat} (h : leg < 8) : pwmRead (R.PWM_LEGn_ACT leg) := legAct_read (hi := 0) (lo := 0) h

/-- Compare registers of two legs, and of a leg's shadow and active value. -/
theorem leg_regs_ne {leg l : Nat} (h : 1 ≤ leg) (hl : 1 ≤ l) :
    (leg ≠ l → R.PWM_LEGn_ACT leg ≠ R.PWM_LEGn_ACT l ∧ R.PWM_LEGn_CMP leg ≠ R.PWM_LEGn_CMP l) ∧
    R.PWM_LEGn_CMP leg ≠ R.PWM_LEGn_ACT l ∧ R.PWM_LEGn_ACT leg ≠ R.PWM_LEGn_CMP l ∧ R.PWM_LEGn_ACT leg ≠ R.PWM_LEGn_DT l ∧
    R.PWM_LEGn_CMP leg ≠ R.PWM_LEGn_DT l := by
  unfold R.PWM_LEGn_ACT R.PWM_LEGn_CMP R.PWM_LEGn_DT
  omega

/-- The shadows of one leg become active. -/
def Lane.xferLeg (leg : Nat) (n : Lane) : Lane :=
  let n := n.setF (F.PWM_LEGn_ACT.CMP leg) (n.f (F.PWM_LEGn_CMP.CMP leg))
  n.setLeg leg { n.leg leg with rise := n.f (F.PWM_LEGn_DT.RISE leg), fall := n.f (F.PWM_LEGn_DT.FALL leg) }

/-- The shadows of one leg take its active values. -/
def Lane.legBack (leg : Nat) (n : Lane) : Lane :=
  n.setFs [(F.PWM_LEGn_CMP.CMP leg, n.f (F.PWM_LEGn_ACT.CMP leg)), (F.PWM_LEGn_DT.RISE leg, (n.leg leg).rise),
    (F.PWM_LEGn_DT.FALL leg, (n.leg leg).fall)]

theorem Lane.xferLegs_eq (n : Lane) (b : Nat) : n.xferLegs b = forEach (groupLegs b) Lane.xferLeg n := rfl

theorem Lane.shadowsBack_eq (n : Lane) (b : Nat) : n.shadowsBack b =
    forEach (groupLegs b) Lane.legBack (n.setF (F.PWM_TBb_PER.PER b) (n.f (F.PWM_TBb_PERACT.PER b))) := rfl

theorem xferLeg_writes (leg : Nat) (n : Lane) : PwmWrites [F.PWM_LEGn_ACT.CMP leg] n (n.xferLeg leg) :=
  (pwmWrites_setF n _ rfl).trans (PwmWrites.of_regs rfl _)

theorem legBack_writes (leg : Nat) (n : Lane) :
    PwmWrites [F.PWM_LEGn_CMP.CMP leg, F.PWM_LEGn_DT.RISE leg, F.PWM_LEGn_DT.FALL leg] n (n.legBack leg) :=
  (pwmWrites_setF n _ rfl).append ((pwmWrites_setF _ _ rfl).append (pwmWrites_setF _ _ rfl))

/-- What a transfer of the legs' shadows writes, and what writing them back does. -/
def xferSpans (b : Nat) : List FRef := (groupLegs b).flatMap fun leg => [F.PWM_LEGn_ACT.CMP leg]
def backSpans (b : Nat) : List FRef :=
  (groupLegs b).flatMap fun leg => [F.PWM_LEGn_CMP.CMP leg, F.PWM_LEGn_DT.RISE leg, F.PWM_LEGn_DT.FALL leg]

theorem xferLegs_writes (n : Lane) (b : Nat) : PwmWrites (xferSpans b) n (n.xferLegs b) := PwmWrites.each _ xferLeg_writes _ n

theorem shadowsBack_writes (n : Lane) (b : Nat) : PwmWrites (F.PWM_TBb_PER.PER b :: backSpans b) n (n.shadowsBack b) :=
  (pwmWrites_setF n _ rfl).append (PwmWrites.each _ legBack_writes _ _)

/-- Every leg of the group compares with its shadow after a transfer. -/
theorem Lane.xferLegs_cmp (n : Lane) {b leg : Nat} (hleg : leg ∈ groupLegs b) :
    (n.xferLegs b).f (F.PWM_LEGn_ACT.CMP leg) = n.f (F.PWM_LEGn_CMP.CMP leg) := by
  obtain ⟨h1, h8⟩ := leg_lt_of_mem hleg
  rw [Lane.xferLegs_eq]
  refine forEach_reaches (I := fun m => m.f (F.PWM_LEGn_CMP.CMP leg) = n.f (F.PWM_LEGn_CMP.CMP leg))
    (Q := fun m => m.f (F.PWM_LEGn_ACT.CMP leg) = n.f (F.PWM_LEGn_CMP.CMP leg)) hleg rfl (fun y hy m hm => ?_) (fun m hm => ?_)
    fun y hy hne m _ hm => ?_
  · obtain ⟨_, hoff, _⟩ := leg_regs_ne h1 (leg_lt_of_mem hy).1
    exact (xferLeg_writes y m _ (leg_cmp_read h8) (by simpa using FRef.apart_of_off (q := F.PWM_LEGn_ACT.CMP y) hoff)).trans hm
  · exact (m.f_copy (r := F.PWM_LEGn_ACT.CMP leg) (q := F.PWM_LEGn_CMP.CMP leg) rfl rfl).trans hm
  · have hoff := ((leg_regs_ne h1 (leg_lt_of_mem hy).1).1 hne.symm).1
    exact (xferLeg_writes y m _ (leg_act_read h8) (by simpa using FRef.apart_of_off (q := F.PWM_LEGn_ACT.CMP y) hoff)).trans hm

/-- Every leg's shadow is its active compare value after it was written back. -/
theorem Lane.shadowsBack_cmp (n : Lane) {b leg : Nat} (_hb : b < 3) (hleg : leg ∈ groupLegs b) :
    (n.shadowsBack b).f (F.PWM_LEGn_CMP.CMP leg) = n.f (F.PWM_LEGn_ACT.CMP leg) := by
  obtain ⟨h1, h8⟩ := leg_lt_of_mem hleg
  have hapart : ∀ {r : FRef} {y : Nat}, r.off ≠ R.PWM_LEGn_CMP y → r.off ≠ R.PWM_LEGn_DT y →
      [F.PWM_LEGn_CMP.CMP y, F.PWM_LEGn_DT.RISE y, F.PWM_LEGn_DT.FALL y].all r.apart = true := fun {r y} hc hd => by
    simp [FRef.apart_of_off (r := r) (q := F.PWM_LEGn_CMP.CMP y) hc, FRef.apart_of_off (r := r) (q := F.PWM_LEGn_DT.RISE y) hd,
      FRef.apart_of_off (r := r) (q := F.PWM_LEGn_DT.FALL y) hd]
  rw [Lane.shadowsBack_eq]
  refine forEach_reaches (I := fun m => m.f (F.PWM_LEGn_ACT.CMP leg) = n.f (F.PWM_LEGn_ACT.CMP leg))
    (Q := fun m => m.f (F.PWM_LEGn_CMP.CMP leg) = n.f (F.PWM_LEGn_ACT.CMP leg)) hleg ?_ (fun y hy m hm => ?_) (fun m hm => ?_)
    fun y hy hne m _ hm => ?_
  · exact Lane.f_setF_apart n _ rfl (FRef.apart_of_off (by
      show 0x01040C + 0x20 * (leg - 1) ≠ 0x010108 + 0x40 * b
      omega))
  · obtain ⟨_, _, hc, hd, _⟩ := leg_regs_ne h1 (leg_lt_of_mem hy).1
    exact (legBack_writes y m _ (leg_act_read h8) (hapart hc hd)).trans hm
  · obtain ⟨_, _, _, _, hd⟩ := leg_regs_ne h1 h1
    have hset := m.f_copy (r := F.PWM_LEGn_CMP.CMP leg) (q := F.PWM_LEGn_ACT.CMP leg) rfl rfl
    have hrest : PwmWrites [F.PWM_LEGn_DT.RISE leg, F.PWM_LEGn_DT.FALL leg]
        (m.setF (F.PWM_LEGn_CMP.CMP leg) (m.f (F.PWM_LEGn_ACT.CMP leg))) (m.legBack leg) :=
      (pwmWrites_setF _ _ rfl).append (pwmWrites_setF _ _ rfl)
    refine ((hrest _ (leg_cmp_read h8) ?_).trans hset).trans hm
    simp [FRef.apart_of_off (r := F.PWM_LEGn_CMP.CMP leg) (q := F.PWM_LEGn_DT.RISE leg) hd,
      FRef.apart_of_off (r := F.PWM_LEGn_CMP.CMP leg) (q := F.PWM_LEGn_DT.FALL leg) hd]
  · obtain ⟨hother, _, _, _, hd⟩ := leg_regs_ne h1 (leg_lt_of_mem hy).1
    exact (legBack_writes y m _ (leg_cmp_read h8) (hapart (hother hne.symm).2 hd)).trans hm

/-! ## A reload and its group (R113, R114, R119) -/

/-- The switches of the group's legs. -/
def cmdSpans (b : Nat) : List FRef := (groupLegs b).flatMap fun leg => [cmdSpan leg]

/-- The legs of the group follow REF again. -/
def Lane.legsFollow (n : Lane) (g : Nat) : Lane :=
  forEach (groupLegs g) (fun leg n => (n.setLeg leg { n.leg leg with ovrDue := [] }).govern leg .ref) n

theorem legsFollow_writes (n : Lane) (g : Nat) : PwmWrites (cmdSpans g) n (n.legsFollow g) :=
  PwmWrites.each _ (fun leg m => PwmWrites.trans (b := m.setLeg leg _) (PwmWrites.of_regs rfl _) (govern_writes _ leg .ref)) _ n

/-- What a reload writes of its group. -/
def groupSpans (g : Nat) : List FRef := [grpField g] ++ ([F.PWM_GRPSTAT.CYC] ++ cmdSpans g)

theorem cmdSpans_apart_grpField {g h : Nat} (hg : g < 3) (hh : h < 3) : (cmdSpans h).all (grpField g).apart = true := by
  have all : ∀ g < 3, ∀ h < 3, (cmdSpans h).all (grpField g).apart = true := by decide
  exact all g hg h hh

/-- PENDING ends in RUN, and a CYCLE hold may end; the state of the group is otherwise its own. -/
theorem reloadGroup_shows (n : Lane) {g : Nat} (hg : g < 3) : PwmWrites (groupSpans g) n (n.reloadGroup g) ∧
    (n.reloadGroup g).grp g = if n.grp g = 2 then 3 else n.grp g := by
  unfold Lane.reloadGroup
  extract_lets pend n₁ clear held n₂
  have hpend : pend = true ↔ n.grp g = 2 := beq_iff_eq
  have h₁ : PwmWrites [grpField g] n n₁ := ite_of (setGrp_writes n 3 hg) (PwmWrites.refl _ _)
  have hstate : n₁.grp g = if n.grp g = 2 then 3 else n.grp g := by
    by_cases hp : n.grp g = 2
    · rw [if_pos hp, show n₁ = n.setGrp g 3 from if_pos (hpend.2 hp), n.grp_setGrp hg (by decide)]
    · rw [if_neg hp, show n₁ = n from if_neg fun h => hp (hpend.1 h)]
  have h₂ : PwmWrites [F.PWM_GRPSTAT.CYC] n₁ n₂ := setCyc_writes n₁ g _
  have hstate₂ : n₂.grp g = n₁.grp g := n₁.grp_setCyc g _ hg
  have hend : ∀ {m : Lane}, PwmWrites (cmdSpans g) n₂ m → PwmWrites (groupSpans g) n m ∧ m.grp g = if n.grp g = 2 then 3 else n.grp g :=
    fun hm => ⟨h₁.append (h₂.append hm),
      (hm _ (grpField_read hg) (cmdSpans_apart_grpField hg hg)).trans (hstate₂.trans hstate)⟩
  split
  · exact ite_of (p := fun m : Lane => PwmWrites (groupSpans g) n m ∧ m.grp g = _) (hend (legsFollow_writes n₂ g))
      (hend (PwmWrites.refl _ _))
  · exact ⟨h₁.mono (List.subset_append_left _ _), hstate⟩

end Sys2Proof.Machine
end

section
/-! SUPPORT. PWM_EVENT: what a reload makes of the shadows and the group (R109 to R113), and what a time base that takes a counter value
writes besides (R98, R106). -/

namespace Sys2Proof.Machine

/-- A register of a time base. -/
theorem tbReg_read {a b : Nat} (hb : b < 3) (ha : 0x010000 ≤ a ∧ a < 0x010200) : pwmRead (a + 0x40 * b) := by
  unfold pwmRead
  omega

/-! ## A reload at a period start -/

/-- Every shadow becomes active and the arming ends (R110). -/
def Lane.transferAll (n : Lane) (b : Nat) : Lane :=
  let m := (n.xferPer b).xferLegs b
  let m := if n.bit F.PWM_STAT.ARMED b then m.tabSwap b else m
  (m.setBit F.PWM_STAT.ARMED b false).setTb b { m.tb b with midDone := false }

/-- What becomes of the shadows at a period start under LOADPT 0 (R110 to R112). -/
def Lane.reloadShadows (n : Lane) (b : Nat) (trig : Bool) : Lane :=
  if n.loadCont b || n.bit F.PWM_STAT.ARMED b then n.transferAll b
  else if n.on (F.PWM_TBb_CFG.SRC b) then (n.shadowsBack b).cfeOverrun b trig else n

theorem Lane.reload_start {n : Lane} {b : Nat} (h : n.f (F.PWM_TBb_LDCFG.LOADPT b) = 0) (trig : Bool) :
    n.reload b true trig = (n.reloadShadows b trig).reloadGroup b := by
  unfold Lane.reload Lane.reloadShadows Lane.transferAll
  simp [h]

/-- What a reload writes of the shadows. -/
def shadowSpans (b : Nat) : List FRef :=
  [F.PWM_TBb_PERACT.PER b] ++ xferSpans b ++ [F.PWM_STAT.ARMED] ++ (F.PWM_TBb_PER.PER b :: backSpans b)

theorem setTb_writes (n : Lane) (b : Nat) (x : TbStage) (ws : List FRef) : PwmWrites ws n (n.setTb b x) := PwmWrites.of_regs rfl ws

theorem reload_writes (n : Lane) {b : Nat} (hb : b < 3) (start trig : Bool) :
    PwmWrites (shadowSpans b ++ groupSpans b) n (n.reload b start trig) := by
  unfold Lane.reload
  extract_lets lp x armed cont go n₁ n₂ n₃ x₄ n₅
  have h₁ : PwmWrites [F.PWM_TBb_PERACT.PER b] n n₁ := ite_of (pwmWrites_setF n _ rfl) (PwmWrites.refl _ _)
  have h₂ : PwmWrites (xferSpans b) n₁ n₂ := ite_of (xferLegs_writes n₁ b) (PwmWrites.refl _ _)
  have h₃ : PwmStands n₂ n₃ := ite_of ((PwmStands.refl n₂).tabSwap b) (PwmStands.refl n₂)
  have hback : PwmWrites (F.PWM_TBb_PER.PER b :: backSpans b) n ((n.shadowsBack b).cfeOverrun b trig) :=
    (shadowsBack_writes n b).trans (((PwmStands.refl _).cfeOverrun b trig).writes _)
  have hgo := ((h₁.append h₂).trans (h₃.writes _))
  clear_value n₁ n₂ n₃
  have h₅ : PwmWrites (shadowSpans b) n n₅ := by
    refine ite_of ((hgo.append (ws := [F.PWM_STAT.ARMED]) ?_).mono (List.subset_append_left _ _))
      (ite_of (hback.mono (List.subset_append_right _ _)) (PwmWrites.refl _ _))
    exact ite_of (setTb_writes _ _ _ _) ((pwmWrites_setF n₃ _ rfl).trans (setTb_writes _ _ _ _))
  clear_value n₅
  exact ite_of (PwmWrites.refl _ _) (ite_of (PwmWrites.refl _ _) (h₅.append (reloadGroup_shows n₅ hb).1))

/-! ## The law of a period start -/

/-- What the registers of time base `b` show in `m` of the reload at a period start under LOADPT 0 that finds `n`. -/
def ReloadLaw (b : Nat) (n m : Lane) : Prop :=
  (n.bit F.PWM_STAT.ARMED b = true ∨ n.on (F.PWM_TBb_LDCFG.LOADMODE b) = true ∧ n.on (F.PWM_TBb_CFG.SRC b) = false →
    m.f (F.PWM_TBb_PERACT.PER b) = n.f (F.PWM_TBb_PER.PER b) ∧ m.bit F.PWM_STAT.ARMED b = false ∧
    ∀ leg ∈ groupLegs b, m.f (F.PWM_LEGn_ACT.CMP leg) = n.f (F.PWM_LEGn_CMP.CMP leg)) ∧
  (n.bit F.PWM_STAT.ARMED b = false → n.on (F.PWM_TBb_LDCFG.LOADMODE b) = false ∨ n.on (F.PWM_TBb_CFG.SRC b) = true →
    m.f (F.PWM_TBb_PERACT.PER b) = n.f (F.PWM_TBb_PERACT.PER b) ∧
    (n.on (F.PWM_TBb_CFG.SRC b) = true → m.f (F.PWM_TBb_PER.PER b) = n.f (F.PWM_TBb_PERACT.PER b) ∧
      ∀ leg ∈ groupLegs b, m.f (F.PWM_LEGn_CMP.CMP leg) = n.f (F.PWM_LEGn_ACT.CMP leg))) ∧
  m.grp b = if n.grp b = 2 then 3 else n.grp b

/-- The fields the law of a period start speaks of. -/
def reloadReads (b : Nat) : List FRef :=
  [F.PWM_TBb_PERACT.PER b, F.PWM_TBb_PER.PER b, F.PWM_STAT.ARMED, F.PWM_TBb_LDCFG.LOADMODE b, F.PWM_TBb_LDCFG.LOADPT b,
    F.PWM_TBb_CFG.SRC b, grpField b] ++ (groupLegs b).flatMap fun leg => [F.PWM_LEGn_ACT.CMP leg, F.PWM_LEGn_CMP.CMP leg]

theorem act_mem_reloadReads {b leg : Nat} (h : leg ∈ groupLegs b) : F.PWM_LEGn_ACT.CMP leg ∈ reloadReads b :=
  List.mem_append_right _ (List.mem_flatMap.2 ⟨leg, h, List.mem_cons_self⟩)

theorem cmp_mem_reloadReads {b leg : Nat} (h : leg ∈ groupLegs b) : F.PWM_LEGn_CMP.CMP leg ∈ reloadReads b :=
  List.mem_append_right _ (List.mem_flatMap.2 ⟨leg, h, by simp⟩)

/-- Writes apart from the fields of the law leave them. -/
theorem PwmWrites.reloadReads {ws : List FRef} {n m : Lane} (h : PwmWrites ws n m) {b : Nat} (hb : b < 3)
    (ha : ((Machine.reloadReads b).all fun q => ws.all q.apart) = true) : ∀ q ∈ Machine.reloadReads b, m.f q = n.f q := by
  have hread : ∀ b < 3, ∀ q ∈ Machine.reloadReads b, 0x010000 ≤ q.off ∧ q.off < 0x014000 := by decide
  exact fun q hq => h q (.inl (hread b hb q hq)) (List.all_eq_true.1 ha q hq)

theorem ReloadLaw.congr {b : Nat} {n m n' m' : Lane} (h : ReloadLaw b n m) (hn : ∀ q ∈ reloadReads b, n.f q = n'.f q)
    (hm : ∀ q ∈ reloadReads b, m'.f q = m.f q) : ReloadLaw b n' m' := by
  have hper := hn (F.PWM_TBb_PER.PER b) (by simp [reloadReads])
  have hact := hn (F.PWM_TBb_PERACT.PER b) (by simp [reloadReads])
  have harmed : n.bit F.PWM_STAT.ARMED b = n'.bit F.PWM_STAT.ARMED b := congrArg (Nat.testBit · b) (hn _ (by simp [reloadReads]))
  have hmode : n.on (F.PWM_TBb_LDCFG.LOADMODE b) = n'.on (F.PWM_TBb_LDCFG.LOADMODE b) := congrArg (· == 1) (hn _ (by simp [reloadReads]))
  have hsrc : n.on (F.PWM_TBb_CFG.SRC b) = n'.on (F.PWM_TBb_CFG.SRC b) := congrArg (· == 1) (hn _ (by simp [reloadReads]))
  have hgrp : n.grp b = n'.grp b := hn (grpField b) (by simp [reloadReads])
  have hper' := hm (F.PWM_TBb_PER.PER b) (by simp [reloadReads])
  have hact' := hm (F.PWM_TBb_PERACT.PER b) (by simp [reloadReads])
  have harmed' : m'.bit F.PWM_STAT.ARMED b = m.bit F.PWM_STAT.ARMED b := congrArg (Nat.testBit · b) (hm _ (by simp [reloadReads]))
  have hgrp' : m'.grp b = m.grp b := hm (grpField b) (by simp [reloadReads])
  unfold ReloadLaw at h ⊢
  rw [harmed, hmode, hsrc, hper, hact, hgrp] at h
  rw [hper', hact', harmed', hgrp']
  obtain ⟨hgo, hback, hstate⟩ := h
  refine ⟨fun hc => ?_, fun ha hc => ?_, hstate⟩
  · obtain ⟨hp, har, hlegs⟩ := hgo hc
    exact ⟨hp, har, fun leg hl => (hm _ (act_mem_reloadReads hl)).trans ((hlegs leg hl).trans (hn _ (cmp_mem_reloadReads hl)))⟩
  · obtain ⟨hp, hcfe⟩ := hback ha hc
    refine ⟨hp, fun hs => ?_⟩
    obtain ⟨hq, hlegs⟩ := hcfe hs
    exact ⟨hq, fun leg hl => (hm _ (cmp_mem_reloadReads hl)).trans ((hlegs leg hl).trans (hn _ (act_mem_reloadReads hl)))⟩

/-- The whole transfer: the active period and compare values are the shadows, the time base is no longer armed, its group as before. -/
theorem transferAll_shows (n : Lane) {b : Nat} (hb : b < 3) :
    (n.transferAll b).f (F.PWM_TBb_PERACT.PER b) = n.f (F.PWM_TBb_PER.PER b) ∧ (n.transferAll b).bit F.PWM_STAT.ARMED b = false ∧
    (∀ leg ∈ groupLegs b, (n.transferAll b).f (F.PWM_LEGn_ACT.CMP leg) = n.f (F.PWM_LEGn_CMP.CMP leg)) ∧
    (n.transferAll b).grp b = n.grp b := by
  have hread : pwmRead (R.PWM_TBb_PERACT b) := tbReg_read hb (by decide)
  have apart : ∀ b < 3, (xferSpans b).all (F.PWM_TBb_PERACT.PER b).apart = true ∧
      (F.PWM_TBb_PERACT.PER b).apart F.PWM_STAT.ARMED = true ∧
      ([F.PWM_TBb_PERACT.PER b] ++ (xferSpans b ++ [F.PWM_STAT.ARMED])).all (grpField b).apart = true ∧
      ∀ leg ∈ groupLegs b, (F.PWM_LEGn_CMP.CMP leg).apart (F.PWM_TBb_PERACT.PER b) = true ∧
        (F.PWM_LEGn_ACT.CMP leg).apart F.PWM_STAT.ARMED = true := by decide
  obtain ⟨hperX, hperA, hgrp, hcmp⟩ := apart b hb
  have hper := pwmWrites_setF n (r := F.PWM_TBb_PERACT.PER b) (n.f (F.PWM_TBb_PER.PER b)) rfl
  have hlegs := xferLegs_writes (n.xferPer b) b
  have hswap : PwmStands ((n.xferPer b).xferLegs b)
      (if n.bit F.PWM_STAT.ARMED b then ((n.xferPer b).xferLegs b).tabSwap b else (n.xferPer b).xferLegs b) :=
    ite_of ((PwmStands.refl _).tabSwap b) (PwmStands.refl _)
  have hend : PwmWrites [F.PWM_STAT.ARMED] ((n.xferPer b).xferLegs b) (n.transferAll b) :=
    (hswap.writes _).trans ((pwmWrites_setF _ _ rfl).trans (setTb_writes _ _ _ _))
  refine ⟨?_, ?_, fun leg hl => ?_, (hper.append (hlegs.append hend)) _ (grpField_read hb) hgrp⟩
  · exact ((hend _ hread (by simpa using hperA)).trans (hlegs _ hread hperX)).trans (n.f_copy rfl rfl)
  · have hbit := Lane.bit_setBit_of (if n.bit F.PWM_STAT.ARMED b then ((n.xferPer b).xferLegs b).tabSwap b else (n.xferPer b).xferLegs b)
      (r := F.PWM_STAT.ARMED) (i := b) false rfl (j := b) hb
    exact hbit.trans (if_pos rfl)
  · obtain ⟨hc, ha⟩ := hcmp leg hl
    have h8 := (leg_lt_of_mem hl).2
    exact ((hend _ (leg_act_read h8) (by simpa using ha)).trans ((n.xferPer b).xferLegs_cmp hl)).trans
      (hper _ (leg_cmp_read h8) (by simpa using hc))

/-- The shadows written back: the period and compare shadows are the active values, and nothing else of the law changes. -/
theorem shadowsBack_shows (n : Lane) {b : Nat} (hb : b < 3) :
    (n.shadowsBack b).f (F.PWM_TBb_PERACT.PER b) = n.f (F.PWM_TBb_PERACT.PER b) ∧
    (n.shadowsBack b).f (F.PWM_TBb_PER.PER b) = n.f (F.PWM_TBb_PERACT.PER b) ∧ (n.shadowsBack b).grp b = n.grp b := by
  have apart : ∀ b < 3, (F.PWM_TBb_PER.PER b :: backSpans b).all (F.PWM_TBb_PERACT.PER b).apart = true ∧
      (backSpans b).all (F.PWM_TBb_PER.PER b).apart = true ∧ (F.PWM_TBb_PER.PER b :: backSpans b).all (grpField b).apart = true := by decide
  obtain ⟨hact, hper, hgrp⟩ := apart b hb
  have hw := shadowsBack_writes n b
  refine ⟨hw _ (tbReg_read hb (by decide)) hact, ?_, hw _ (grpField_read hb) hgrp⟩
  have hlegs : PwmWrites (backSpans b) (n.setF (F.PWM_TBb_PER.PER b) (n.f (F.PWM_TBb_PERACT.PER b))) (n.shadowsBack b) :=
    PwmWrites.each _ legBack_writes _ _
  exact (hlegs _ (tbReg_read hb (by decide)) hper).trans (n.f_copy rfl rfl)

theorem Lane.reloadShadows_go {n : Lane} {b : Nat} (trig : Bool)
    (h : n.bit F.PWM_STAT.ARMED b = true ∨ n.on (F.PWM_TBb_LDCFG.LOADMODE b) = true ∧ n.on (F.PWM_TBb_CFG.SRC b) = false) :
    n.reloadShadows b trig = n.transferAll b := by
  refine if_pos ?_
  rcases h with h | ⟨hm, hs⟩
  · rw [h, Bool.or_true]
  · rw [Lane.loadCont, hm, hs]; rfl

theorem Lane.reloadShadows_stay {n : Lane} {b : Nat} (trig : Bool) (ha : n.bit F.PWM_STAT.ARMED b = false)
    (h : n.on (F.PWM_TBb_LDCFG.LOADMODE b) = false ∨ n.on (F.PWM_TBb_CFG.SRC b) = true) :
    n.reloadShadows b trig = if n.on (F.PWM_TBb_CFG.SRC b) then (n.shadowsBack b).cfeOverrun b trig else n := by
  refine if_neg fun hc => ?_
  rw [ha, Bool.or_false, Lane.loadCont, Bool.and_eq_true] at hc
  rcases h with h | h
  · exact Bool.false_ne_true (h.symm.trans hc.1)
  · rw [h] at hc
    exact Bool.false_ne_true hc.2

theorem Lane.grp_reloadShadows (n : Lane) {b : Nat} (hb : b < 3) (trig : Bool) : (n.reloadShadows b trig).grp b = n.grp b := by
  obtain ⟨_, _, _, hgo⟩ := transferAll_shows n hb
  obtain ⟨_, _, hback⟩ := shadowsBack_shows n hb
  have hcfe : ((n.shadowsBack b).cfeOverrun b trig).grp b = n.grp b :=
    (((PwmStands.refl _).cfeOverrun b trig).f_eq (grpField_read hb)).trans hback
  exact ite_of (p := fun m : Lane => m.grp b = n.grp b) hgo (ite_of (p := fun m : Lane => m.grp b = n.grp b) hcfe rfl)

/-- The shadows and then the group, as a reload treats them, follow the law. -/
theorem reloadShadows_law (n : Lane) {b : Nat} (hb : b < 3) (trig : Bool) :
    ReloadLaw b n ((n.reloadShadows b trig).reloadGroup b) := by
  have apart : ∀ b < 3, ([F.PWM_TBb_PERACT.PER b, F.PWM_TBb_PER.PER b, F.PWM_STAT.ARMED].all fun q => (groupSpans b).all q.apart) = true ∧
      ∀ leg ∈ groupLegs b, ([F.PWM_LEGn_ACT.CMP leg, F.PWM_LEGn_CMP.CMP leg].all fun q => (groupSpans b).all q.apart) = true := by decide
  obtain ⟨htb, hleg⟩ := apart b hb
  simp only [List.all_cons, List.all_nil, Bool.and_true, Bool.and_eq_true] at htb hleg
  obtain ⟨hactA, hperA, harmA⟩ := htb
  obtain ⟨hw, hstate⟩ := reloadGroup_shows (n.reloadShadows b trig) hb
  have hper := hw _ (tbReg_read hb (by decide)) hperA
  have hact := hw _ (tbReg_read hb (by decide)) hactA
  have harm := hw F.PWM_STAT.ARMED (.inl (by decide)) harmA
  rw [n.grp_reloadShadows hb] at hstate
  refine ⟨fun hc => ?_, fun ha hc => ?_, hstate⟩
  · obtain ⟨hp, har, hlegs, _⟩ := transferAll_shows n hb
    rw [Lane.reloadShadows_go trig hc] at hw hact harm ⊢
    exact ⟨hact.trans hp, (congrArg (Nat.testBit · b) harm).trans har, fun leg hl =>
      (hw _ (leg_act_read (leg_lt_of_mem hl).2) (hleg leg hl).1).trans (hlegs leg hl)⟩
  · rw [Lane.reloadShadows_stay trig ha hc] at hw hact hper ⊢
    cases hs : n.on (F.PWM_TBb_CFG.SRC b)
    · rw [hs] at hact
      exact ⟨hact, fun h => absurd h Bool.false_ne_true⟩
    · obtain ⟨hp, hq, _⟩ := shadowsBack_shows n hb
      have hcfe := (PwmStands.refl (n.shadowsBack b)).cfeOverrun b trig
      rw [hs, if_pos rfl] at hw hact hper
      refine ⟨(hact.trans (hcfe.f_eq (tbReg_read hb (by decide)))).trans hp, fun _ =>
        ⟨(hper.trans (hcfe.f_eq (tbReg_read hb (by decide)))).trans hq, fun leg hl => ?_⟩⟩
      have hread := leg_cmp_read (leg_lt_of_mem hl).2
      exact ((hw _ hread (hleg leg hl).2).trans (hcfe.f_eq hread)).trans (n.shadowsBack_cmp hb hl)

/-- A reload at a period start under LOADPT 0 follows the law. -/
theorem reload_law (n : Lane) {b : Nat} (hb : b < 3) (h : n.f (F.PWM_TBb_LDCFG.LOADPT b) = 0) (trig : Bool) :
    ReloadLaw b n (n.reload b true trig) := Lane.reload_start h trig ▸ reloadShadows_law n hb trig

/-! ## A time base takes a counter value (R98, R106) -/

/-- The counter shows the value it takes. -/
def Lane.tbSet (n : Lane) (b cnt : Nat) (down : Bool) : Lane :=
  (n.setFs [(F.PWM_TBb_CNT.CNT b, cnt), (F.PWM_TBb_CNT.DIR b, b1 down)]).setTb b { n.tb b with zero := cnt == 0, cntT := n.now }

/-- The counter's value and the reload it is a point of, before the legs compare with it. -/
def Lane.tbReload (n : Lane) (b cnt : Nat) (down : Bool) : Lane :=
  if n.tbWraps b cnt then ((n.tbSet b cnt down).followTrim b).reload b true (n.groupOccurs b)
  else if n.f (F.PWM_TBb_CFG.MODE b) == mUPDOWN && cnt == n.perAt b cnt then (n.tbSet b cnt down).reload b false (n.groupOccurs b)
  else n.tbSet b cnt down

def countSpans (b : Nat) : List FRef := [F.PWM_TBb_CNT.CNT b, F.PWM_TBb_CNT.DIR b]
def legSpans (b : Nat) : List FRef := (groupLegs b).flatMap fun leg => [legSpan leg]

theorem tbSet_writes (n : Lane) (b cnt : Nat) (down : Bool) : PwmWrites (countSpans b) n (n.tbSet b cnt down) :=
  ((pwmWrites_setF n _ rfl).append (pwmWrites_setF _ _ rfl)).trans (setTb_writes _ _ _ _)

theorem followTrim_writes (n : Lane) (b : Nat) : PwmWrites [F.PWM_TBb_PERACT.TRIM b] n (n.followTrim b) := by
  unfold Lane.followTrim
  extract_lets x n₁ f trim w n₂
  exact (setTb_writes n b _ _).trans (ite_of ((pwmWrites_setF n₁ _ rfl).trans (setTb_writes _ _ _ _)) (PwmWrites.refl _ _))

theorem prescale_writes (n : Lane) (b : Nat) (evs : List Nat) : PwmWrites [] n (n.prescale b evs).1 := by
  refine List.foldlRecOn (motive := fun a : Lane × List Nat => PwmWrites [] n a.1) _ _ (PwmWrites.refl _ _) fun a ha p _ => ?_
  have hset : ∀ x, PwmWrites [] n (a.1.setTb b x) := fun x => ha.trans (setTb_writes _ _ _ _)
  exact ite_of (p := fun r : Lane × List Nat => PwmWrites [] n r.1)
    (ite_of (p := fun r : Lane × List Nat => PwmWrites [] n r.1) (hset _) (hset _)) ha

theorem updateRefs_writes (n : Lane) (b : Nat) : PwmWrites (legSpans b) n (forEach (groupLegs b) (fun leg m => m.updateRef leg) n) :=
  PwmWrites.each _ (fun leg m => updateRef_writes m leg) _ n

/-- After the reload, taking a value only has the legs compare. -/
theorem tbTake_writes (n : Lane) (b cnt : Nat) (down : Bool) :
    PwmWrites (legSpans b) (n.tbReload b cnt down) (n.tbTake b cnt down).1 := by
  unfold Lane.tbTake
  extract_lets mode per evs start mid trig x n₁ n₂ n₃ n₄ n₅ r
  have h₃ : n₃ = n.tbReload b cnt down := by
    show (if start then (if start then n₁.followTrim b else n₁).reload b true trig else
      if mid then (if start then n₁.followTrim b else n₁).reload b false trig else (if start then n₁.followTrim b else n₁)) = _
    unfold Lane.tbReload
    split
    · rfl
    · rfl
  have h₅ : PwmWrites (legSpans b) n₄ n₅ := ite_of (PwmWrites.of_regs rfl _) (PwmWrites.refl _ _)
  exact h₃ ▸ (((updateRefs_writes n₃ b).trans h₅).trans ((prescale_writes n₅ b evs).mono (List.nil_subset _)))

/-- All that a time base writes when it takes a value. -/
def takeSpans (b : Nat) : List FRef :=
  countSpans b ++ ([F.PWM_TBb_PERACT.TRIM b] ++ (shadowSpans b ++ groupSpans b))

theorem tbReload_writes (n : Lane) {b : Nat} (hb : b < 3) (cnt : Nat) (down : Bool) :
    PwmWrites ([F.PWM_TBb_PERACT.TRIM b] ++ (shadowSpans b ++ groupSpans b)) (n.tbSet b cnt down) (n.tbReload b cnt down) :=
  ite_of ((followTrim_writes _ b).append (reload_writes _ hb _ _))
    (ite_of ((reload_writes _ hb _ _).mono (List.subset_append_right _ _)) (PwmWrites.refl _ _))

/-- At no reload point, the value is all a time base takes (outside mode DOWN). -/
theorem Lane.tbReload_none {n : Lane} {b cnt : Nat} (down : Bool) (hmode : n.f (F.PWM_TBb_CFG.MODE b) ≠ 2) (h0 : cnt ≠ 0)
    (hmid : n.f (F.PWM_TBb_CFG.MODE b) = 1 → cnt ≠ n.perAct b) : n.tbReload b cnt down = n.tbSet b cnt down := by
  have hw : n.tbWraps b cnt = (cnt == 0) := if_neg hmode
  have hp : n.perAt b cnt = n.perAct b := if_neg fun h => hmode h.1
  unfold Lane.tbReload
  rw [hw, hp, if_neg (by simpa using h0), if_neg (by simpa [mUPDOWN] using hmid)]

/-- At 0 a period starts (outside mode DOWN). -/
theorem Lane.tbReload_start {n : Lane} {b : Nat} (down : Bool) (hmode : n.f (F.PWM_TBb_CFG.MODE b) ≠ 2) :
    n.tbReload b 0 down = ((n.tbSet b 0 down).followTrim b).reload b true (n.groupOccurs b) :=
  if_pos ((if_neg hmode : n.tbWraps b 0 = _).trans rfl)

theorem pwmEvent_writes {n : Lane} {b cnt : Nat} {down : Bool} (hsteps : n.tbSteps b = true) (hat : n.tbAt b cnt down = true) :
    PwmWrites (legSpans b) (n.tbReload b cnt (n.tbNow b).2) (pwmEvent b cnt down n) := by
  unfold pwmEvent
  rw [hsteps, hat]
  exact (tbTake_writes n b cnt _).trans (((PwmStands.refl _).fire _).writes _)

theorem pwmEvent_stays {n : Lane} {b cnt : Nat} {down : Bool} (h : n.tbSteps b = false ∨ n.tbAt b cnt down = false) :
    pwmEvent b cnt down n = n := by
  refine if_neg fun hc => ?_
  obtain ⟨hs, ha⟩ := Bool.and_eq_true_iff.1 hc
  rcases h with h | h
  · exact Bool.false_ne_true (h.symm.trans hs)
  · exact Bool.false_ne_true (h.symm.trans ha)

/-! ## What PWM_EVENT shows -/

theorem Lane.tbRun_of_steps {n : Lane} {b : Nat} (h : n.tbSteps b = true) : n.tbRun b = true := by
  unfold Lane.tbSteps at h
  simp only [Bool.and_eq_true] at h
  exact h.1.1

theorem Lane.rd_of_word {n m : Lane} {a : Nat} (h : m.f ⟨a, 31, 0⟩ = n.f ⟨a, 31, 0⟩) : m.rd a = n.rd a := by
  have word : ∀ v : W32, bits v 31 0 = v.toNat := fun v => Nat.mod_eq_of_lt v.isLt
  exact BitVec.eq_of_toNat_eq ((word _).symm.trans (h.trans (word _)))

/-- The counter shows the value and goes on running; the other groups and time bases are as before. -/
theorem pwmEvent_counts {n : Lane} {b cnt : Nat} {down : Bool} (hb : b < 3) (hcnt : cnt < 2 ^ 16) (hsteps : n.tbSteps b = true)
    (hat : n.tbAt b cnt down = true) :
    (pwmEvent b cnt down n).f (F.PWM_TBb_CNT.CNT b) = cnt ∧ (pwmEvent b cnt down n).tbRun b = true ∧
    ∀ g < 3, g ≠ b → (pwmEvent b cnt down n).grp g = n.grp g ∧ (pwmEvent b cnt down n).tbRun g = n.tbRun g := by
  have apart : ∀ b < 3, ([F.PWM_TBb_CNT.DIR b] ++ ([F.PWM_TBb_PERACT.TRIM b] ++ (shadowSpans b ++ groupSpans b)) ++ legSpans b).all
        (F.PWM_TBb_CNT.CNT b).apart = true ∧
      ∀ g < 3, (takeSpans b ++ legSpans b).all (F.PWM_TBb_CNT.RUN g).apart = true ∧
        (g ≠ b → (takeSpans b ++ legSpans b).all (grpField g).apart = true) := by decide
  obtain ⟨hcntA, hrunA⟩ := apart b hb
  have htail := tbReload_writes n hb cnt (n.tbNow b).2
  have hend := pwmEvent_writes hsteps hat
  have hall : PwmWrites (takeSpans b ++ legSpans b) n (pwmEvent b cnt down n) := ((tbSet_writes n b cnt _).append htail).append hend
  have hrun : ∀ g < 3, (pwmEvent b cnt down n).tbRun g = n.tbRun g := fun g hg =>
    congrArg (· == 1) (hall _ (tbReg_read hg (by decide)) (hrunA g hg).1)
  refine ⟨?_, (hrun b hb).trans (Lane.tbRun_of_steps hsteps), fun g hg hne => ⟨hall _ (grpField_read hg) ((hrunA g hg).2 hne), hrun g hg⟩⟩
  have hdir : PwmWrites [F.PWM_TBb_CNT.DIR b] (n.setF (F.PWM_TBb_CNT.CNT b) cnt) (n.tbSet b cnt (n.tbNow b).2) :=
    (pwmWrites_setF _ _ rfl).trans (setTb_writes _ _ _ _)
  exact (((hdir.append htail).append hend) _ (tbReg_read hb (by decide)) hcntA).trans (Lane.f_setF_eq n cnt rfl hcnt)

/-- At no reload point the active period, the group and the arming stay. -/
theorem pwmEvent_between {n : Lane} {b cnt : Nat} {down : Bool} (hb : b < 3) (hsteps : n.tbSteps b = true)
    (hat : n.tbAt b cnt down = true) (hmode : n.f (F.PWM_TBb_CFG.MODE b) ≠ 2) (h0 : cnt ≠ 0)
    (hmid : n.f (F.PWM_TBb_CFG.MODE b) = 1 → cnt ≠ n.perAct b) :
    (pwmEvent b cnt down n).rd (R.PWM_TBb_PERACT b) = n.rd (R.PWM_TBb_PERACT b) ∧ (pwmEvent b cnt down n).grp b = n.grp b ∧
    (pwmEvent b cnt down n).bit F.PWM_STAT.ARMED b = n.bit F.PWM_STAT.ARMED b := by
  have apart : ∀ b < 3, (countSpans b ++ legSpans b).all (FRef.mk (R.PWM_TBb_PERACT b) 31 0).apart = true ∧
      (countSpans b ++ legSpans b).all (grpField b).apart = true ∧
      (countSpans b ++ legSpans b).all F.PWM_STAT.ARMED.apart = true := by decide
  obtain ⟨hper, hgrp, harm⟩ := apart b hb
  have hend := pwmEvent_writes hsteps hat
  rw [Lane.tbReload_none _ hmode h0 hmid] at hend
  have hall := (tbSet_writes n b cnt _).append hend
  exact ⟨Lane.rd_of_word (hall _ (tbReg_read hb (by decide)) hper), hall _ (grpField_read hb) hgrp,
    congrArg (Nat.testBit · b) (hall F.PWM_STAT.ARMED (.inl (by decide)) harm)⟩

/-- The law of a period start, at 0. -/
theorem pwmEvent_law {n : Lane} {b : Nat} {down : Bool} (hb : b < 3) (hsteps : n.tbSteps b = true) (hat : n.tbAt b 0 down = true)
    (hmode : n.f (F.PWM_TBb_CFG.MODE b) ≠ 2) (hpt : n.f (F.PWM_TBb_LDCFG.LOADPT b) = 0) : ReloadLaw b n (pwmEvent b 0 down n) := by
  have apart : ∀ b < 3, ((reloadReads b).all fun q => (countSpans b ++ [F.PWM_TBb_PERACT.TRIM b]).all q.apart) = true ∧
      ((reloadReads b).all fun q => (legSpans b).all q.apart) = true := by decide
  obtain ⟨hbefore, hafter⟩ := apart b hb
  have hset := ((tbSet_writes n b 0 (n.tbNow b).2).append (followTrim_writes _ b)).reloadReads hb hbefore
  have hend := (pwmEvent_writes hsteps hat).reloadReads hb hafter
  rw [Lane.tbReload_start _ hmode] at hend
  exact (reload_law _ hb ((hset _ (by simp [reloadReads])).trans hpt) _).congr hset hend

end Sys2Proof.Machine
end

section
/-! SUPPORT. PWM_START, PWM_STOP and PWM_LOADALL: stops (R101), starts (R100) and arming (R110). -/

namespace Sys2Proof.Machine

/-! ## Stops (R101) -/

/-- The fields the counter of time base `b` is computed from. -/
def tbReads (b : Nat) : List FRef :=
  [F.PWM_TBb_CNT.CNT b, F.PWM_TBb_CNT.DIR b, F.PWM_TBb_CNT.RUN b, F.PWM_TBb_CFG.MODE b, F.PWM_TBb_CFG.DIV b, F.PWM_TBb_CFG.SRC b,
    F.PWM_TBb_PERACT.PER b, F.PWM_TBb_PERACT.TRIM b, F.PWM_TBb_PER.PER b, F.PWM_TBb_LDCFG.LOADMODE b, F.PWM_STAT.ARMED, F.TPE_EXTCFG.PWMFOL]

theorem Lane.tbNow_congr {n m : Lane} {b : Nat} (hnow : m.now = n.now) (htb : m.pwm.tbs = n.pwm.tbs) (h : ∀ q ∈ tbReads b, m.f q = n.f q) :
    m.tbNow b = n.tbNow b := by
  simp only [tbReads, List.forall_mem_cons] at h
  obtain ⟨hcnt, hdir, hrun, hmode, hdiv, hsrc, hact, htrim, hper, hload, harm, hfol, -⟩ := h
  have hnext : ∀ go : Bool, m.f (if go then F.PWM_TBb_PER.PER b else F.PWM_TBb_PERACT.PER b) =
      n.f (if go then F.PWM_TBb_PER.PER b else F.PWM_TBb_PERACT.PER b) := fun go => ite_of (p := fun q => m.f q = n.f q) hper hact
  have hactive : m.perAct b = n.perAct b := by
    unfold Lane.perAct Lane.sf
    rw [hact, htrim]
  have hbit : m.bit F.TPE_EXTCFG.PWMFOL b = n.bit F.TPE_EXTCFG.PWMFOL b := congrArg (Nat.testBit · b) hfol
  have hfollow : m.nextTrim b = n.nextTrim b := by
    unfold Lane.nextTrim Lane.tb
    rw [hmode, hact, hbit, htb]
  have hgo : (m.loadCont b || m.bit F.PWM_STAT.ARMED b) = (n.loadCont b || n.bit F.PWM_STAT.ARMED b) := by
    unfold Lane.loadCont Lane.on Lane.bit
    rw [hload, hsrc, harm]
  have hnextPer : m.perNext b = n.perNext b := by
    unfold Lane.perNext
    rw [hgo, hfollow]
    exact congrArg (fun per : Nat => ((per : Int) + n.nextTrim b).toNat) (hnext _)
  unfold Lane.tbNow Lane.tbRun Lane.tbDiv Lane.tb Lane.on
  rw [hrun, hmode, hactive, hnextPer, hcnt, hdir, hnow, htb, hdiv]

/-- A running time base stops where it stands. -/
def Lane.stopTb (n : Lane) (b : Nat) : Lane :=
  let p := n.tbNow b
  ((n.setFs [(F.PWM_TBb_CNT.CNT b, p.1), (F.PWM_TBb_CNT.DIR b, b1 p.2), (F.PWM_TBb_CNT.RUN b, 0)]).schedOvr b).catchCheck b

/-- The stop of a write takes effect on time base `b`. -/
def Lane.stopStep (n : Lane) (v : W32) (b : Nat) (m : Lane) : Lane :=
  if (F.PWM_START.STOP.val v).testBit b && !n.stopBad b && m.tbRun b then m.stopTb b else m

theorem pwmStop_eq (v : W32) (n : Lane) : pwmStop v n = forEach [0, 1, 2] (n.stopStep v) n := rfl

def stopSpans (b : Nat) : List FRef := [F.PWM_TBb_CNT.CNT b, F.PWM_TBb_CNT.DIR b, F.PWM_TBb_CNT.RUN b]

/-- From `n` to `m` the cycle and the time bases' stages stand, and of the registers of the block at most `ws` change. -/
structure CountStands (ws : List FRef) (n m : Lane) : Prop where
  now : m.now = n.now
  tbs : m.pwm.tbs = n.pwm.tbs
  writes : PwmWrites ws n m

theorem CountStands.refl (ws : List FRef) (n : Lane) : CountStands ws n n := ⟨rfl, rfl, PwmWrites.refl _ _⟩

theorem CountStands.trans {ws : List FRef} {a b c : Lane} (h : CountStands ws a b) (g : CountStands ws b c) : CountStands ws a c :=
  ⟨g.now.trans h.now, g.tbs.trans h.tbs, h.writes.trans g.writes⟩

theorem schedOvr_countStands (n : Lane) (g : Nat) (ws : List FRef) : CountStands ws n (n.schedOvr g) := by
  rw [Lane.schedOvr_eq]
  exact forEach_keeps (I := CountStands ws n) _ (CountStands.refl _ _) fun leg _ m hm => hm.trans ⟨rfl, rfl, PwmWrites.of_regs rfl _⟩

theorem PwmStands.count {n m : Lane} (h : PwmStands n m) (ws : List FRef) : CountStands ws n m := ⟨h.now, by rw [h.pwm], h.writes ws⟩

theorem setF_countStands (n : Lane) {r : FRef} (x : Nat) (hr : r.ok = true) {ws : List FRef} (h : r ∈ ws) : CountStands ws n (n.setF r x) :=
  ⟨rfl, rfl, (pwmWrites_setF n x hr).mono (by simpa using h)⟩

/-- After the counter's registers are set, nothing of the block's registers changes. -/
theorem stopTb_tail (n : Lane) {b : Nat} (hb : b < 3) (ws : List FRef) : CountStands ws
    (n.setFs [(F.PWM_TBb_CNT.CNT b, (n.tbNow b).1), (F.PWM_TBb_CNT.DIR b, b1 (n.tbNow b).2), (F.PWM_TBb_CNT.RUN b, 0)]) (n.stopTb b) :=
  (schedOvr_countStands _ b ws).trans (((PwmStands.refl _).catchCheck hb).count ws)

theorem stopTb_countStands (n : Lane) {b : Nat} (hb : b < 3) : CountStands (stopSpans b) n (n.stopTb b) := by
  have hset : CountStands (stopSpans b) n
      (n.setFs [(F.PWM_TBb_CNT.CNT b, (n.tbNow b).1), (F.PWM_TBb_CNT.DIR b, b1 (n.tbNow b).2), (F.PWM_TBb_CNT.RUN b, 0)]) :=
    (setF_countStands n _ rfl (by simp [stopSpans])).trans ((setF_countStands _ _ rfl (by simp [stopSpans])).trans
      (setF_countStands _ _ rfl (by simp [stopSpans])))
  exact hset.trans (stopTb_tail n hb _)

/-- A stopped time base no longer runs, and shows the value it stood at. -/
theorem stopTb_shows (n : Lane) {b : Nat} (hb : b < 3) :
    (n.stopTb b).tbRun b = false ∧ (n.stopTb b).f (F.PWM_TBb_CNT.CNT b) = (n.tbNow b).1 % 2 ^ 16 := by
  have htail := (stopTb_tail n hb []).writes
  have hread : pwmRead (R.PWM_TBb_CNT b) := tbReg_read hb (by decide)
  have apart : ∀ b < 3, (F.PWM_TBb_CNT.CNT b).apart (F.PWM_TBb_CNT.DIR b) = true ∧
      (F.PWM_TBb_CNT.CNT b).apart (F.PWM_TBb_CNT.RUN b) = true := by decide
  obtain ⟨hdir, hrun⟩ := apart b hb
  constructor
  · refine congrArg (· == 1) ((htail (F.PWM_TBb_CNT.RUN b) hread rfl).trans (Lane.f_setF_eq _ 0 rfl (Nat.two_pow_pos _)))
  · refine (htail (F.PWM_TBb_CNT.CNT b) hread rfl).trans ?_
    exact ((Lane.f_setF_apart _ _ rfl hrun).trans (Lane.f_setF_apart _ _ rfl hdir)).trans
      (Lane.f_setF_self n (F.PWM_TBb_CNT.CNT b) _ (Nat.zero_le 15) (show 15 < 32 by decide))

theorem stopStep_countStands (n : Lane) (v : W32) {b : Nat} (hb : b < 3) (m : Lane) : CountStands (stopSpans b) m (n.stopStep v b m) :=
  ite_of (stopTb_countStands m hb) (CountStands.refl _ _)

def otherStops (b : Nat) : List FRef := ([0, 1, 2].filter (· != b)).flatMap stopSpans

theorem stopSpans_subset {b c : Nat} (hc : c < 3) (hne : c ≠ b) : stopSpans c ⊆ otherStops b := fun q hq =>
  List.mem_flatMap.2 ⟨c, List.mem_filter.2 ⟨mem_groups.2 hc, by simpa using hne⟩, hq⟩

theorem tbReads_read {b : Nat} (hb : b < 3) : ∀ q ∈ tbReads b, pwmRead q.off := by
  have all : ∀ b < 3, ∀ q ∈ tbReads b, 0x010000 ≤ q.off ∧ q.off < 0x014000 ∨ q.off = R.TPE_EXTCFG := by decide
  exact all b hb

/-- A stop of time base `b` comes upon the counter as it was before the write, and the stops of the others leave what it shows. -/
theorem pwmStop_split (v : W32) (n : Lane) {b : Nat} (hb : b < 3) : ∃ j : Lane,
    (∀ q ∈ tbReads b, j.f q = n.f q) ∧ j.tbNow b = n.tbNow b ∧ (∀ q ∈ tbReads b, (pwmStop v n).f q = (n.stopStep v b j).f q) := by
  have apart : ∀ b < 3, ∀ q ∈ tbReads b, (otherStops b).all q.apart = true := by decide
  obtain ⟨j, hj, hend⟩ := forEach_split (K := CountStands (otherStops b)) (CountStands.refl _) (fun _ _ _ => CountStands.trans)
    (xs := [0, 1, 2]) (by decide) (mem_groups.2 hb) (fun c hc hne m =>
      let h := stopStep_countStands n v (mem_groups.1 hc) m
      ⟨h.now, h.tbs, h.writes.mono (stopSpans_subset (mem_groups.1 hc) hne)⟩) n
  have hreads : ∀ q ∈ tbReads b, j.f q = n.f q := fun q hq => hj.writes q (tbReads_read hb q hq) (apart b hb q hq)
  exact ⟨j, hreads, Lane.tbNow_congr hj.now hj.tbs hreads, fun q hq => hend.writes q (tbReads_read hb q hq) (apart b hb q hq)⟩

theorem Lane.tbNow_stopped {n : Lane} {b : Nat} (h : n.tbRun b = false) : (n.tbNow b).1 = n.f (F.PWM_TBb_CNT.CNT b) := by
  unfold Lane.tbNow
  rw [h, if_neg Bool.false_ne_true]

theorem Lane.stopBad_iff {n : Lane} {b : Nat} : n.stopBad b = true ↔ n.grp b = 2 ∨ n.grp b = 3 := by
  unfold Lane.stopBad
  rw [Bool.or_eq_true, beq_iff_eq, beq_iff_eq]
  exact Iff.rfl

/-- What the stops of a write make of time base `b` and its group. -/
theorem pwmStop_shows (v : W32) (n : Lane) {b : Nat} (hb : b < 3) :
    ((F.PWM_START.STOP.val v).testBit b = false ∨ n.stopBad b = true ∨ n.tbRun b = false →
      (pwmStop v n).tbRun b = n.tbRun b ∧ (pwmStop v n).f (F.PWM_TBb_CNT.CNT b) = n.f (F.PWM_TBb_CNT.CNT b)) ∧
    ((F.PWM_START.STOP.val v).testBit b = true → n.stopBad b = false →
      (pwmStop v n).tbRun b = false ∧ (pwmStop v n).f (F.PWM_TBb_CNT.CNT b) = (n.tbNow b).1 % 2 ^ 16) := by
  obtain ⟨j, hj, hnow, hend⟩ := pwmStop_split v n hb
  have hrun : (pwmStop v n).tbRun b = (n.stopStep v b j).tbRun b := congrArg (· == 1) (hend (F.PWM_TBb_CNT.RUN b) (by simp [tbReads]))
  have hcnt := hend (F.PWM_TBb_CNT.CNT b) (by simp [tbReads])
  have hrunj : j.tbRun b = n.tbRun b := congrArg (· == 1) (hj (F.PWM_TBb_CNT.RUN b) (by simp [tbReads]))
  have hcntj := hj (F.PWM_TBb_CNT.CNT b) (by simp [tbReads])
  have hstay : (F.PWM_START.STOP.val v).testBit b = false ∨ n.stopBad b = true ∨ n.tbRun b = false → n.stopStep v b j = j := fun h => by
    refine if_neg fun hc => ?_
    rw [hrunj] at hc
    rcases h with h | h | h <;> simp [h] at hc
  refine ⟨fun h => ?_, fun hs hbad => ?_⟩
  · rw [hrun, hcnt, hstay h]
    exact ⟨hrunj, hcntj⟩
  · cases hr : n.tbRun b
    · rw [hrun, hcnt, hstay (.inr (.inr hr)), hrunj, Lane.tbNow_stopped hr]
      exact ⟨hr, hcntj.trans (Nat.mod_eq_of_lt (bits_lt _ 15 0)).symm⟩
    · have hgo : n.stopStep v b j = j.stopTb b := if_pos (by rw [hs, hbad, hrunj, hr]; rfl)
      rw [hrun, hcnt, hgo, ← hnow]
      exact stopTb_shows j hb

theorem pwmStop_writes (v : W32) (n : Lane) : PwmWrites ([0, 1, 2].flatMap stopSpans) n (pwmStop v n) :=
  forEach_keeps (I := PwmWrites _ n) [0, 1, 2] (PwmWrites.refl _ _) fun c hc m hm =>
    hm.trans ((stopStep_countStands n v (mem_groups.1 hc) m).writes.mono fun _ hq => List.mem_flatMap.2 ⟨c, hc, hq⟩)

/-- A write of PWM_START without START bits: its stops, and one record where a stop is rejected. -/
theorem pwmStartWrite_stops (org : Nat) {v : W32} (n : Lane) (h : F.PWM_START.START.val v = 0) : pwmStartWrite org v n =
    if ([0, 1, 2].filter fun b => (F.PWM_START.STOP.val v).testBit b && n.stopBad b).isEmpty then pwmStop v n
    else (pwmStop v n).rejectState org R.PWM_START := by
  unfold pwmStartWrite
  simp [h]

theorem pwmStartWrite_stop_shows (org : Nat) {v : W32} {n m : Lane} (hv : F.PWM_START.START.val v = 0)
    (hm : PowerOnly (pwmStartWrite org v n) m) {b : Nat} (hb : b < 3) : m.grp b = n.grp b ∧
    ((F.PWM_START.STOP.val v).testBit b = false ∨ n.tbRun b = false →
      m.tbRun b = n.tbRun b ∧ m.f (F.PWM_TBb_CNT.CNT b) = n.f (F.PWM_TBb_CNT.CNT b)) ∧
    ((F.PWM_START.STOP.val v).testBit b = true →
      if n.grp b = 2 ∨ n.grp b = 3 then m.tbRun b = n.tbRun b ∧ m.on F.SYS_REGERR.FLAG = true
      else m.tbRun b = false ∧ m.f (F.PWM_TBb_CNT.CNT b) = (n.tbNow b).1 % 2 ^ 16) := by
  have apart : ∀ b < 3, ([0, 1, 2].flatMap stopSpans).all (grpField b).apart = true := by decide
  have hread : pwmRead (R.PWM_TBb_CNT b) := tbReg_read hb (by decide)
  rw [pwmStartWrite_stops org n hv] at hm
  have hend : PwmStands (pwmStop v n) m := PwmStands.trans (b := if _ then _ else _)
    (ite_of (PwmStands.refl _) ((PwmStands.refl _).rejectState org R.PWM_START)) hm.pwmStands
  have hrun : m.tbRun b = (pwmStop v n).tbRun b := congrArg (· == 1) (hend.f_eq (r := F.PWM_TBb_CNT.RUN b) hread)
  have hcnt := hend.f_eq (r := F.PWM_TBb_CNT.CNT b) hread
  obtain ⟨hstay, hstop⟩ := pwmStop_shows v n hb
  refine ⟨(hend.f_eq (grpField_read hb)).trans (pwmStop_writes v n _ (grpField_read hb) (apart b hb)), fun h => ?_, fun hs => ?_⟩
  · rw [hrun, hcnt]
    exact hstay (h.imp_right .inr)
  · rw [hrun, hcnt]
    split
    · next hg =>
      have hbad := Lane.stopBad_iff.2 hg
      have hne : ([0, 1, 2].filter fun b => (F.PWM_START.STOP.val v).testBit b && n.stopBad b).isEmpty ≠ true := fun he => by
        have hmem : b ∈ [0, 1, 2].filter fun b => (F.PWM_START.STOP.val v).testBit b && n.stopBad b :=
          List.mem_filter.2 ⟨mem_groups.2 hb, Bool.and_eq_true_iff.2 ⟨hs, hbad⟩⟩
        rw [List.isEmpty_iff.1 he] at hmem
        exact List.not_mem_nil hmem
      rw [if_neg hne] at hm
      exact ⟨(hstay (.inr (.inl hbad))).1, (congrArg (· == 1) (hm.f_eq F.SYS_REGERR.FLAG (by decide))).trans (Lane.rejectState_flag _ _ _)⟩
    · next hg => exact hstop hs (Bool.eq_false_iff.2 fun hc => hg (Lane.stopBad_iff.1 hc))

end Sys2Proof.Machine
end

section
/-! SUPPORT. PWM_START and PWM_LOADALL: starts (R100) and arming (R110); the statement TimeBases. -/

namespace Sys2Proof.Machine

/-! ## A time base starts (R100) -/

/-- The shadows transferred and the time base running, before it takes its phase. -/
def Lane.startSet (n : Lane) (b : Nat) : Lane :=
  let m := ((n.xferPer b).xferLegs b).setFs [(F.PWM_TBb_CNT.RUN b, 1), (F.PWM_TBb_PERACT.TRIM b, 0)]
  m.setTb b { m.tb b with
    ps0 := m.f (F.PWM_TBb_PSp.PHASE b 0), ps1 := m.f (F.PWM_TBb_PSp.PHASE b 1), ps2 := m.f (F.PWM_TBb_PSp.PHASE b 2)
    perT := m.now, follow := 0, zero := m.f (F.PWM_TBb_PHASE.VALUE b) == 0, cntT := m.now }

/-- The phase taken, in the direction the counter has there. -/
def Lane.startPhase (n : Lane) (b : Nat) : Lane :=
  n.setFs [(F.PWM_TBb_CNT.CNT b, n.f (F.PWM_TBb_PHASE.VALUE b)), (F.PWM_TBb_CNT.DIR b,
    b1 (cntDir (n.f (F.PWM_TBb_CFG.MODE b)) (n.perAct b) (n.f (F.PWM_TBb_PHASE.VALUE b)) (n.on (F.PWM_TBb_PHASE.DIR b))))]

theorem PwmWrites.fst {ws : List FRef} {n : Lane} {r : Lane × List Nat} (h : PwmWrites ws n r.1) (srcs : List Nat) :
    PwmWrites ws n (r.1, srcs).1 := h

/-- After its phase, a start writes no more than the comparison of its legs. -/
theorem tbStart_writes (n : Lane) (b : Nat) : PwmWrites (legSpans b) ((n.startSet b).startPhase b) (n.tbStart b).1 := by
  unfold Lane.tbStart
  extract_lets n₁ n₂ x n₃ mode cnt per down evs first n₄ n₅ n₆ r
  have h₃ : n₃ = n.startSet b := rfl
  have h₄ : n₄ = n₃.startPhase b := rfl
  have h₅ : PwmWrites (legSpans b) n₄ n₅ := updateRefs_writes n₄ b
  have h₆ : PwmWrites (legSpans b) n₅ n₆ := ite_of (PwmWrites.of_regs rfl _) (PwmWrites.refl _ _)
  have hr : r = n₆.prescale b evs := rfl
  have hps := prescale_writes n₆ b evs
  rw [← hr] at hps
  rw [← h₃, ← h₄]
  exact PwmWrites.fst ((h₅.trans h₆).trans (hps.mono (List.nil_subset _))) _

def startSpans (b : Nat) : List FRef :=
  [F.PWM_TBb_PERACT.PER b] ++ (xferSpans b ++ ([F.PWM_TBb_CNT.RUN b, F.PWM_TBb_PERACT.TRIM b] ++ (countSpans b ++ legSpans b)))

theorem startSet_writes (n : Lane) (b : Nat) :
    PwmWrites [F.PWM_TBb_CNT.RUN b, F.PWM_TBb_PERACT.TRIM b] ((n.xferPer b).xferLegs b) (n.startSet b) :=
  ((pwmWrites_setF _ _ rfl).append (pwmWrites_setF _ _ rfl)).trans (setTb_writes _ _ _ _)

theorem startPhase_writes (n : Lane) (b : Nat) : PwmWrites (countSpans b) n (n.startPhase b) :=
  (pwmWrites_setF n _ rfl).append (pwmWrites_setF _ _ rfl)

/-- The fields that tell a start: what it transfers and takes, and the groups it leaves. -/
def startReads (b : Nat) : List FRef :=
  [F.PWM_TBb_CNT.RUN b, F.PWM_TBb_CNT.CNT b, F.PWM_TBb_PHASE.VALUE b, F.PWM_TBb_PERACT.PER b, F.PWM_TBb_PER.PER b,
    grpField 0, grpField 1, grpField 2] ++ (groupLegs b).flatMap fun leg => [F.PWM_LEGn_ACT.CMP leg, F.PWM_LEGn_CMP.CMP leg]

/-- What `m` shows of the start of time base `b` that finds `n` (R100). -/
structure StartLaw (b : Nat) (n m : Lane) : Prop where
  run : m.tbRun b = true
  cnt : m.f (F.PWM_TBb_CNT.CNT b) = n.f (F.PWM_TBb_PHASE.VALUE b)
  per : m.f (F.PWM_TBb_PERACT.PER b) = n.f (F.PWM_TBb_PER.PER b)
  legs : ∀ leg ∈ groupLegs b, m.f (F.PWM_LEGn_ACT.CMP leg) = n.f (F.PWM_LEGn_CMP.CMP leg)
  grps : ∀ g < 3, m.grp g = n.grp g

theorem tbStart_law (n : Lane) {b : Nat} (hb : b < 3) : StartLaw b n (n.tbStart b).1 := by
  have apart : ∀ b < 3, (xferSpans b ++ ([F.PWM_TBb_CNT.RUN b, F.PWM_TBb_PERACT.TRIM b] ++ (countSpans b ++ legSpans b))).all
        (F.PWM_TBb_PERACT.PER b).apart = true ∧
      ([F.PWM_TBb_CNT.DIR b] ++ legSpans b).all (F.PWM_TBb_CNT.CNT b).apart = true ∧
      ([F.PWM_TBb_PERACT.TRIM b] ++ (countSpans b ++ legSpans b)).all (F.PWM_TBb_CNT.RUN b).apart = true ∧
      (([F.PWM_TBb_PERACT.PER b] ++ xferSpans b) ++ [F.PWM_TBb_CNT.RUN b, F.PWM_TBb_PERACT.TRIM b]).all
        (F.PWM_TBb_PHASE.VALUE b).apart = true ∧
      (∀ g < 3, (startSpans b).all (grpField g).apart = true) ∧
      ∀ leg ∈ groupLegs b, (F.PWM_LEGn_CMP.CMP leg).apart (F.PWM_TBb_PERACT.PER b) = true ∧
        ([F.PWM_TBb_CNT.RUN b, F.PWM_TBb_PERACT.TRIM b] ++ (countSpans b ++ legSpans b)).all
          (F.PWM_LEGn_ACT.CMP leg).apart = true := by decide
  obtain ⟨hperA, hcntA, hrunA, hphaseA, hgrpA, hlegA⟩ := apart b hb
  have hper := pwmWrites_setF n (r := F.PWM_TBb_PERACT.PER b) (n.f (F.PWM_TBb_PER.PER b)) rfl
  have hxfer := xferLegs_writes (n.xferPer b) b
  have hset := startSet_writes n b
  have hphase := startPhase_writes (n.startSet b) b
  have hend := tbStart_writes n b
  have hrest := hset.append (hphase.append hend)
  refine ⟨?_, ?_, ?_, fun leg hl => ?_, fun g hg => (hper.append (hxfer.append hrest)) _ (grpField_read hg) (hgrpA g hg)⟩
  · have hrun : PwmWrites [F.PWM_TBb_PERACT.TRIM b] (((n.xferPer b).xferLegs b).setF (F.PWM_TBb_CNT.RUN b) 1) (n.startSet b) :=
      (pwmWrites_setF _ _ rfl).trans (setTb_writes _ _ _ _)
    have hrunS := (hrun.append (hphase.append hend)) _ (tbReg_read hb (by decide)) hrunA
    exact congrArg (· == 1) (hrunS.trans (Lane.f_setF_eq _ 1 rfl Nat.one_lt_two))
  · have hdir : PwmWrites [F.PWM_TBb_CNT.DIR b]
        ((n.startSet b).setF (F.PWM_TBb_CNT.CNT b) ((n.startSet b).f (F.PWM_TBb_PHASE.VALUE b))) ((n.startSet b).startPhase b) :=
      pwmWrites_setF _ _ rfl
    exact (((hdir.append hend) _ (tbReg_read hb (by decide)) hcntA).trans (Lane.f_copy _ rfl rfl)).trans
      (((hper.append hxfer).append hset) _ (tbReg_read hb (by decide)) hphaseA)
  · exact ((hxfer.append hrest) _ (tbReg_read hb (by decide)) hperA).trans (n.f_copy rfl rfl)
  · obtain ⟨hc, ha⟩ := hlegA leg hl
    have h8 := (leg_lt_of_mem hl).2
    exact ((hrest _ (leg_act_read h8) ha).trans (Lane.xferLegs_cmp _ hl)).trans (hper _ (leg_cmp_read h8) (by simpa using hc))

theorem startReads_read {b : Nat} (hb : b < 3) : ∀ q ∈ startReads b, pwmRead q.off := by
  have all : ∀ b < 3, ∀ q ∈ startReads b, 0x010000 ≤ q.off ∧ q.off < 0x014000 := by decide
  exact fun q hq => .inl (all b hb q hq)

theorem tbStart_spans (n : Lane) (b : Nat) : PwmWrites (startSpans b) n (n.tbStart b).1 :=
  (pwmWrites_setF n _ rfl).append ((xferLegs_writes _ b).append ((startSet_writes n b).append
    ((startPhase_writes _ b).append (tbStart_writes n b))))

/-- The law of a start, told of lanes that show the same. -/
theorem StartLaw.congr {b : Nat} {n m n' m' : Lane} (h : StartLaw b n m) (hn : ∀ q ∈ startReads b, n.f q = n'.f q)
    (hm : ∀ q ∈ startReads b, m'.f q = m.f q) : StartLaw b n' m' := by
  have hgrp : ∀ g < 3, grpField g ∈ startReads b := fun g hg => by
    rcases List.mem_cons.1 (mem_groups.2 hg) with rfl | hg
    · simp [startReads]
    rcases List.mem_pair.1 hg with rfl | rfl <;> simp [startReads]
  have hleg : ∀ leg ∈ groupLegs b, F.PWM_LEGn_ACT.CMP leg ∈ startReads b ∧ F.PWM_LEGn_CMP.CMP leg ∈ startReads b := fun leg hl =>
    ⟨List.mem_append_right _ (List.mem_flatMap.2 ⟨leg, hl, List.mem_cons_self⟩),
      List.mem_append_right _ (List.mem_flatMap.2 ⟨leg, hl, by simp⟩)⟩
  refine ⟨?_, ?_, ?_, fun leg hl => ?_, fun g hg => ?_⟩
  · exact (congrArg (· == 1) (hm (F.PWM_TBb_CNT.RUN b) (by simp [startReads]))).trans h.run
  · exact (hm _ (by simp [startReads])).trans (h.cnt.trans (hn _ (by simp [startReads])))
  · exact (hm _ (by simp [startReads])).trans (h.per.trans (hn _ (by simp [startReads])))
  · exact (hm _ (hleg leg hl).1).trans ((h.legs leg hl).trans (hn _ (hleg leg hl).2))
  · exact (hm _ (hgrp g hg)).trans ((h.grps g hg).trans (hn _ (hgrp g hg)))

/-! ## A write of PWM_START -/

/-- The starts of one write, each by itself. -/
theorem foldl_tbStart (go : List Nat) (n : Lane) (srcs : List Nat) :
    (go.foldl (fun a b => let q := a.1.tbStart b; (q.1, a.2 ++ q.2)) (n, srcs)).1 = forEach go (fun b m => (m.tbStart b).1) n := by
  induction go generalizing n srcs with
  | nil => rfl
  | cons b go ih =>
    rw [List.foldl_cons, forEach_cons]
    exact ih _ _

/-- Each time base of a write starts as it does by itself. -/
theorem starts_law {go : List Nat} (hnd : go.Nodup) (hgo : ∀ c ∈ go, c < 3) {b : Nat} (hb : b ∈ go) (n : Lane) :
    StartLaw b n (forEach go (fun b m => (m.tbStart b).1) n) := by
  have apart : ∀ b < 3, ∀ c < 3, c ≠ b → ∀ q ∈ startReads b, (startSpans c).all q.apart = true := by decide
  obtain ⟨j, hj, hend⟩ := forEach_split (f := fun b m => (m.tbStart b).1) (K := fun n m => ∀ q ∈ startReads b, m.f q = n.f q)
    (fun _ _ _ => rfl) (fun _ _ _ h g q hq => (g q hq).trans (h q hq)) hnd hb
    (fun c hc hne m q hq => tbStart_spans m c q (startReads_read (hgo b hb) q hq) (apart b (hgo b hb) c (hgo c hc) hne q hq)) n
  exact (tbStart_law j (hgo b hb)).congr hj hend

/-- The stops of a write leave a time base that does not run. -/
theorem pwmStop_leaves (v : W32) (n : Lane) {b : Nat} (hb : b < 3) (hrun : n.tbRun b = false) :
    ∀ q ∈ startReads b, (pwmStop v n).f q = n.f q := by
  have apart : ∀ b < 3, ∀ c < 3, c ≠ b → ∀ q ∈ startReads b, (stopSpans c).all q.apart = true := by decide
  refine forEach_keeps (I := fun m => ∀ q ∈ startReads b, m.f q = n.f q) [0, 1, 2] (fun _ _ => rfl) fun c hc m hm q hq => ?_
  refine Eq.trans ?_ (hm q hq)
  by_cases e : c = b
  · have hr : m.tbRun c = false := (congrArg (· == 1) (hm (F.PWM_TBb_CNT.RUN c) (by simp [startReads, e]))).trans (e ▸ hrun)
    exact congrArg (Lane.f · q) (if_neg (by rw [hr, Bool.and_false]; exact Bool.false_ne_true))
  · exact (stopStep_countStands n v (mem_groups.1 hc) m).writes q (startReads_read hb q hq) (apart b hb c (mem_groups.1 hc) e q hq)

/-- The time bases a write starts. -/
def Lane.starting (n : Lane) (v : W32) : List Nat :=
  [0, 1, 2].filter fun b => (F.PWM_START.START.val v).testBit b && !n.startBad b && !n.tbRun b

/-- A write of PWM_START that starts a time base has it start as by itself. -/
theorem pwmStartWrite_start (org : Nat) (v : W32) {n m : Lane} (hm : PowerOnly (pwmStartWrite org v n) m) {b : Nat} (hb : b < 3)
    (hask : (F.PWM_START.START.val v).testBit b = true) (hbad : n.startBad b = false) (hrun : n.tbRun b = false) : StartLaw b n m := by
  have hgo : b ∈ n.starting v := List.mem_filter.2 ⟨mem_groups.2 hb, by rw [hask, hbad, hrun]; rfl⟩
  have hlt : ∀ c ∈ n.starting v, c < 3 := fun c hc => mem_groups.1 (List.mem_of_mem_filter hc)
  have hnd : (n.starting v).Nodup := List.Nodup.filter _ (by decide)
  have hne : (n.starting v).isEmpty ≠ true := fun he => List.not_mem_nil (List.isEmpty_iff.1 he ▸ hgo)
  unfold pwmStartWrite at hm
  extract_lets asked bads go stops k₁ k₂ k₃ r at hm
  have h₂ : PwmStands k₁ k₂ := ite_of (PwmStands.refl _) ((PwmStands.refl _).rejectState org R.PWM_START)
  have hstart : r.1 = forEach (n.starting v) (fun b m => (m.tbStart b).1) k₃ := foldl_tbStart (n.starting v) k₃ []
  have hlaw : StartLaw b k₃ r.1 := hstart ▸ starts_law hnd hlt hgo k₃
  rw [if_neg (show go.isEmpty ≠ true from hne)] at hm
  have hend : PwmStands r.1 m := ((PwmStands.refl r.1).fire r.2).trans hm.pwmStands
  refine hlaw.congr (fun q hq => ?_) fun q hq => hend.f_eq (startReads_read hb q hq)
  exact (h₂.f_eq (startReads_read hb q hq)).trans (pwmStop_leaves v n hb hrun q hq)

/-- With the block off a write that only asks for starts is rejected whole. -/
theorem pwmStartWrite_off (org : Nat) {v : W32} {n : Lane} (hstop : F.PWM_START.STOP.val v = 0) (hstart : F.PWM_START.START.val v ≠ 0)
    (hoff : n.on F.PWM_CTRL.EN = false) : pwmStartWrite org v n = n.rejectState org R.PWM_START := by
  have hbad : ∀ b, n.startBad b = true := fun b => by rw [Lane.startBad, hoff]; rfl
  obtain ⟨b, hbit⟩ := Nat.exists_testBit_of_ne_zero hstart
  have hb : b < 3 := Nat.lt_of_not_le fun h => by
    have hlt : F.PWM_START.START.val v < 2 ^ b := Nat.lt_of_lt_of_le (bits_lt v 2 0) (Nat.pow_le_pow_right (by decide) h)
    exact Bool.false_ne_true ((Nat.testBit_lt_two_pow hlt).symm.trans hbit)
  have hstay : pwmStop v n = n := by
    rw [pwmStop_eq]
    refine forEach_keeps (I := fun m => m = n) [0, 1, 2] rfl fun c _ m hm => ?_
    rw [hm]
    exact if_neg (by rw [hstop, Nat.zero_testBit]; exact Bool.false_ne_true)
  unfold pwmStartWrite
  extract_lets asked bads go stops k₁ k₂ k₃ r
  have hgo : go.isEmpty = true := List.isEmpty_iff.2 (List.filter_eq_nil_iff.2 fun c _ => by simp [hbad])
  have hbads : bads.isEmpty = false := Bool.eq_false_iff.2 fun he => by
    have hmem : b ∈ bads := List.mem_filter.2 ⟨mem_groups.2 hb, Bool.and_eq_true_iff.2 ⟨hbit, hbad b⟩⟩
    exact List.not_mem_nil (List.isEmpty_iff.1 he ▸ hmem)
  rw [if_pos hgo, ← hstay]
  exact if_neg (by rw [hbads]; exact Bool.false_ne_true)

/-! ## Arming (R110) -/

/-- PWM_LOADALL arms each time base it asks for, but those the CFE drives; one of these leaves a record. -/
theorem loadAllArm_shows (org : Nat) (v : W32) {n m : Lane} (hm : PowerOnly (loadAllArm org v n) m) {b : Nat} (hb : b < 3) :
    m.bit F.PWM_STAT.ARMED b = (n.bit F.PWM_STAT.ARMED b || ((F.PWM_LOADALL.ARM.val v).testBit b && !n.on (F.PWM_TBb_CFG.SRC b))) ∧
    ((F.PWM_LOADALL.ARM.val v).testBit b = true → n.on (F.PWM_TBb_CFG.SRC b) = true → m.on F.SYS_REGERR.FLAG = true) := by
  unfold loadAllArm at hm
  extract_lets asked bad k at hm
  have hend : PwmStands k m := PwmStands.trans (b := if _ then _ else _)
    (ite_of ((PwmStands.refl k).rejectState org R.PWM_LOADALL) (PwmStands.refl k)) hm.pwmStands
  have hbit : m.bit F.PWM_STAT.ARMED b = k.bit F.PWM_STAT.ARMED b :=
    congrArg (Nat.testBit · b) (hend.f_eq (r := F.PWM_STAT.ARMED) (.inl (by decide)))
  refine ⟨?_, fun hask hsrc => ?_⟩
  · rw [hbit]
    refine (Lane.bit_forEach_setBit (r := F.PWM_STAT.ARMED) true (fun b => asked b && !bad b) rfl hb [0, 1, 2] n).trans ?_
    have hc : (asked b && !bad b) = ((F.PWM_LOADALL.ARM.val v).testBit b && !n.on (F.PWM_TBb_CFG.SRC b)) := by
      simp only [asked, bad]
      cases (F.PWM_LOADALL.ARM.val v).testBit b <;> rfl
    rw [hc]
    cases (F.PWM_LOADALL.ARM.val v).testBit b && !n.on (F.PWM_TBb_CFG.SRC b)
    · rw [if_neg (fun h => Bool.false_ne_true h.2), Bool.or_false]
    · rw [if_pos ⟨mem_groups.2 hb, rfl⟩, Bool.or_true]
  · have hany : [0, 1, 2].any bad = true := List.any_eq_true.2 ⟨b, mem_groups.2 hb, Bool.and_eq_true_iff.2 ⟨hask, hsrc⟩⟩
    rw [if_pos hany] at hm
    exact (congrArg (· == 1) (hm.f_eq F.SYS_REGERR.FLAG (by decide))).trans (k.rejectState_flag _ _)

/-! ## The statement -/

/-- Settles O12: a start and a stop of one time base write nothing another one reads, so a write does to each what it does alone; a reload
follows `ReloadLaw`, and what a time base writes besides is apart from the fields of that law. -/
theorem timeBases : Obligations.TimeBases := by
  unfold Obligations.TimeBases
  refine ⟨⟨?_, ?_, ?_⟩, fun b cnt down => ?_⟩
  · refine onWrite_of_effect (eff := pwmStartWrite) (fun _ _ _ _ _ => rfl) (fun _ _ _ _ => rfl) fun org v n m p hm => ⟨fun hs ha hoff => ?_,
      fun b hb hask hen hrun hseq => ?_⟩
    · rw [pwmStartWrite_off (n := { n with pwr := p }) org.code hs ha hoff] at hm
      exact rejected_of_reject rfl hm
    · have hbad : n.startBad b = false := by rw [Lane.startBad, hen, hrun, hseq]; rfl
      have hlaw := pwmStartWrite_start org.code v hm hb hask hbad hrun
      exact ⟨hlaw.run, hlaw.cnt, hlaw.per, hlaw.legs, hlaw.grps⟩
  · exact onWrite_of_effect (eff := pwmStartWrite) (fun _ _ _ _ _ => rfl) (fun _ _ _ _ => rfl) fun org v n m p hm hv b hb =>
      pwmStartWrite_stop_shows org.code hv hm hb
  · exact onWrite_of_effect (eff := loadAllArm) (fun _ _ _ _ _ => rfl) (fun _ _ _ _ => rfl) fun org v n m p hm =>
      ⟨fun b hb => (loadAllArm_shows org.code v hm hb).1, fun b hb => (loadAllArm_shows org.code v hm hb).2⟩
  · intro s l t hon
    refine answers_onDomain (f := pwmEvent b.val cnt.toNat down) rfl rfl hon ⟨pwmEvent_stays, Lane.tbSteps_up, fun hsteps hat => ?_⟩
    obtain ⟨hcnt, hrun, hothers⟩ := pwmEvent_counts b.isLt cnt.isLt hsteps hat
    refine ⟨hcnt, hrun, hothers, pwmEvent_between b.isLt hsteps hat, fun hmode h0 hpt => ?_⟩
    rw [h0] at hat ⊢
    exact pwmEvent_law b.isLt hsteps hat hmode hpt

end Sys2Proof.Machine
end
